-- ==== Sys2Proof/Word.lean ====
section
/-! DEFINITION. The word types of the model and their plainest arithmetic: 8-, 16-, 32- and 64-bit words, the field of a
word (R4), little-endian assembly (R4) and the saturating counters of the register tables. -/

namespace Sys2Proof

abbrev Byte := BitVec 8
abbrev Half := BitVec 16
abbrev Word := BitVec 32
abbrev DWord := BitVec 64

/-- A table from natural-number keys to values: only the entries that differ from a default are listed, keys rising
(`SMap.wf` in Machine/Sparse.lean). It holds every register array and every memory of the block. -/
abbrev SMap (α : Type) := List (Nat × α)

/-- Field [hi:lo] of a number (R4: bit 0 is the least significant bit, both ends included). -/
def bitsOf (n hi lo : Nat) : Nat := (n / 2 ^ lo) % 2 ^ (hi + 1 - lo)

/-- Field [hi:lo] of a 32-bit word. -/
def Word.field (w : Word) (hi lo : Nat) : Nat := bitsOf w.toNat hi lo

/-- One bit of a number. -/
def bitOf (n i : Nat) : Bool := (n / 2 ^ i) % 2 == 1

/-- One bit of a word as a Bool. -/
def Word.flag (w : Word) (i : Nat) : Bool := bitOf w.toNat i

/-- A Bool as a bit of a number. -/
def boolBit (b : Bool) (i : Nat) : Nat := if b then 2 ^ i else 0

/-- The number read as two's complement of the given width. -/
def signedOf (w n : Nat) : Int := if n % 2 ^ w < 2 ^ (w - 1) then (n % 2 ^ w : Nat) else ((n % 2 ^ w : Nat) : Int) - 2 ^ w

/-- Two's complement of the given width, as a number. -/
def unsignedOf (w : Nat) (i : Int) : Nat := (i % (2 ^ w : Int)).toNat

/-- A 32-bit saturating counter after one more event. -/
def satInc (n : Nat) : Nat := if n < 0xFFFFFFFF then n + 1 else 0xFFFFFFFF

/-- A 32-bit saturating counter after `k` more events. -/
def satAdd (n k : Nat) : Nat := if n + k < 0xFFFFFFFF then n + k else 0xFFFFFFFF

/-- A saturating counter of another width. -/
def satTo (top n : Nat) : Nat := if n < top then n else top

/-- The four bytes of a word, least significant first (R4). -/
def Word.bytes (w : Word) : List Byte :=
  [BitVec.ofNat 8 w.toNat, BitVec.ofNat 8 (w.toNat / 2 ^ 8), BitVec.ofNat 8 (w.toNat / 2 ^ 16), BitVec.ofNat 8 (w.toNat / 2 ^ 24)]

/-- A little-endian number from bytes (R4). -/
def leNat : List Byte → Nat
  | [] => 0
  | b :: bs => b.toNat + 256 * leNat bs

/-- A big-endian number from bytes (R314). -/
def beNat (bs : List Byte) : Nat := leNat bs.reverse

/-- The `n` low bytes of a number, least significant first. -/
def leBytes : Nat → Nat → List Byte
  | 0, _ => []
  | n + 1, v => BitVec.ofNat 8 v :: leBytes n (v / 256)

/-- The `n` low bytes of a number, most significant first (R314). -/
def beBytes (n v : Nat) : List Byte := (leBytes n v).reverse

/-- A word from a number. -/
def wordOf (n : Nat) : Word := BitVec.ofNat 32 n

/-- floor division of an integer by a positive natural number (the floor() of the manual's pseudocode). -/
def floorDiv (a : Int) (b : Nat) : Int := a / (b : Int)

/-- The larger and the smaller bound applied to an integer: clamp(x, lo, hi) of the manual's pseudocode. -/
def clampInt (x lo hi : Int) : Int := if x < lo then lo else if hi < x then hi else x

/-- ceil(a / b) for natural numbers, 0 when b = 0. -/
def ceilDiv (a b : Nat) : Nat := (a + (b - 1)) / b

end Sys2Proof
end

