-- ==== Sys2Proof/Config.lean ====
section
/-! DEFINITION. What one part fixes and what the manual leaves open. Constants of the manual's tables stand here with
their rule; an `opaque` constant has no body, so no proof can see what it is: it is a free value of the model. -/

namespace Sys2Proof.Config

/-- A free value: what the manual leaves unspecified, applied to a counter the step reads and advances (log entry 4). -/
opaque unspecified {α : Type} [Inhabited α] : Nat → α

/-- A word of a live tally as of a snapshot's tick: the layout of a job's state in the reducer region is not stated, so that the word at an address is a
free one, the same in every read of that snapshot (R420; log entry 26). -/
opaque tallyWord (tick address : Nat) : Word

/-- How many 64-byte units a scrub has done at a tick (R438, R445): the manual gives its rate no figure (log entry 26). -/
opaque scrubAt (since tick : Nat) : Nat

/-- The PCIe function's device ID and class code, and the vectors of its MSI-X table (R399). -/
def pcieDevice : Nat := 0x0768
def pcieClass : Nat := 0x118000
def msixVectors : Nat := 65

/-- What a checker of lane `x` finds in the partner's bits (R350): whether it has locked and the bit errors counted, with the checker on since one tick,
at another (log entry 47). -/
opaque linePrbs (x since tick : Nat) : Bool × Nat

/-- The grade of the part, QH768-A1E when true (R498; log entry 5). -/
opaque gradeA1E : Bool

/-- GLB_CHIP_ID, programmed by Saziroth (R498; log entry 5). -/
opaque chipId : DWord

/-- The OTP's image-key flag at delivery and the hashes, written at most once by OTP_PROVISION (R474; log entry 5). -/
opaque otpCounter0 : Nat

/-! ### Constants of the manual -/

/-- Ticks of 5 ns in one microsecond, one millisecond and one second (R5, R21). -/
def ticksPerUs : Nat := 200
def ticksPerMs : Nat := 200000
def ticksPerS : Nat := 200000000

/-- One cadence epoch in ns (00_scope glossary, R5). -/
def epochNs : Nat := 1280000000

/-- The preparation time of a commit and of a start of sampling, 20 ms in ns (R44, R79). -/
def prepNs : Nat := 20000000

/-- The rate between reset and the first acquisition, 5 × 2^40 in units of 2^-40 ns per tick (R58). -/
def rateNominal : Nat := 5 * 2 ^ 40

/-! ### The time servo (R70, R80, R533) -/

/-- The prediction of the next offset measurement from the accepted ones since the last re-base, newest first, in 2^-16 ns.
The manual names a prediction and gives no formula (log entry 8). -/
opaque servoPredict : List Int → Int

/-- The first estimate of the source's frequency from the first two accepted measurements, and the proportional-integral
correction at a later one, in 2^-40 ns per tick, from the tick, the estimate in force, the accepted measurements and, with `source` = RIM and the
upstream lane ACTIVE, the frequency of the recovered clock (R64): given by a bandwidth only (R533; log entry 8). -/
opaque servoRate : Nat → Nat → List Int → Option Nat → Nat

/-- The correction for the position of the start-of-frame delimiter within its RS-FEC codeword, in 2^-16 ns, of the event message stamped at a tick on
a lane, received (true) or sent: the hub knows it and R68 gives no value (log entry 42). -/
opaque delimiterShift : Nat → Nat → Bool → Int

/-- The fraction of the 10 ppm bound by which a slew moves the rate, in parts per 1000 (R80: at most 10 ppm; log entry 8). -/
opaque slewShare : Nat → Nat

/-! ### Curves whose reference functions stand in other standards or are irrational (R193 to R195; log entry 9) -/

/-- E of R193 outside the range of thermocouple type 1 to 8, where its reference function is not stated, in mV, of a temperature in °C, both in units of
2^-96 (log entry 9). -/
opaque emf : Nat → Int → Int

/-- The temperature that the hub's solution of R193 arrives at, in units of 2^-96 °C, from the type and e in mV as a quotient: R193 bounds its error and
names no method (log entry 9). -/
opaque thermocouple : Nat → Int → Nat → Int

/-- The value of a thermocouple sample while there is no cold-junction sample: R193 states its INVALID and not its value (log entry 9). -/
opaque noColdJunction : Nat → Int → Nat → Word

/-- A coefficient of the compensation FIR in units of 2^-30, fixed in the hub: minimum-phase form, `osr_k`, low-power mode, the fractional delay of
R171 in ps, and the tap, 0 for the newest word (R170, R171; log entry 11). -/
opaque compCoef : Bool → Nat → Bool → Int → Nat → Int

/-- Platinum RTD, curves 16 to 19: the temperature that the hub's solution arrives at, in units of 2^-96 °C, from the curve number and the resistance
without its leads as a quotient: R194 bounds its error and names no method (log entry 9). -/
opaque platinumRtd : Nat → Int → Nat → Int

/-- How far the roundings of a CSD sum go, from the exact sum and the magnitudes' products: in units of 2^-24 of their largest effect (R278; log entry
10). -/
opaque csdError : Int → Nat → Int

/-- What three or more wrong bits of one scratchpad cell or store codeword read as, from the stored bits and the wrong ones: the
data delivered and whether the error is taken as correctable (R431 and R434 state one and two bits; log entry 14). -/
opaque manyBitCell : Nat → Nat → Byte × Bool
opaque manyBitWord : Nat → Nat → DWord × Bool
/-- The same of a stage of a crier chain, whose item has 128 bits (R394). -/
opaque manyBitItem : Nat → Nat → BitVec 128 × Bool

/-- Which of the two neighbouring whole numbers, or binary32 words, a quotient that lies between them takes, where the manual states no rounding (R103,
R104, R272; log entry 15): true for the upper one. -/
opaque roundUp : Int → Nat → Bool

/-- Whether the first settled word of a run in REV mode is a NEG word (R98 states the reversal and not the first polarity; log entry 17). -/
opaque revFirstNeg : Bool

/-- The rate at which the synthesiser closes a phase difference after a realignment, in parts per 1000 of the bound of 1° per excitation cycle (R122;
log entry 43). -/
opaque phaseShare : Nat → Nat

/-- The crossing instant where the two samples that R215 interpolates between are equal, so that its quotient has no value, as a fine time
from t0 and t1 (log entry 19). -/
opaque crossingFlat : Nat → Nat → Nat

/-- An ambient level that the 32-bit word of the stream cannot hold, from its exact value as a quotient (R210; log entry 19). -/
opaque levelOutside : Int → Nat → Word

/-- The calibrated current of a spoke's source for a look, binary32 µA, from the stream and the committed `isrc_ua`: R371 sends it and no rule
states its value (log entry 23). -/
opaque sourceCurrent : Nat → Nat → Word

/-- The taps that a write of LNK_FIXED_TAPS is clamped to where its taps, each within its own limits, break the limits of R341 together: the
manual does not say which tap gives way (log entry 22). -/
opaque tapsWithin : Int → Int → Int → Int × Int × Int

/-! ### Cryptographic functions of other standards (R474 to R477; log entry 13) -/

opaque sha384 : List Byte → List Byte
opaque sha256 : List Byte → List Byte
opaque ecdsaP384 : List Byte → List Byte → List Byte → Bool
opaque ecdsaP256 : List Byte → List Byte → List Byte → Bool
/-- AES-256-GCM under a key and a nonce: byte `i` of the key stream, which is combined with the text by exclusive or, and the tag of a ciphertext with its
additional data. -/
opaque gcmStream : List Byte → List Byte → Nat → Byte
opaque gcmTag : List Byte → List Byte → List Byte → List Byte → List Byte

/-- The CRC-32C of a settings slot with its word 4 taken as 0, from its format, session, write count and settings word: what else the megabyte of the slot
holds is not stated (R488; log entry 33). -/
opaque settingsCrc : Nat → Nat → Nat → Word → Word

end Sys2Proof.Config
end

