-- ==== Sys2Proof/Syntax.lean ====
section
/-! DEFINITION. The commands of the block: one constructor of `Instr` for each row of spec/opcode_table.json, with the
operands that come from outside the hub (what a master writes, what a port receives, what the analogue side delivers).
A row that is a command of the command set (R387) carries no operand: its operands are those of the command item at the
front of the hub's own command queue (R382, R385). -/

namespace Sys2Proof

/-- The four sources of commands (00_scope, R7 letter m). -/
inductive Master where
  | spi | pcie | rim | tandem
  deriving DecidableEq, Repr, Inhabited

/-- A rim port: RIM_E is port 1, RIM_W is port 2 (R66, R308). -/
inductive Port where
  | e | w
  deriving DecidableEq, Repr, Inhabited

/-- The causes that put the hub in RESET (R508): PWR_OK low, a low pulse on RESET_N of a length in ns, a brown-out monitor. -/
inductive ResetCause where
  | pwrOk
  | resetN (widthNs : Nat)
  | brownOut
  deriving DecidableEq, Repr, Inhabited

/-- One finding of the start-up self-test (R443, R444): the step 1 to 5, the unit (bank, or 128 and 129), the address and
whether two or more bits of one cell failed. -/
structure SelfTestFail where
  step : Nat
  unit : Nat
  addr : Nat
  multi : Bool
  deriving DecidableEq, Repr, Inhabited

/-- What a calibration measured in one gear slot (R449 to R452, R466): the codes that leave the smallest residuals, whether or not the converters reach
them, the readings of one bus level at 80 % of the gear's full scale on the next wider gear of its mode and on the gear itself, each in parts of that gear's
full scale (of gear code 0 they are not used), and the residuals. -/
structure SlotCal where
  slot : Nat
  offsetCode : Int
  gainCode : Int
  wide : Int
  narrow : Int
  offsetRes : Word
  gainRes : Word
  deriving DecidableEq, Repr, Inhabited

/-- One common step as a spoke reads it at OSR 32 with linear compensation (R453): how many ps after the step's instant the last sample below 50 % of the
step leaves the chain, and that sample and the next in parts per million of the step. -/
structure SkewStep where
  at_ : Int
  below : Int
  above : Int
  deriving DecidableEq, Repr, Inhabited

/-- What a calibration measured for one mode family (R453): the 64 common steps, and the residual in ps. -/
structure SkewCal where
  family : Nat
  steps : List SkewStep
  residual : Int
  deriving DecidableEq, Repr, Inhabited

/-- What a calibration measured for one spoke: its slots and its mode families. -/
structure SpokeCal where
  spoke : Nat
  slots : List SlotCal
  skew : List SkewCal
  deriving DecidableEq, Repr, Inhabited

/-- Lace and auxiliary residuals (R454, R466): ppm, m°, µV, ppm. -/
structure LaceCal where
  lace : Nat
  ampPpm : Int
  phaseMdeg : Int
  auxOffset : Int
  auxGain : Int
  deriving DecidableEq, Repr, Inhabited

/-- REFIN[d] against the internal reference, ppm (R454). -/
structure RefCal where
  die : Nat
  ppm : Int
  deriving DecidableEq, Repr, Inhabited

/-- What SENSE_ESTIMATE tells of the output current over its interval (R128): its peak in µA, and of a current drive the greatest share of the commanded
current that was delivered in it, in 1/65,536 of what the ramp had then. -/
structure SensePeak where
  current : Nat
  share : Nat
  deriving DecidableEq, Repr, Inhabited

/-- The header fields of a PTP message that the boundary clock uses (R66): domain, sender, sequence, correction in 2^-16 ns. -/
structure PtpHdr where
  domain : Nat
  srcClock : DWord
  srcPort : Half
  seqId : Half
  correction : Int
  deriving DecidableEq, Repr, Inhabited

/-- The data set of an Announce message (R66, IEEE 1588 Clause 9.3). -/
structure PtpAnnounce where
  priority1 : Nat
  gmClass : Nat
  gmAccuracy : Nat
  gmVariance : Nat
  priority2 : Nat
  gmIdentity : DWord
  steps : Nat
  deriving DecidableEq, Repr, Inhabited

/-- How an open wire was found (R111). -/
inductive OwMethod where
  | extreme | quadrature | sense | testLook
  deriving DecidableEq, Repr, Inhabited

/-- A modulator: of a spoke, or the auxiliary modulator of a lace. -/
inductive ModId where
  | spoke (s : Fin 768)
  | aux (l : Fin 48)
  deriving DecidableEq, Repr, Inhabited

/-- How the FCS of a received frame came out (R318, R320). -/
inductive Fcs where
  | good | bad | inverted
  deriving DecidableEq, Repr, Inhabited

/-- An Ethernet frame on the rim: its bytes from the destination MAC to the last before the FCS (R314), and its FCS. -/
structure RimFrame where
  bytes : List Byte
  fcs : Fcs
  deriving DecidableEq, Repr, Inhabited

/-- A tap of the transmit FFE and a coefficient update request (R341, R342). -/
inductive Tap where
  | pre | main | post
  deriving DecidableEq, Repr, Inhabited

inductive TapReq where
  | inc | dec | hold | preset | init
  deriving DecidableEq, Repr, Inhabited

/-- What answers at I²C address 0xA0 of a rim lane (R340, R343): its bytes, RX_LOS, and for a copper cable whether electrical detection finds a
receiver. -/
inductive Module where
  | none
  | answers (byte0 byte8 : Byte) (rxLos receiver : Bool)
  deriving DecidableEq, Repr, Inhabited

/-- Why a lane leaves ACTIVE by itself (R347, R397 N_LANE_DOWN). -/
inductive LossCause where
  | blockLock | fecLock | signal | hiBer
  deriving DecidableEq, Repr, Inhabited

/-- The path a PARTNER_HB arrived on (R371). -/
inductive HbPath where
  | rim | tdmA | tdmB
  deriving DecidableEq, Repr, Inhabited

/-- The HEARTBEAT section of a PARTNER_HB (R371). -/
structure Heartbeat where
  role : Nat
  glb : Nat
  driving : Bool
  tokenSeen : Bool
  linkSeen : Bool
  rimSeen : Bool
  excSeen : Bool
  synced : Bool
  count : Half
  sendTime : Nat
  activeSince : Nat
  nextBulk : Word
  nextCtl : Word
  nextExp : Word
  deriving DecidableEq, Repr, Inhabited

/-- The other sections of a tandem-lane PARTNER_HB (R371). -/
inductive HbSection where
  | digest (structId : DWord) (lastCommit : Nat) (commits : Nat)
  | ackpos (stream seq w3 : Nat)
  | mean (stream seq w3 : Nat) (value : Word)
  | isrc (spoke look : Nat) (value : Word)
  | reserved (kind length : Nat)
  deriving DecidableEq, Repr, Inhabited

/-- The fields of a received trigger broadcast (R317 type 0x10). -/
structure TriggerMsg where
  group : Nat
  origin : Nat
  unit : Nat
  outcome : Nat
  point : Nat
  frac : Nat
  deriving DecidableEq, Repr, Inhabited

/-- What ends an optics transaction (R348). -/
inductive OpticsResult where
  | data (bytes : List Byte)
  | noModule
  deriving DecidableEq, Repr, Inhabited

/-- What the receiver of a lane finds wrong: an errored 66-bit block, an RS-FEC codeword that could not be corrected (R347), or one that was
(R351). -/
inductive SymError where
  | block | codeword | corrected
  deriving DecidableEq, Repr, Inhabited

/-- The four words of a command item (R382). -/
structure ItemWords where
  w0 : Word
  w1 : Word
  w2 : Word
  w3 : Word
  deriving DecidableEq, Repr, Inhabited

/-- The commands and events of the block, one constructor per row of spec/opcode_table.json, in the table's order. -/
inductive Instr where
  | resetAssert (cause : ResetCause)
  | resetRelease (safeBoot : Bool)
  | imageAuthenticated
  | firmwareInitDone
  | selftestEnd (fails : List SelfTestFail)
  | calibrationEnd (spokes : List SpokeCal) (laces : List LaceCal) (refs : List RefCal)
  | trimRampEnd (which : Option (Fin 768 × Fin 25))
  | bootStructLoaded
  | freeRunWaitExpiry
  | samplingStart
  | lockstepMismatch
  | watchdogExpiry
  | warmRestartEnd
  | probationEnd
  | epochInstant
  | finePhaseMeasurement (port : Port) (rate : Nat)
  | ptpSync (port : Port) (hdr : PtpHdr) (frac : Fin 64) (twoStep : Bool) (origin : Int)
  | ptpFollowUp (port : Port) (hdr : PtpHdr) (origin : Int)
  | ptpDelayReq (port : Port) (hdr : PtpHdr) (frac : Fin 64)
  | ptpDelayResp (port : Port) (hdr : PtpHdr) (requester : DWord) (received : Int)
  | ptpAnnounce (port : Port) (hdr : PtpHdr) (data : PtpAnnounce)
  | ptpSyncTx (port : Port) (frac : Fin 64)
  | ptpAnnounceTx (port : Port)
  | ptpDelayReqTx (port : Port) (frac : Fin 64)
  | announceTimeout (port : Port)
  | syncTimeout
  | ppsInEdge (rising : Bool) (frac : Fin 64)
  | zdaSentence (bytes : List Byte)
  | ppsInTimeout
  | ppsOutPulse
  | ppsOutPulseEnd
  | todTxSentence
  | realignment
  | scheduledEvent (id : Nat)
  | eventArm (id : Nat)
  | setTime
  | sampleClockUnlock
  | sampleClockRelock
  | loadStructure
  | loadStructureDone
  | commit
  | commitInstant
  | cancelCommit
  | storeStructure
  | storeStructureDone
  | gearShiftUp (s : Fin 768) (before word : Int) (overload : Bool)
  | gearShiftDown (s : Fin 768) (before word : Int) (peak : Nat)
  | mendComplete (s : Fin 768) (w5 w6 : Int)
  | openWireDetect (s : Fin 768) (method : OwMethod) (instant : Nat) (codes : List Int)
  | wireRestored (s : Fin 768) (quietCodes quietCycles : Nat)
  | releaseSpoke
  | releaseSyncReset (s : Fin 768) (n : Fin 16)
  | senseEstimate (l : Fin 48) (amp : Nat) (phase : Int) (peak : SensePeak)
  | rampEnd (l : Fin 48)
  | excTrip (l : Fin 48)
  | restartLace
  | vexcUpdate (measured : Nat) (peaks : List (Nat × Nat))
  | vexcFault (measured : Nat)
  | dissipationUpdate (estimates : List (Nat × Nat))
  | excRestored
  | modOverload (m : ModId)
  | lookRunStart (m : ModId)
  | sampleScaled (stream : Fin 13056) (codes : List Int)
  | ambientLevelUpdate (epoch : Nat)
  | trigIoEdge (pin : Fin 8) (rising : Bool) (frac : Fin 64)
  | triggerSchedule (u : Fin 64)
  | trigIoPulseEnd (pin : Fin 8)
  | freewheelEnd (u : Fin 64)
  | fireTrigger
  | rearmTrigger
  | triggerFrame (port : Port) (msg : TriggerMsg)
  | blockClose (stream : Fin 16384)
  | blockPlace (stream : Fin 16384)
  | recordExpiry (k : Fin 4096) (record : Nat)
  | watermarkRearm (k : Fin 4096) (value : Word)
  | setMark
  | clearMark
  | replay
  | replayDone (k : Fin 4096)
  | releaseRecord
  | ackBlocks
  | readRecord
  | readRecordDone (k : Fin 4096)
  | reducerInputClose (e : Fin 16) (j : Fin 16) (input : Nat)
  | csdCommitPoint (e : Fin 16) (j : Fin 16)
  | resetTally
  | tallyClear (e : Fin 16) (j : Fin 16)
  | abortInterval
  | flush
  | saveContext
  | restoreContext
  | linkHbSend (port : Port)
  | linkHb (port : Port) (heFar fromE : Bool) (hops : Byte)
  | reachTimeout (port : Port)
  | helloSend
  | hello (port : Port) (src : Nat) (chipId : DWord) (session : Half)
  | enumerate (port : Port) (hop base : Nat)
  | setAddress
  | irpFrameRx (port : Port) (frame : RimFrame)
  | cutFrame (port : Port)
  | nak (port : Port) (peer : Nat) (cls : Nat) (ranges : List (Word × Nat))
  | ack (port : Port) (peer : Nat) (cls : Nat) (next : Word)
  | credit (port : Port) (epochTime east west : Nat)
  | commandFrame (port : Port) (service : Bool) (items : List ItemWords)
  | bulkSend
  | bulkRto (seq : Word)
  | ctlRto (dst : Nat) (seq : Word)
  | ackSend (peer : Nat)
  | portTransmit (port : Port)
  | partnerDetect (x : Fin 4) (module : Module)
  | trainRequest (x : Fin 4) (tap : Tap) (req : TapReq)
  | rxReady (x : Fin 4) (own : Bool)
  | trainTimeout (x : Fin 4)
  | lossOfSignal (x : Fin 4)
  | lockAcquired (x : Fin 4)
  | lockTimeout (x : Fin 4)
  | capabilityWord (x : Fin 4) (word : BitVec 24)
  | exchangeTimeout (x : Fin 4)
  | lockLoss (x : Fin 4) (cause : LossCause)
  | backoffEnd (x : Fin 4)
  | failureCountReset (x : Fin 4)
  | opticsPoll (x : Fin 2) (byte0 status : Byte) (power : Half)
  | lnkTestWrite (x : Fin 4) (value : Word)
  | prbsInject (x : Fin 4) (value : Word)
  | fixedTapsWrite (x : Fin 2) (value : Word)
  | retrainLane
  | opticsRead
  | opticsWrite
  | opticsDone (x : Fin 2) (result : OpticsResult)
  | tokenToggle
  | tokenEdge
  | partnerHbSend
  | partnerHb (path : HbPath) (hb : Heartbeat) (sections : List HbSection)
  | tokenWitnessMissing
  | linkWitnessMissing
  | rimWitnessMissing
  | claimingEnd
  | yieldingEnd
  | election
  | tandemLinkLoss
  | digestCompare
  | swapRoles
  | swapInstant
  | cmdItemWrite (writer : Master) (target : Fin 2) (word3 : Word)
  | nop
  | cmdCreditWrite (m : Fin 4) (value : Word)
  | queuePop (m : Master) (q : Fin 64)
  | crierChainEntry (q : Fin 64)
  | crierDrain (q : Fin 64)
  | priorityAging (q : Fin 64)
  | ringEntryWrite (r : Fin 64)
  | ringCreditWrite (r : Fin 64) (value : Word)
  | msixGapEnd (r : Fin 64)
  | ringEnable (r : Fin 64) (value : Word)
  | ringDisable (r : Fin 64) (value : Word)
  | spiWrite (addr : Word) (words : List Word) (cutShort : Bool)
  | spiRead (addr : Word) (count : Nat)
  | spiStatus
  | pcieMalformedAccess (offset length : Nat) (write : Bool)
  | readReg
  | writeReg
  | registerWrite (m : Master) (offset : Nat) (value : Word) (high : Option Word)
  | intEnableWrite (value : Word)
  | alarmCfgWrite (value : Word)
  | leaseLapse (m : Fin 3)
  | journalReplayStart (q : Fin 64) (value : Word)
  | resync
  | holdLowRead (m : Fin 3) (offset : Nat) (both : Bool)
  | holdHighRead (m : Fin 3) (offset : Nat)
  | holdLowWrite (m : Fin 3) (offset : Nat) (value : Word)
  | holdHighWrite (m : Fin 3) (offset : Nat) (value : Word)
  | holdExpiry (m : Fin 3) (write : Bool)
  | snapshot
  | snapshotTick
  | snapshotDone
  | scratchpadRead (p : Fin 24) (addr : Nat) (length : Nat)
  | scratchpadWrite (p : Fin 24) (addr : Nat) (bytes : List Byte)
  | scrub
  | scrubDone
  | bankPower
  | bankRetainTimeout (b : Fin 128)
  | storeRead
  | storeWrite
  | storeTransferDone
  | injectError
  | recalibrate
  | recalibrateDone (result : SpokeCal)
  | setTrim
  | clearWindow
  | windowRearm (w : Fin 64)
  | updateData
  | updateChunkProgrammed (flashOk : Bool)
  | updateEnd
  | updateEndDone (flashOk : Bool)
  | updateAbort
  | updateSessionTimeout
  | commitImage
  | saveSettings
  | settingsWriteDone
  | otpProvision
  | overRange (s : Fin 768) (word : Int)
  | laneSymbolError (x : Fin 4) (kind : SymError)
  | preemptionVerify (port : Port)
  deriving DecidableEq, Repr

end Sys2Proof
end

