-- ==== Sys2Proof/Machine/State.lean ====
section
/-! DEFINITION. The state of the block: every register, buffer, counter, mode and pin the spec gives the hub, as plain data,
with its value after reset, and the closed list of reasons a step can stop. Each structure names the chapter it comes from. -/

namespace Sys2Proof.Machine

/-- Why a step stops with a fault. -/
inductive Fault where
  /-- Raised by a meaning whose operands are not those of any command of the hub (`Instr.wf` is false, for example a
  COMMAND frame of 93 items, R383). Safe: no hardware event is described by such a term. -/
  | illFormed
  deriving DecidableEq, Repr, Inhabited

/-- Why a step is refused. -/
inductive Refusal where
  /-- Raised by an arm of Dispatch.lean that has no meaning yet. Safe. -/
  | notModelled (mnemonic : String)
  deriving DecidableEq, Repr

/-! ### Commands and items (16_host_ports_queues_commands) -/

/-- A command item as received (R382), with the master it came from, whether it was addressed to a tandem's service address (R358,
R374, R479), the count of its master's `RESYNC` commands before it (R414), and for a waiting `CANCEL_COMMIT` whether the commit that was PENDING took
effect before it (R47). -/
structure CmdItem where
  master : Master
  cseq : Half
  tag : Byte
  opcode : Byte
  opA : Word
  opB : DWord
  service : Bool
  base : Nat
  late : Bool := false
  deriving DecidableEq, Repr, Inhabited

/-- A notice or completion item: its four words (R390, R396). -/
structure Item where
  w0 : Word
  w1 : Word
  w2 : Word
  w3 : Word
  deriving DecidableEq, Repr, Inhabited

/-- A drain of a crier queue (R395). -/
inductive Drain where
  | journal | spi | ring | rim | reserved
  deriving DecidableEq, Repr, Inhabited

/-! ### What leaves the hub (the model's own log of outputs, log entry 12) -/

/-- The body of an IRP frame the hub sends (R317). A part of a descriptor names the READ_RECORD that it goes for (R388). -/
inductive FrameBody where
  | blocks (bs : List (List Byte))
  | record (stall offset : Nat) (item : CmdItem) (bytes : List Byte)
  | ackOf (cls : Nat)
  | completion (i : Item)
  | notice (i : Item)
  | hello (chipId : DWord) (session : Nat) (addrSrc hopsE hopsW : Nat)
  | trigger (msg : TriggerMsg)
  | alarm (i : Item)
  | beacon (epochTime detail : Nat)
  | linkHb (heFar fromE : Bool) (hops : Nat)
  | partnerHb (hb : Heartbeat)
  | forwarded (f : RimFrame)
  deriving DecidableEq, Repr, Inhabited

/-- An IRP frame the hub sends: class 0 EXPRESS, 1 TIME, 2 CONTROL, 3 BULK (R315). -/
structure OutFrame where
  cls : Nat
  src : Nat
  dst : Nat
  seq : Word
  body : FrameBody
  cut : Bool
  ack : Option Word := none
  deriving DecidableEq, Repr, Inhabited

/-- An entry written into a host ring (R400). -/
inductive RingEntry where
  | notice (i : Item)
  | block (bytes : List Byte)
  | record (stall : Nat) (bytes : List Byte)
  deriving DecidableEq, Repr, Inhabited

/-- What the hub hands to the outside at a step. -/
inductive Out where
  | readData (m : Master) (words : List Word)
  | poisonedRead (m : Master)
  | unsupportedRequest
  | spiStatus (b : Byte)
  | msix (vector : Nat) (addr : Nat) (data : Word)
  | ringPad (r offset length : Nat) (first : Word)
  | ringWrite (r offset : Nat) (entry : RingEntry) (bytes : List Byte)
  | writeBack (addr : Nat) (value : Word)
  | frame (port : Port) (f : OutFrame) (bytes : List Byte)
  | cutFrame (port : Port)
  | tandemFrame (lane : Nat) (hb : Heartbeat) (sections : List HbSection) (bytes : List Byte)
  | ptpSync (port : Port) (h : PtpHdr) (origin : Int)
  | ptpDelayReq (port : Port) (h : PtpHdr) (stamp : Int)
  | ptpDelayResp (port : Port) (h : PtpHdr) (requester : DWord) (requesterPort : Half) (received : Int)
  | ptpAnnounce (port : Port) (h : PtpHdr) (data : PtpAnnounce)
  | zda (utcSecond : Int)
  | mended (s : Nat) (w1 w2 w3 w4 : Int)
  | gearCommand (s : Nat) (code : Nat)
  | tapStatus (x : Nat) (tap : Tap) (status : Nat)
  | tapRequests (x : Nat) (steps : List (Tap × Bool))
  | capability (x word : Nat)
  | optics (x : Nat) (device offset : Nat) (bytes : List Byte)
  deriving DecidableEq, Repr, Inhabited

/-! ### GLB_ (21_register_map, R471, R498 to R501) -/

/-- GLB_STATE (R471). -/
inductive GlbState where
  | reset | loader | recovery | selftest | calibrate | timewait | run | warmRestart | fault
  deriving DecidableEq, Repr, Inhabited

/-- The GLB_ registers and the MSI-X function (R399). `fresh` holds the bits of GLB_INT_STATUS set at a tick, `vecTick` the tick at which vector 64 was last
sent (R501), `msixTable` word w of vector v at 4 v + w, `msixPending` the vectors whose pending bit is set, and `wrote` the registers written at a tick with
the writers' places in the order of R496. -/
structure Glb where
  state : GlbState := .reset
  prev : GlbState := .reset
  warmRestarts : Nat := 0
  safeBoot : Bool := false
  sampling : Bool := false
  intStatus : Word := 0
  intEnable : Word := 0
  scratch : Word := 0
  fresh : Nat × Word := (0, 0)
  vecTick : Option Nat := none
  msixTable : SMap Word := []
  msixPending : List Nat := []
  wrote : Nat × List (Nat × Nat) := (0, [])
  deriving DecidableEq, Repr, Inhabited

/-! ### TMB_ (03_network_time_and_cadence) -/

/-- TMB_STATUS `time_state` (R77). -/
inductive TimeState where
  | freeRun | acquiring | locked | holdover
  deriving DecidableEq, Repr, Inhabited

/-- The state of a PTP port of the boundary clock (R66, Clause 9.3). -/
inductive PtpRole where
  | listening | master | slave | passive
  deriving DecidableEq, Repr, Inhabited

/-- One PTP port (R66): its role, the newest qualified Announce, the ticks of the last Announce and Sync, the stamps of the
measurement in progress, the sequence numbers it sends and when it sent last, the last Announce heard, and the frequencies that
the fine phase detector measured on its lane in the last 10 ms, newest first (R64, R533). -/
structure PtpPort where
  role : PtpRole := .listening
  best : Option (PtpHdr × PtpAnnounce) := none
  announceTick : Nat := 0
  syncTick : Nat := 0
  syncWait : Option (Half × Int × Int) := none
  lastSync : Option (Int × Int) := none
  delaySent : Option (Half × Int) := none
  mpd : Int := 0
  mpdKnown : Bool := false
  seqSync : Half := 0
  seqDelay : Half := 0
  seqAnnounce : Half := 0
  heard : Option (DWord × Half × Nat) := none
  recovered : List (Nat × Nat) := []
  syncTx : Option Nat := none
  announceTx : Option Nat := none
  delayTx : Option Nat := none
  deriving DecidableEq, Repr, Inhabited

/-- What a scheduled event does (R60): a commit, a snapshot, a point of a trigger unit's schedule, a role swap. -/
inductive SchedKind where
  | commit | snapshot | trigger (u : Nat) | swap
  deriving DecidableEq, Repr, Inhabited

/-- A scheduled event of the compare logic (R60 to R62). -/
structure SchedEvent where
  id : Nat
  kind : SchedKind
  target : Nat
  armed : Bool
  fired : Bool
  late : Bool
  deriving DecidableEq, Repr, Inhabited

/-- The timebase. `ppsLast` is the newest edge of PPS_IN; `ppsBase` the edge on which the prediction of R71 rests, with the TAI second it was named;
`ppsHeard` that a sentence has followed the newest edge, `ppsAgree` the consecutive edges that sentences agreed with; `ppsActive` the begin of the
pulse at the pin (R89); `ppsOff` the newest edge where it was an outlier, with the TAI second it marks (R70, R71). `ncoAcc` is the sample NCO's accumulator at tick `ncoFrom`, `ncoInc` its increment (R73). `startFrom` is the tick of the
lock or expiry that set `startAt` and the ns that must pass from it (R79). -/
structure Tmb where
  counter : Nat := 0
  offset : Int := 0
  anchor : Nat := 0
  rate : Nat := Config.rateNominal
  timeState : TimeState := .freeRun
  everLocked : Bool := false
  accepted : List Int := []
  discarded : List Int := []
  rebase : Bool := true
  rateSet : Bool := false
  inRun : Nat := 0
  outRun : Nat := 0
  confirm : List Int := []
  offsetEst : Int := 0
  slew : Option (Nat × Int) := none
  realign : Option (Nat × Int) := none
  holdoverFrom : Option Nat := none
  holdoverMs : Nat := 0
  pllLock : Bool := false
  unlocks : List (Nat × Option Nat) := []
  lockHist : List (Nat × Bool) := []
  portE : PtpPort := {}
  portW : PtpPort := {}
  tdSource : Option Port := none
  todValid : Bool := false
  ppsValid : Bool := false
  ppsLast : Option (Nat × Int) := none
  ppsBase : Option (Nat × Option Int) := none
  ppsOff : Option (Nat × Int) := none
  ppsHeard : Bool := false
  ppsActive : Option Nat := none
  ppsNamed : Option (Int × Int) := none
  ppsAgree : Nat := 0
  ppsTime : Nat := 0
  ppsOut : Option Nat := none
  ppsPulsed : Option Nat := none
  buffered : List Int := []
  sinceAcq : Nat := 0
  zdaDue : Option (Nat × Nat) := none
  slip : Int := 0
  slipCount : Nat := 0
  outliers : Nat := 0
  ncoTrim : Int := 0
  ncoAcc : Nat := 0
  ncoFrom : Nat := 0
  ncoInc : Nat := 2 ^ 48 / 250
  txTrim : Int := 0
  lastEpoch : Option Nat := none
  timewaitTick : Nat := 0
  trimsIn : Option Nat := none
  startAt : Option Nat := none
  startFrom : Option (Nat × Nat) := none
  sched : List SchedEvent := []
  nextSched : Nat := 0
  deriving DecidableEq, Repr, Inhabited

/-! ### The structure and the staging area (02_structure_image) -/

/-- The kinds of instance records, one per frame type and target class (R32, R33). -/
inductive RecKind where
  | spoke | lace | lookSeq | auxSeq | chain | coef | curve | switch | trigger | stall | stream | reducer | compress | queue
  | window | time | rim | tandem
  deriving DecidableEq, Repr, Inhabited

/-- A structure: for each kind the records that differ from the reset structure, as their words bit for bit (R34, R36, R38). -/
structure Struct where
  spoke : SMap (List Word) := []
  lace : SMap (List Word) := []
  lookSeq : SMap (List Word) := []
  auxSeq : SMap (List Word) := []
  chain : SMap (List Word) := []
  coef : SMap (List Word) := []
  curve : SMap (List Word) := []
  switch : SMap (List Word) := []
  trigger : SMap (List Word) := []
  stall : SMap (List Word) := []
  stream : SMap (List Word) := []
  reducer : SMap (List Word) := []
  compress : SMap (List Word) := []
  queue : SMap (List Word) := []
  window : SMap (List Word) := []
  time : SMap (List Word) := []
  rim : SMap (List Word) := []
  tandem : SMap (List Word) := []
  deriving DecidableEq, Repr, Inhabited

/-- GLB_STAGE_STATUS `stage_state` (R43). -/
inductive StageState where
  | empty | loading | staged | pending
  deriving DecidableEq, Repr, Inhabited

/-- An image that passed the checks of R40: its words and the structure it makes on its base (R36, R37). -/
structure Staged where
  structId : Nat
  parentId : Nat
  delta : Bool
  sampling : Bool
  words : List Word
  target : Struct
  sound : Bool
  deriving DecidableEq, Repr, Inhabited

/-- The pending commit (R44 to R46): its command (none for the boot structure, R52), the named and the actual instant. -/
structure PendingCommit where
  item : Option CmdItem
  named : Option Nat
  instant : Nat
  late : Bool
  atSamplingStart : Bool
  deriving DecidableEq, Repr, Inhabited

/-- An era of the sampling grid: from `start` (full time, ns) the structure `st` is in force; samples of the era before it have
represented instants below `prevEnd` (R49, R82). -/
structure Era where
  start : Nat
  prevEnd : Nat
  st : Struct
  deriving DecidableEq, Repr, Inhabited

structure Cfg where
  committed : Struct := {}
  activeId : Nat := 0
  stage : StageState := .empty
  staged : Option Staged := none
  badFrame : Nat := 0xFFFF
  lastResult : Nat := 0
  loadMaster : Nat := 0
  pending : Option PendingCommit := none
  commitTime : Nat := 0
  commits : Nat := 0
  eras : List Era := []
  deriving DecidableEq, Repr, Inhabited

/-! ### The sample path (04, 06 to 12) -/

/-- Which samples a tag span covers: those whose kernel meets [start, stop], those whose represented instant lies in
[start, stop), or those at or after `start` whose kernel does not lie wholly after `stop` (R113). -/
inductive SpanRule where
  | kernel | instant | tail
  deriving DecidableEq, Repr, Inhabited

/-- A tag span: the samples it covers carry the tag bits, and with `blank` the value 0 or NaN (R106, R107, R113, R115, R127,
R128, R157, R366). `stop` is none while the condition lasts. Times are fine times in 2^-16 ns. -/
structure TagSpan where
  tag : Nat
  rule : SpanRule
  start : Nat
  stop : Option Nat
  blank : Bool
  cause : Nat
  deriving DecidableEq, Repr, Inhabited

/-- SPK_ state of one spoke (R115, R118, R119). -/
structure Spoke where
  quarantined : Bool := false
  quarantineWindow : Bool := false
  openWire : Bool := false
  owMethod : Nat := 0
  owAt : Nat := 0
  frozen : Bool := false
  shifts : Nat := 0
  owEvents : Nat := 0
  clips : Nat := 0
  clipAt : Option Nat := none
  released : Nat := 0
  deriving DecidableEq, Repr, Inhabited

/-- A shift made by a mend (R103): the number of its word W, W−1 and W rescaled, the gear after it, the time of the decision, and whether W+6 has
come. -/
structure Mend where
  word : Nat
  before : Int
  last : Int
  gear : Nat
  time : Nat
  done : Bool
  deriving DecidableEq, Repr, Inhabited

/-- One look, spoke or auxiliary, by stream ID 0 to 13,055 (R102, R108, R164, R179). `resets` are synchronising resets the
sample stream has not yet reached (true: the rank window is kept, R175), `gears` the gears in force with the fine time they
came in, newest first, `wordGears` the same by the number of the first stage-1 word rescaled with it (R103), `next` and `era` the next sample to
leave scaling, `last` the newest sample and `lastWord` its word before scaling. `codes` are modulator codes that its chain still holds, the last of
them that of the clock before `codeEnd`, `chainFrom` the synchronising reset from which the chain has filled, and `rankNext` the next index to enter
the rank window. -/
structure Look where
  gear : Nat := 0
  startNext : Option Nat := none
  lastShift : Nat := 0
  mends : List Mend := []
  shiftNote : Nat := 0
  shiftFirst : Nat := 0
  shiftLast : Nat := 0
  clipTick : Option Nat := none
  ovlTick : Option Nat := none
  ovlNote : Nat := 0
  ovlFirst : Nat := 0
  spans : List TagSpan := []
  resets : List (Nat × Bool) := []
  gears : List (Nat × Nat) := []
  wordGears : List (Nat × Nat) := []
  next : Option Nat := none
  era : Nat := 0
  codes : List Int := []
  codeEnd : Int := 0
  chainFrom : Nat := 0
  rankHist : List (Nat × Int × Nat) := []
  rankNext : Option Nat := none
  last : Option (Nat × Word × Nat) := none
  lastWord : Option (Nat × Int) := none
  deriving DecidableEq, Repr, Inhabited

/-- One modulator (R151, R157, R160): the pass and look of the newest run, its resets, the tick of the newest one, and the fine times of their flags,
newest first. -/
structure Modu where
  run : Option (Nat × Nat) := none
  overloads : Nat := 0
  clearing : Option Nat := none
  clears : List Nat := []
  deriving DecidableEq, Repr, Inhabited

/-- One threshold switch (R205 to R211). `level` is none for the committed level; `levels` are the ambient levels to come with the fine
time from which they apply; `hist` counts samples under epoch × 256 + bin; `prev` is the sample before, if it was evaluated, `runPrev` and
`runFirst` frame the run that the dwell counts (R215); `record` is the F_SWITCH record in force while the look's samples have not reached a commit
that changes it, and empty otherwise, and `pending` the fine times of such commits (R208). -/
structure Switch where
  set : Bool := false
  count : Nat := 0
  level : Option Word := none
  levels : List (Nat × Word) := []
  changes : Nat := 0
  noticeTick : Option Nat := none
  sinceNotice : Nat := 0
  lastDecision : Nat := 0
  hist : SMap Nat := []
  ambDone : Nat := 0
  prev : Option (Nat × Word) := none
  runPrev : Option (Nat × Word) := none
  runFirst : Option (Nat × Word) := none
  record : List Word := []
  pending : List Nat := []
  deriving DecidableEq, Repr, Inhabited

/-- A unit's hold-off (R219). Points are fine times in 2^-16 ns; `ended` when a freewheel by time has ended in network time, its points
still being tested. -/
inductive Freewheel where
  | none
  | time (untilFine : Nat) (ended : Bool)
  | count (left : Nat)
  deriving DecidableEq, Repr, Inhabited

/-- One trigger unit (R214 to R221, R232). `held` lists source, event instant as a fine time, and for a REMOTE event the hub and unit that
broadcast it; `running` names the stall and number of its newest record. -/
structure TrigUnit where
  held : List (Nat × Nat × Option (Nat × Nat)) := []
  freewheel : Freewheel := .none
  fired : Nat := 0
  counted : Nat := 0
  suppressed : Nat := 0
  lastPoint : Nat := 0
  running : Option (Nat × Nat) := none
  supNote : Nat := 0
  supFirst : Nat := 0
  supLast : Nat := 0
  supTick : Option Nat := none
  supFresh : Bool := true
  deriving DecidableEq, Repr, Inhabited

/-- The coder's state of a stream: n, h1 to h3 and k_prev (R291, R294, R298). -/
structure CodeState where
  n : Nat := 0
  h1 : Int := 0
  h2 : Int := 0
  h3 : Int := 0
  kprev : Nat := 0
  deriving DecidableEq, Repr, Inhabited

/-- The open block of a stream in block assembly (R190): sequence, w3, format, first position, first-sample time and the
words with their tags, oldest first. `poisoned`: the compressor has read a poisoned byte of it (R433). -/
structure OpenBlock where
  seq : Nat
  w3 : Nat
  eng : Bool
  words : Bool
  pos : Nat
  tFirst : Nat
  samples : List (Word × Nat)
  split : Bool
  keyed : Bool
  poisoned : Bool := false
  deriving DecidableEq, Repr, Inhabited

/-- How a block that a restored context was taken for would have been coded without it, for a restart that abandons the restore (R24). -/
structure Unrestored where
  escaped : Bool
  start : CodeState
  bytes : List Byte
  code : CodeState
  deriving DecidableEq, Repr, Inhabited

/-- A closed, coded block that waits for its placement (R238): its contents for a recode, with what the F_COMPRESS record said as it closed and the
neighbour that its stream's records allowed then (R292, R304), and its bytes. `again`: it closed before a takeover,
so it is sent with RESEND (R363). -/
structure ClosedBlock where
  block : OpenBlock
  interim : Bool
  key : Bool
  restored : Bool
  escaped : Bool
  start : CodeState
  keyDist : Nat
  bytes : List Byte
  takeover : Bool
  saves : List CmdItem
  restores : List CmdItem
  plain : Bool
  preds : Nat
  near : Option Nat
  undo : Option Unrestored := none
  again : Bool := false
  deriving DecidableEq, Repr, Inhabited

/-- One stream 0 to 16,383 (12_compression, 10_spool_and_captures). `forceKey` makes the next block that is coded a key block, `keyNext` the next one
that opens. -/
structure StreamRec where
  block : Option OpenBlock := none
  ready : List OpenBlock := []
  code : CodeState := {}
  keyDist : Nat := 0
  started : Bool := false
  forceKey : Bool := true
  keyNext : Bool := false
  takeoverMark : Bool := false
  restores : List CmdItem := []
  restoreFrom : Option CodeState := none
  saves : List CmdItem := []
  closed : List ClosedBlock := []
  coded : List (Nat × Nat × Nat × Bool × List Int) := []
  plainBytes : Nat := 0
  storedBytes : Nat := 0
  ratio : Nat := 0
  keys : Nat := 0
  escapes : Nat := 0
  mismatchEpoch : Option Nat := none
  gapReset : Bool := true
  deriving DecidableEq, Repr, Inhabited

/-- A held block (R239): where it lies in the central store, what identifies it, whether it was sent (R240) and goes again with RESEND
(R363), and the place of its number
in the order in which the stall's block numbers were produced (an interim block has that of the final block to come). -/
structure HeldBlock where
  page : Nat
  addr : Nat
  size : Nat
  stream : Nat
  seq : Nat
  w3 : Nat
  tFirst : Nat
  key : Bool
  interim : Bool
  split : Bool
  sent : Bool
  again : Bool
  ord : Nat
  deriving DecidableEq, Repr, Inhabited

/-- A gap record waiting to be sent or sent in place of blocks (R257). -/
structure Gap where
  stream : Nat
  w3 : Nat
  first : Nat
  last : Nat
  cause : Nat
  startUnknown : Bool
  tFirst : Nat
  deriving DecidableEq, Repr, Inhabited

/-- What a BULK frame or a ring entry carries: a final block by its number and the full time of its first sample, which tells the parts of a split
block apart (R191), an interim block by its number and its place in the central store, a gap record, or a part of a descriptor (R317, R326). -/
inductive SentItem where
  | final (stream w3 seq part : Nat)
  | interim (stream w3 seq addr : Nat)
  | gap (g : Gap)
  | record
  deriving DecidableEq, Repr, Inhabited

/-- A record's state (R241). -/
inductive RecState where
  | opened | complete | released
  deriving DecidableEq, Repr, Inhabited

/-- An entry of a record (R242, R252). -/
structure RecEntry where
  stream : Nat
  stall : Option Nat
  w3 : Nat
  first : Nat
  last : Nat
  shortPre : Bool
  missing : Bool
  discarded : Bool
  split : Bool
  empty : Bool
  preUs : Nat
  reserve : Nat
  done : Bool
  deriving DecidableEq, Repr, Inhabited

/-- A record (R241, R251): its unit, points as fine times, window, entries, where its descriptor lies, its size and the bytes placed for it, and the
tick of its opening. -/
structure Record where
  number : Nat
  unit : Nat
  state : RecState
  point : Nat
  winStart : Nat
  winEnd : Nat
  retriggers : Nat
  retrigPoints : List Nat
  originHub : Nat
  originUnit : Nat
  extended : Bool
  remote : Bool
  streamLost : Bool
  doneTime : Nat
  doneTick : Nat
  entries : List RecEntry
  page : Nat
  addr : Nat
  size : Nat
  room : Nat
  openTick : Nat
  deriving DecidableEq, Repr, Inhabited

/-- A run of final block numbers of a stream under one w3, in the order produced, with the full time of its first sample. `stop` is the fine time just
after its last sample; `times` holds the first-sample times of the numbers in it, but the first, whose block does not begin where its number does (R82);
`unsent` is the first number that had not been sent when a commit ended the delivery of its blocks (R259). -/
structure Run where
  stream : Nat
  w3 : Nat
  first : Nat
  last : Nat
  time : Nat
  stop : Nat := 0
  times : List (Nat × Nat) := []
  unsent : Option Nat := none
  deriving DecidableEq, Repr, Inhabited

/-- A rewind mark (R255, R256): the block, found by stream, w3 and number. -/
structure Mark where
  valid : Bool := false
  overtaken : Bool := false
  stream : Nat := 0
  seq : Nat := 0
  w3 : Nat := 0
  deriving DecidableEq, Repr, Inhabited

/-- A watermark latch (R254). -/
structure Latch where
  latched : Bool := false
  below : Bool := true
  time : Nat := 0
  peak : Nat := 0
  deriving DecidableEq, Repr, Inhabited

/-- A replay in progress (R255): the gap record it sends first, and the block numbers (stream, w3, sequence) still
to hand over. -/
structure ReplayJob where
  item : CmdItem
  toHost : Bool
  ring : Nat
  gap : Option Gap
  todo : List (Nat × Nat × Nat)
  deriving DecidableEq, Repr, Inhabited

/-- A READ_RECORD in progress (R388): its destination, the descriptor, how many bytes of it have been handed over and how many have been sent. -/
structure RecordRead where
  item : CmdItem
  toHost : Bool
  ring : Nat
  bytes : List Byte
  handed : Nat
  sent : Nat
  deriving DecidableEq, Repr, Inhabited

/-- One stall (R236 to R256, R262). `runs` lists the runs of final block numbers written, in the order produced; `past` those of a stall that a commit
has emptied. `ackedOrd` counts the block numbers up to the acknowledgement position, and `ackAhead` holds the places after it that are acknowledged;
`sentTop` counts the block numbers up to the last one handed over, as a block or in a gap record. `oldGaps` are gap records for a destination that a
commit has ended (R259): true for a host ring, with its number. -/
structure Stall where
  page : Option Nat := none
  offset : Nat := 0
  held : List HeldBlock := []
  runs : List Run := []
  past : List Run := []
  nextOrd : Nat := 0
  ackedOrd : Nat := 0
  ackAhead : List Nat := []
  sentTop : Nat := 0
  overrun : Bool := false
  overruns : Nat := 0
  overNote : Nat := 0
  overFirst : Nat := 0
  overTick : Option Nat := none
  refused : Nat := 0
  marks : List Mark := [{}, {}, {}, {}]
  warn : Latch := {}
  crit : Latch := {}
  records : List Record := []
  nextRecord : Nat := 0
  gaps : List Gap := []
  oldGaps : List (Bool × Nat × Gap) := []
  replays : List ReplayJob := []
  reads : List RecordRead := []
  deriving DecidableEq, Repr, Inhabited

/-- A live tally of one input of a reducer job (R272 to R276, R279). `ext`, `extIndex`, `dir` and `stack` carry over a close. -/
structure Tally where
  processed : Nat := 0
  skipped : Nat := 0
  tags : Nat := 0
  low : Int := 0
  high : Int := 0
  sum : Int := 0
  sumSq : Nat := 0
  under : Nat := 0
  above : Nat := 0
  bins : SMap Nat := []
  ext : Option Word := none
  extIndex : Nat := 0
  dir : Int := 0
  stack : List Word := []
  halfCycles : Nat := 0
  outOfRange : Nat := 0
  overflow : Nat := 0
  peaks : List (Nat × Bool × Word) := []
  confirmed : Nat := 0
  dropped : Nat := 0
  closedThrough : Option Nat := none
  fault : Bool := false
  deriving DecidableEq, Repr, Inhabited

/-- One reducer job (R265 to R282), key engine × 16 + slot; a job that a commit has ended stays under a key 256 or more above, with the
structure it ran under and its end T (R281). `interval` is the oldest interval or record before its commit point, `cuts` those that carry
PARTIAL, `skips` ranges without a record (R282), `record` the closed copies under interval × 1,024 + input, `csd` the samples kept per
input (index, word, tag), `abort` and `resetReq` the commands waiting for a commit point or a boundary, and `seen` the indices delivered per input that are the
last of a record. -/
structure Job where
  live : Bool := false
  startAt : Nat := 0
  stop : Option Nat := none
  own : Option Struct := none
  first : Nat := 0
  interval : Nat := 0
  cuts : List Nat := []
  skips : List (Nat × Nat) := []
  tallies : SMap Tally := []
  record : SMap (List Word) := []
  abort : List (CmdItem × Nat × Bool) := []
  resetReq : List (CmdItem × Nat) := []
  csd : SMap (List (Nat × Word × Nat)) := []
  seen : SMap (List Nat) := []
  fault : Bool := false
  deriving DecidableEq, Repr, Inhabited

/-- One reducer engine (R284, R285). -/
structure Engine where
  fault : Bool := false
  faults : Nat := 0
  code : Nat := 0
  codePending : Bool := false
  deriving DecidableEq, Repr, Inhabited

structure Path where
  spokes : SMap Spoke := []
  looks : SMap Look := []
  mods : SMap Modu := []
  chainSats : SMap Nat := []
  switches : SMap Switch := []
  units : SMap TrigUnit := []
  trigOut : SMap Nat := []
  trigIn : Nat := 0
  alarmCfg : Word := 0
  streams : SMap StreamRec := []
  stalls : SMap Stall := []
  jobs : SMap Job := []
  jobLast : SMap Nat := []
  jobOvf : SMap Nat := []
  engines : SMap Engine := []
  ctx : SMap Word := []
  lastMismatch : Nat := 0
  macTotal : Nat := 0
  macPeak : Nat := 0
  macSlice : Nat := 0
  rankLoad : Nat := 0
  deriving DecidableEq, Repr, Inhabited

/-! ### LACE_ (05_lace_excitation) -/

/-- A ramp of a lace driver (R126): from, to, start tick and end tick; amplitudes in 1/65,536 of the commanded one. -/
structure Ramp where
  source : Nat
  target : Nat
  start : Nat
  stop : Nat
  deriving DecidableEq, Repr, Inhabited

/-- One lace (R121 to R137). `record` is the F_LACE record under which the drive in force runs, while that is not the committed one (R127), and empty
otherwise; `senseOkRuns` counts estimates in a row that were not low (R113); `settling` while a ramp of a commit runs (R127). -/
structure Lace where
  drive : Nat := 0
  scale : Nat := 0
  ramp : Option Ramp := none
  upNext : Option Nat := none
  reduced : Option Nat := none
  restoring : Bool := false
  limit : Bool := false
  limitSince : Option Nat := none
  tripped : Bool := false
  highZ : Bool := true
  senseLow : Bool := false
  senseLowRuns : Nat := 0
  senseOkRuns : Nat := 0
  senseSuspend : Option Nat := none
  vexcHold : Bool := false
  estimates : List (Nat × Int) := []
  sensedLog : List (Nat × Int × Int) := []
  kept : Option (Nat × Int) := none
  newest : Option (Nat × Int) := none
  pdiss : Nat := 0
  ocEvents : Nat := 0
  ocTick : Option Nat := none
  need : Nat := 0
  limit50 : Bool := false
  interval : Nat := 1280
  phaseOff : Int := 0
  phaseFrom : Nat := 0
  lowFrom : Option Nat := none
  heldOff : Bool := false
  record : List Word := []
  settling : Bool := false
  deriving DecidableEq, Repr, Inhabited

/-- The laces and their supply. `gates` while the VEXC stage switches; otherwise VEXC_HG and VEXC_LG are driven low (R129, R509). -/
structure LaceBlock where
  laces : SMap Lace := []
  vexcCfg : Word := 0x5DC00FA0
  vexcNow : Word := 0x5DC00FA0
  target : Nat := 0
  measured : Nat := 0
  low : Option Nat := none
  lowNoted : Bool := false
  riseEnd : Nat := 0
  pdissTotal : Nat := 0
  overCount : Nat := 0
  rampWait : Nat := 0
  gates : Bool := false
  order : List Nat := []
  restoreSince : Option Nat := none
  deriving DecidableEq, Repr, Inhabited

/-! ### QUE_ (16, 17): the crier, the masters, the rings, the holds and the snapshot -/

/-- An item in a queue's chain (R392): its nseq, words, priority, the ticks of entry and of its next aging, whether it is a
replayed copy, the drain in force when it was posted (R402), and the bits of its stage that are wrong: bits 127..0 of the item, w0 uppermost, and
136..128 its SEC-DED check bits. -/
structure ChainItem where
  nseq : Nat
  item : Item
  prio : Nat
  entered : Nat
  aged : Nat
  replayed : Bool
  drain : Drain
  ring : Nat
  flips : BitVec 137 := 0
  deriving DecidableEq, Repr, Inhabited

/-- An item that waits in the journal alone (R393): its nseq, entry priority and drain at posting. -/
structure WaitItem where
  nseq : Nat
  prio : Nat
  drain : Drain
  ring : Nat
  deriving DecidableEq, Repr, Inhabited

/-- One crier queue (R392 to R395, R412). `posted` is one more than `issued` without its wrap; `replay` holds the next and the last item of a
replay; `lost` the ranges of lost items not yet told, first item and count, rising and apart; `service` the items that complete commands addressed to a service
address (R358). -/
structure Queue where
  posted : Nat := 0
  chain : List ChainItem := []
  waiting : List WaitItem := []
  replay : Option (Nat × Nat) := none
  replayFrom : Nat := 0
  lost : List (Nat × Nat) := []
  ce : Nat := 0
  prevNseq : Word := 0
  service : List Nat := []
  deriving DecidableEq, Repr, Inhabited

structure Crier where
  queues : SMap Queue := []
  acts : Nat := 0
  lastAct : Nat := 0
  prevTime : Nat := 0
  deriving DecidableEq, Repr, Inhabited

/-- A master's command records (R384, R403, R405 to R409, R423, R424) and its 64-bit holds (R416). -/
structure MasterRec where
  credit : Nat := 0
  cplQ : Nat := 0
  inFlight : Nat := 0
  refusals : Nat := 0
  expected : Half := 0
  based : Bool := false
  lapsed : Bool := false
  tornRead : Bool := false
  tornWrite : Bool := false
  gaps : Nat := 0
  accepted : Half := 0
  outstanding : List Half := []
  base : Nat := 0
  lastSeq : Half := 0
  leaseMs : Nat := 0
  lapses : Nat := 0
  itemTick : Nat := 0
  prevCmd : Word := 0
  cmdIn : Word × Word × Word := (0, 0, 0)
  readHold : Option (Nat × Nat × Nat) := none
  fracHold : Option Nat := none
  writeHold : Option (Nat × Word × Nat) := none
  popHold : SMap Item := []
  deriving DecidableEq, Repr, Inhabited

/-- A long command that has been started (R385). A load from the window holds the words read at its execution (R534). -/
inductive LongOp where
  | load (library : Bool) (slot : Nat) (words : List Word)
  | store (slot : Nat) (words : List Word)
  | commit
  | snapshot
  | replay (stall : Nat)
  | readRecord (stall : Nat)
  | resetTally (e j : Nat)
  | abortInterval (e j : Nat)
  | saveContext (stream : Nat)
  | restoreContext (stream : Nat)
  | setAddress
  | optics (x device offset len : Nat) (write : Bool)
  | swap (epochTime : Nat)
  | recalibrate (s : Nat)
  | scrub (store : Bool) (start len : Nat)
  | storeRead (store host units : Nat)
  | storeWrite (store host units : Nat)
  | updateData (offset : Nat) (bytes : List Byte)
  | updateEnd (activate : Bool)
  | saveSettings
  | aborted
  deriving DecidableEq, Repr, Inhabited

structure LongCmd where
  item : CmdItem
  op : LongOp
  since : Nat
  deriving DecidableEq, Repr, Inhabited

structure Cmd where
  spi : MasterRec := { credit := 64, cplQ := 0 }
  pcie : MasterRec := { credit := 64, cplQ := 1 }
  rim : MasterRec := { credit := 64, cplQ := 2 }
  tandem : MasterRec := {}
  queue : List CmdItem := []
  long : List LongCmd := []
  deriving DecidableEq, Repr, Inhabited

/-- What an entry of a host ring carries: an item of a queue, a block or gap record of a stall with the flags added at sending, a descriptor. -/
inductive RingRef where
  | notice (q n : Nat) (i : Item)
  | item (k : Nat) (x : SentItem) (flags : Nat)
  | record (k n : Nat)
  deriving DecidableEq, Repr, Inhabited

/-- A host ring (R400, R401, R403). `written` holds the entries not yet consumed with their end counts, `backlog` what is to be written next;
`true` marks an entry that had been written before the ring was disabled and is read afresh. -/
structure Ring where
  base : Nat := 0
  wb : Nat := 0
  cfg : Word := 0
  cons : Nat := 0
  prod : Nat := 0
  vecTick : Option Nat := none
  vecDue : Bool := false
  written : List (Nat × RingRef) := []
  backlog : List (RingRef × Bool) := []
  deriving DecidableEq, Repr, Inhabited

structure HostPorts where
  rings : SMap Ring := []
  spiPoison : Bool := false
  spiAlign : Bool := false
  spiUnmapped : Bool := false
  deriving DecidableEq, Repr, Inhabited

/-! ### MEM_ (18_memories_and_ecc) -/

/-- A scratchpad byte cell (R430): the stored data and poison bit and the bits that differ from the code word of what was
written, positions 0 to 7 data, 8 poison, 9 to 13 check (log entry 14). -/
structure MemCell where
  data : Byte := 0
  poison : Bool := false
  flips : BitVec 14 := 0
  deriving DecidableEq, Repr, Inhabited

/-- A central-store codeword (R434, R436): its data, poison syndrome and inverted bits, 0 to 63 data, 64 to 71 check. -/
structure StoreWord where
  data : DWord := 0
  poison : Bool := false
  flips : BitVec 72 := 0
  deriving DecidableEq, Repr, Inhabited

/-- A bank's commanded state (R440, R444). -/
inductive BankState where
  | on | retain | off | failed
  deriving DecidableEq, Repr, Inhabited

/-- A bank (R440, R441, R444). `lost` when its contents were lost in OFF; `clean` the ranges, first address and length, that jobs have initialised since. -/
structure Bank where
  power : BankState := .on
  awake : Bool := true
  lastUse : Nat := 0
  lost : Bool := false
  clean : List (Nat × Nat) := []
  deriving DecidableEq, Repr, Inhabited

/-- The error counters of a unit: banks 0 to 127, DRAM dies 128 and 129 (R431, R434, R442). -/
structure MemUnit where
  ce : Nat := 0
  ceAddr : Nat := 0
  ue : Nat := 0
  ueAddr : Nat := 0
  ceEventTick : Option Nat := none
  ueEventTick : Option Nat := none
  ceNote : Nat := 0
  ceNoteTick : Option Nat := none
  ueNote : Nat := 0
  ueNotePort : Nat := 0
  ueNoteAddr : Nat := 0
  ueNoteTick : Option Nat := none
  deriving DecidableEq, Repr, Inhabited

structure Mem where
  pad : SMap MemCell := []
  store : SMap StoreWord := []
  banks : SMap Bank := []
  units : SMap MemUnit := []
  conflicts : SMap Nat := []
  scrubPos : Nat := 0
  stDone : Bool := false
  stPass : Bool := false
  stStep : Nat := 0
  stUnit : Nat := 0
  stFailed : Nat := 0
  stWeak : Nat := 0
  deriving DecidableEq, Repr, Inhabited

/-! ### CAL_ and HLT_ (19_calibration_and_fault_windows) -/

/-- Calibration results of one gear slot (R450 to R454, R466), key spoke × 32 + slot. -/
structure CalSlot where
  offsetCode : Int := 0
  gainCode : Int := 0
  ratio : Word := 0
  offsetRes : Word := 0
  gainRes : Word := 0
  failed : Bool := false
  deriving DecidableEq, Repr, Inhabited

/-- A trim ramp in progress (R451, R457): its slot, new codes, start tick and whether a command set it. -/
structure TrimRamp where
  spoke : Nat
  slot : Nat
  offsetCode : Int
  gainCode : Int
  start : Nat
  deriving DecidableEq, Repr, Inhabited

/-- The calibration. `recal` is the spoke under `RECALIBRATE`, since `recalSince`, and `recalFound` what has been measured of it while its trims ramp
(R456). -/
structure Cal where
  done : Bool := false
  startTick : Nat := 0
  doneTick : Nat := 0
  slots : SMap CalSlot := []
  skew : SMap (Int × Int) := []
  skewFail : List Nat := []
  refFailSpoke : List Nat := []
  laceAmp : SMap (Int × Int) := []
  laceAux : SMap (Int × Int) := []
  refs : SMap (Int × Bool) := []
  failSpokes : Nat := 0
  failLaces : Nat := 0
  failDies : Nat := 0
  recal : Option Nat := none
  recalSince : Nat := 0
  recalFound : Option SpokeCal := none
  ramps : List TrimRamp := []
  deriving DecidableEq, Repr, Inhabited

/-- A fault window (R459, R460, R468, R469). -/
structure Window where
  latched : Bool := false
  history : List Nat := []
  recent : List Nat := []
  events : Nat := 0
  last : Nat := 0
  lastInst : Nat := 0
  lastings : Nat := 0
  noteCount : Nat := 0
  noteTick : Option Nat := none
  deriving DecidableEq, Repr, Inhabited

/-- Fault windows. `due` are the events of the present tick that a window watches, class and instance, not yet taken in their order (R459). -/
structure Hlt where
  windows : SMap Window := []
  classes : SMap Nat := []
  serviced : Nat := 0
  due : List (Nat × Nat) := []
  deriving DecidableEq, Repr, Inhabited

/-! ### LNK_ (13_rim_protocol, 14_serial_lanes) -/

/-- A lane's state (R339). -/
inductive LaneState where
  | off | detect | train | lock | exchange | active | test
  deriving DecidableEq, Repr, Inhabited

/-- One serial lane (R339 to R353). Taps are (c(−1), c(0), c(+1)). -/
structure Lane where
  state : LaneState := .off
  since : Nat := 0
  taps : Int × Int × Int := (0, 0, 0)
  fixedTaps : Int × Int × Int := (-3, 56, -4)
  rate10 : Bool := false
  fec : Bool := false
  fixed : Bool := false
  rxReady : Bool := false
  partnerReady : Bool := false
  blockLock : Bool := false
  fecLock : Bool := false
  hiBer : Bool := false
  module : Nat := 0
  backoffUntil : Option Nat := none
  failures : Nat := 0
  lastFail : Nat := 0
  retriesSince : Nat := 0
  partner : Nat := 0
  prevWord : Option Nat := none
  ackOut : Bool := false
  retries : Nat := 0
  symErr : Nat := 0
  symTick : Option Nat := none
  fecCorr : Nat := 0
  test : Word := 0
  prbsLock : Bool := false
  prbsErr : Nat := 0
  prbsFrom : Nat := 0
  optStatus : Word := 0
  optTick : Nat := 0
  deriving DecidableEq, Repr, Inhabited

/-- A CONTROL frame in the retransmit buffer (R327). -/
structure CtlFrame where
  frame : OutFrame
  tries : Nat
  tick : Nat
  deriving DecidableEq, Repr, Inhabited

/-- A BULK frame sent and not yet acknowledged (R326): its source, port and contents; `lost` when a NAK named it or a turn declared it lost,
`resent` when its contents go again for want of an acknowledgement in time. -/
structure BulkFrame where
  seq : Word
  src : Nat
  port : Port
  items : List SentItem
  tick : Nat
  lost : Bool
  resent : Bool
  deriving DecidableEq, Repr, Inhabited

/-- An association (R325): own source address, peer address, class, the next sequence to send and the next expected. -/
structure Assoc where
  src : Nat
  peer : Nat
  cls : Nat
  next : Word
  expected : Word
  early : List Word
  ackDue : Option Nat
  deriving DecidableEq, Repr, Inhabited

/-- A rim port (R309, R323, R329, R333). `verified`: verification under Clause 99.4.3 has succeeded since the lane became ACTIVE or preemption was
enabled; the lists hold what waits to be sent, by class. -/
structure RimPort where
  hbTick : Option Nat := none
  hbSent : Option (Nat × Bool × Nat) := none
  hbFar : Bool := false
  hbHops : Nat := 0
  reach : Bool := false
  hops : Nat := 0xFF
  miswired : Bool := false
  preOn : Bool := false
  verified : Bool := false
  credit : Nat := 0
  nextGrant : Option (Nat × Nat) := none
  granted : Bool := false
  sentEpoch : Nat := 0
  badFrames : Nat := 0
  cut : Nat := 0
  fwdDrop : Nat := 0
  express : List OutFrame := []
  ptp : List Out := []
  time : List OutFrame := []
  control : List OutFrame := []
  forward : List OutFrame := []
  forwardBytes : Nat := 0
  bulk : List OutFrame := []
  deriving DecidableEq, Repr, Inhabited

structure Rim where
  addr : Nat := 4095
  addrSrc : Nat := 3
  conflict : Bool := false
  session : Nat := 0
  e : RimPort := {}
  w : RimPort := {}
  bulkWest : Bool := false
  isolated : Bool := false
  miswired : Bool := false
  assocs : List Assoc := []
  ctl : List CtlFrame := []
  bulkOut : List BulkFrame := []
  resend : List SentItem := []
  delivered : List SentItem := []
  expressSeen : SMap (List Word) := []
  sessions : SMap Nat := []
  headPort : Option Port := none
  helloTick : Option Nat := none
  resent : Nat := 0
  dupDrop : Nat := 0
  ctlLost : Nat := 0
  deriving DecidableEq, Repr, Inhabited

structure Lnk where
  lanes : SMap Lane := []
  rim : Rim := {}
  deriving DecidableEq, Repr, Inhabited

/-! ### TDM_ (15_tandem_redundancy) -/

/-- TDM_STATUS `role` (R357). -/
inductive Role where
  | solo | active | standby | standbyDesync | claiming | yielding
  deriving DecidableEq, Repr, Inhabited

/-- The tandem. `tokenOut` is the level of TKN_OUT, none while it is high-impedance (R509); `swapAt` are the instants of the `SWAP_ROLES` accepted and
not yet carried out (R374). -/
structure Tdm where
  role : Role := .solo
  since : Nat := 0
  partner : Option Heartbeat := none
  partnerRole : Nat := 0
  partnerState : Nat := 0
  witToken : Bool := false
  witLink : Bool := false
  witRim : Bool := false
  witExc : Bool := false
  tokenOut : Option Bool := none
  tokenTick : Nat := 0
  edgeTick : Option Nat := none
  linkTick : Option Nat := none
  linkSent : Option Nat := none
  lanesLost : Option Nat := none
  rimSent : Option Nat := none
  lastSent : Option Nat := none
  digest : Option (DWord × Nat × Nat) := none
  digestTick : Nat := 0
  digestOk : Bool := false
  digestDue : List Nat := []
  digestSend : Bool := false
  swept : List Nat := []
  ackReported : SMap Nat := []
  ackTick : Nat := 0
  sweep : List Nat := []
  isrcDue : List Nat := []
  ackpos : SMap (Nat × Nat) := []
  means : List (Nat × Nat × Nat × Word) := []
  ownMeans : List (Nat × Nat × Nat × Word) := []
  meansDue : List (Nat × Nat × Nat × Word) := []
  agreeRun : SMap Nat := []
  isrc : SMap Word := []
  count : Half := 0
  takeovers : Nat := 0
  lastTakeover : Nat := 0
  activeSince : Nat := 0
  disagree : Nat := 0
  hbLost : Nat := 0
  swapAt : List Nat := []
  noActiveSince : Option Nat := none
  leftTandem : Bool := false
  deriving DecidableEq, Repr, Inhabited

/-! ### LDR_ and flash (20_boot_update_security) -/

/-- A stored firmware image (R475, R476): its header words and its body as stored. -/
structure FwImage where
  header : List Word
  body : List Byte
  deriving DecidableEq, Repr, Inhabited

/-- A settings slot (R488): its magic, format, session, write count and CRC, and the settings word it keeps (R489). -/
structure SettingsSlot where
  magic : Word := 0xFFFFFFFF
  crc : Word := 0xFFFFFFFF
  format : Nat := 0
  session : Nat := 0
  writes : Nat := 0
  settings : Word := 0xFFF0003C
  deriving DecidableEq, Repr, Inhabited

/-- The update session (R481); `flashBad` when a flash program of a chunk has failed. -/
structure Session where
  owner : Nat
  legacy : Bool
  header : List Byte
  body : List Byte
  wroteBody : Bool
  flashBad : Bool
  lastTick : Nat
  deriving DecidableEq, Repr, Inhabited

/-- A copy of the loader record (R478): the legacy floor and the image committed flag. -/
structure LoaderRecord where
  legacyFloor : Nat := 0
  committedImage : Bool := false
  deriving DecidableEq, Repr, Inhabited

/-- The calibration records: the figures of the power-up calibration (R454). -/
structure CalRecords where
  spokes : List SpokeCal := []
  laces : List LaceCal := []
  refs : List RefCal := []
  deriving DecidableEq, Repr, Inhabited

/-- The content of the flash die that a reset keeps (R39, R411, R478, R488), and the OTP (R474). `onProbation` and `imageNew` tell of the slot's
image that `UPDATE_END` activated it and that it has not entered RUN (R482, R483). Of the fault journal R478 names the region alone: no rule says what
writes it (log entry 33). -/
structure Flash where
  slot : Option FwImage := none
  slotValid : Bool := false
  library : SMap (List Word) := []
  setA : SettingsSlot := {}
  setB : SettingsSlot := {}
  loaderA : LoaderRecord := {}
  loaderB : LoaderRecord := {}
  faultJournal : SMap Byte := []
  onProbation : Bool := false
  imageNew : Bool := false
  checkpoint : Option (Nat × Nat × List Word × SMap Word) := none
  calRecords : CalRecords := {}
  otpKey : Option (List Byte) := none
  otpNative : Option (List Byte) := none
  otpLegacy : Option (List Byte) := none
  otpCounter : Nat := 0
  deriving DecidableEq, Repr, Inhabited

/-- The loader's registers and the firmware it runs. `buffers` are the header buffers of masters without a session, `filler` the master
that filled one last, `fresh` that the running image is a new one that has not entered RUN (R482), `probationS` the length of the probation in s,
`probationFrom` the tick from which its time in RUN counts and `probationRan` the ticks of RUN before that, `restartSince` the tick at which a warm restart
began, `restartTime` the network time of it in ns and `restartFrom` the state it began in (R23, R471); `coresHalted` while both cores stand after a
FAIL_OVER that ran in place of the warm restart of R27. -/
structure Ldr where
  flash : Flash := {}
  settings : Word := 0xFFF0003C
  setSlotB : Bool := false
  defaulted : Bool := false
  recoveryCause : Nat := 0
  halted : Bool := false
  image : Option FwImage := none
  activating : Bool := false
  fresh : Bool := false
  buffers : SMap (List Byte) := []
  filler : Nat := 0
  session : Option Session := none
  lastResult : Nat := 0
  probationS : Nat := 0
  probationFrom : Option Nat := none
  probationRan : Nat := 0
  probationFailed : Bool := false
  watchdogEvents : Nat := 0
  committed : Bool := false
  restartSince : Nat := 0
  restartTime : Nat := 0
  restartFrom : GlbState := .run
  coresHalted : Bool := false
  deriving DecidableEq, Repr, Inhabited

/-! ### QUE_SNAP_ (17_ledger_and_recovery, R419 to R425) -/

/-- The register part of the image: the blocks as they stood at the snapshot tick (R421). -/
structure SnapImage where
  glb : Glb
  tmb : Tmb
  cfg : Cfg
  path : Path
  lace : LaceBlock
  crier : Crier
  cmd : Cmd
  host : HostPorts
  mem : Mem
  cal : Cal
  hlt : Hlt
  lnk : Lnk
  tdm : Tdm
  ldr : Ldr
  deriving DecidableEq, Repr, Inhabited

/-- The snapshot. `request` is the armed command with its instant, `taking` the command whose image is being completed, `kept` are the
preserved tally lines in the order of their preservation and `lost` those that changed after the area was full, `mirrorStale` holds from the first commit after the tick, `ctxStale` names the CMP_CTX words written since. -/
structure Snap where
  request : Option (CmdItem × Nat) := none
  taking : Option CmdItem := none
  snaps : Nat := 0
  valid : Bool := false
  cowFull : Bool := false
  master : Nat := 0
  image : Option SnapImage := none
  kept : List Nat := []
  lost : List Nat := []
  mirrorStale : Bool := false
  ctxStale : List Nat := []
  tick : Nat := 0
  time : Nat := 0
  deriving DecidableEq, Repr, Inhabited

/-! ### The whole state -/

/-- The state of the block. `pending` is the queue of commands; `ub` is the rule whose undefined use opened the span of R2
that is open, if any (log entry 3); `freeCount` is the model's counter of free values (log entry 4); `out` is the model's log
of what the hub hands to the outside (log entry 12). -/
structure State where
  pending : List Instr := []
  ub : Option Nat := none
  freeCount : Nat := 0
  out : List Out := []
  glb : Glb := {}
  tmb : Tmb := {}
  cfg : Cfg := {}
  path : Path := {}
  lace : LaceBlock := {}
  crier : Crier := {}
  cmd : Cmd := {}
  host : HostPorts := {}
  mem : Mem := {}
  cal : Cal := {}
  hlt : Hlt := {}
  lnk : Lnk := {}
  tdm : Tdm := {}
  ldr : Ldr := {}
  snap : Snap := {}
  deriving DecidableEq, Repr, Inhabited

/-- The machine right after reset: GLB_STATE RESET with every register at the reset value its table gives, no command
waiting, the flash as the model names it (log entry 5). -/
def State.reset : State := {}

end Sys2Proof.Machine
end

