-- ==== Sys2Proof/Machine/Sparse.lean ====
section
/-! DEFINITION. Sparse tables: the register arrays and memories of the block as rising lists of the entries that differ
from a default, and the small list helpers the meanings share. -/

namespace Sys2Proof

/-- The value at key `k`; an unlisted key reads as the default `d`. -/
def SMap.get {α : Type} (m : SMap α) (d : α) (k : Nat) : α :=
  match m with
  | [] => d
  | (k', v) :: r => if k = k' then v else SMap.get r d k

/-- The table without key `k`. -/
def SMap.erase {α : Type} (m : SMap α) (k : Nat) : SMap α :=
  match m with
  | [] => []
  | (k', v) :: r => if k = k' then SMap.erase r k else (k', v) :: SMap.erase r k

/-- The table with an entry put at its place (the key is not listed). -/
def SMap.insert {α : Type} (m : SMap α) (k : Nat) (v : α) : SMap α :=
  match m with
  | [] => [(k, v)]
  | (k', v') :: r => if k < k' then (k, v) :: (k', v') :: r else (k', v') :: SMap.insert r k v

/-- The table with `v` at key `k`; writing the default removes the entry. -/
def SMap.set {α : Type} [DecidableEq α] (m : SMap α) (d : α) (k : Nat) (v : α) : SMap α :=
  if v = d then m.erase k else (m.erase k).insert k v

/-- The table with the value at `k` changed by `f`. -/
def SMap.upd {α : Type} [DecidableEq α] (m : SMap α) (d : α) (k : Nat) (f : α → α) : SMap α :=
  m.set d k (f (m.get d k))

/-- Keys strictly rising, all at or above a bound. -/
def SMap.rising {α : Type} (m : SMap α) (lo : Nat) : Bool :=
  match m with
  | [] => true
  | (k, _) :: r => decide (lo ≤ k) && SMap.rising r (k + 1)

/-- The canonical form: keys strictly rising and no entry equal to the default. -/
def SMap.wf {α : Type} [DecidableEq α] (m : SMap α) (d : α) : Bool :=
  m.rising 0 && m.all (fun e => decide (e.2 ≠ d))

/-- The list `[f a, …]` folded into a state: `f` applied for each element in order. -/
def forEach {α σ : Type} (l : List α) (s : σ) (f : σ → α → σ) : σ := l.foldl f s

/-- The numbers `a`, `a+1`, …, `a+n-1`. -/
def numbersFrom (a n : Nat) : List Nat :=
  match n with
  | 0 => []
  | n + 1 => a :: numbersFrom (a + 1) n

/-- Insertion into a list that rises by `le` (equal elements stay in arrival order). -/
def insertBy {α : Type} (le : α → α → Bool) (x : α) : List α → List α
  | [] => [x]
  | y :: r => if le y x then y :: insertBy le x r else x :: y :: r

/-- The list in rising order by `le`, equal elements in their old order. -/
def sortBy {α : Type} (le : α → α → Bool) (l : List α) : List α := l.foldl (fun acc x => insertBy le x acc) []

/-- The median of R80 and R70: of 8 values the mean of the fourth and fifth in ascending order, rounded to a whole multiple of
2^-16 ns, ties toward minus infinity. -/
def median8 (l : List Int) : Int :=
  let o := sortBy (fun a b => decide (a ≤ b)) l
  -- half of a sum is a whole number or lies midway, where the tie goes toward minus infinity
  (o.getD 3 0 + o.getD 4 0) / 2

/-- The last `n` elements. -/
def lastN {α : Type} (n : Nat) (l : List α) : List α := l.drop (l.length - n)

/-- The list with element `i` changed. -/
def updAt {α : Type} (l : List α) (i : Nat) (f : α → α) : List α :=
  match l, i with
  | [], _ => []
  | x :: r, 0 => f x :: r
  | x :: r, i + 1 => x :: updAt r i f

/-- The first element that satisfies `p` removed. -/
def eraseFirst {α : Type} (p : α → Bool) : List α → List α
  | [] => []
  | x :: r => if p x then r else x :: eraseFirst p r

end Sys2Proof
end

