-- ==== Sys2Proof/Machine/Operands.lean ====
section
/-! DEFINITION. Operand forms: the fields of the instance records of a structure (the F_ payload tables), of command items
(R382, R387, R437, R455, R479), and what a look's records say about its rate and delay (R75, R147 to R150, R164 to R178). -/

namespace Sys2Proof.Machine

/-! ### Instance records (R32 to R36) -/

/-- The table of one kind of record. -/
def Struct.table (st : Struct) : RecKind → SMap (List Word)
  | .spoke => st.spoke | .lace => st.lace | .lookSeq => st.lookSeq | .auxSeq => st.auxSeq | .chain => st.chain
  | .coef => st.coef | .curve => st.curve | .switch => st.switch | .trigger => st.trigger | .stall => st.stall
  | .stream => st.stream | .reducer => st.reducer | .compress => st.compress | .queue => st.queue
  | .window => st.window | .time => st.time | .rim => st.rim | .tandem => st.tandem

/-- The structure with one table replaced. -/
def Struct.setTable (st : Struct) (k : RecKind) (t : SMap (List Word)) : Struct :=
  match k with
  | .spoke => { st with spoke := t } | .lace => { st with lace := t } | .lookSeq => { st with lookSeq := t }
  | .auxSeq => { st with auxSeq := t } | .chain => { st with chain := t } | .coef => { st with coef := t }
  | .curve => { st with curve := t } | .switch => { st with switch := t } | .trigger => { st with trigger := t }
  | .stall => { st with stall := t } | .stream => { st with stream := t } | .reducer => { st with reducer := t }
  | .compress => { st with compress := t } | .queue => { st with queue := t } | .window => { st with window := t }
  | .time => { st with time := t } | .rim => { st with rim := t } | .tandem => { st with tandem := t }

def RecKind.all : List RecKind :=
  [.spoke, .lace, .lookSeq, .auxSeq, .chain, .coef, .curve, .switch, .trigger, .stall, .stream, .reducer, .compress, .queue,
   .window, .time, .rim, .tandem]

/-- The three reset words of a look entry (R159). -/
def lookEntryReset : List Word := [0, 0x00010001, 0]

/-- `n` copies of a list, one after another. -/
def repeatList {α : Type} (n : Nat) (l : List α) : List α :=
  match n with
  | 0 => []
  | n + 1 => l ++ repeatList n l

/-- The record of an instance in the reset structure (R36 and the payload tables). -/
def resetRecord (k : RecKind) (i : Nat) : List Word :=
  match k with
  | .spoke => [0, 0x00040000]
  | .lace => [0x20, 0, 0xA00, 0x3200, 0x500, 0xFA0A1000]
  | .lookSeq => 0 :: repeatList 16 lookEntryReset
  | .auxSeq => 0 :: repeatList 16 lookEntryReset
  | .chain => [0, 0, 0, 0]
  | .coef => [0]
  | .curve => [0, 0, 0, 0, 0, 0, 0, 0]
  | .switch => [0, 0, 0, 0, 0, 0, 0, 0, 0, 0]
  | .trigger => [0, 1, 1, 0, 0, 0, 0, 1, 1, 0, 0, 0, 0, 0, 0, 0, 0, 0, 0, 0]
  | .stall => [0, 0, 0x324B5A00, 0]
  | .stream => [0, 0]
  | .reducer => [0, 0, 0, 0] ++ repeatList 16 (0 :: 1 :: 1 :: List.replicate 13 0)
  | .compress => [0x3E100000]
  | .queue => [if i = 0 then 0x14000000 else if i = 1 then 0x24000000 else if i = 2 then 0x34000000 else 0x04000000]
  | .window => [0, 1, 0x3E8]
  | .time => [0x4CC00030, 0x80800096, 0, 0, 0x00C80064, 0x20002710, 0, 0, 0]
  | .rim => [0x632000FF, 0x07D00840, 0x001401F4, 0]
  | .tandem => [0, 0x01000880]

/-- Words per instance (R30 and the payload tables). -/
def RecKind.len : RecKind → Nat
  | .spoke => 2 | .lace => 6 | .lookSeq => 49 | .auxSeq => 49 | .chain => 4 | .coef => 1 | .curve => 8 | .switch => 10
  | .trigger => 20 | .stall => 4 | .stream => 2 | .reducer => 260 | .compress => 1 | .queue => 1 | .window => 3
  | .time => 9 | .rim => 4 | .tandem => 2

/-- Instances of the kind's target class (R32). -/
def RecKind.instances : RecKind → Nat
  | .spoke => 768 | .lace => 48 | .lookSeq => 768 | .auxSeq => 48 | .chain => 4096 | .coef => 65536 | .curve => 16384
  | .switch => 52224 | .trigger => 64 | .stall => 4096 | .stream => 16384 | .reducer => 16 | .compress => 16384
  | .queue => 64 | .window => 64 | .time => 1 | .rim => 1 | .tandem => 1

/-- Frame types of commit class Sampling (R33). -/
def RecKind.sampling : RecKind → Bool
  | .spoke | .lace | .lookSeq | .auxSeq | .chain | .coef | .curve | .stall | .stream | .compress => true
  | .switch | .trigger | .reducer | .queue | .window | .time | .rim | .tandem => false

/-- The kind of record that a frame type and target class name (R33). -/
def frameKind (type cls : Nat) : Option RecKind :=
  if type = 0x01 ∧ cls = 0x01 then some .spoke
  else if type = 0x02 ∧ cls = 0x02 then some .lace
  else if type = 0x03 ∧ cls = 0x01 then some .lookSeq
  else if type = 0x03 ∧ cls = 0x02 then some .auxSeq
  else if type = 0x04 ∧ cls = 0x03 then some .chain
  else if type = 0x05 ∧ cls = 0x04 then some .coef
  else if type = 0x06 ∧ cls = 0x05 then some .curve
  else if type = 0x07 ∧ cls = 0x06 then some .switch
  else if type = 0x08 ∧ cls = 0x07 then some .trigger
  else if type = 0x09 ∧ cls = 0x08 then some .stall
  else if type = 0x0A ∧ cls = 0x09 then some .stream
  else if type = 0x0B ∧ cls = 0x0A then some .reducer
  else if type = 0x0C ∧ cls = 0x09 then some .compress
  else if type = 0x0D ∧ cls = 0x0B then some .queue
  else if type = 0x0E ∧ cls = 0x0C then some .window
  else if type = 0x0F ∧ cls = 0x00 then some .time
  else if type = 0x10 ∧ cls = 0x00 then some .rim
  else if type = 0x11 ∧ cls = 0x00 then some .tandem
  else none

/-- The record of an instance. -/
def Struct.record (st : Struct) (k : RecKind) (i : Nat) : List Word := (st.table k).get (resetRecord k i) i

/-- The structure with the record of an instance replaced (a record equal to the reset record is not listed). -/
def Struct.setRecord (st : Struct) (k : RecKind) (i : Nat) (r : List Word) : Struct :=
  st.setTable k ((st.table k).set (resetRecord k i) i r)

/-- Word `w` of an instance's record. -/
def Struct.word (st : Struct) (k : RecKind) (i w : Nat) : Word := (st.record k i).getD w 0

/-- Field [hi:lo] of word `w` of an instance's record. -/
def Struct.fld (st : Struct) (k : RecKind) (i w hi lo : Nat) : Nat := (st.word k i w).field hi lo

/-- The same for a signed field. -/
def Struct.sfld (st : Struct) (k : RecKind) (i w hi lo : Nat) : Int := signedOf (hi + 1 - lo) (st.fld k i w hi lo)

/-! ### F_TIME (R85) -/

/-- `source`: 0 FREE, 1 RIM, 2 GNSS. -/
def Struct.timeSource (st : Struct) : Nat := st.fld .time 0 0 31 30
def Struct.freeRun (st : Struct) : Bool := st.fld .time 0 0 29 29 == 1
def Struct.logSync (st : Struct) : Int := st.sfld .time 0 0 27 24
def Struct.logDreq (st : Struct) : Int := st.sfld .time 0 0 23 20
def Struct.logAnn (st : Struct) : Int := st.sfld .time 0 0 19 16
def Struct.ptpDomain (st : Struct) : Nat := st.fld .time 0 0 15 8
def Struct.annTimeout (st : Struct) : Nat := st.fld .time 0 0 7 4
def Struct.priority1 (st : Struct) : Nat := st.fld .time 0 1 31 24
def Struct.priority2 (st : Struct) : Nat := st.fld .time 0 1 23 16
def Struct.frWait (st : Struct) : Nat := st.fld .time 0 1 15 0
def Struct.asym (st : Struct) (p : Port) : Int := st.sfld .time 0 (match p with | .e => 2 | .w => 3) 31 0
def Struct.outlierNs (st : Struct) : Nat := st.fld .time 0 4 31 16
def Struct.lockNs (st : Struct) : Nat := st.fld .time 0 4 15 0
def Struct.ppsFalling (st : Struct) : Bool := st.fld .time 0 5 31 31 == 1
def Struct.todNamesNext (st : Struct) : Bool := st.fld .time 0 5 30 30 == 1
def Struct.ppsMode (st : Struct) : Nat := st.fld .time 0 5 27 26
def Struct.ppsWidthUs (st : Struct) : Nat := st.fld .time 0 5 17 0
def Struct.ppsDelay (st : Struct) : Int := st.sfld .time 0 6 31 0
def Struct.taiUtc (st : Struct) : Int := st.sfld .time 0 7 31 16
/-- `beacon_q` of F_TIME. R85 gives it no range: a number of 64 to 255 is taken modulo the 64 queues (log entry 43, DESIGN CHOICE). -/
def Struct.beaconQ (st : Struct) : Nat := st.fld .time 0 7 15 8 % 64

/-- The interval of a log2 message interval in ticks: 2^e seconds (R66). -/
def logInterval (e : Int) : Nat := if e < 0 then ticksOf / 2 ^ e.natAbs else ticksOf * 2 ^ e.natAbs
where
  ticksOf : Nat := Config.ticksPerS

/-! ### F_SPOKE (R117) and F_LACE (R135) -/

def Struct.mode (st : Struct) (s : Nat) : Nat := st.fld .spoke s 0 31 28
def Struct.cjLook (st : Struct) (s : Nat) : Nat := st.fld .spoke s 0 27 24
def Struct.owBias (st : Struct) (s : Nat) : Bool := st.fld .spoke s 0 21 21 == 1
def Struct.owDetect (st : Struct) (s : Nat) : Bool := st.fld .spoke s 0 20 20 == 1
def Struct.owLimit (st : Struct) (s : Nat) : Nat := st.fld .spoke s 0 15 0
def Struct.spokeQ (st : Struct) (s : Nat) : Nat := st.fld .spoke s 1 31 24 % 64
def Struct.gearDwell (st : Struct) (s : Nat) : Nat := st.fld .spoke s 1 23 12

/-- Drive codes of R121: 0 OFF, 1 DC_V, 2 SINE_V, 3 DC_I, 4 SINE_I, 5 PULSE_I. -/
def Struct.drive (st : Struct) (l : Nat) : Nat := st.fld .lace l 0 31 28
/-- `notice_q` of F_LACE. R135 gives it no range: a number of 64 to 255 is taken modulo the 64 queues (log entry 43, DESIGN CHOICE). -/
def Struct.laceQ (st : Struct) (l : Nat) : Nat := st.fld .lace l 0 23 16 % 64
def Struct.rampCycles (st : Struct) (l : Nat) : Nat := st.fld .lace l 0 10 0
def Struct.vAmp (st : Struct) (l : Nat) : Nat := st.fld .lace l 1 31 16
def Struct.iAmp (st : Struct) (l : Nat) : Nat := st.fld .lace l 1 15 0
def Struct.freqDiv (st : Struct) (l : Nat) : Nat := st.fld .lace l 2 16 0
def Struct.pulsePeriod (st : Struct) (l : Nat) : Nat := st.fld .lace l 3 20 0
def Struct.pulseWidth (st : Struct) (l : Nat) : Nat := st.fld .lace l 4 20 0
def Struct.iLimit (st : Struct) (l : Nat) : Nat := st.fld .lace l 5 31 24
def Struct.ocTrip (st : Struct) (l : Nat) : Nat := st.fld .lace l 5 23 16
def Struct.senseAvg (st : Struct) (l : Nat) : Nat := st.fld .lace l 5 15 8

/-- A voltage drive (R121). -/
def isVoltageDrive (d : Nat) : Bool := d == 1 || d == 2

/-- A pulse or current drive (R49: DC_I, SINE_I or PULSE_I). -/
def isCurrentDrive (d : Nat) : Bool := d == 3 || d == 4 || d == 5

/-- The commanded amplitude in the unit of LACE_SENSE_AMP: µV for a voltage drive, µA for a current drive (R121, R136). -/
def Struct.commandedAmp (st : Struct) (l : Nat) : Nat :=
  if isVoltageDrive (st.drive l) then st.vAmp l * 1000 else st.iAmp l * 10

/-- The sense interval in modulator clocks of 12.8 MHz (R124). -/
def Struct.senseClocks (st : Struct) (l : Nat) : Nat :=
  match st.drive l with
  | 2 => st.freqDiv l
  | 4 => st.freqDiv l
  | 5 => st.pulsePeriod l
  | _ => 1280

/-- A number of 12.8 MHz clocks in ticks of 5 ns: one clock is 15.625 ticks. -/
def clockTicks (n : Nat) : Nat := n * 125 / 8

/-- The sense interval in ticks. -/
def Struct.senseTicks (st : Struct) (l : Nat) : Nat := clockTicks (st.senseClocks l)

/-! ### The synthesiser (R122, R123); `m` counts 12.8 MHz modulator clocks since network time 0 -/

/-- A sine drive (R121). -/
def isSine (d : Nat) : Bool := d == 2 || d == 4

/-- The phase of R122 in 1/(48 n) of a turn: ((m mod n) / n) × 360° + l × 7.5°. -/
def Struct.sineTurn (st : Struct) (l m : Nat) : Nat := m % st.freqDiv l * 48 + l * st.freqDiv l

/-- A pulse begins at clock `m` (R123). -/
def Struct.pulseBegins (st : Struct) (l m : Nat) : Bool :=
  let o := l * st.pulsePeriod l / 48
  decide (((m : Int) - o) % (st.pulsePeriod l : Int) = 0)

/-- The output is at its pulse top at clock `m`: a pulse of `pulse_width` clocks began in the period (R123). -/
def Struct.pulseTop (st : Struct) (l m : Nat) : Bool :=
  let o := l * st.pulsePeriod l / 48
  decide (((m : Int) - o) % (st.pulsePeriod l : Int) < st.pulseWidth l)

/-! ### Look sequences (R159) -/

/-- The sequence record that a spoke or auxiliary look ID (0 to 13,055) belongs to, and the look's number (R156). -/
def seqOf (stream : Nat) : RecKind × Nat × Nat :=
  if stream < 12288 then (.lookSeq, stream / 16, stream % 16) else (.auxSeq, (stream - 12288) / 16, stream % 16)

/-- Field of word 1, 2 or 3 + 3n of a look's entry. -/
def Struct.entry (st : Struct) (stream w hi lo : Nat) : Nat :=
  st.fld (seqOf stream).1 (seqOf stream).2.1 (w + 3 * (seqOf stream).2.2) hi lo

def isAux (stream : Nat) : Bool := decide (12288 ≤ stream)

/-- `looks` of the look's sequence. -/
def Struct.looks (st : Struct) (stream : Nat) : Nat := st.fld (seqOf stream).1 (seqOf stream).2.1 0 31 27
def Struct.lowPower (st : Struct) (stream : Nat) : Bool := !isAux stream && st.fld .lookSeq (stream / 16) 0 26 26 == 1
def Struct.single (st : Struct) (stream : Nat) : Bool := st.entry stream 1 31 31 == 1
def Struct.osr (st : Struct) (stream : Nat) : Nat := 32 * 2 ^ st.entry stream 1 30 27
def Struct.startGear (st : Struct) (stream : Nat) : Nat := st.entry stream 1 25 24
def Struct.gearCount (st : Struct) (stream : Nat) : Nat := st.entry stream 1 23 22 + 1
def Struct.gearCode (st : Struct) (stream g : Nat) : Nat := st.entry stream 1 (21 - 4 * g) (18 - 4 * g)
def Struct.auxPoint (st : Struct) (stream : Nat) : Nat := st.entry stream 1 21 18
def Struct.owTest (st : Struct) (stream : Nat) : Bool := st.entry stream 1 5 5 == 1
def Struct.dwellUnit (st : Struct) (stream : Nat) : Nat := st.entry stream 1 4 4
def Struct.dwell (st : Struct) (stream : Nat) : Nat := st.entry stream 2 31 16
def Struct.discard (st : Struct) (stream : Nat) : Nat := st.entry stream 2 15 8
def Struct.every (st : Struct) (stream : Nat) : Nat := st.entry stream 2 7 0
def Struct.isrcUa (st : Struct) (stream : Nat) : Nat := st.entry stream 3 31 22
def Struct.isrcPol (st : Struct) (stream : Nat) : Nat := st.entry stream 3 21 20
def Struct.shunt (st : Struct) (stream : Nat) : Nat := st.entry stream 3 19 17

/-- A look exists when its number is below `looks` (R144, R156). -/
def Struct.lookExists (st : Struct) (stream : Nat) : Bool :=
  decide (stream < 13056) && decide ((seqOf stream).2.2 < st.looks stream)

/-- The mode of the look's spoke; an auxiliary look has none (0 only for OFF spokes, so 1 stands for it). -/
def Struct.lookMode (st : Struct) (stream : Nat) : Nat := if isAux stream then 1 else st.mode (stream / 16)

/-- A look runs when it exists and its spoke is not OFF (R92, R144). -/
def Struct.lookRuns (st : Struct) (stream : Nat) : Bool := st.lookExists stream && decide (st.lookMode stream ≠ 0)

/-- A sequence of two or more looks (R147). -/
def Struct.multiLook (st : Struct) (stream : Nat) : Bool := decide (2 ≤ st.looks stream)

/-- The look shifts gear: `autorange`, two or more gears, no CHARGE look (R100, R101). -/
def Struct.autoranges (st : Struct) (stream : Nat) : Bool :=
  !isAux stream && st.entry stream 1 26 26 == 1 && decide (2 ≤ st.gearCount stream) && decide (st.mode (stream / 16) ≠ 4)

/-- REV mode of the current source (R98). -/
def Struct.rev (st : Struct) (stream : Nat) : Bool := !isAux stream && st.isrcPol stream == 3

/-! ### Chains and curves (R181, R202) -/

/-- The chain record that names a stream with a type other than UNUSED, if any (R181). -/
def Struct.chainOf (st : Struct) (stream : Nat) : Option Nat :=
  (st.chain.find? (fun e => decide ((e.2.getD 0 0).field 31 30 ≠ 0) && (e.2.getD 0 0).field 13 0 == stream)).map (·.1)

def Struct.chainType (st : Struct) (stream : Nat) : Nat :=
  match st.chainOf stream with | none => 0 | some c => st.fld .chain c 0 31 30
def Struct.minPhase (st : Struct) (stream : Nat) : Bool :=
  match st.chainOf stream with | none => false | some c => st.fld .chain c 0 29 29 == 1
def Struct.isFir (st : Struct) (stream : Nat) : Bool := st.chainType stream == 2
def Struct.isRank (st : Struct) (stream : Nat) : Bool := st.chainType stream == 3
def Struct.coefBase (st : Struct) (stream : Nat) : Nat :=
  match st.chainOf stream with | none => 0 | some c => st.fld .chain c 1 31 16
/-- N of a FIR; 1 without one (R178). -/
def Struct.taps (st : Struct) (stream : Nat) : Nat :=
  match st.chainOf stream with
  | none => 1
  | some c => if st.fld .chain c 0 31 30 = 2 then st.fld .chain c 1 9 0 else 1
/-- The codes 0 to 5 of `decim`. -/
def decimOf (code : Nat) : Nat :=
  match code with | 1 => 2 | 2 => 4 | 3 => 5 | 4 => 8 | 5 => 10 | _ => 1
/-- D of a FIR; 1 without one (R172). -/
def Struct.decim (st : Struct) (stream : Nat) : Nat :=
  match st.chainOf stream with
  | none => 1
  | some c => if st.fld .chain c 0 31 30 = 2 then decimOf (st.fld .chain c 2 31 28) else 1
def Struct.rankW (st : Struct) (stream : Nat) : Nat :=
  match st.chainOf stream with | none => 1 | some c => if st.fld .chain c 0 31 30 = 3 then st.fld .chain c 2 21 16 else 1
def Struct.rankR (st : Struct) (stream : Nat) : Nat :=
  match st.chainOf stream with | none => 0 | some c => st.fld .chain c 2 13 8
def Struct.firDelay (st : Struct) (stream : Nat) : Nat :=
  match st.chainOf stream with | none => 0 | some c => st.fld .chain c 3 8 0

/-- The CURVE record that names a stream, if any (R202, R203). -/
def Struct.curveOf (st : Struct) (stream : Nat) : Option Nat :=
  (st.curve.find? (fun e => (e.2.getD 0 0).field 31 30 == 1 && (e.2.getD 0 0).field 13 0 == stream)).map (·.1)
def Struct.curveNo (st : Struct) (stream : Nat) : Nat :=
  match st.curveOf stream with | none => 0 | some i => st.fld .curve i 0 27 22
/-- Parameter p1 to p7 of a stream's CURVE record. -/
def Struct.curveP (st : Struct) (stream p : Nat) : Word :=
  match st.curveOf stream with | none => 0 | some i => st.word .curve i p

/-! ### Rate and index of a look (R75, R147 to R150) -/

/-- Twice one modulator clock c in 2^-16 ns: c is 78.125 ns, or 312.5 ns in low-power mode. -/
def Struct.clk2 (st : Struct) (stream : Nat) : Nat := if st.lowPower stream then 40960000 else 10240000
/-- One modulator clock in 2^-16 ns. -/
def Struct.clk (st : Struct) (stream : Nat) : Nat := st.clk2 stream / 2
/-- Modulator clocks of one epoch (R149). -/
def Struct.epochClocks (st : Struct) (stream : Nat) : Nat := if st.lowPower stream then 4096000 else 16384000
/-- P_s2 in 2^-16 ns. -/
def Struct.ps2 (st : Struct) (stream : Nat) : Nat := st.osr stream * st.clk stream
/-- S: five in single-cycle settling mode (R75). -/
def Struct.settle (st : Struct) (stream : Nat) : Nat := if st.single stream then 5 else 1
/-- P_out in 2^-16 ns (R172, R169). -/
def Struct.pOut (st : Struct) (stream : Nat) : Nat := st.ps2 stream * st.settle stream * st.decim stream

/-- L_n of a look's slot, in its modulator clocks (R147). -/
def Struct.slotClocks (st : Struct) (stream : Nat) : Nat :=
  if st.dwellUnit stream = 0 then (st.discard stream + st.dwell stream) * 5 * st.osr stream
  else st.dwell stream * (if st.lowPower stream then 320 else 1280)
/-- N_n, the samples of a run (R147). -/
def Struct.runSamples (st : Struct) (stream : Nat) : Nat :=
  if st.dwellUnit stream = 0 then st.dwell stream
  else st.slotClocks stream / (5 * st.osr stream) - st.discard stream
/-- The first look ID of a look's sequence. -/
def firstLook (stream : Nat) : Nat := stream / 16 * 16
/-- T_pass in modulator clocks (R148). -/
def Struct.passClocks (st : Struct) (stream : Nat) : Nat :=
  forEach (numbersFrom (firstLook stream) (st.looks stream)) 0 (fun n i => n + st.slotClocks i)
/-- Clocks of the slots before a look's slot in its pass. -/
def Struct.slotStart (st : Struct) (stream : Nat) : Nat :=
  forEach (numbersFrom (firstLook stream) (stream - firstLook stream)) 0 (fun n i => n + st.slotClocks i)

/-- Samples per cadence epoch, w3 of the block header (R18, R150); 0 for a sequence that breaks R75 or R149. -/
def Struct.w3 (st : Struct) (stream : Nat) : Nat :=
  if st.multiLook stream then st.runSamples stream * st.epochClocks stream / (st.passClocks stream * st.every stream)
  else Config.epochNs * 65536 / st.pOut stream

/-- The represented instant of index `k` as a fine time in 2^-16 ns: k × P on the grid of R17 (R18), or the centre of the word's
window in a multi-look sequence (R151). -/
def Struct.instantOf (st : Struct) (stream k : Nat) : Nat :=
  if st.multiLook stream then
    let n := st.runSamples stream
    let pass := k / n * st.every stream
    let start := pass * st.passClocks stream + st.slotStart stream
    (start * 2 + (2 * (k % n + st.discard stream) + 1) * 5 * st.osr stream) * st.clk2 stream / 4
  else k * st.pOut stream

/-- The first index whose represented instant lies at or after a fine time. -/
def Struct.indexAt (st : Struct) (stream t : Nat) : Nat :=
  if st.multiLook stream then
    -- the pass that holds t, then the first sample of it or of a later one
    let per := st.runSamples stream
    let passes := t / (st.passClocks stream * st.clk stream) / st.every stream
    let k0 := passes * per
    k0 + ((numbersFrom k0 per).takeWhile (fun k => decide (st.instantOf stream k < t))).length
  else ceilDiv t (st.pOut stream)

/-! ### Delay and kernel (R164, R177, R178); all in 2^-16 ns -/

/-- The part of τ that stage 9 adds (R178). -/
def Struct.stage9 (st : Struct) (stream : Nat) : Nat :=
  if st.isFir stream then
    (if st.minPhase stream then st.firDelay stream * st.ps2 stream else (st.taps stream - 1) * st.ps2 stream / 2)
  else if st.isRank stream then (st.rankW stream - 1) * st.pOut stream / 2
  else 0

/-- Twice the delay of the compensation stage in periods P_s2: 35, 7 or 5 halves (R177). -/
def Struct.compHalves (st : Struct) (stream : Nat) : Nat :=
  if st.single stream then 5 else if st.minPhase stream then 7 else 35

/-- The forward span F (R177: F = τ − 43 c − 520 ns of a spoke look, τ − 3 c − 520 ns of an auxiliary one, so −2.5 c in both). -/
def Struct.fwd (st : Struct) (stream : Nat) : Nat :=
  st.compHalves stream * st.ps2 stream / 2 + st.stage9 stream - 5 * st.clk2 stream / 4

/-- A of R177, in ns. -/
def Struct.tauA (st : Struct) (stream : Nat) : Nat := if isAux stream then 559 else if st.lowPower stream then 13176 else 3684

/-- The disclosed group delay τ (R177, R178), with A as R177 states it. -/
def Struct.tau (st : Struct) (stream : Nat) : Nat :=
  st.compHalves stream * st.ps2 stream / 2 + st.stage9 stream + st.tauA stream * 65536 + (if st.rev stream then 5 * st.ps2 stream / 2 else 0)

/-- The kernel span B + F: (34 + N) P_s2 − 4 c of a continuous look (R178), 5 P_s2 − 3 c of a single-cycle one (R171), more
through a rank window and in REV mode (R98). -/
def Struct.kernelSpan (st : Struct) (stream : Nat) : Nat :=
  (if st.single stream then 5 * st.ps2 stream - 3 * st.clk stream else (34 + st.taps stream) * st.ps2 stream - 4 * st.clk stream)
    + (if st.isRank stream then (st.rankW stream - 1) * st.pOut stream else 0)
    + (if st.rev stream then 5 * st.ps2 stream else 0)

/-- The back span B (R164). -/
def Struct.back (st : Struct) (stream : Nat) : Nat := st.kernelSpan stream - st.fwd stream

/-- Half the rank window in samples (R175); 0 without one. -/
def Struct.rankHalf (st : Struct) (stream : Nat) : Nat := if st.isRank stream then (st.rankW stream - 1) / 2 else 0

/-- The clock after the last of the kernel of the word at fine instant `t`, without a rank window. R164 gives the kernel's end, which falls on a half
clock (R177: F holds −2.5 c); the modulator clock in which it falls is the kernel's last (log entry 36, DESIGN CHOICE). -/
def Struct.kernelEnd (st : Struct) (stream t : Nat) : Nat :=
  ceilDiv (t + (st.fwd stream - st.rankHalf stream * st.pOut stream)) (st.clk stream)

/-- The first clock of the run that holds clock `m` in a multi-look sequence, and the clock after its last. -/
def Struct.runAt (st : Struct) (stream m : Nat) : Nat × Nat :=
  let start := m / st.passClocks stream * st.passClocks stream + st.slotStart stream
  (start, start + st.slotClocks stream)

/-- The clock after the last of the run that holds clock `m`, for which a time-based slot may leave an idle rest (R147). -/
def Struct.runEnd (st : Struct) (stream m : Nat) : Nat := (st.runAt stream m).1 + (st.discard stream + st.runSamples stream) * 5 * st.osr stream

/-- Stage-1 word `w` lies in a run: not in the idle rest of a time-based slot (R147). -/
def Struct.inRun (st : Struct) (stream w : Nat) : Bool := !st.multiLook stream || decide (8 * w + 37 < st.runEnd stream (8 * w + 37))

/-- Stage-1 word `w` is the last that a stage-2 word of the look takes (R100, R163, R168): every OSR clocks, and five times that in single-cycle settling mode
(R169). -/
def Struct.endsStageTwo (st : Struct) (stream w : Nat) : Bool :=
  let from_ : Nat := if st.multiLook stream then (st.runAt stream (8 * w + 37)).1 - st.slotStart stream else 0
  decide (((8 * w + 38 : Int) - (from_ : Int) - (st.kernelEnd stream (st.instantOf stream 0) : Int)) % (st.settle stream * st.osr stream : Nat) = 0)

/-- U of R179. -/
def Struct.unsettledAfter (st : Struct) (stream : Nat) : Nat :=
  let n := st.taps stream
  let d := st.decim stream
  let w := st.rankW stream
  if st.single stream then (if st.isRank stream then (w + 1) / 2 else 1)
  else if st.isFir stream then
    (if st.minPhase stream then ceilDiv (61 + 2 * n - 2 * st.firDelay stream) (2 * d) else ceilDiv (n + 34) (2 * d))
  else if st.isRank stream then (if st.minPhase stream then (w + 63) / 2 else (w + 35) / 2)
  else if st.minPhase stream then 32 else 18

/-- V of R179. -/
def Struct.unsettledBefore (st : Struct) (stream : Nat) : Nat :=
  let d := st.decim stream
  let w := st.rankW stream
  if st.single stream then (if st.isRank stream then (w - 1) / 2 else 0)
  else if st.isFir stream then
    (if st.minPhase stream then (7 + 2 * st.firDelay stream) / (2 * d) else st.unsettledAfter stream - 1)
  else if st.isRank stream then (if st.minPhase stream then (w + 5) / 2 else (w + 33) / 2)
  else if st.minPhase stream then 3 else 17

/-! ### F_SWITCH (R228) and F_TRIGGER (R229) -/

def Struct.swDir (st : Struct) (i : Nat) : Nat := st.fld .switch i 0 31 30
def Struct.swEnable (st : Struct) (i : Nat) : Bool := st.fld .switch i 0 29 29 == 1
def Struct.swAmbient (st : Struct) (i : Nat) : Bool := st.fld .switch i 0 28 28 == 1
def Struct.swDwell (st : Struct) (i : Nat) : Nat := st.fld .switch i 0 27 12
def Struct.swMask (st : Struct) (i : Nat) : Nat := st.fld .switch i 1 31 16
def Struct.swQ (st : Struct) (i : Nat) : Nat := st.fld .switch i 1 15 8 % 64
def Struct.swNotify (st : Struct) (i : Nat) : Bool := st.fld .switch i 1 7 7 == 1
def Struct.swLevel (st : Struct) (i : Nat) : Word := st.word .switch i 2
def Struct.swHyst (st : Struct) (i : Nat) : Word := st.word .switch i 3
def Struct.swAmbPct (st : Struct) (i : Nat) : Nat := st.fld .switch i 9 31 18

def Struct.trEnable (st : Struct) (u : Nat) : Bool := st.fld .trigger u 0 31 31 == 1
def Struct.trCombine (st : Struct) (u : Nat) : Nat := st.fld .trigger u 0 30 29
def Struct.trK (st : Struct) (u : Nat) : Nat := st.fld .trigger u 0 28 25
def Struct.trSources (st : Struct) (u : Nat) : Nat := st.fld .trigger u 0 24 21
def Struct.trPickLast (st : Struct) (u : Nat) : Bool := st.fld .trigger u 0 20 20 == 1
def Struct.trPolicy (st : Struct) (u : Nat) : Nat := st.fld .trigger u 0 19 18
def Struct.trFwUnit (st : Struct) (u : Nat) : Nat := st.fld .trigger u 0 17 16
def Struct.trQ (st : Struct) (u : Nat) : Nat := st.fld .trigger u 0 15 8 % 64
def Struct.trGroup (st : Struct) (u : Nat) : Nat := st.fld .trigger u 0 7 0
def Struct.trCoincUs (st : Struct) (u : Nat) : Nat := (st.word .trigger u 1).toNat
def Struct.trFwValue (st : Struct) (u : Nat) : Nat := (st.word .trigger u 2).toNat
def Struct.trPreUs (st : Struct) (u : Nat) : Nat := (st.word .trigger u 3).toNat
def Struct.trPostUs (st : Struct) (u : Nat) : Nat := (st.word .trigger u 4).toNat
def Struct.trExtCapUs (st : Struct) (u : Nat) : Nat := (st.word .trigger u 5).toNat
def Struct.trRecSet (st : Struct) (u : Nat) : Nat := st.fld .trigger u 6 31 20
def Struct.trIoOut (st : Struct) (u : Nat) : Bool := st.fld .trigger u 6 19 19 == 1
def Struct.trIoPin (st : Struct) (u : Nat) : Nat := st.fld .trigger u 6 18 16
def Struct.trRange (st : Struct) (u w : Nat) : List Nat :=
  (List.range (st.fld .trigger u w 17 7)).map (fun i => st.fld .trigger u w 31 18 + i * st.fld .trigger u w 6 0)
/-- The stream set: range A, then range B without what range A names (R218). -/
def Struct.trStreams (st : Struct) (u : Nat) : List Nat :=
  let a := st.trRange u 7
  a ++ (st.trRange u 8).filter (fun i => !a.contains i)
def Struct.trSchedStart (st : Struct) (u : Nat) : Nat := (st.word .trigger u 9).toNat + (st.word .trigger u 10).toNat * 2 ^ 32
def Struct.trSchedMs (st : Struct) (u : Nat) : Nat := (st.word .trigger u 11).toNat
def Struct.srcType (st : Struct) (u k : Nat) : Nat := st.fld .trigger u (12 + k) 31 28
def Struct.srcArg (st : Struct) (u k : Nat) : Nat := st.fld .trigger u (12 + k) 15 0

/-! ### F_STALL and F_STREAM (R260, R261) -/

def Struct.stallKind (st : Struct) (k : Nat) : Nat := st.fld .stall k 0 31 30
def Struct.pages (st : Struct) (k : Nat) : Nat := st.fld .stall k 0 17 0
def Struct.stallQ (st : Struct) (k : Nat) : Nat := st.fld .stall k 1 31 24 % 64
def Struct.basePage (st : Struct) (k : Nat) : Nat := st.fld .stall k 1 17 0
def Struct.pinShare (st : Struct) (k : Nat) : Nat := st.fld .stall k 2 31 24
/-- Watermark 0 warn, 1 crit: per cent of `pages`. -/
def Struct.wmPct (st : Struct) (k i : Nat) : Nat := if i = 0 then st.fld .stall k 2 23 16 else st.fld .stall k 2 15 8
def Struct.maxAgeS (st : Struct) (k : Nat) : Nat := (st.word .stall k 3).toNat
def Struct.stored (st : Struct) (i : Nat) : Bool := st.fld .stream i 0 31 31 == 1
/-- `dest`: 0 LOCAL, 1 RIM, 2 HOST. -/
def Struct.dest (st : Struct) (i : Nat) : Nat := st.fld .stream i 0 30 29
def Struct.stallOf (st : Struct) (i : Nat) : Nat := st.fld .stream i 0 27 16
def Struct.streamRing (st : Struct) (i : Nat) : Nat := st.fld .stream i 0 15 8 % 64
def Struct.streamQ (st : Struct) (i : Nat) : Nat := st.fld .stream i 1 31 24 % 64
/-- A sent stream: stored, with `dest` RIM or HOST (R240). -/
def Struct.sent (st : Struct) (i : Nat) : Bool := st.stored i && decide (st.dest i ≠ 0)
/-- The stream assigned to a stall of kind STREAM, if any (R237). -/
def Struct.streamIn (st : Struct) (k : Nat) : Option Nat :=
  (st.stream.find? (fun e => (e.2.getD 0 0).flag 31 && (e.2.getD 0 0).field 27 16 == k)).map (·.1)

/-! ### F_QUEUE, F_FAULT_WINDOW, F_RIM, F_TANDEM, F_COMPRESS (R402, R465, R332, R378, R305) -/

def Struct.queueDrain (st : Struct) (q : Nat) : Drain :=
  match st.fld .queue q 0 30 28 with | 0 => .journal | 1 => .spi | 2 => .ring | 3 => .rim | _ => .reserved
def Struct.queuePrio (st : Struct) (q : Nat) : Nat := st.fld .queue q 0 27 24
def Struct.queueAlarm (st : Struct) (q : Nat) : Bool := st.fld .queue q 0 23 23 == 1
def Struct.queueRing (st : Struct) (q : Nat) : Nat := st.fld .queue q 0 21 16

def Struct.winEnable (st : Struct) (w : Nat) : Bool := st.fld .window w 0 31 31 == 1
def Struct.winClass (st : Struct) (w : Nat) : Nat := st.fld .window w 0 30 27
def Struct.winAction (st : Struct) (w : Nat) : Nat := st.fld .window w 0 26 24
def Struct.winAny (st : Struct) (w : Nat) : Bool := st.fld .window w 0 23 23 == 1
def Struct.winRearm (st : Struct) (w : Nat) : Bool := st.fld .window w 0 22 22 == 1
def Struct.winQ (st : Struct) (w : Nat) : Nat := st.fld .window w 0 15 8 % 64
def Struct.winInstance (st : Struct) (w : Nat) : Nat := st.fld .window w 1 31 16
def Struct.winThresh (st : Struct) (w : Nat) : Nat := st.fld .window w 1 7 0
def Struct.winMs (st : Struct) (w : Nat) : Nat := (st.word .window w 2).toNat

/-! ### F_RIM (R332), F_TANDEM (R378), F_COMPRESS (R305) -/

def Struct.bulkW (st : Struct) : Bool := st.fld .rim 0 0 31 31 == 1
def Struct.preEnable (st : Struct) (p : Port) : Bool := st.fld .rim 0 0 (match p with | .e => 30 | .w => 29) (match p with | .e => 30 | .w => 29) == 1
def Struct.frag (st : Struct) : Nat := st.fld .rim 0 0 28 27
def Struct.verifyOff (st : Struct) : Bool := st.fld .rim 0 0 26 26 == 1
/-- RS-FEC of lane x: `fec_e`, `fec_w`; always on for the tandem lanes (R337). -/
def Struct.laneFec (st : Struct) (x : Nat) : Bool :=
  if x = 0 then st.fld .rim 0 0 25 25 == 1 else if x = 1 then st.fld .rim 0 0 24 24 == 1 else true
/-- 10.3125 Gb/s on lane x: `rate_e`, `rate_w`. -/
def Struct.laneRate10 (st : Struct) (x : Nat) : Bool :=
  if x = 0 then st.fld .rim 0 0 23 23 == 1 else if x = 1 then st.fld .rim 0 0 22 22 == 1 else false
def Struct.enumOk (st : Struct) : Bool := st.fld .rim 0 0 21 21 == 1
def Struct.rimQ (st : Struct) : Nat := st.fld .rim 0 0 15 8 % 64
def Struct.expressQ (st : Struct) : Nat := st.fld .rim 0 0 7 0
def Struct.ctlRtoUs (st : Struct) : Nat := st.fld .rim 0 1 31 16
def Struct.ctlTries (st : Struct) : Nat := st.fld .rim 0 1 15 8
def Struct.ctlWindow (st : Struct) : Nat := st.fld .rim 0 1 7 0
def Struct.bulkRtoMs (st : Struct) : Nat := st.fld .rim 0 2 31 16
def Struct.reachUs (st : Struct) : Nat := st.fld .rim 0 2 15 0
def Struct.grantDefault (st : Struct) : Nat := (st.word .rim 0 3).toNat

def Struct.tandemOn (st : Struct) : Bool := st.fld .tandem 0 0 31 31 == 1
def Struct.tandemQ (st : Struct) : Nat := st.fld .tandem 0 0 15 8 % 64
def Struct.agreeTol (st : Struct) : Nat := st.fld .tandem 0 1 31 16
def Struct.agreeN (st : Struct) : Nat := st.fld .tandem 0 1 15 8
def Struct.agreeEn (st : Struct) : Bool := st.fld .tandem 0 1 7 7 == 1

/-! ### F_COMPRESS (R305) and F_REDUCER (R283) -/

def Struct.cmpPlain (st : Struct) (i : Nat) : Bool := st.fld .compress i 0 31 30 == 1
def Struct.predMask (st : Struct) (i : Nat) : Nat := st.fld .compress i 0 29 25
def Struct.keyEvery (st : Struct) (i : Nat) : Nat := st.fld .compress i 0 24 16
def Struct.neighbour (st : Struct) (i : Nat) : Nat := st.fld .compress i 0 13 0

def Struct.jobs (st : Struct) (e : Nat) : Nat := st.fld .reducer e 0 31 27
def Struct.engineQ (st : Struct) (e : Nat) : Nat := st.fld .reducer e 0 23 16 % 64
/-- Word `w` of job slot `k % 16` of engine `k / 16`. -/
def Struct.jobWord (st : Struct) (k w : Nat) : Word := st.word .reducer (k / 16) (4 + 16 * (k % 16) + w)
def Struct.jobFld (st : Struct) (k w hi lo : Nat) : Nat := (st.jobWord k w).field hi lo
/-- The job's kind; 0 for a slot at or above `jobs` (R265, R283). -/
def Struct.jobKind (st : Struct) (k : Nat) : Nat := if k % 16 < st.jobs (k / 16) then st.jobFld k 0 31 29 else 0
def Struct.cumulative (st : Struct) (k : Nat) : Bool := st.jobFld k 0 28 28 == 1
def Struct.qShift (st : Struct) (k : Nat) : Int := signedOf 6 (st.jobFld k 0 27 22)
def Struct.outStream (st : Struct) (k : Nat) : Nat := st.jobFld k 0 17 4
def Struct.jobRange (st : Struct) (k w : Nat) : List Nat :=
  (List.range (st.jobFld k w 17 7)).map (fun i => st.jobFld k w 31 18 + i * st.jobFld k w 6 0)
/-- The job's inputs: range A, then range B (R266). -/
def Struct.inputs (st : Struct) (k : Nat) : List Nat := st.jobRange k 1 ++ st.jobRange k 2
/-- The interval length L in ns (R269). -/
def Struct.ivlNs (st : Struct) (k : Nat) : Nat := st.jobFld k 3 31 8 * 10000000
def Struct.jobLo (st : Struct) (k : Nat) : Word := st.jobWord k 4
def Struct.jobHi (st : Struct) (k : Nat) : Word := st.jobWord k 5
def Struct.rangeMax (st : Struct) (k : Nat) : Word := st.jobWord k 6
def Struct.gate (st : Struct) (k : Nat) : Word := st.jobWord k 7
def Struct.fftN (st : Struct) (k : Nat) : Nat := 256 * 2 ^ st.jobFld k 8 31 28
def Struct.binLo (st : Struct) (k : Nat) : Nat := st.jobFld k 8 27 14
def Struct.nBins (st : Struct) (k : Nat) : Nat := st.jobFld k 8 13 0
def Struct.avg (st : Struct) (k : Nat) : Nat := st.jobFld k 9 31 16
def Struct.maxPeaks (st : Struct) (k : Nat) : Nat := st.jobFld k 9 15 0

/-- The job that writes a reducer output stream, if any (R265). -/
def Struct.jobOf (st : Struct) (stream : Nat) : Option Nat :=
  (List.range 256).find? (fun k => decide (st.jobKind k ≠ 0) && st.outStream k == stream)

/-- A stream exists: its look is one of its sequence's (R144, R156), or a reducer job has it for its output. -/
def Struct.streamExists (st : Struct) (stream : Nat) : Bool :=
  if stream < 13056 then st.lookExists stream else (st.jobOf stream).isSome

/-- A stream has samples or records to come: its look runs, which no look of an OFF spoke does (R92), or a reducer job has it for its output. -/
def Struct.streamRuns (st : Struct) (stream : Nat) : Bool :=
  if stream < 13056 then st.lookRuns stream else (st.jobOf stream).isSome

/-! ### Command items (R382, R387) -/

/-- Field of `op_a`. -/
def CmdItem.a (c : CmdItem) (hi lo : Nat) : Nat := c.opA.field hi lo
/-- Field of `op_b`. -/
def CmdItem.b (c : CmdItem) (hi lo : Nat) : Nat := bitsOf c.opB.toNat hi lo

/-- A command item from its four words (R382: `op_b` low word first). -/
def itemOfWords (m : Master) (w : ItemWords) (service : Bool) : CmdItem :=
  { master := m, cseq := BitVec.ofNat 16 (w.w0.field 31 16), tag := BitVec.ofNat 8 (w.w0.field 15 8)
    opcode := BitVec.ofNat 8 (w.w0.field 7 0), opA := w.w1
    opB := BitVec.ofNat 64 (w.w2.toNat + w.w3.toNat * 2 ^ 32), service := service, base := 0 }

/-- The four words of a command item (R382). -/
def wordsOfItem (c : CmdItem) : ItemWords :=
  { w0 := wordOf (c.cseq.toNat * 2 ^ 16 + c.tag.toNat * 2 ^ 8 + c.opcode.toNat), w1 := c.opA
    w2 := wordOf (bitsOf c.opB.toNat 31 0), w3 := wordOf (bitsOf c.opB.toNat 63 32) }

/-- The fields of `op_a` and `op_b` that R387, R437, R455 and R479 assign to an opcode; every other bit is reserved (R382). -/
def operandFields (op : Nat) : List (Nat × Nat) × List (Nat × Nat) :=
  match op with
  | 0x10 => ([(31, 31), (3, 0)], []) | 0x11 => ([(1, 0)], [(63, 0)]) | 0x13 => ([(3, 0)], []) | 0x18 => ([], [(63, 0)])
  | 0x20 => ([(9, 0)], []) | 0x21 => ([(5, 0)], []) | 0x28 => ([(5, 0)], [(63, 0)]) | 0x29 => ([(5, 0)], [])
  | 0x30 => ([(31, 20), (1, 0)], [(47, 0)]) | 0x31 => ([(31, 20), (1, 0)], []) | 0x32 => ([(31, 0)], [(47, 0)])
  | 0x33 => ([(31, 20)], [(31, 0)]) | 0x34 => ([(13, 0)], [(47, 0)]) | 0x35 => ([(31, 20), (19, 19), (5, 0)], [(31, 0)])
  | 0x38 => ([(7, 0)], []) | 0x39 => ([(7, 0)], []) | 0x40 => ([(31, 31), (13, 0)], []) | 0x41 => ([(13, 0)], [])
  | 0x42 => ([(13, 0)], []) | 0x48 => ([(31, 31), (11, 0)], []) | 0x49 => ([(1, 0)], [])
  | 0x4A => ([(31, 30), (23, 16), (3, 0)], []) | 0x4B => ([(31, 30), (23, 16), (3, 0)], [(63, 0)])
  | 0x58 => ([], [(63, 0)]) | 0x59 => ([(15, 0)], []) | 0x5A => ([(31, 0)], []) | 0x5B => ([(31, 0)], [(31, 0)])
  | 0x60 => ([(31, 0)], [(33, 0)]) | 0x61 => ([(9, 8), (6, 0)], []) | 0x62 => ([(31, 6)], [(33, 6)])
  | 0x63 => ([(31, 6)], [(33, 6)]) | 0x64 => ([(31, 30), (6, 0)], [(63, 0)]) | 0x68 => ([(9, 0)], [])
  | 0x69 => ([(14, 0)], [(27, 16), (9, 0)]) | 0x6A => ([(5, 0)], []) | 0x70 => ([(31, 31), (23, 0)], [(63, 0)])
  | 0x71 => ([(0, 0)], []) | 0x75 => ([(24, 0)], [])
  | _ => ([], [])

/-- The number with the listed fields alone. -/
def onlyFields (fs : List (Nat × Nat)) (n : Nat) : Nat := fs.foldl (fun acc f => acc + bitsOf n f.1 f.2 * 2 ^ f.2) 0

/-- No reserved operand bit of the item is set (R12, R382). -/
def CmdItem.reservedClear (c : CmdItem) : Bool :=
  let f := if c.opcode = 0x70 ∧ c.a 31 31 = 1 then ([(31, 31), (23, 0)], [(47, 32), (24, 0)])
    else if c.opcode = 0x64 ∧ c.a 31 31 = 1 then ([(31, 30), (6, 0)], [(33, 3)])
    else operandFields c.opcode.toNat
  decide (onlyFields f.1 c.opA.toNat = c.opA.toNat) && decide (onlyFields f.2 c.opB.toNat = c.opB.toNat)

/-- Bytes of the scratchpad (R427). -/
def padBytes : Nat := 0x2000000

/-- The scratchpad source of `UPDATE_DATA`: address and length in bytes, where they are legal. -/
def CmdItem.updateSource (c : CmdItem) : Option (Nat × Nat) :=
  let a := c.b 24 0
  let n := c.b 47 32 * 64
  let inside := (decide (0x1E00000 ≤ a) && decide (a + n ≤ padBytes)) || decide (a + n ≤ 0x400000)
  if a % 64 = 0 ∧ 0 < n ∧ n ≤ 32768 * 64 ∧ inside then some (a, n) else none

/-- The number m of a master (00_scope R7). -/
def masterNum : Master → Nat
  | .spi => 0 | .pcie => 1 | .rim => 2 | .tandem => 3

/-- The master of a number m. -/
def masterOf (m : Nat) : Master :=
  match m with | 0 => .spi | 1 => .pcie | 2 => .rim | _ => .tandem

end Sys2Proof.Machine
end

