-- ==== Sys2Proof/Decode.lean ====
section
/-! DEFINITION. Decoding. The block has no instruction words: no row of the command table gives bits, so `decodeTableWord` reads
none. A command of the command set does arrive as four words (R382): `Machine.decodeItem` reads them and `Machine.encodeItem` writes
them. -/

namespace Sys2Proof

/-- The command that a word spells by the table's bits: the table gives no row bits, so no word spells a command. -/
def decodeTableWord (_nbits _w : Nat) : Option Instr := none

/-- A command item read from its four words as written by a master (R382). -/
def Machine.decodeItem (m : Master) (service : Bool) (w : ItemWords) : Machine.CmdItem := Machine.itemOfWords m w service

/-- The four words of a command item (R382). -/
def Machine.encodeItem (c : Machine.CmdItem) : ItemWords := Machine.wordsOfItem c

end Sys2Proof
end

