-- ==== Sys2Proof/WellFormed.lean ====
section
/-! DEFINITION. Which terms of `Instr` are commands or events that the block can receive: operands within the fields that the
manual's tables give them. A term that fails a check is stopped with the fault `illFormed`. -/

namespace Sys2Proof

/-- Every listed key is below a bound. -/
def keysBelow {α : Type} (bound : Nat) (l : List (Nat × α)) : Bool := l.all (fun e => decide (e.1 < bound))

/-- A step of the skew calibration has its 50 % crossing between its two samples (R453). -/
def SkewStep.wf (x : SkewStep) : Bool := decide (x.below < 500000) && decide (500000 ≤ x.above)

/-- A calibration of a spoke measures every gear slot and every mode family, each family by 64 steps (R449, R450, R453). -/
def SpokeCal.wf (c : SpokeCal) : Bool :=
  decide (c.spoke < 768) && decide (c.slots.map SlotCal.slot = List.range 25) && c.slots.all (fun x => decide (0 < x.narrow)) &&
    decide (c.skew.map SkewCal.family = List.range 5) && c.skew.all (fun x => decide (x.steps.length = 64) && x.steps.all SkewStep.wf)

/-- The header fields of a PTP message fit their fields (R66). -/
def PtpHdr.wf (h : PtpHdr) : Bool := decide (h.domain < 256)

/-- The fields of an Announce fit theirs (R66). -/
def PtpAnnounce.wf (a : PtpAnnounce) : Bool :=
  decide (a.priority1 < 256) && decide (a.gmClass < 256) && decide (a.gmAccuracy < 256) && decide (a.gmVariance < 65536) &&
    decide (a.priority2 < 256) && decide (a.steps < 65536)

/-- A frame has the addresses and the EtherType, and a payload of at most 1,500 bytes (R314). -/
def RimFrame.wf (f : RimFrame) : Bool := decide (14 ≤ f.bytes.length) && decide (f.bytes.length ≤ 1514)

/-- A trigger broadcast fits its fields (R317). -/
def TriggerMsg.wf (m : TriggerMsg) : Bool :=
  decide (m.group < 256) && decide (m.origin < 4096) && decide (m.unit < 64) && decide (m.point < 2 ^ 64) && decide (m.frac < 65536)

/-- A heartbeat fits its fields (R371). -/
def Heartbeat.wf (h : Heartbeat) : Bool :=
  decide (h.role < 16) && decide (h.glb < 16) && decide (h.sendTime < 2 ^ 64) && decide (h.activeSince < 2 ^ 64)

/-- A section's fields fit their bits (R371); one of a reserved kind is none of those that R371 defines, and its length a multiple of 4. -/
def HbSection.wf : HbSection → Bool
  | .digest _ last commits => decide (last < 2 ^ 64) && decide (commits < 2 ^ 32)
  | .ackpos stream seq w3 => decide (stream < 16384) && decide (seq < 2 ^ 48) && decide (w3 < 2 ^ 32)
  | .mean stream seq w3 _ => decide (stream < 16384) && decide (seq < 2 ^ 48) && decide (w3 < 2 ^ 32)
  | .isrc spoke look _ => decide (spoke < 768) && decide (look < 16)
  | .reserved kind length => decide (5 < kind ∨ kind = 0) && decide (kind < 256) && decide (length % 4 = 0) && decide (length < 65536)

/-- Modulator codes lie between −2 and +2 (R140). -/
def codesWf (codes : List Int) : Bool := codes.all (fun x => decide (-2 ≤ x) && decide (x ≤ 2))

/-- The operands of a command are those of some command or event of the block. -/
def Instr.wf : Instr → Bool
  | .selftestEnd fails => fails.all (fun f => decide (1 ≤ f.step) && decide (f.step ≤ 5) && decide (f.unit < 256))
  | .calibrationEnd spokes laces refs =>
    decide (spokes.map SpokeCal.spoke = List.range 768) && spokes.all SpokeCal.wf && decide (laces.map LaceCal.lace = List.range 48) &&
      decide (refs.map RefCal.die = List.range 6)
  | .finePhaseMeasurement _ rate => decide (0 < rate)
  | .ptpSync _ hdr _ _ origin => hdr.wf && decide (0 ≤ origin)
  | .ptpFollowUp _ hdr origin => hdr.wf && decide (0 ≤ origin)
  | .ptpDelayReq _ hdr _ => hdr.wf
  | .ptpDelayResp _ hdr _ received => hdr.wf && decide (0 ≤ received)
  | .ptpAnnounce _ hdr data => hdr.wf && data.wf
  | .zdaSentence bytes => decide (bytes.length ≤ 82)
  | .vexcUpdate _ peaks => keysBelow 48 peaks
  | .dissipationUpdate estimates => keysBelow 48 estimates
  | .openWireDetect _ _ _ codes => codesWf codes
  | .sampleScaled _ codes => codesWf codes
  | .triggerFrame _ msg => msg.wf
  | .enumerate _ hop base => decide (hop < 4096) && decide (base < 4096)
  | .hello _ src _ _ => decide (src < 4096)
  | .irpFrameRx _ f => f.wf
  | .nak _ peer cls ranges => decide (peer < 4096) && decide (cls < 4) && decide (ranges.length ≤ 91)
  | .ack _ peer cls _ => decide (peer < 4096) && decide (cls < 4)
  | .commandFrame _ _ items => decide (1 ≤ items.length) && decide (items.length ≤ 92)
  | .ctlRto dst _ => decide (dst < 4096)
  | .ackSend peer => decide (peer < 4096)
  | .partnerHb _ hb secs => hb.wf && secs.all HbSection.wf
  | .spiRead _ count => decide (1 ≤ count)
  | .holdLowRead m _ both => !both || decide (m = 1)
  | .pcieMalformedAccess offset length _ => decide (offset + length ≤ 2 ^ 26)
  | .registerWrite m offset _ high =>
    (decide (offset < 2 ^ 26) || (decide (m = .pcie) && decide (offset < 2 ^ 26 + 2 ^ 16))) && decide (offset % 4 = 0) &&
      (high.isNone || (decide (m = .pcie) && decide (offset % 8 = 0)))
  | .recalibrateDone result => result.wf
  | .scratchpadRead _ _ length => decide (1 ≤ length)
  | .scratchpadWrite _ _ bytes => decide (1 ≤ bytes.length)
  | .resetAssert _ | .resetRelease _ | .imageAuthenticated | .firmwareInitDone | .trimRampEnd _ | .bootStructLoaded
  | .freeRunWaitExpiry | .samplingStart | .lockstepMismatch | .watchdogExpiry | .warmRestartEnd | .probationEnd
  | .epochInstant | .ptpSyncTx _ _ | .ptpAnnounceTx _ | .ptpDelayReqTx _ _ | .announceTimeout _ | .syncTimeout
  | .ppsInEdge _ _ | .ppsInTimeout | .ppsOutPulse | .ppsOutPulseEnd | .todTxSentence | .realignment | .scheduledEvent _
  | .eventArm _ | .setTime | .sampleClockUnlock | .sampleClockRelock | .loadStructure | .loadStructureDone | .commit
  | .commitInstant | .cancelCommit | .storeStructure | .storeStructureDone | .gearShiftUp _ _ _ _ | .gearShiftDown _ _ _ _
  | .mendComplete _ _ _ | .wireRestored _ _ _ | .releaseSpoke | .releaseSyncReset _ _
  | .senseEstimate _ _ _ _ | .rampEnd _ | .excTrip _ | .restartLace | .vexcFault _ | .excRestored | .modOverload _
  | .lookRunStart _ | .ambientLevelUpdate _ | .trigIoEdge _ _ _ | .triggerSchedule _
  | .trigIoPulseEnd _ | .freewheelEnd _ | .fireTrigger | .rearmTrigger | .blockClose _ | .blockPlace _ | .recordExpiry _ _
  | .watermarkRearm _ _ | .setMark | .clearMark | .replay | .replayDone _ | .releaseRecord | .ackBlocks | .readRecord
  | .readRecordDone _ | .reducerInputClose _ _ _ | .csdCommitPoint _ _ | .resetTally | .tallyClear _ _ | .abortInterval
  | .flush | .saveContext | .restoreContext | .linkHbSend _ | .linkHb _ _ _ _ | .reachTimeout _ | .helloSend | .setAddress
  | .cutFrame _ | .credit _ _ _ _ | .bulkSend | .bulkRto _ | .portTransmit _ | .partnerDetect _ _ | .trainRequest _ _ _
  | .rxReady _ _ | .trainTimeout _ | .lossOfSignal _ | .lockAcquired _ | .lockTimeout _ | .capabilityWord _ _
  | .exchangeTimeout _ | .lockLoss _ _ | .backoffEnd _ | .failureCountReset _ | .opticsPoll _ _ _ _ | .lnkTestWrite _ _
  | .prbsInject _ _ | .fixedTapsWrite _ _ | .retrainLane | .opticsRead | .opticsWrite | .opticsDone _ _ | .tokenToggle
  | .tokenEdge | .partnerHbSend | .tokenWitnessMissing | .linkWitnessMissing | .rimWitnessMissing | .claimingEnd
  | .yieldingEnd | .election | .tandemLinkLoss | .digestCompare | .swapRoles | .swapInstant | .cmdItemWrite _ _ _ | .nop
  | .cmdCreditWrite _ _ | .queuePop _ _ | .crierChainEntry _ | .crierDrain _ | .priorityAging _ | .ringEntryWrite _
  | .ringCreditWrite _ _ | .msixGapEnd _ | .ringEnable _ _ | .ringDisable _ _ | .spiWrite _ _ _ | .spiStatus | .readReg
  | .writeReg | .intEnableWrite _ | .alarmCfgWrite _ | .leaseLapse _ | .journalReplayStart _ _ | .resync
  | .holdHighRead _ _ | .holdLowWrite _ _ _ | .holdHighWrite _ _ _ | .holdExpiry _ _ | .snapshot | .snapshotTick
  | .snapshotDone | .scrub | .scrubDone | .bankPower | .bankRetainTimeout _ | .storeRead | .storeWrite | .storeTransferDone
  | .injectError | .recalibrate | .setTrim | .clearWindow | .windowRearm _ | .updateData | .updateChunkProgrammed _
  | .updateEnd | .updateEndDone _ | .updateAbort | .updateSessionTimeout | .commitImage | .saveSettings | .settingsWriteDone
  | .otpProvision | .overRange _ _ | .laneSymbolError _ _ | .preemptionVerify _ => true

end Sys2Proof
end

