-- ==== Sys2Proof/Machine/Ops.lean ====
section
/-! DEFINITION. The operations every family shares: how a command acts on the state (the span of undefined behaviour of R2),
network time, interrupts and mode changes, completions (R390), notices and the crier's journal and chain (R392 to R397, R410). -/

namespace Sys2Proof.Machine

/-- The answer of a meaning. -/
abbrev Ans := Host.Outcome State Fault Refusal

/-! ### One update per block -/

def State.upGlb (s : State) (f : Glb → Glb) : State := { s with glb := f s.glb }
def State.upTmb (s : State) (f : Tmb → Tmb) : State := { s with tmb := f s.tmb }
def State.upCfg (s : State) (f : Cfg → Cfg) : State := { s with cfg := f s.cfg }
def State.upPath (s : State) (f : Path → Path) : State := { s with path := f s.path }
def State.upLace (s : State) (f : LaceBlock → LaceBlock) : State := { s with lace := f s.lace }
def State.upCrier (s : State) (f : Crier → Crier) : State := { s with crier := f s.crier }
def State.upCmd (s : State) (f : Cmd → Cmd) : State := { s with cmd := f s.cmd }
def State.upHost (s : State) (f : HostPorts → HostPorts) : State := { s with host := f s.host }
def State.upMem (s : State) (f : Mem → Mem) : State := { s with mem := f s.mem }
def State.upCal (s : State) (f : Cal → Cal) : State := { s with cal := f s.cal }
def State.upHlt (s : State) (f : Hlt → Hlt) : State := { s with hlt := f s.hlt }
def State.upLnk (s : State) (f : Lnk → Lnk) : State := { s with lnk := f s.lnk }
def State.upTdm (s : State) (f : Tdm → Tdm) : State := { s with tdm := f s.tdm }
def State.upLdr (s : State) (f : Ldr → Ldr) : State := { s with ldr := f s.ldr }
def State.upSnap (s : State) (f : Snap → Snap) : State := { s with snap := f s.snap }
/-- Something handed to the outside (log entry 12). -/
def State.emit (s : State) (o : Out) : State := { s with out := s.out ++ [o] }

/-- A free value has been drawn: the next one is another (log entry 4). -/
def State.draw (s : State) : State := { s with freeCount := s.freeCount + 1 }
/-- The span of undefined behaviour ends (R2). -/
def State.endSpan (s : State) : State := { s with ub := none }

/-! ### Entries of the tables -/

def State.spoke (s : State) (i : Nat) : Spoke := s.path.spokes.get {} i
def State.upSpoke (s : State) (i : Nat) (f : Spoke → Spoke) : State :=
  s.upPath fun p => { p with spokes := p.spokes.upd {} i f }
def State.look (s : State) (i : Nat) : Look := s.path.looks.get {} i
def State.upLook (s : State) (i : Nat) (f : Look → Look) : State :=
  s.upPath fun p => { p with looks := p.looks.upd {} i f }
/-- The modulator of a sequence: spokes at 0 to 767, auxiliary modulators at 768 to 815. -/
def State.modu (s : State) (i : Nat) : Modu := s.path.mods.get {} i
def State.upModu (s : State) (i : Nat) (f : Modu → Modu) : State :=
  s.upPath fun p => { p with mods := p.mods.upd {} i f }
def State.sw (s : State) (i : Nat) : Switch := s.path.switches.get {} i
def State.upSw (s : State) (i : Nat) (f : Switch → Switch) : State :=
  s.upPath fun p => { p with switches := p.switches.upd {} i f }
def State.trig (s : State) (u : Nat) : TrigUnit := s.path.units.get {} u
def State.upTrig (s : State) (u : Nat) (f : TrigUnit → TrigUnit) : State :=
  s.upPath fun p => { p with units := p.units.upd {} u f }
def State.strm (s : State) (i : Nat) : StreamRec := s.path.streams.get {} i
def State.upStrm (s : State) (i : Nat) (f : StreamRec → StreamRec) : State :=
  s.upPath fun p => { p with streams := p.streams.upd {} i f }
def State.stall (s : State) (k : Nat) : Stall := s.path.stalls.get {} k
def State.upStall (s : State) (k : Nat) (f : Stall → Stall) : State :=
  s.upPath fun p => { p with stalls := p.stalls.upd {} k f }
/-- Job j of engine e at key 16 e + j. -/
def State.job (s : State) (k : Nat) : Job := s.path.jobs.get {} k
def State.upJob (s : State) (k : Nat) (f : Job → Job) : State :=
  s.upPath fun p => { p with jobs := p.jobs.upd {} k f }
def State.engine (s : State) (e : Nat) : Engine := s.path.engines.get {} e
def State.upEngine (s : State) (e : Nat) (f : Engine → Engine) : State :=
  s.upPath fun p => { p with engines := p.engines.upd {} e f }
def State.laceOf (s : State) (l : Nat) : Lace := s.lace.laces.get {} l
def State.upLaceOf (s : State) (l : Nat) (f : Lace → Lace) : State :=
  s.upLace fun b => { b with laces := b.laces.upd {} l f }
def State.que (s : State) (q : Nat) : Queue := s.crier.queues.get {} q
def State.upQue (s : State) (q : Nat) (f : Queue → Queue) : State :=
  s.upCrier fun c => { c with queues := c.queues.upd {} q f }
def State.ring (s : State) (r : Nat) : Ring := s.host.rings.get {} r
def State.upRing (s : State) (r : Nat) (f : Ring → Ring) : State :=
  s.upHost fun h => { h with rings := h.rings.upd {} r f }
def State.bank (s : State) (b : Nat) : Bank := s.mem.banks.get {} b
def State.upBank (s : State) (b : Nat) (f : Bank → Bank) : State :=
  s.upMem fun m => { m with banks := m.banks.upd {} b f }
def State.memUnit (s : State) (u : Nat) : MemUnit := s.mem.units.get {} u
def State.upMemUnit (s : State) (u : Nat) (f : MemUnit → MemUnit) : State :=
  s.upMem fun m => { m with units := m.units.upd {} u f }
def State.window (s : State) (w : Nat) : Window := s.hlt.windows.get {} w
def State.upWindow (s : State) (w : Nat) (f : Window → Window) : State :=
  s.upHlt fun h => { h with windows := h.windows.upd {} w f }
def State.lane (s : State) (x : Nat) : Lane := s.lnk.lanes.get {} x
def State.upLane (s : State) (x : Nat) (f : Lane → Lane) : State :=
  s.upLnk fun k => { k with lanes := k.lanes.upd {} x f }
def State.upRim (s : State) (f : Rim → Rim) : State := s.upLnk fun k => { k with rim := f k.rim }
def State.rimPort (s : State) : Port → RimPort
  | .e => s.lnk.rim.e
  | .w => s.lnk.rim.w
def State.upPort (s : State) (p : Port) (f : RimPort → RimPort) : State :=
  s.upRim fun r => match p with | .e => { r with e := f r.e } | .w => { r with w := f r.w }
def State.ptpPort (s : State) : Port → PtpPort
  | .e => s.tmb.portE
  | .w => s.tmb.portW
def State.upPtp (s : State) (p : Port) (f : PtpPort → PtpPort) : State :=
  s.upTmb fun t => match p with | .e => { t with portE := f t.portE } | .w => { t with portW := f t.portW }
/-- A master's records. -/
def State.mst (s : State) : Master → MasterRec
  | .spi => s.cmd.spi | .pcie => s.cmd.pcie | .rim => s.cmd.rim | .tandem => s.cmd.tandem
def State.upMst (s : State) (m : Master) (f : MasterRec → MasterRec) : State :=
  s.upCmd fun c => match m with
    | .spi => { c with spi := f c.spi }
    | .pcie => { c with pcie := f c.pcie }
    | .rim => { c with rim := f c.rim }
    | .tandem => { c with tandem := f c.tandem }

/-- The other rim port. -/
def otherPort : Port → Port
  | .e => .w
  | .w => .e

/-- The committed structure. -/
def State.st (s : State) : Struct := s.cfg.committed

/-! ### Undefined behaviour (R2; log entry 3) -/

/-- A use that a rule calls undefined has been seen: the span of R2 opens, or goes on. -/
def State.undefinedUse (s : State) (rule : Nat) : State := if s.ub.isNone then { s with ub := some rule } else s

/-- Central-store contents that are free values, in canonical form (log entry 4). -/
def freeStore (n : Nat) : SMap StoreWord :=
  (Config.unspecified n : SMap StoreWord).foldl (fun m e => m.set {} e.1 e.2) []

/-- What a host has set of a master's records as a free value: credits that fit (R384), `cpl_q` and the lease. -/
def MasterRec.freed (r : MasterRec) (x : Nat × Nat × Nat) : MasterRec := { r with credit := x.1 % 65, cplQ := x.2.1 % 64, leaseMs := x.2.2 % 65536 }

/-- The same of the four masters. -/
def Cmd.freed (k : Cmd) (x : Nat → Nat × Nat × Nat) : Cmd :=
  { k with spi := k.spi.freed (x 0), pcie := k.pcie.freed (x 1), rim := k.rim.freed (x 2), tandem := k.tandem.freed (x 3) }

/-- The settings of the 64 host rings as free values, their reserved bits 0 (R12, R403). -/
def freeRings (rings : SMap Ring) (x : Nat → DWord × DWord × Word) : SMap Ring :=
  forEach (List.range 64) rings fun m r => m.upd {} r fun g => { g with base := (x r).1.toNat, wb := (x r).2.1.toNat, cfg := (x r).2.2 &&& 0xFF00FFFF }

/-- The bits of a word of context memory that its layout does not reserve; `k` is 16 × stream + word (R302). -/
def ctxMask (k : Nat) : Word := if k % 16 = 0 then 0xFFFF1F01 else if k % 16 ≤ 6 then 0xFFFFFFFF else 0

/-- A free sample path: the levels at the input pins are the outside's, and the reserved bits of context memory stay 0 (R2, R12). -/
def Path.freed (p x : Path) : Path :=
  { x with trigIn := p.trigIn, ctx := x.ctx.foldl (fun m e => m.set 0 e.1 (e.2 &&& ctxMask e.1)) [] }

/-- The body of a frame with free contents: blocks and descriptors are stream contents, completions and notices are notices (R2). -/
def FrameBody.freed (b : FrameBody) (x : List (List Byte) × List Byte × Item) : FrameBody :=
  match b with
  | .blocks _ => .blocks x.1
  | .record k o n _ => .record k o n x.2.1
  | .completion _ => .completion x.2.2
  | .notice _ => .notice x.2.2
  | .alarm _ => .alarm x.2.2
  | b => b

/-- The frames of a queue with free contents. -/
def freeFrames (fs : List OutFrame) (x : Nat → List (List Byte) × List Byte × Item) : List OutFrame :=
  (fs.zip (List.range fs.length)).map (fun f => { f.1 with body := f.1.body.freed (x f.2) })

/-- The hub's own frames that wait at a port hold free contents. -/
def RimPort.freed (r : RimPort) (x : Nat → Nat → List (List Byte) × List Byte × Item) : RimPort :=
  { r with express := freeFrames r.express (x 0), control := freeFrames r.control (x 1), bulk := freeFrames r.bulk (x 2) }

/-- So do the CONTROL frames that may be sent again. -/
def Rim.freed (r : Rim) (x : Nat → Nat → Nat → List (List Byte) × List Byte × Item) : Rim :=
  { r with e := r.e.freed (x 0), w := r.w.freed (x 1)
           ctl := (r.ctl.zip (List.range r.ctl.length)).map (fun f => { f.1 with frame := { f.1.frame with body := f.1.frame.body.freed (x 2 0 f.2) } }) }

/-- While a span of R2 is open, sample path, stream contents with the stored blocks, notices with their journal, and configuration state, what a host
has set in registers among it, and the contents of the frames that wait to be sent are free values after every command (log entries 3 and 4). The staging
area and the pending commit are not: a full image that commits ends the span and is what was staged. -/
def State.havoc (s : State) : State :=
  match s.ub with
  | none => s
  | some _ =>
    { s with glb := { s.glb with intEnable := Config.unspecified s.freeCount &&& 0xFFF }
             cmd := s.cmd.freed (Config.unspecified s.freeCount)
             host := { s.host with rings := freeRings s.host.rings (Config.unspecified s.freeCount) }
             ldr := { s.ldr with settings := Config.unspecified s.freeCount &&& 0xFFFFC7FF }
             path := s.path.freed (Config.unspecified s.freeCount)
             lnk := { s.lnk with rim := s.lnk.rim.freed (Config.unspecified s.freeCount) }
             cfg := { s.cfg with committed := Config.unspecified s.freeCount, activeId := Config.unspecified s.freeCount
                                 eras := Config.unspecified s.freeCount }
             lace := { s.lace with vexcCfg := Config.unspecified s.freeCount, vexcNow := Config.unspecified (s.freeCount + 1) }
             crier := Config.unspecified s.freeCount, mem := { s.mem with store := freeStore s.freeCount }
             freeCount := s.freeCount + 2 }

/-- How every command acts: its effect, and then the free values of an open span of R2. -/
def act (s : State) (f : State → State) : Ans := .next (f s).havoc

/-- The same for a command whose operands must pass a check: a term that is no command of the hub is stopped with `illFormed`. -/
def actIf (ok : Bool) (s : State) (f : State → State) : Ans := if ok then act s f else .fault .illFormed

/-- An event whose condition does not hold does not occur (log entry 2). -/
def occurs (s : State) (c : Bool) (f : State → State) : State := if c then f s else s

/-! ### Network time (R55 to R59) -/

/-- Network time as a fine time, in 2^-16 ns (R56). -/
def State.nowFine (s : State) : Int :=
  s.tmb.offset + ((((s.tmb.counter - s.tmb.anchor) * s.tmb.rate) / 2 ^ 24 : Nat) : Int)

/-- The same as a natural number, for the instants of samples and events. -/
def State.fine (s : State) : Nat := s.nowFine.toNat

/-- Full time in ns (R6, R56). -/
def State.now (s : State) : Nat := (s.nowFine / 65536).toNat

/-- The tick counter. -/
def State.tick (s : State) : Nat := s.tmb.counter

/-- `n` ticks have passed since tick `t`. -/
def State.passed (s : State) (t n : Nat) : Bool := decide (t + n ≤ s.tick)

/-- At least `n` ticks have passed since an optional tick (none: never). -/
def State.passedOpt (s : State) (t : Option Nat) (n : Nat) : Bool :=
  match t with | none => true | some t => s.passed t n

/-- The network time that tick `k` of the counter has, now or later, under the parameters in force. -/
def State.timeAtTick (s : State) (k : Nat) : Nat :=
  ((s.tmb.offset + ((((k - s.tmb.anchor) * s.tmb.rate) / 2 ^ 24 : Nat) : Int)) / 65536).toNat

/-- The first cadence-epoch instant at or after a full time (00_scope glossary). -/
def epochAtOrAfter (t : Nat) : Nat := ceilDiv t Config.epochNs * Config.epochNs

/-- Ticks of a duration in ms. -/
def ms (n : Nat) : Nat := n * Config.ticksPerMs
/-- Ticks of a duration in µs. -/
def us (n : Nat) : Nat := n * Config.ticksPerUs

/-- The servo's parameters with the anchor moved to the present tick (R56): no reading moves. While network time is held by a
backward realignment (R81) the anchor lies ahead and stays there. -/
def State.reanchor (s : State) : State :=
  if s.tick < s.tmb.anchor then s else s.upTmb fun t => { t with offset := s.nowFine, anchor := t.counter }

/-- The limit of the transmit trim, ±50 ppm in steps of 2^-32 (R63). -/
def trimLimit : Int := 214748

/-- The sample NCO's increment for a rate (R73): 800 kHz of network time, 2^48 × 0.0008 per ns, rounded down (log entry 42). -/
def ncoIncrement (rate : Nat) : Nat := rate * 128 / 625

/-- The sample NCO's 48-bit phase accumulator now (R73). -/
def State.ncoPhase (s : State) : Nat := (s.tmb.ncoAcc + (s.tick - s.tmb.ncoFrom) * s.tmb.ncoInc) % 2 ^ 48

/-- The increment of the NCO changes at this tick: for the rate `rate`, with the trim in force (R73, R74). While network time is held by a backward
realignment (R81) the phase stands, and the new increment counts from the hold's end. -/
def State.setNco (s : State) (rate : Nat) : State :=
  s.upTmb fun t => { t with ncoAcc := s.ncoPhase, ncoFrom := max t.counter t.ncoFrom, ncoInc := ((ncoIncrement rate : Int) + t.ncoTrim).toNat }

/-- The rate changes at this tick (R56, R533) to the servo's estimate `est` and, in a slew, what the slew adds; while LOCKED the transmit trim
follows the estimate (R63). -/
def State.setRate (s : State) (est : Nat) (extra : Int) : State :=
  let rate := ((est : Int) + extra).toNat
  (s.reanchor.setNco rate).upTmb fun t =>
    { t with rate := rate
             txTrim := if t.timeState = .locked
               then clampInt (((est : Int) - (Config.rateNominal : Int)) * 2 ^ 32 / (Config.rateNominal : Int)) (-trimLimit) trimLimit
               else t.txTrim }

/-- What a slew in progress adds to the rate, and the servo's estimate of the source's frequency (R80). -/
def State.slewExtra (s : State) : Int := match s.tmb.slew with | none => 0 | some x => x.2
def State.estimate (s : State) : Nat := ((s.tmb.rate : Int) - s.slewExtra).toNat

/-- A slew whose offset has been removed ends: the rate is the estimate again (R80). -/
def State.endSlew (s : State) : State :=
  match s.tmb.slew with
  | none => s
  | some (stop, _) =>
    if s.tick < stop then s
    else (s.setRate s.estimate 0).upTmb fun t => { t with slew := none }

/-- With no command waiting one 5 ns period of the timebase passes (R21, R55; log entry 1): the counter rises by one and a slew
that is done ends, except in RESET, where the counter stands. -/
def State.idle (s : State) : State :=
  if s.glb.state = .reset then s else (s.upTmb fun t => { t with counter := t.counter + 1 }).endSlew

/-! ### Interrupt summary and modes (R499, R501, R77) -/

/-- Word `k` of the MSI-X table (R399; log entry 34, PRESUMED): four words per vector, address low and high, data, and the mask in bit 0 of the last, which
is set at reset. -/
def Glb.vectorWord (g : Glb) (k : Nat) : Word := g.msixTable.get (if k % 4 = 3 then 1 else 0) k

/-- A vector whose mask is set is not sent. -/
def Glb.vectorMasked (g : Glb) (v : Nat) : Bool := (g.vectorWord (4 * v + 3)).flag 0

/-- What goes out when an unmasked vector is sent: its data to its address. -/
def Glb.vectorOut (g : Glb) (v : Nat) : Out :=
  .msix v ((g.vectorWord (4 * v + 1)).toNat * 2 ^ 32 + (g.vectorWord (4 * v)).toNat) (g.vectorWord (4 * v + 2))

/-- An MSI-X vector is sent (R399, R401, R501): a masked one sets its pending bit and goes out when its mask is cleared. -/
def State.sendVector (s : State) (v : Nat) : State :=
  if s.glb.vectorMasked v then s.upGlb fun g => { g with msixPending := if g.msixPending.contains v then g.msixPending else g.msixPending ++ [v] }
  else s.emit (s.glb.vectorOut v)

/-- Vector 64 goes out once at a tick (R501). -/
def State.summaryVector (s : State) : State :=
  if s.glb.vecTick = some s.tick then s else (s.upGlb fun g => { g with vecTick := some s.tick }).sendVector 64

/-- The bits of GLB_INT_STATUS set at this tick. -/
def State.freshBits (s : State) : Word := if s.glb.fresh.1 = s.tick then s.glb.fresh.2 else 0

/-- A bit of GLB_INT_STATUS is set; MSI-X vector 64 goes out at a tick at which an enabled bit becomes set (R501). -/
def State.intr (s : State) (bit : Nat) : State :=
  let was := s.glb.intStatus.flag bit
  let s := s.upGlb fun g => { g with intStatus := g.intStatus ||| wordOf (2 ^ bit), fresh := (s.tick, s.freshBits ||| wordOf (2 ^ bit)) }
  if !was && s.glb.intEnable.flag bit then s.summaryVector else s

/-- GLB_STATE changes (R471, R499, R501 bit 0). -/
def State.enter (s : State) (g : GlbState) : State :=
  if s.glb.state = g then s
  else (s.upGlb fun b => { b with state := g, prev := b.state }).intr 0

/-- The code of GLB_STATE `state` (R471). -/
def GlbState.code : GlbState → Nat
  | .reset => 0 | .loader => 1 | .recovery => 2 | .selftest => 3 | .calibrate => 4 | .timewait => 5 | .run => 6
  | .warmRestart => 7 | .fault => 8

/-- The state whose hardware functions go on: that in which a warm restart began (R22). -/
def State.hardware (s : State) : GlbState := if s.glb.state = .warmRestart then s.ldr.restartFrom else s.glb.state

/-- RUN, a WARM_RESTART begun in it, or RECOVERY entered by a halt: the hardware path runs (R22, R91, R485). -/
def State.live (s : State) : Bool :=
  match s.hardware with
  | .run => true
  | .recovery => s.ldr.halted
  | _ => false

/-- The firmware runs: it takes commands and runs the servo (R22, R27, R471). -/
def State.firmware (s : State) : Bool :=
  !s.ldr.coresHalted && match s.glb.state with | .timewait => true | .run => true | _ => false

/-- TMB_STATUS `time_state` changes (R77, R501 bit 3); the history serves the HOLDOVER tag of samples still in their chains. -/
def State.enterTime (s : State) (t : TimeState) : State :=
  if s.tmb.timeState = t then s
  else
    let now := s.fine
    (s.upTmb fun b =>
      { b with timeState := t, everLocked := b.everLocked || decide (t = .locked)
               lockHist := (now, decide (t = .locked)) :: b.lockHist }).intr 3

/-- The code of `role` (R357, R379). -/
def Role.code : Role → Nat
  | .solo => 0 | .active => 1 | .standby => 2 | .standbyDesync => 3 | .claiming => 4 | .yielding => 5

/-- TDM_STATUS `role` changes (R501 bit 4). -/
def State.enterRole (s : State) (r : Role) : State :=
  if s.tdm.role = r then s
  else (s.upTdm fun t => { t with role := r, since := s.tick }).intr 4

/-! ### Notices: words and saturation (R396) -/

/-- An unsigned value of a notice field: it saturates at the field's largest value. -/
def satField (bits v : Nat) : Nat := if v < 2 ^ bits then v else 2 ^ bits - 1

/-- A signed 32-bit value X: two's complement, saturating. -/
def satSigned32 (v : Int) : Nat := unsignedOf 32 (clampInt v (-(2 ^ 31)) (2 ^ 31 - 1))

/-- `arg` in the form T or V. -/
def argT (t : Nat) : Nat := satField 64 t
/-- `arg` in the form S;X with X unsigned. -/
def argSX (t x : Nat) : Nat := t % 2 ^ 32 + satField 32 x * 2 ^ 32
/-- `arg` in the form S;X with X signed. -/
def argSXs (t : Nat) (x : Int) : Nat := t % 2 ^ 32 + satSigned32 x * 2 ^ 32

/-- The alarm class of R392, R464 and R491. -/
def alarmClass (code : Nat) : Bool :=
  [0x21, 0x28, 0x30, 0x32, 0x58, 0x71, 0x72, 0x75, 0x95, 0x98].contains code

/-! ### The crier (R392 to R395, R412) -/

/-- The journal slot of an item: its first codeword of the central store, the 8-byte word at byte 0x3FC000000 + q × 0x100000 + 16 × (n mod 65,536)
(R393). -/
def journalSlot (q n : Nat) : Nat := 0x7F800000 + q * 0x20000 + n % 65536 * 2

/-- A codeword written whole and clean (R435). -/
def Mem.putStore (m : Mem) (cw : Nat) (d : DWord) : Mem := { m with store := m.store.set {} cw { data := d } }

/-- A codeword written again with the data it holds: clean. -/
def Mem.refresh (m : Mem) (cw : Nat) : Mem :=
  let w := m.store.get {} cw
  if w.flips = 0 then m else { m with store := m.store.set {} cw { w with flips := 0 } }

/-- The item whose slot shares a 32-byte sector with that of item `n` (R393, R435). -/
def sectorMate (n : Nat) : Nat := if n % 2 = 0 then n + 1 else n - 1

/-- An item written to its journal slot (R393). The sector is written whole (R435): its other slot again, from what the hub posted there (log entry 26, DESIGN
CHOICE). -/
def State.writeJournal (s : State) (q n : Nat) (i : Item) : State :=
  s.upMem fun m =>
    let m := (m.refresh (journalSlot q (sectorMate n))).refresh (journalSlot q (sectorMate n) + 1)
    (m.putStore (journalSlot q n) (BitVec.ofNat 64 (i.w0.toNat + i.w1.toNat * 2 ^ 32))).putStore
      (journalSlot q n + 1) (BitVec.ofNat 64 (i.w2.toNat + i.w3.toNat * 2 ^ 32))

/-- Whether a newly posted item may take an empty stage now (R393): while a replay runs only an item that enters at 15 goes
ahead of the replay (R412), otherwise only when no item waits before it. -/
def Queue.mayEnter (c : Queue) (prio : Nat) : Bool :=
  decide (c.chain.length < 32) &&
    (if c.replay.isSome then prio == 15 && !c.waiting.any (fun w => w.prio == 15) else c.waiting.isEmpty)

/-- One more lost item among ranges of lost items, first and count, which lie apart in rising order (R394). -/
def insertLost (n : Nat) : List (Nat × Nat) → List (Nat × Nat)
  | [] => [(n, 1)]
  | (f, k) :: rest =>
    if n + 1 < f then (n, 1) :: (f, k) :: rest
    else if n + 1 = f then (n, k + 1) :: rest
    else if n < f + k then (f, k) :: rest
    else if n = f + k then
      match rest with
      | (g, j) :: more => if g = n + 1 then (f, k + 1 + j) :: more else (f, k + 1) :: (g, j) :: more
      | [] => [(f, k + 1)]
    else (f, k) :: insertLost n rest

/-- The queue after item `n` has been posted: it falls into the chain, or waits in the journal alone, and the waiting item whose
slot it reuses is lost (R393, R394). A queue whose drain is JOURNAL holds no item (R395). -/
def Queue.posting (c : Queue) (n : Nat) (i : Item) (prio : Nat) (d : Drain) (ring tick : Nat) : Queue :=
  let gone := c.waiting.filter (fun w => decide (w.nseq + 65536 ≤ n))
  let c := { c with posted := n + 1
                    waiting := c.waiting.filter (fun w => !decide (w.nseq + 65536 ≤ n))
                    lost := gone.foldl (fun l g => insertLost g.nseq l) c.lost }
  if d = .journal then c
  else if c.mayEnter prio then
    { c with chain := c.chain ++
        [{ nseq := n, item := i, prio := prio, entered := tick, aged := tick, replayed := false, drain := d, ring := ring }] }
  else { c with waiting := c.waiting ++ [{ nseq := n, prio := prio, drain := d, ring := ring }] }

/-- An item posted to queue `q` (R393): it takes the next `nseq`, is written to the journal and enters the chain. `code` is the
code field of word 0 with the bits below it, without `nseq`. -/
def State.post (s : State) (q : Nat) (alarm : Bool) (low : Nat) (w1 w2 w3 : Word) : State :=
  let n := (s.que q).posted
  let i : Item := { w0 := wordOf ((n % 65536) * 65536 + low), w1 := w1, w2 := w2, w3 := w3 }
  let prio := if alarm && s.st.queueAlarm q then 15 else s.st.queuePrio q
  let s := s.writeJournal q n i
  s.upQue q fun c => c.posting n i prio (s.st.queueDrain q) (s.st.queueRing q) s.tick

/-- A notice (R396, R397) to queue `q`; `acts` is the number of autonomous acts it reports (R410, R463). -/
def State.notify (s : State) (q code id detail arg : Nat) (acts : Nat := 0) : State :=
  let n := (s.que q).posted
  let s := s.post q (alarmClass code) (code * 256 + q) (wordOf (satField 16 detail * 65536 + satField 16 id))
    (wordOf (arg % 2 ^ 32)) (wordOf (arg / 2 ^ 32))
  if acts = 0 then s
  else s.upCrier fun c => { c with acts := satAdd c.acts acts, lastAct := q * 65536 + n % 65536 }

/-- The hub enters HOLDOVER (R78). -/
def State.enterHoldover (s : State) : State :=
  let s := (s.enterTime .holdover).upTmb fun t => { t with holdoverFrom := some t.counter, inRun := 0, outRun := 0, confirm := [] }
  s.notify 0 0x03 0 0 (argT s.now) 1

/-! ### Completions (R384, R390, R391, R408) -/

/-- A `LOAD_STRUCTURE` that completes sets GLB_INT_STATUS `load` (R501). -/
def State.loadBit (s : State) (c : CmdItem) : State := if c.opcode = 0x10 then s.intr 1 else s

/-- The completion item of a command is posted to `cpl_q` of its master, its credit is free again, and it no longer holds back
`done_through`. -/
def State.finish (s : State) (c : CmdItem) (status : Nat) (result : Nat := 0) : State :=
  let s := s.loadBit c
  let m := s.mst c.master
  let n := (s.que (m.cplQ % 64)).posted
  let s := s.post (m.cplQ % 64) false (masterNum c.master * 64 + m.cplQ % 64)
    (wordOf (c.cseq.toNat * 65536 + c.tag.toNat * 256 + status)) (wordOf (result % 2 ^ 32)) (wordOf (result / 2 ^ 32))
  let s := if c.service then s.upQue (m.cplQ % 64) fun q => { q with service := n :: q.service.filter (fun k => decide (n < k + 65536)) } else s
  s.upMst c.master fun r =>
    { r with inFlight := r.inFlight - 1
             outstanding := if c.base = r.base then eraseFirst (fun q => q == c.cseq) r.outstanding else r.outstanding }

/-- A command completes as it starts. One that is carried out though a reserved operand bit is set is an undefined use (R12, R382); one that
is refused is none (R530). -/
def State.complete (s : State) (c : CmdItem) (status : Nat) (result : Nat := 0) : State :=
  (if status ≠ 0 ∨ c.reservedClear then s else s.undefinedUse 12).finish c status result

/-- The completion of an item that was never taken: NO_CREDIT at receipt (R384, R409). It holds no credit. -/
def State.refuseItem (s : State) (c : CmdItem) : State :=
  let s := s.loadBit c
  let m := s.mst c.master
  let s := s.post (m.cplQ % 64) false (masterNum c.master * 64 + m.cplQ % 64)
    (wordOf (c.cseq.toNat * 65536 + c.tag.toNat * 256 + 0x1E)) 0 0
  s.upMst c.master fun r => { r with refusals := satTo 0xFFFFFF (r.refusals + 1) }

/-- `done_through` (R408): one below the oldest command of the base that has not completed, else the last one received. -/
def MasterRec.doneThrough (r : MasterRec) : Half :=
  match r.outstanding with
  | [] => r.lastSeq
  | c :: _ => c - 1

/-! ### The command at the front of the hub's queue (R385) -/

/-- The firmware may start a command of this opcode in the present state (R386, R471); halted cores start none (R27). -/
def State.accepts (s : State) (op : Nat) : Bool :=
  !s.ldr.coresHalted && match s.glb.state with
  | .timewait => true
  | .run => true
  | .reset => false
  | .warmRestart => false
  | .loader => op == 0x01 || op == 0x5A || op == 0x5B
  | .selftest => op == 0x01 || op == 0x5A || op == 0x5B
  | .calibrate => op == 0x01 || op == 0x5A || op == 0x5B
  | .recovery => [0x01, 0x5A, 0x5B, 0x48, 0x70, 0x71, 0x72, 0x75].contains op
  | .fault => [0x01, 0x5A, 0x5B, 0x70, 0x71, 0x72].contains op

/-- The opcodes that R387 lists, with those of the memory, calibration and update ranges (R437, R455, R479). -/
def knownOpcode (op : Nat) : Bool :=
  [0x01, 0x10, 0x11, 0x12, 0x13, 0x18, 0x20, 0x21, 0x28, 0x29, 0x30, 0x31, 0x32, 0x33, 0x34, 0x35, 0x38, 0x39, 0x40, 0x41, 0x42, 0x48, 0x49,
   0x4A, 0x4B, 0x50, 0x58, 0x59, 0x5A, 0x5B, 0x60, 0x61, 0x62, 0x63, 0x64, 0x68, 0x69, 0x6A, 0x70, 0x71, 0x72, 0x73, 0x74, 0x75].contains op

/-- Commands are held: in WARM_RESTART (R23), in RESET, and while both cores stand halted (R27). -/
def State.holds (s : State) : Bool := decide (s.glb.state = .warmRestart) || decide (s.glb.state = .reset) || s.ldr.coresHalted

/-- The items at the front of the hub's queue whose opcode R387 does not list complete with BAD_OPCODE, in their order of arrival (R385, R386), unless
commands are held (R23). No row of the command table starts such an item, so it completes with the next start, arrival or end of a restart (log entry
2, DESIGN CHOICE). -/
def State.skipUnknown (s : State) : State :=
  if s.holds then s
  else
    let bad := s.cmd.queue.takeWhile (fun c => !knownOpcode c.opcode.toNat)
    let s := s.upCmd fun k => { k with queue := k.queue.drop bad.length }
    forEach bad s fun s c => s.finish c 0x1F

/-- A command of the command set starts: it is the front of the hub's queue (commands start in order of arrival, R385), it has
this opcode, and commands are not held (R23). `f` gives its effect; a state that does not accept it
gives WRONG_STATE (R386). Otherwise nothing starts (log entry 2). -/
def State.start (s : State) (op : Nat) (f : CmdItem → State → State) : State :=
  let s := s.skipUnknown
  match s.cmd.queue with
  | [] => s
  | c :: rest =>
    if c.opcode.toNat ≠ op ∨ s.holds then s
    else
      let s := s.upCmd fun k => { k with queue := rest }
      if s.accepts op then f c s else s.complete c 0x20

/-- A long command has started (R385); with a reserved operand bit set it is an undefined use (R12). -/
def State.startLong (s : State) (c : CmdItem) (op : LongOp) : State :=
  (if c.reservedClear then s else s.undefinedUse 12).upCmd fun k => { k with long := k.long ++ [{ item := c, op := op, since := s.tick }] }

/-! ### Settings in flash (R488) -/

/-- A slot is valid when its magic and its CRC hold (R488). -/
def SettingsSlot.valid (x : SettingsSlot) : Bool :=
  x.magic == 0x54534851 && x.crc == Config.settingsCrc x.format x.session x.writes x.settings

/-- A slot as the hub writes it, with its magic and CRC (R488). -/
def settingsSlot (format session writes : Nat) (settings : Word) : SettingsSlot :=
  { magic := 0x54534851, crc := Config.settingsCrc format session writes settings, format := format, session := session, writes := writes
    settings := settings }

/-- Slot A (false) or B (true). -/
def Flash.setting (f : Flash) (b : Bool) : SettingsSlot := if b then f.setB else f.setA
def Flash.putSetting (f : Flash) (b : Bool) (x : SettingsSlot) : Flash := if b then { f with setB := x } else { f with setA := x }

/-- The loader record as it is read: its first copy (R478; both copies are written together, log entry 33). -/
def Flash.legacyFloor (f : Flash) : Nat := f.loaderA.legacyFloor
def Flash.committedImage (f : Flash) : Bool := f.loaderA.committedImage
/-- Both copies of the loader record written. -/
def Flash.putLoader (f : Flash) (r : LoaderRecord) : Flash := { f with loaderA := r, loaderB := r }

/-- The regions of the flash die (R478): first address, size. -/
def flashImage : Nat × Nat := (0x0000000, 0x1000000)
def flashLibrary : Nat × Nat := (0x1000000, 0x4000000)
def flashSettingsA : Nat × Nat := (0x5000000, 0x100000)
def flashSettingsB : Nat × Nat := (0x5100000, 0x100000)
def flashCalibration : Nat × Nat := (0x5200000, 0x1000000)
def flashLedger : Nat × Nat := (0x6200000, 0x2000000)
def flashLoader : Nat × Nat := (0x8200000, 0x20000)
def flashReserved : Nat × Nat := (0x8220000, 0x77E0000)

/-- Where a library slot begins in flash (R39, R478). -/
def flashSlot (i : Nat) : Nat := 0x1000000 + i * 0x400000

/-- Flash changed. -/
def State.upFlash (s : State) (f : Flash → Flash) : State := s.upLdr fun l => { l with flash := f l.flash }

/-- The settings word written to the slot in use, which raises its `writes` (R488). -/
def State.writeSettings (s : State) (w : Word) : State :=
  let b := s.ldr.setSlotB
  s.upFlash fun f =>
    let x := f.setting b
    f.putSetting b (settingsSlot x.format s.lnk.rim.session (x.writes + 1) w)

/-- A settings word with another address (R489). -/
def withAddr (a : Nat) (w : Word) : Word := wordOf (a * 2 ^ 20 + w.field 19 0)

/-- The address is written to the slot in use, and LDR_SETTINGS follows (R311, R489). -/
def State.saveAddr (s : State) (a : Nat) : State :=
  (s.writeSettings (withAddr a (s.ldr.flash.setting s.ldr.setSlotB).settings)).upLdr fun d => { d with settings := withAddr a d.settings }

/-! ### Long commands -/

/-- The first long command in progress that satisfies `p`. -/
def State.longOf (s : State) (p : LongOp → Bool) : Option LongCmd := s.cmd.long.find? (fun l => p l.op)

/-- That long command leaves the list and completes. -/
def State.endLong (s : State) (l : LongCmd) (status : Nat) (result : Nat := 0) : State :=
  (s.upCmd fun k => { k with long := eraseFirst (fun x => decide (x = l)) k.long }).finish l.item status result

end Sys2Proof.Machine
end

