-- ==== Sys2Proof/Machine/Flags.lean ====
section
/-! DEFINITION. The flag computations: the tag byte of a sample (R200) from the recorded spans, the time state and the gear at
its represented instant, and the fields of the status registers that are computed from state. -/

namespace Sys2Proof.Machine

/-! ### Tag bits (R200) -/

def tagInvalid : Nat := 0x80
def tagSuspect : Nat := 0x40
def tagUnsettled : Nat := 0x20
def tagMended : Nat := 0x10
def tagClipped : Nat := 0x08
def tagHoldover : Nat := 0x04

/-- OR of two tag bytes. -/
def tagOr (a b : Nat) : Nat := a ||| b

/-- The tag has all the bits of a mask. -/
def hasTag (tag mask : Nat) : Bool := tag &&& mask == mask

/-- A sample of a look with represented instant `t` lies under a span (R164: its kernel runs from t − B to t + F, and from the last synchronising reset
at the earliest, since the chain starts empty there; a kernel that begins where a span ends does not meet it, log entry 36). -/
def TagSpan.covers (sp : TagSpan) (back fwd reset t : Nat) : Bool :=
  match sp.rule with
  | .kernel => decide (sp.start ≤ t + fwd) && (match sp.stop with | none => true | some e => decide (t < e + back) && decide (reset < e))
  | .instant => decide (sp.start ≤ t) && (match sp.stop with | none => true | some e => decide (t < e))
  | .tail => decide (sp.start ≤ t) && (match sp.stop with | none => true | some e => decide (t < e + back) && decide (reset < e))

/-- The sample lies inside the span by its represented instant. -/
def TagSpan.inside (sp : TagSpan) (t : Nat) : Bool :=
  decide (sp.start ≤ t) && (match sp.stop with | none => true | some e => decide (t < e))

/-- The OR of the tags of every recorded span that covers the sample. -/
def spanTags (spans : List TagSpan) (back fwd reset t : Nat) : Nat :=
  spans.foldl (fun acc sp => if sp.covers back fwd reset t then tagOr acc sp.tag else acc) 0

/-- The sample's value is replaced by 0 or the quiet NaN (R115). -/
def spanBlank (spans : List TagSpan) (t : Nat) : Bool := spans.any (fun sp => sp.blank && sp.inside t)

/-- INVALID while the sample clock is out of lock, and for one kernel span of the look after (R15). -/
def unlockTag (l : List (Nat × Option Nat)) (span t : Nat) : Nat :=
  if l.any (fun u => decide (u.1 ≤ t) && (match u.2 with | none => true | some e => decide (t < e + span))) then tagInvalid else 0

/-- The hub was LOCKED at a fine time (R77): the newest entry at or before it decides. -/
def lockedAt (h : List (Nat × Bool)) (t : Nat) : Bool :=
  match h.find? (fun e => decide (e.1 ≤ t)) with | none => false | some e => e.2

/-- The gear index in force at a fine time (R106, R201). -/
def gearAt (h : List (Nat × Nat)) (start t : Nat) : Nat :=
  match h.find? (fun e => decide (e.1 ≤ t)) with | none => start | some e => e.2

/-- The tag that the recorded state gives a sample of a look with represented instant `t` (R200), under structure `st`. -/
def State.stateTag (s : State) (st : Struct) (stream t : Nat) : Nat :=
  let l := s.look stream
  let tag := spanTags l.spans (st.back stream) (st.fwd stream) l.chainFrom t
  let tag := tagOr tag (unlockTag s.tmb.unlocks (st.kernelSpan stream) t)
  let tag := if lockedAt s.tmb.lockHist t then tag else tagOr tag tagHoldover
  if isAux stream then tag
  else if st.autoranges stream then tagOr tag (gearAt l.gears (st.startGear stream) t % 4)
  else tagOr tag (st.startGear stream % 4)

/-! ### Spoke status (R91, R119) -/

/-- A CURRENT or CHARGE spoke, whose isolation follows the role (R91). -/
def Struct.isLoop (st : Struct) (i : Nat) : Bool := st.mode i == 3 || st.mode i == 4

/-- The role holds the isolation of CURRENT and CHARGE spokes open (R91, R116, R377). -/
def State.loopsOpen (s : State) : Bool :=
  match s.tdm.role with
  | .standby => true | .standbyDesync => true | .yielding => true | .solo => s.tdm.leftTandem
  | .active => false | .claiming => false

/-- The isolation switches of a spoke are open (R91). -/
def State.isolated (s : State) (i : Nat) : Bool :=
  !s.live || decide (s.st.mode i = 0) || decide (s.st.looks (i * 16) = 0) || (s.spoke i).quarantined || (s.st.isLoop i && s.loopsOpen)

/-- The first stream of a sequence: spokes at 0 to 767, auxiliary modulators at 768 to 815. -/
def firstOf (seq : Nat) : Nat := if seq < 768 then seq * 16 else 12288 + (seq - 768) * 16

/-- The modulator clocks of a sequence since network time 0 (R148). -/
def State.clocksNow (s : State) (seq : Nat) : Nat := s.fine / s.st.clk (firstOf seq)

/-- The number of the look whose slot holds clock `m` of the modulator, and whether the slot is idle in that pass (R148). -/
def Struct.slotAt (st : Struct) (f m : Nat) : Nat × Bool :=
  if !st.multiLook f then (0, false)
  else
    let into := m % st.passClocks f
    let n := ((numbersFrom f (st.looks f)).takeWhile (fun i => decide (st.slotStart i + st.slotClocks i ≤ into))).length
    (n, decide (m / st.passClocks f % st.every (f + n) ≠ 0))

/-- A spoke or lace whose looks run: an OFF spoke runs none, whatever its sequence (R92, R144). -/
def Struct.seqRuns (st : Struct) (f : Nat) : Bool := st.lookRuns f

/-- The slot that runs at present. -/
def State.slotNow (s : State) (seq : Nat) : Nat × Bool :=
  let f := firstOf seq
  if s.st.seqRuns f then s.st.slotAt f (s.clocksNow seq) else (0, false)

/-- The stream of the look that a sequence runs at present. -/
def State.runningStream (s : State) (seq : Nat) : Nat := firstOf seq + (s.slotNow seq).1

/-- Modulator clocks since the running look's run began: its slot in a multi-look sequence, its era in a one-look one. -/
def State.runClocks (s : State) (seq : Nat) : Nat :=
  let f := firstOf seq
  if s.st.multiLook f then s.clocksNow seq % s.st.passClocks f - s.st.slotStart (s.runningStream seq)
  else (s.fine - (s.look f).era * 65536) / s.st.clk f

/-- The word within the run, discarded words included (R161). In an idle slot, and in the idle rest of a time-based slot, where no run is on, it counts
on as if the run were (log entry 36, DESIGN CHOICE). -/
def State.runWord (s : State) (seq : Nat) : Nat :=
  let stream := s.runningStream seq
  if s.st.seqRuns (firstOf seq) then s.runClocks seq / (s.st.settle stream * s.st.osr stream) else 0

/-- The current source of a spoke is on (R97, R115, R116, R148). -/
def State.isrcOn (s : State) (i : Nat) : Bool :=
  let stream := s.runningStream i
  s.live && s.glb.sampling && s.st.lookRuns stream && !(s.slotNow i).2 && !(s.spoke i).quarantined && decide (s.st.isrcPol stream ≠ 0) &&
    decide (s.st.isrcUa stream ≠ 0) &&
    (match s.tdm.role with | .solo => true | .active => true | .claiming => true | _ => false)

/-- The fine time of a look's newest synchronising reset. -/
def Look.resetTime (l : Look) (now : Nat) : Nat :=
  match (l.resets.filter (fun r => decide (r.1 ≤ now))).getLast? with | none => l.chainFrom | some r => r.1

/-- The place in its run of the settled word whose kernel now runs (R98, R177): in a one-look sequence the kernel of word k runs half a period on either
side of k × P, and places count from the first word after the newest reset. -/
def State.revWord (s : State) (seq : Nat) : Nat :=
  let stream := s.runningStream seq
  if s.st.multiLook (firstOf seq) then s.runWord seq
  else
    let p := s.st.settle stream * s.st.ps2 stream
    (s.fine + p / 2 - s.st.indexAt stream ((s.look stream).resetTime s.fine) * p) / p

/-- Its polarity is NEG at present: in REV mode it reverses after every settled word (R98). -/
def State.isrcNeg (s : State) (i : Nat) : Bool :=
  let stream := s.runningStream i
  s.isrcOn i && (s.st.isrcPol stream == 2 ||
    (s.st.isrcPol stream == 3 && (decide (s.revWord i % 2 = 1) != Config.revFirstNeg)))

/-- The gear of a look in force now (R103, R119). -/
def State.gearNow (s : State) (stream : Nat) : Nat := gearAt (s.look stream).gears (s.st.startGear stream) s.fine

/-- A mend span of the look is in progress (R103, R119, and the worked example of the chapter): from the third clock after the word that decided the shift,
in which the feedback switches, until word W+6 arrives, 48 clocks after W. -/
def State.mending (s : State) (stream : Nat) : Bool :=
  let c := s.st.clk stream
  (s.look stream).mends.any (fun m => decide (m.time + 3 * c ≤ s.fine) && decide (s.fine < m.time + 48 * c))

/-- SPK_STATUS[s] (R119); `clipped` holds for the period of one stage-1 word, eight modulator clocks, after the clipped one. In a slot idle by `every` no look
runs: `look` shows the one whose slot is idle, while `gear` and `gear_code` show L0's, which the front end holds (R148; log entry 43, DESIGN CHOICE). -/
def State.spkStatus (s : State) (i : Nat) : Nat :=
  let p := s.spoke i
  let slot := s.slotNow i
  let stream := s.runningStream i
  -- an idle slot holds L0's gear (R148)
  let shown := if slot.2 then i * 16 else stream
  let g := s.gearNow shown % 4
  slot.1 % 16 * 2 ^ 24 + (if s.st.lookRuns shown then s.st.gearCode shown g else 0) * 2 ^ 20 + g * 2 ^ 18
    + boolBit (s.mending stream) 17 + boolBit (s.isrcOn i) 16 + boolBit (s.isrcNeg i) 15 + boolBit p.openWire 14
    + p.owMethod % 4 * 2 ^ 12
    + boolBit (match p.clipAt with | none => false | some k => decide (s.tick < k + s.st.clk2 stream * 4 / (65536 * 5))) 11
    + boolBit p.quarantined 10 + boolBit (s.isolated i) 9 + boolBit p.frozen 8

/-- LOOK_STATUS[s] or LOOK_AUX_STATUS[l] (R161); a clearing lasts four modulator clocks (R157). -/
def State.lookStatus (s : State) (seq : Nat) : Nat :=
  let f := firstOf seq
  let slot := s.slotNow seq
  if !s.glb.sampling then boolBit (s.st.lowPower f) 29
  else
    boolBit slot.2 31
      + boolBit (match (s.modu seq).clearing with | none => false | some k => decide (s.tick < k + s.st.clk2 f * 2 / (65536 * 5))) 30
      + boolBit (s.st.lowPower f) 29 + slot.1 % 16 * 2 ^ 20 + satTo 0xFFFF (s.runWord seq)

end Sys2Proof.Machine
end

