-- ==== Sys2Proof/Machine/Path.lean ====
section
/-! DEFINITION. Operations on looks that several families share: eras of the sampling grid (R49, R82), tag spans,
the synchronising reset (R49, R179), quarantine and release (R115). -/

namespace Sys2Proof.Machine

/-- The era that begins at `start`; the committed structure where it is no longer kept. -/
def State.eraFrom (s : State) (start : Nat) : Era :=
  match s.cfg.eras.find? (fun e => e.start == start) with
  | some e => e
  | none => { start := start, prevEnd := start, st := s.st }

/-- The era that follows the one beginning at `start` (eras are kept newest first). -/
def State.eraAfter (s : State) (start : Nat) : Option Era :=
  ((s.cfg.eras.filter (fun e => decide (start < e.start))).reverse).head?

/-- The structure in force at a full time: that of the newest era that has begun by then. -/
def State.structAt (s : State) (t : Nat) : Struct :=
  match s.cfg.eras.find? (fun e => decide (e.start ≤ t)) with
  | some e => e.st
  | none => s.st

/-- A new era begins. The one before it is kept, and every one that a sample in a chain can still belong to: no kernel and delay reach over 16 s. -/
def State.newEra (s : State) (e : Era) : State :=
  s.upCfg fun c => { c with eras := e :: c.eras.take ((c.eras.takeWhile (fun x => decide (e.start < x.start + 16000000000))).length + 1) }

/-! ### Tag spans -/

/-- Causes by which a span is closed later. -/
def causeQuarantine : Nat := 1
def causeOpenWire : Nat := 2
def causeLimit : Nat := 3
def causeReduced : Nat := 4
def causeIsolated : Nat := 5
def causeRamp : Nat := 6
def causeSafe : Nat := 7
def causeTakeover : Nat := 8
def causeAbsent : Nat := 9
def causeSenseLow : Nat := 10
def causeWitness : Nat := 11
/-- The first word of a run (R151, R179). -/
def causeRun : Nat := 12
/-- A synchronising reset, whose counts hold for a rank filter's outputs (R179). -/
def causeReset : Nat := 13
/-- The partner's CLAIMING (R366). -/
def causePartner : Nat := 14

/-- A span on one look. -/
def State.addSpan (s : State) (stream : Nat) (sp : TagSpan) : State :=
  s.upLook stream fun l => { l with spans := l.spans ++ [sp] }

/-- The open spans of one cause end at a fine time. -/
def State.closeSpans (s : State) (stream cause stop : Nat) : State :=
  s.upLook stream fun l =>
    { l with spans := l.spans.map (fun sp => if sp.cause = cause ∧ sp.stop = none then { sp with stop := some stop } else sp) }

/-- The look has an open span of a cause. -/
def State.hasSpan (s : State) (stream cause : Nat) : Bool :=
  (s.look stream).spans.any (fun sp => sp.cause == cause && sp.stop.isNone)

/-- The looks of a spoke that exist. -/
def Struct.spokeLooks (st : Struct) (i : Nat) : List Nat := (numbersFrom (i * 16) (min 16 (st.looks (i * 16))))

/-- The spokes of a lace (R8). -/
def laceSpokes (l : Nat) : List Nat := numbersFrom (l * 16) 16

/-- The running looks of a lace's spokes whose spoke satisfies `p`. -/
def Struct.laceLooks (st : Struct) (l : Nat) (p : Nat → Bool) : List Nat :=
  ((laceSpokes l).filter (fun i => decide (st.mode i ≠ 0) && p i)).flatMap st.spokeLooks

/-- A BRIDGE spoke (R92). -/
def Struct.isBridge (st : Struct) (i : Nat) : Bool := st.mode i == 2

/-! ### Gears and shifts (R102, R108, R109) -/

/-- A log kept newest first, without what lies behind the newest entry at or before `limit`. -/
def trimLog {α : Type} (limit : Nat) (l : List (Nat × α)) : List (Nat × α) :=
  l.take ((l.takeWhile (fun e => decide (limit ≤ e.1))).length + 1)

/-- The 16 s of the past that logs keep, as a fine time. -/
def logSpan : Nat := 16000000000 * 65536

/-- A gear comes into force at fine time `t` and rescales stage-1 words from number `w` on (R102, R103). -/
def Look.putGear (l : Look) (g t w c : Nat) : Look :=
  { l with gear := g, gears := (t, g) :: trimLog (t - logSpan) l.gears, wordGears := (w, g) :: trimLog (w - logSpan / (8 * max 1 c)) l.wordGears }

/-- One shift of a look, made at full time `t`, is counted (R108): SPK_SHIFTS, and N_GEAR_SHIFT's count and times for the end of the epoch. The time of a
shift is that of the word that decided it, or of the run it was deferred to (log entry 43, DESIGN CHOICE). -/
def State.countShift (s : State) (stream t : Nat) : State :=
  (s.upSpoke (stream / 16) fun p => { p with shifts := satInc p.shifts }).upLook stream fun l =>
    { l with shiftNote := l.shiftNote + 1, shiftFirst := if l.shiftNote = 0 then t else min l.shiftFirst t, shiftLast := max l.shiftLast t }

/-- A mend in progress is discarded (R109); its shift was made and is counted (R108; log entry 43, DESIGN CHOICE). -/
def State.dropMends (s : State) (stream : Nat) : State :=
  let open_ := (s.look stream).mends.filter (fun m => !m.done)
  (forEach open_ s fun s m => s.countShift stream (m.time / 65536)).upLook stream fun l =>
    { l with mends := l.mends.filter (fun m => m.done), startNext := none }

/-! ### The synchronising reset (R49, R179) -/

/-- A synchronising reset of a look at fine time `t`, from structure `old` to `new`: the chain starts empty, a mend is discarded,
the look is at its start gear (R102, R109), and the samples whose kernels cross the reset carry UNSETTLED: the V samples of the old structure before
`oldEnd` and the U of the new one from `t` on. A new multi-look sequence tags its first word only when it discards none (R151, R179). `oldEnd` is `t`
but for a realignment, which moves the scale. -/
def State.syncReset (s : State) (old new : Struct) (stream oldEnd t : Nat) : State :=
  let kOld := old.indexAt stream oldEnd
  let kNew := new.indexAt stream t
  let c := new.clk stream
  let s := (s.dropMends stream).upLook stream fun l =>
    { l.putGear (new.startGear stream) t (t / (8 * max 1 c)) c with resets := l.resets ++ [(t, false)] }
  let v := old.unsettledBefore stream
  let s := if old.lookRuns stream ∧ 0 < v then
      s.addSpan stream { tag := tagUnsettled, rule := .instant, start := old.instantOf stream (kOld - v), stop := some oldEnd
                         blank := false, cause := causeReset } else s
  if new.multiLook stream && decide (new.discard stream ≠ 0) then s
  else
    s.addSpan stream { tag := tagUnsettled, rule := .instant, start := t, stop := some (new.instantOf stream (kNew + new.unsettledAfter stream))
                       blank := false, cause := causeReset }

/-- The synchronising reset that a commit or a release makes. -/
def State.syncResetAt (s : State) (old new : Struct) (stream t : Nat) : State := s.syncReset old new stream t t

/-- The look takes up the era that begins at `start`. -/
def State.beginLook (s : State) (st : Struct) (stream start : Nat) : State :=
  s.upLook stream fun l =>
    { l with next := some (st.indexAt stream (start * 65536)), era := start, gear := st.startGear stream }

/-! ### Quarantine (R115) -/

/-- A look's quarantined interval begins at a fine time (R115). -/
def State.quarantineSpan (s : State) (stream t : Nat) : State :=
  s.addSpan stream { tag := tagInvalid, rule := .kernel, start := t, stop := none, blank := true, cause := causeQuarantine }

/-- INVALID of an open wire from the first sample at or after a fine time on (R113). -/
def State.openWireSpan (s : State) (stream t : Nat) : State :=
  s.addSpan stream { tag := tagInvalid, rule := .tail, start := t, stop := none, blank := false, cause := causeOpenWire }

/-- A look that a commit at fine time `t` adds to a spoke takes the spans that its spoke is under (R113, R115). -/
def State.joinLook (s : State) (stream t : Nat) : State :=
  if isAux stream then s
  else
    let p := s.spoke (stream / 16)
    let s := if p.openWire && !s.hasSpan stream causeOpenWire then s.openWireSpan stream t else s
    if p.quarantined && !s.hasSpan stream causeQuarantine then s.quarantineSpan stream t else s

/-- The spoke is quarantined now: isolation open and with it source and shunt off, autoranging stopped, samples INVALID. -/
def State.quarantine (s : State) (i : Nat) : State :=
  let now := s.fine
  let s := s.upSpoke i fun p => { p with quarantined := true }
  forEach (s.st.spokeLooks i) s fun s stream =>
    (s.dropMends stream).quarantineSpan stream now

/-- N_QUARANTINED (R461, R464): an autonomous act when a window caused it (R463). -/
def State.noteQuarantine (s : State) (q i cause acts : Nat) : State := s.notify q 0x72 i cause (argT s.now) acts

/-- The spoke is released at fine time `t`: its looks take their synchronising resets at their next grid instants (R115). N_SPOKE_RELEASED
carries why: 0 `RELEASE_SPOKE`, 1 commit, 2 `RECALIBRATE` (R464). -/
def State.releaseAt (s : State) (i why t : Nat) : State :=
  let s := s.upSpoke i fun p => { p with quarantined := false, quarantineWindow := false, released := t }
  s.notify 0 0x73 i why (argT (t / 65536))

/-- The same now. -/
def State.release (s : State) (i why : Nat) : State := s.releaseAt i why s.fine

end Sys2Proof.Machine
end

