-- ==== Sys2Proof/Machine/Numbers.lean ====
section
/-! DEFINITION. Block numbers and their times: the order in which a stall's block numbers were produced (R50, R191, R239), the index and
the time that a number stands for (R18, R150, R270), and the shape of a reducer record (R270 to R278). -/

namespace Sys2Proof.Machine

/-! ### Reducer records -/

/-- Input pairs (a, b) with a ≤ b of m inputs. -/
def pairs (m : Nat) : Nat := m * (m + 1) / 2

/-- Words per input of a job's record (R272 to R276); 0 for CSD. -/
def Struct.inputWords (st : Struct) (k : Nat) : Nat :=
  match st.jobKind k with | 1 => 16 | 2 => 259 | 3 => 4228 | 5 => 4 + 2 * st.maxPeaks k | _ => 0

/-- W of R270: the words of a job's record. -/
def Struct.recWords (st : Struct) (k : Nat) : Nat :=
  let m := (st.inputs k).length
  if st.jobKind k = 4 then 8 + st.nBins k * m * (m + 1) else st.inputWords k * m

/-- B of R270: the blocks of a record. -/
def Struct.recBlocks (st : Struct) (k : Nat) : Nat := ceilDiv (st.recWords k) 256

/-- The input whose rate a CSD job's records follow: its inputs have one rate (R267); an entry that names no look that runs is ignored (R159, R286). -/
def Struct.leadInput (st : Struct) (k : Nat) : Nat := ((st.inputs k).find? st.streamRuns).getD ((st.inputs k).headD 0)

/-- The first input index of CSD record j (R277). -/
def Struct.csdFirst (st : Struct) (k j : Nat) : Nat := j * st.avg k * (st.fftN k / 2)

/-- The time of record j as a fine time (R270): jL, or the represented instant of the first input index of a CSD record. -/
def Struct.recInstant (st : Struct) (k j : Nat) : Nat :=
  if st.jobKind k = 4 then st.instantOf (st.leadInput k) (st.csdFirst k j) else j * st.ivlNs k * 65536

/-- The first record whose time lies at or after a fine time. -/
def Struct.recAt (st : Struct) (k t : Nat) : Nat :=
  if st.jobKind k = 4 then ceilDiv (st.indexAt (st.leadInput k) t) (st.avg k * (st.fftN k / 2))
  else ceilDiv t (st.ivlNs k * 65536)

/-! ### Numbers and times of a stream -/

/-- w3 of a stream's blocks: samples per cadence epoch, or W of a reducer stream (R321). -/
def Struct.streamW3 (st : Struct) (i : Nat) : Nat :=
  if i < 13056 then st.w3 i else match st.jobOf i with | none => 0 | some k => st.recWords k

/-- The structure under which a stream's blocks carried `w3`: the committed one, or that of the newest era that gave it. -/
def State.structFor (s : State) (i w3 : Nat) : Option Struct :=
  if s.st.streamW3 i = w3 then some s.st
  else (s.cfg.eras.find? (fun e => e.st.streamW3 i == w3)).map (·.st)

/-- The time of the first sample of block number `seq` under `w3`, as a fine time. A structure no longer kept gives the grid of its rate
(R18; log entry 18). -/
def State.blockStart (s : State) (i w3 seq : Nat) : Nat :=
  match s.structFor i w3 with
  | some st =>
    if i < 13056 then st.instantOf i (seq * 256)
    else match st.jobOf i with | none => 0 | some k => st.recInstant k (seq / max 1 (st.recBlocks k))
  | none => seq * 256 * (Config.epochNs * 65536) / max 1 w3

/-- The number of the block that holds the first sample at or after a fine time, and that sample's time. -/
def State.blockAt (s : State) (i w3 t : Nat) : Nat × Nat :=
  match s.structFor i w3 with
  | some st =>
    if i < 13056 then (st.indexAt i t / 256, st.instantOf i (st.indexAt i t))
    else match st.jobOf i with | none => (0, 0) | some k => (st.recAt k t * st.recBlocks k, st.recInstant k (st.recAt k t))
  | none =>
    let k := ceilDiv (t * w3) (Config.epochNs * 65536)
    (k / 256, k * (Config.epochNs * 65536) / max 1 w3)

/-- The number of the block that holds the last sample at or before a fine time, one more than that; 0 when there is none. -/
def State.blockEnd (s : State) (i w3 t : Nat) : Nat :=
  match s.structFor i w3 with
  | some st =>
    if i < 13056 then ceilDiv (st.indexAt i (t + 1)) 256
    else match st.jobOf i with | none => 0 | some k => st.recAt k (t + 1) * st.recBlocks k
  | none => ceilDiv (ceilDiv ((t + 1) * w3) (Config.epochNs * 65536)) 256

/-! ### The order of production -/

/-- Numbers in a run. -/
def Run.length (r : Run) : Nat := r.last + 1 - r.first

/-- A run holds a block number. -/
def Run.holds (r : Run) (i w3 seq : Nat) : Bool := r.stream == i && r.w3 == w3 && decide (r.first ≤ seq) && decide (seq ≤ r.last)

/-- The place of block (i, w3, seq) among the numbers of a list of runs, the newest that holds it. -/
def ordIn (i w3 seq : Nat) : Nat → List Run → Option Nat
  | _, [] => none
  | base, r :: rs =>
    match ordIn i w3 seq (base + r.length) rs with
    | some o => some o
    | none => if r.holds i w3 seq then some (base + (seq - r.first)) else none

/-- The place of a block number of the stall (R239, R255). -/
def Stall.ordOf (k : Stall) (i w3 seq : Nat) : Option Nat := ordIn i w3 seq 0 k.runs

/-- The run of the most recently written block of the stall that carries a number (R255). -/
def Stall.runOf (k : Stall) (seq : Nat) : Option Run := k.runs.reverse.find? (fun r => r.holds r.stream r.w3 seq)

/-- The numbers at places from `a` up to, not including, `b`, one entry per run. -/
def spansIn (a b : Nat) : Nat → List Run → List Run
  | _, [] => []
  | base, r :: rs =>
    let n := r.length
    let lo := max a base
    let hi := min b (base + n)
    (if lo < hi then [{ r with first := r.first + (lo - base), last := r.first + (hi - 1 - base) }] else []) ++ spansIn a b (base + n) rs

/-- The numbers at a range of places. -/
def Stall.spans (k : Stall) (a b : Nat) : List Run := spansIn a b 0 k.runs

/-- The runs after a block that makes the run `x` of one number has been written: a number that goes on from the newest run lengthens it, the second part of
a split block (R191) only moves its end. `off`: the block does not begin where its number does. -/
def runsAfter (x : Run) (off : Bool) : List Run → List Run
  | [] => [x]
  | [r] =>
    if r.stream = x.stream ∧ r.w3 = x.w3 ∧ x.first = r.last + 1 then
      [{ r with last := x.first, stop := x.stop, times := if off then r.times ++ [(x.first, x.time)] else r.times }]
    else if r.stream = x.stream ∧ r.w3 = x.w3 ∧ x.first = r.last then [{ r with stop := x.stop }]
    else [r, x]
  | r :: rs => r :: runsAfter x off rs

/-- A run put in its place among runs in rising order of time. -/
def insertRun (x : Run) : List Run → List Run
  | [] => [x]
  | r :: rs => if x.time < r.time then x :: r :: rs else r :: insertRun x rs

/-- The runs of a stream in every stall, in the order produced: a commit may have moved it (R259). -/
def State.runsOf (s : State) (i : Nat) : List Run :=
  (s.path.stalls.flatMap (fun e => e.2.runs.filter (fun r => r.stream == i))).foldl (fun l r => insertRun r l) []

/-- The final blocks of the stall that are held. -/
def Stall.finals (k : Stall) : List HeldBlock := k.held.filter (fun b => !b.interim)

/-- The held parts of a block number (R191: two parts of a split block). -/
def Stall.parts (k : Stall) (i w3 seq : Nat) : List HeldBlock := k.finals.filter (fun b => b.stream == i && b.w3 == w3 && b.seq == seq)

/-- The final blocks of a stream that are held in any stall. -/
def State.heldOf (s : State) (i : Nat) : List HeldBlock := s.path.stalls.flatMap (fun e => e.2.finals.filter (fun b => b.stream == i))

/-- STL_NEWEST (R239). -/
def Stall.newestSeq (k : Stall) : Nat := match k.finals.getLast? with | none => 0 | some b => b.seq

/-- The oldest block of a list, newest first, whose numbers go on without a break. -/
def unbroken : HeldBlock → List HeldBlock → HeldBlock
  | b, [] => b
  | b, c :: cs => if c.ord = b.ord ∨ c.ord + 1 = b.ord then unbroken c cs else b

/-- The oldest held block of the unbroken run that ends at the newest (R239). -/
def Stall.oldestHeld (k : Stall) : Option HeldBlock :=
  match k.finals.reverse with
  | [] => none
  | b :: r => some (unbroken b r)

/-- STL_ACKED: the number at the acknowledgement position. -/
def Stall.ackedSeq (k : Stall) : Nat :=
  if k.ackedOrd = 0 then 0 else match k.spans (k.ackedOrd - 1) k.ackedOrd with | [] => 0 | r :: _ => r.first

/-- A held block's number is acknowledged (R240). -/
def Stall.isAcked (k : Stall) (b : HeldBlock) : Bool := decide (b.ord < k.ackedOrd) || k.ackAhead.contains b.ord

/-- Every run of a stream that was ever written, in the order produced: with those of a stall that a commit has emptied. -/
def State.writtenRuns (s : State) (i : Nat) : List Run :=
  (s.path.stalls.flatMap (fun e => (e.2.past ++ e.2.runs).filter (fun r => r.stream == i))).foldl (fun l r => insertRun r l) []

/-- The time of the first sample of a run's number, where the run keeps it. -/
def Run.timeOf (r : Run) (seq : Nat) : Option Nat := if seq = r.first then some r.time else (r.times.find? (fun x => x.1 == seq)).map (·.2)

/-- The full time of the first sample of a block number (R257): that of the held block, that which its run keeps, or that of its place on the grid. -/
def State.seqTime (s : State) (i w3 seq : Nat) : Nat :=
  match (s.heldOf i).find? (fun b => b.w3 == w3 && b.seq == seq) with
  | some b => b.tFirst
  | none =>
    match ((s.writtenRuns i).reverse.find? (fun r => r.holds i w3 seq)).bind (·.timeOf seq) with
    | some t => t
    | none => s.blockStart i w3 seq / 65536

/-- The delivery of a stall's blocks ends (R259): the runs keep what had not been sent by then. -/
def endRuns (top : Nat) : Nat → List Run → List Run
  | _, [] => []
  | base, r :: rs =>
    (if base + r.length ≤ top ∨ r.unsent.isSome then r else { r with unsent := some (r.first + (top - base)) }) :: endRuns top (base + r.length) rs

/-- The runs of a stall whose delivery ends: numbers up to the acknowledgement position were sent too (R358). -/
def Stall.endedRuns (k : Stall) : List Run := endRuns (max k.sentTop k.ackedOrd) 0 k.runs

/-- The gap records of the numbers at a range of places, one for each w3 (R257). -/
def State.gapsFor (s : State) (k : Stall) (a b cause : Nat) : List Gap :=
  (k.spans a b).map (fun r =>
    { stream := r.stream, w3 := r.w3, first := r.first, last := r.last, cause := cause, startUnknown := false
      tFirst := s.seqTime r.stream r.w3 r.first })

/-- The gap record with cause RESET and START_UNKNOWN that ends before number `seq` (R258). -/
def unknownGap (i w3 seq : Nat) : Gap :=
  { stream := i, w3 := w3, first := 0, last := seq - 1, cause := 2, startUnknown := true, tFirst := 0 }

/-- A place is acknowledged: the position moves over every place that is acknowledged without a break (R240, R326). -/
def advanceAck : Nat → Nat → List Nat → Nat × List Nat
  | 0, p, l => (p, l)
  | fuel + 1, p, l => if l.contains p then advanceAck fuel (p + 1) (l.filter (fun x => x != p)) else (p, l)

/-- The places from `a` up to `b` are acknowledged. -/
def Stall.ackRange (k : Stall) (a b : Nat) : Stall :=
  let new := (numbersFrom a (b - a)).filter (fun o => decide (k.ackedOrd ≤ o) && !k.ackAhead.contains o)
  let r := advanceAck (k.ackAhead.length + new.length) k.ackedOrd (k.ackAhead ++ new)
  { k with ackedOrd := r.1, ackAhead := r.2 }

/-- Every place up to `o` is acknowledged (R255: `ACK_BLOCKS`). -/
def Stall.ackThrough (k : Stall) (o : Nat) : Stall :=
  if o + 1 ≤ k.ackedOrd then k
  else
    let ahead := k.ackAhead.filter (fun x => decide (o < x))
    let r := advanceAck ahead.length (o + 1) ahead
    { k with ackedOrd := r.1, ackAhead := r.2 }

end Sys2Proof.Machine
end

