-- ==== Sys2Proof/Machine/Float.lean ====
section
/-! DEFINITION. Binary32 and binary64 arithmetic (R189): values as exact quotients, rounded to nearest, ties to even, and the
binary32 words of the sample path. -/

namespace Sys2Proof.Machine

/-- An exact finite value: a quotient of an integer by a positive natural number. -/
structure Q where
  num : Int
  den : Nat
  deriving DecidableEq, Repr, Inhabited

def Q.ofInt (n : Int) : Q := { num := n, den := 1 }
def Q.add (a b : Q) : Q := { num := a.num * b.den + b.num * a.den, den := a.den * b.den }
def Q.neg (a : Q) : Q := { num := -a.num, den := a.den }
def Q.sub (a b : Q) : Q := a.add b.neg
def Q.mul (a b : Q) : Q := { num := a.num * b.num, den := a.den * b.den }
/-- The quotient of two values; none when the divisor is 0. -/
def Q.div (a b : Q) : Option Q :=
  if b.num = 0 then none
  else if b.num < 0 then some { num := -(a.num * b.den), den := a.den * b.num.natAbs }
  else some { num := a.num * b.den, den := a.den * b.num.natAbs }
def Q.less (a b : Q) : Bool := decide (a.num * b.den < b.num * a.den)
def Q.atMost (a b : Q) : Bool := decide (a.num * b.den ≤ b.num * a.den)

/-- The natural quotient n / d rounded to nearest, ties to even. -/
def roundEvenNat (n d : Nat) : Nat :=
  let q := n / d
  let r := n % d
  if 2 * r < d then q else if d < 2 * r then q + 1 else if q % 2 = 0 then q else q + 1

/-- round() of R187: nearest, ties to even. -/
def Q.round (a : Q) : Int :=
  let m : Int := (roundEvenNat a.num.natAbs a.den : Nat)
  if a.num < 0 then -m else m

/-- A quotient taken to a whole number where the manual states no rounding: a neighbouring whole number (log entry 15). -/
def Q.near (a : Q) : Int :=
  let f := a.num / (a.den : Int)
  if f * a.den = a.num then f else if Config.roundUp a.num a.den then f + 1 else f

/-- A quotient rounded to the nearest whole number where the manual says that it is rounded and not how a tie falls (log entry 15). -/
def Q.nearest (a : Q) : Int :=
  let f := a.num / (a.den : Int)
  let r := 2 * (a.num - f * a.den)
  if r < a.den then f else if (a.den : Int) < r then f + 1 else if Config.roundUp a.num a.den then f + 1 else f

/-- A magnitude rounded to `p` significant bits with exponents from `emin`: the significand and the exponent. -/
def roundBits (p : Nat) (emin : Int) (n d : Nat) : Nat × Int :=
  if n = 0 then (0, emin)
  else
    let e0 : Int := (Nat.log2 n : Int) - (Nat.log2 d : Int) - (p : Int)
    -- the quotient by 2^e0 has p or p + 1 bits
    let scale (e : Int) : Nat × Nat := if e < 0 then (n * 2 ^ e.natAbs, d) else (n, d * 2 ^ e.natAbs)
    let big := decide (2 ^ p * (scale e0).2 ≤ (scale e0).1)
    let e1 : Int := if big then e0 + 1 else e0
    let e : Int := if e1 < emin then emin else e1
    (roundEvenNat (scale e).1 (scale e).2, e)

/-- A significand times a power of two as a quotient. -/
def ofBits (neg : Bool) (m : Nat) (e : Int) : Q :=
  let v : Int := if neg then -(m : Int) else m
  if e < 0 then { num := v, den := 2 ^ e.natAbs } else { num := v * 2 ^ e.natAbs, den := 1 }

/-- Rounding to binary64, to nearest, ties to even; none when the result is not finite. -/
def Q.to64 (a : Q) : Option Q :=
  let r := roundBits 53 (-1074) a.num.natAbs a.den
  if 2 ^ 1024 ≤ (ofBits false r.1 r.2).num then none else some (ofBits (decide (a.num < 0)) r.1 r.2)

/-- The exact value of a finite binary32 word. -/
def of32 (w : Word) : Option Q :=
  let s := w.flag 31
  let e := w.field 30 23
  let f := w.field 22 0
  if e = 255 then none
  else if e = 0 then some (ofBits s f (-149))
  else some (ofBits s (f + 2 ^ 23) ((e : Int) - 150))

/-- The quiet NaN of R189. -/
def quietNan : Word := 0x7FC00000

/-- The largest finite binary32 value. -/
def max32 : Q := { num := (2 ^ 24 - 1) * 2 ^ 104, den := 1 }

/-- A value rounded to binary32, to nearest, ties to even, and whether it was replaced by the quiet NaN because its magnitude
exceeds the largest finite binary32 value (R189). -/
def Q.to32 (a : Q) : Word × Bool :=
  if max32.less { num := a.num.natAbs, den := a.den } then (quietNan, true)
  else
    let r := roundBits 24 (-149) a.num.natAbs a.den
    let sign : Nat := if a.num < 0 then 2 ^ 31 else 0
    -- a significand of 2^24 after rounding carries into the exponent
    let m := if r.1 = 2 ^ 24 then 2 ^ 23 else r.1
    let e := if r.1 = 2 ^ 24 then r.2 + 1 else r.2
    if m < 2 ^ 23 then (wordOf (sign + m), false)
    else (wordOf (sign + (e + 150).toNat * 2 ^ 23 + (m - 2 ^ 23)), false)

/-- The order-preserving integer of a finite binary32 word: comparing these compares the values, and both zeros are 0. -/
def order32 (w : Word) : Int := if w.flag 31 then -(w.field 30 0 : Int) else w.field 30 0

/-- A binary32 word is a NaN or an infinity. -/
def notFinite32 (w : Word) : Bool := w.field 30 23 == 255

/-- A free binary32 word as the hub emits it: the only NaN is the quiet one, and there is no infinity (R189). -/
def finite32 (w : Word) : Word := if notFinite32 w then quietNan else w

/-- A finite binary64 value: its magnitude with its sign, which a zero has too. -/
structure F64 where
  q : Q
  neg : Bool
  deriving DecidableEq, Repr, Inhabited

/-! ### Operations in binary64 (R189): none stands for a result that is not finite -/

def f64 (a : Option Q) : Option Q := a.bind Q.to64
def add64 (a b : Option Q) : Option Q := match a, b with | some x, some y => (x.add y).to64 | _, _ => none
def sub64 (a b : Option Q) : Option Q := match a, b with | some x, some y => (x.sub y).to64 | _, _ => none
def mul64 (a b : Option Q) : Option Q := match a, b with | some x, some y => (x.mul y).to64 | _, _ => none
def div64 (a b : Option Q) : Option Q := match a, b with | some x, some y => (x.div y).bind Q.to64 | _, _ => none

/-- An exact value in binary64, a zero taken as +0. -/
def F64.of (a : Q) : Option F64 := a.to64.map fun q => { q := q, neg := decide (a.num < 0) }

/-- A binary32 word in binary64, which holds it exactly. -/
def F64.of32 (w : Word) : Option F64 := (Machine.of32 w).map fun q => { q := q, neg := w.flag 31 }

def F64.neg1 (a : F64) : F64 := { q := a.q.neg, neg := !a.neg }

/-- Addition: an exact sum of zero is −0 only of two negative zeros. -/
def addF (a b : Option F64) : Option F64 :=
  match a, b with
  | some x, some y =>
    let r := x.q.add y.q
    r.to64.map fun q => { q := q, neg := if r.num = 0 then x.neg && y.neg else decide (r.num < 0) }
  | _, _ => none
def subF (a b : Option F64) : Option F64 := addF a (b.map F64.neg1)
def mulF (a b : Option F64) : Option F64 :=
  match a, b with | some x, some y => (x.q.mul y.q).to64.map fun q => { q := q, neg := x.neg != y.neg } | _, _ => none
def divF (a b : Option F64) : Option F64 :=
  match a, b with
  | some x, some y => ((x.q.div y.q).bind Q.to64).map fun q => { q := q, neg := x.neg != y.neg }
  | _, _ => none

/-- A binary64 value as a binary32 word, zeros with their sign, and whether the quiet NaN took its place (R189). -/
def F64.out (a : Option F64) : Word × Bool :=
  match a with
  | none => (quietNan, true)
  | some f => if f.q.num = 0 then (if f.neg then 0x80000000 else 0, false) else
    let r := f.q.to32
    if r.1.field 30 0 = 0 then (if f.neg then 0x80000000 else 0, r.2) else r

/-- A binary64 result as the sample's binary32 word, and whether it carries INVALID (R189). -/
def out32 (a : Option Q) : Word × Bool := match a with | none => (quietNan, true) | some q => q.to32

end Sys2Proof.Machine
end

