-- ==== Sys2Proof/Machine/Reals.lean ====
section
/-! DEFINITION. Real functions that rules name (R103, R126, R165, R194, R195, R272, R277, R278): the sine and cosine of a fraction of a turn, the
logarithm and the square root, in fixed point with 96 binary places and an error far below the last place of any format of the manual (log entry
15). -/

namespace Sys2Proof.Machine

/-- The scale of the fixed-point values: 2^96. -/
def fixOne : Int := 2 ^ 96

/-- 2π in fixed point, rounded down. -/
def fixTwoPi : Int := 497805226624462170461043889244

/-- The natural logarithm of 2 in fixed point, rounded down. -/
def fixLn2 : Int := 54916777467707473351141471128

/-- The product of two fixed-point values. -/
def fixMul (a b : Int) : Int := a * b / fixOne

/-- The terms of the cosine series from the k-th on: `t` is the term before, `x2` the square of the angle. -/
def cosSeries (x2 : Int) : Nat → Nat → Int → Int
  | 0, _, _ => 0
  | fuel + 1, k, t =>
    let u := -(fixMul t x2) / ((2 * k + 1) * (2 * k + 2) : Nat)
    u + cosSeries x2 fuel (k + 1) u

/-- The cosine of the fraction `num / den` of a turn, in fixed point. -/
def fixCos (num : Int) (den : Nat) : Int :=
  let r := num % (den : Int)
  let r := if (den : Int) < 2 * r then r - den else r
  let x := fixTwoPi * r / (den : Int)
  fixOne + cosSeries (fixMul x x) 32 0 fixOne

/-- The sine of the fraction `num / den` of a turn: the cosine a quarter turn back. -/
def fixSin (num : Int) (den : Nat) : Int := fixCos (4 * num - den) (4 * den)

/-- A fixed-point value as a quotient. -/
def Q.ofFix (x : Int) : Q := { num := x, den := 2 ^ 96 }

/-- A quotient in fixed point, rounded down. -/
def Q.fix (a : Q) : Int := a.num * fixOne / (a.den : Int)

/-- The terms z^(2k+1) / (2k+1) of the area tangent: `p` is the power. -/
def atanhSeries (z2 : Int) : Nat → Nat → Int → Int
  | 0, _, _ => 0
  | fuel + 1, k, p => p / (2 * k + 1 : Nat) + atanhSeries z2 fuel (k + 1) (fixMul p z2)

/-- The natural logarithm of a positive quotient, in fixed point. -/
def fixLn (a : Q) : Int :=
  let e : Int := (Nat.log2 a.num.natAbs : Int) - (Nat.log2 a.den : Int)
  -- the quotient by 2^e lies in 1/2 to 2
  let m : Q := if e < 0 then { num := a.num * 2 ^ e.natAbs, den := a.den } else { num := a.num, den := a.den * 2 ^ e.natAbs }
  let z : Int := (m.num - m.den) * fixOne / (m.num + m.den)
  e * fixLn2 + 2 * atanhSeries (fixMul z z) 64 0 z

/-- The largest number whose square is at most `n`, from the bits below `k`. -/
def sqrtBits (n : Nat) : Nat → Nat → Nat
  | 0, r => r
  | k + 1, r => sqrtBits n k (if (r + 2 ^ k) * (r + 2 ^ k) ≤ n then r + 2 ^ k else r)

/-- The whole part of a square root. -/
def natSqrt (n : Nat) : Nat := sqrtBits n (Nat.log2 n / 2 + 1) 0

/-- The square root of a quotient that is not negative: exact to 2^-96 of it or to 2^-192. -/
def Q.sqrt (a : Q) : Q := { num := (natSqrt (a.num.natAbs * a.den * 2 ^ 192) : Nat), den := a.den * 2 ^ 96 }

/-- The binary32 word `d` places above a finite one, kept within the finite words. -/
def placesOff (w : Word) (d : Int) : Word :=
  let n := clampInt (order32 w + d) (-0x7F7FFFFF) 0x7F7FFFFF
  wordOf (if n < 0 then 2 ^ 31 + n.natAbs else n.natAbs)

/-- A value as a binary32 word where no rounding is stated: the word of the value, or one of its two neighbours (log entry 15). -/
def Q.near32 (a : Q) : Word :=
  let w := a.to32.1
  match of32 w with
  | none => w
  | some v =>
    if v.atMost a && a.atMost v then w
    else
      let low := if v.less a then w else placesOff w (-1)
      if Config.roundUp a.num a.den then placesOff low 1 else low

/-- The raised cosine (1 − cos(π t / n)) / 2 of R126 in 1/65,536, at `t` of a ramp of `n`. -/
def raisedCosine (t n : Nat) : Nat := (Q.near { num := (fixOne - fixCos t (2 * n)) * 32768, den := 2 ^ 96 }).toNat

end Sys2Proof.Machine
end

