-- ==== Sys2Proof/Machine/LinkOps.lean ====
section
/-! DEFINITION. Operations on lanes, rim ports and tandem roles that several families share: a lane's exit from ACTIVE (R347),
detection and failure (R339, R346), reach and the rim turn (R309, R310), claiming (R361) and yielding (R368). -/

namespace Sys2Proof.Machine

/-! ### Rim -/

/-- The rim port of lane 0 or 1 (R337). -/
def portOfLane (x : Nat) : Port := if x = 0 then .e else .w

/-- The lane of a rim port. -/
def laneOfPort : Port → Nat
  | .e => 0
  | .w => 1

/-- 0 for RIM_E, 1 for RIM_W, as notices name ports. -/
def portNum : Port → Nat
  | .e => 0
  | .w => 1

/-- The lane of a rim port is ACTIVE. -/
def State.portActive (s : State) (p : Port) : Bool := decide ((s.lane (laneOfPort p)).state = .active)

/-- Every unacknowledged BULK frame sent through a port is declared lost (R310): its blocks are re-sent (R326). -/
def State.declareLost (s : State) (p : Port) : State :=
  s.upRim fun r =>
    { r with bulkOut := r.bulkOut.map (fun f => if f.port = p then { f with lost := true } else f)
             resend := r.resend ++ (r.bulkOut.filter (fun f => decide (f.port = p) && !f.lost && !f.resent)).flatMap (·.items) }

/-- The port by which BULK frames leave is chosen again after a change of reach or of `bulk_w`: a turn, or isolation
(R310). Both are autonomous acts (R463). -/
def State.rimUpdate (s : State) : State :=
  let r := s.lnk.rim
  if !r.e.reach && !r.w.reach then
    if r.isolated then s
    else (s.upRim fun r => { r with isolated := true }).notify s.st.rimQ 0x4A 0 0 (argT s.now) 1
  else
    let west := if s.st.bulkW then r.w.reach else !r.e.reach
    let s := s.upRim fun r => { r with isolated := false }
    if west = r.bulkWest then s
    else
      ((s.declareLost (if west then .e else .w)).upRim fun r => { r with bulkWest := west }).notify s.st.rimQ 0x49 0
        (if west then 1 else 0) (argT s.now) 1

/-- A port loses reach (R309). -/
def State.loseReach (s : State) (p : Port) : State :=
  if (s.rimPort p).reach then
    (s.upPort p fun r => { r with reach := false, hops := 0xFF }).rimUpdate
  else s

/-! ### Lanes -/

/-- The code of a lane state (R339). -/
def LaneState.code : LaneState → Nat
  | .off => 0 | .detect => 1 | .train => 2 | .lock => 3 | .exchange => 4 | .active => 5 | .test => 6

/-- Parts of descriptors that wait at a port are lost with its queues and are to be handed over again (R388). -/
def State.recordsUnsent (s : State) (fs : List OutFrame) : State :=
  forEach fs s fun s f =>
    match f.body with
    | .record k at_ item _ => s.upStall k fun x =>
        { x with reads := x.reads.map (fun r => if decide (r.item = item) && decide (at_ < r.handed) then { r with handed := at_ } else r) }
    | _ => s

/-- A lane leaves ACTIVE: N_LANE_DOWN with the cause, and the reach of a rim port is gone (R309, R347, R397). -/
def State.leaveActive (s : State) (x cause : Nat) : State :=
  if (s.lane x).state = .active then
    let s := (s.notify s.st.rimQ 0x51 x cause (argT s.now) 1).intr 5
    if x < 2 then
      -- the frames that wait in the port's queues are lost
      let s := s.recordsUnsent (s.rimPort (portOfLane x)).bulk
      (s.upPort (portOfLane x) fun r =>
        { r with hbTick := none, preOn := false, verified := false, express := [], ptp := [], time := [], control := [], forward := []
                 forwardBytes := 0, bulk := [] }).loseReach (portOfLane x)
    else s.upTdm fun t => { t with lanesLost := some s.tick, linkSent := if (s.lane (5 - x)).state = .active then t.linkSent else none }
  else s

/-- What the checker has found so far in the partner's bits stays in its registers (R350). -/
def Lane.settlePrbs (l : Lane) (x tick : Nat) : Lane :=
  if l.state = .test ∧ l.test.field 27 26 ≠ 0 ∧ l.test.field 31 30 ≠ 1 then
    let r := Config.linePrbs x l.prbsFrom tick
    { l with prbsLock := r.1, prbsErr := satTo 0x7FFFFFFF (l.prbsErr + r.2), prbsFrom := tick }
  else l

/-- A lane goes to DETECT at once, without back-off, under the rate and FEC of the committed structure (R339, R349). -/
def State.toDetect (s : State) (x cause : Nat) : State :=
  (s.leaveActive x cause).upLane x fun l =>
    { l.settlePrbs x s.tick with
             state := .detect, since := s.tick, backoffUntil := none, rxReady := false, partnerReady := false
             blockLock := false, fecLock := false, hiBer := false, ackOut := false, prevWord := none, module := 0
             rate10 := s.st.laneRate10 x, fec := s.st.laneFec x && !s.st.laneRate10 x }

/-- A failure of bring-up: the lane waits min(2^(n−1), 1000) ms in DETECT (R346). -/
def State.laneFail (s : State) (x : Nat) : State :=
  s.upLane x fun l =>
    { l with state := .detect, since := s.tick, lastFail := l.state.code, failures := l.failures + 1
             backoffUntil := some (s.tick + ms (min (2 ^ min l.failures 10) 1000)), rxReady := false, partnerReady := false
             blockLock := false, fecLock := false, hiBer := false, ackOut := false, prevWord := none, module := 0 }

/-- `RETRAIN_LANE`, and the window action of that name (R347, R348): the lane goes to DETECT at once, from TEST too, whose LNK_TEST keeps its value (log
entry 47, DESIGN CHOICE), and the failure count is reset. A lane is OFF only before the hub has left RESET (R339). -/
def State.retrain (s : State) (x : Nat) : State :=
  if (s.lane x).state = .off then s.upLane x fun l => { l with failures := 0, retriesSince := 0 }
  else (s.toDetect x 4).upLane x fun l => { l with failures := 0, retriesSince := 0 }

/-- `chk` of a capability word: the exclusive-OR of its five other nibbles (R345). -/
def capabilityCheck (w : Nat) : Nat :=
  bitsOf w 23 20 ^^^ bitsOf w 19 16 ^^^ bitsOf w 15 12 ^^^ bitsOf w 11 8 ^^^ bitsOf w 7 4

/-- The hub's own capability word on lane `x` (R345): its kind, `ver` 1, `ack`, its address or 4,095. -/
def State.ownCapability (s : State) (x : Nat) : Nat :=
  let w := x * 2 ^ 20 + 2 ^ 18 + boolBit (s.lane x).ackOut 17 + s.lnk.rim.addr % 4096 * 2 ^ 4
  w + capabilityCheck w

/-- The word that a lane in EXCHANGE sends from now on, once per µs (R345; log entry 47). -/
def State.sayCapability (s : State) (x : Nat) : State := s.emit (.capability x (s.ownCapability x))

/-! ### Tandem roles -/

/-- The partner's address (R356). -/
def partnerAddr (a : Nat) : Nat := if a % 2 = 0 then a + 1 else a - 1

/-- The service address of a pair, or the hub's own address outside a tandem (R313). -/
def State.serviceAddr (s : State) : Nat :=
  if s.st.tandemOn then s.lnk.rim.addr / 2 * 2 else s.lnk.rim.addr

/-- The hub publishes its streams under the service address (R357, R358). -/
def State.publishes (s : State) : Bool :=
  match s.tdm.role with | .solo => true | .active => true | .claiming => true | _ => false

/-- The hub drives its laces and runs its current sources in this role (R133, R116). -/
def Role.drives : Role → Bool
  | .solo => true | .active => true | .claiming => true | _ => false

/-- The partner is alive by at least one witness (R369, R375). -/
def State.partnerAlive (s : State) : Bool := s.tdm.witToken || s.tdm.witLink || s.tdm.witRim

/-- Looks of CURRENT and CHARGE spokes (R116). -/
def Struct.loopLooks (st : Struct) : List Nat :=
  ((List.range 768).filter (fun i => st.mode i == 3 || st.mode i == 4)).flatMap st.spokeLooks

/-- A spoke whose looks carry SUSPECT through a takeover: of a lace that is driven, RTD, CURRENT and CHARGE (R366). -/
def Struct.inTakeover (st : Struct) (i : Nat) : Bool :=
  decide (st.mode i ≠ 0) && (decide (st.drive (i / 16) ≠ 0) || st.mode i == 3 || st.mode i == 4 || st.mode i == 5)

/-- Their looks. -/
def Struct.takeoverLooks (st : Struct) : List Nat := ((List.range 768).filter st.inTakeover).flatMap st.spokeLooks

/-- The laces that the committed structure drives. -/
def Struct.driven (st : Struct) : List Nat := (List.range 48).filter (fun l => decide (st.drive l ≠ 0))

/-- Samples of CURRENT and CHARGE looks are INVALID while their isolation is held open by the role (R116). -/
def State.openLoops (s : State) : State :=
  let now := s.fine
  forEach s.st.loopLooks s fun s i =>
    if s.hasSpan i causeIsolated then s
    else s.addSpan i { tag := tagInvalid, rule := .kernel, start := now, stop := none, blank := false, cause := causeIsolated }

/-- The isolation closes again. -/
def State.closeLoops (s : State) : State :=
  let now := s.fine
  forEach s.st.loopLooks s fun s i => s.closeSpans i causeIsolated now

/-- The looks of a lace's BRIDGE spokes, and of all its spokes. -/
def State.bridgeLooks (s : State) (l : Nat) : List Nat := s.st.laceLooks l s.st.isBridge
def State.allLooks (s : State) (l : Nat) : List Nat := s.st.laceLooks l (fun _ => true)

/-- A span of one tag opens on looks that have none of its cause. -/
def State.openSpans (s : State) (looks : List Nat) (tag : Nat) (rule : SpanRule) (start cause : Nat) : State :=
  forEach looks s fun s i =>
    if s.hasSpan i cause then s
    else s.addSpan i { tag := tag, rule := rule, start := start, stop := none, blank := false, cause := cause }

/-- The spans of a cause end on looks. -/
def State.endSpans (s : State) (looks : List Nat) (cause stop : Nat) : State :=
  forEach looks s fun s i => s.closeSpans i cause stop

/-- The spans of a cause end on every look that has one. -/
def State.endEverywhere (s : State) (cause stop : Nat) : State := s.endSpans (s.path.looks.map (·.1)) cause stop

/-- Spans of a cause, the open ones and those whose end lies ahead, end at `stop` at the latest. -/
def Look.capSpans (l : Look) (cause stop : Nat) : Look :=
  { l with spans := l.spans.map (fun sp =>
      if sp.cause = cause then { sp with stop := some (match sp.stop with | none => stop | some x => min x stop) } else sp) }

/-- The same on every look. -/
def State.capEverywhere (s : State) (cause stop : Nat) : State :=
  forEach (s.path.looks.map (·.1)) s fun s i => s.upLook i fun l => l.capSpans cause stop

/-- The structure under which a lace's driver runs: the committed one, or while an old drive still ramps down the one with its record (R127). -/
def State.driveSt (s : State) (l : Nat) : Struct :=
  let p := s.laceOf l
  if p.record = [] then s.st else s.st.setRecord .lace l p.record

/-- Whether the excitation witness is present (R359): on some excited lace the newest estimate is at or above 25 % of the commanded amplitude,
or no lace is excited. -/
def State.excSeen (s : State) : Bool :=
  let driven := s.st.driven
  driven.isEmpty || driven.any (fun l => match (s.laceOf l).newest with
    | none => false
    | some e => decide (s.st.commandedAmp l ≤ 4 * e.1))

/-- The excitation witness as it stands (R359, R380). -/
def State.markExc (s : State) : State := s.upTdm fun t => { t with witExc := s.excSeen }

/-- A role in which a current-driven lace's low sense makes samples INVALID (R366). -/
def State.lowRole (s : State) : Bool := match s.tdm.role with | .standby => true | .standbyDesync => true | .claiming => true | _ => false

/-- INVALID on a current-driven lace of a standby or claiming hub whose sensed amplitude is low (R366). -/
def State.lowSpans (s : State) (l : Nat) : State :=
  if isCurrentDrive (s.st.drive l) && s.lowRole && (s.laceOf l).senseLow then
    s.openSpans (s.allLooks l) tagInvalid .kernel s.fine causeSenseLow
  else s.endSpans (s.allLooks l) causeSenseLow s.fine

/-- The same on every lace, as the role changes. -/
def State.allLowSpans (s : State) : State := forEach (List.range 48) s State.lowSpans

/-- The UNSETTLED spans of a commit's ramps end one kernel span after the last ramp (R127). -/
def State.rampSettled (s : State) (l : Nat) : State :=
  let s := s.upLaceOf l fun p => { p with settling := false }
  forEach (s.bridgeLooks l) s fun s i => s.closeSpans i causeRamp (s.fine + s.st.kernelSpan i)

/-- The sense interval's worth of a ramp in ticks (R126: `ramp_cycles` sense intervals). -/
def Struct.rampTicks (st : Struct) (l : Nat) : Nat := st.rampCycles l * st.senseTicks l

/-- The current limit or compliance loss of a lace ends with its drive (R128): the SUSPECT spans end. -/
def State.endLimit (s : State) (l : Nat) : State :=
  if !(s.laceOf l).limit then s
  else
    let s := s.upLaceOf l fun p => { p with limit := false, limitSince := none }
    forEach (s.st.laceLooks l (fun _ => true)) s fun s i => s.closeSpans i causeLimit s.fine

/-- A driver of a lace goes to ≥ 10 MΩ at once (R128, R133). A ramp of a commit ends with it (R127). A reduction by the budget stands, with its place in
the order of R132 and its tags, also past a later takeover, until R132 restores the lace, `RESTART_LACE` names it or a commit changes its record (log
entry 43, DESIGN CHOICE: R131 does not say). -/
def State.driverOff (s : State) (l : Nat) : State :=
  ((s.endLimit l).rampSettled l).upLaceOf l fun p =>
    { p with highZ := true, drive := 0, scale := 0, ramp := none, upNext := none, need := 0, vexcHold := false, limit50 := false, record := [] }

/-- The amplitude of a running ramp at a tick: along a raised cosine, updated every modulator clock (R126). -/
def Ramp.ampAt (r : Ramp) (tick : Nat) : Nat :=
  if tick ≤ r.start then r.source
  else if r.stop ≤ tick then r.target
  else ((r.source : Int) + ((r.target : Int) - r.source) * raisedCosine (clockTicks ((tick - r.start) * 8 / 125)) (r.stop - r.start) / 65536).toNat

/-- The amplitude of a lace at a tick; a ramp held for VEXC stands at its start (R130). -/
def Lace.amp (p : Lace) (tick : Nat) : Nat :=
  match p.ramp with
  | none => p.scale
  | some r => if p.vexcHold then r.source else r.ampAt tick

/-- The blocks of a stream that a new active publishes: from the newest held key block at or before the first block after the
acknowledgement position, to the newest held block (R363). Where the partner has acknowledged every held block, that first block is the next to close. -/
def Stall.takeoverBlocks (k : Stall) : List HeldBlock :=
  let finals := k.held.filter (fun b => !b.interim)
  let first := ((finals.find? (fun b => !k.isAcked b)).map (·.ord)).getD k.nextOrd
  match (finals.filter (fun b => b.key && decide (b.ord ≤ first))).getLast? with
  | none => finals.filter (fun b => decide (first ≤ b.ord))
  | some kb => finals.filter (fun b => decide (kb.ord ≤ b.ord))

/-- The places from `a` up to `b` whose numbers are not held, as ranges: what a new active sends gap records for (R363). -/
def Stall.notHeld (k : Stall) (a b : Nat) : List (Nat × Nat) :=
  let r := (k.held.filter (fun x => !x.interim)).foldl (fun (acc : List (Nat × Nat) × Nat) x =>
    if x.ord < acc.2 then acc else if x.ord = acc.2 then (acc.1, acc.2 + 1) else (acc.1 ++ [(acc.2, x.ord)], x.ord + 1)) ([], a)
  if r.2 < b then r.1 ++ [(r.2, b)] else r.1

/-- STL_ACKED follows the position that the partner reports for a stream (R358), as far as this hub has spooled. -/
def State.followAck (s : State) (i : Nat) : State :=
  match s.tdm.ackpos.get (0, 0) i with
  | (w3, seq) =>
    if w3 = 0 ∨ s.publishes then s
    else
      let k := s.st.stallOf i
      match (s.stall k).ordOf i w3 seq with
      | none => s
      | some o => s.upStall k fun x => x.ackThrough o

/-- An association, as it stands or new (R325). -/
def State.assoc (s : State) (src peer cls : Nat) : Assoc :=
  match s.lnk.rim.assocs.find? (fun a => a.src == src && a.peer == peer && a.cls == cls) with
  | some a => a
  | none => { src := src, peer := peer, cls := cls, next := 0, expected := 0, early := [], ackDue := none }

/-- The first block of each stream that a hub produces once it has become active is a key block (R299). -/
def State.keyAll (s : State) : State :=
  forEach ((s.st.stream.filter (fun e => s.st.stored e.1)).map (·.1)) s fun s i => s.upStrm i fun r => { r with forceKey := true }

/-- Publication starts at a takeover (R363, R364): blocks from a key block on are sent with RESEND, numbers no longer held become gap
records, the first final block that closes is a key block with TAKEOVER, and service-address associations go on 2^24 above the partner's last
report. -/
def State.startPublishing (s : State) : State :=
  let s := s.keyAll
  let s := forEach ((s.st.stream.filter (fun e => s.st.sent e.1)).map (·.1)) s fun s i =>
    let k := s.stall (s.st.stallOf i)
    let bs := k.takeoverBlocks
    let lost := (k.notHeld k.ackedOrd k.nextOrd).flatMap (fun r => s.gapsFor k r.1 r.2 1)
    -- where no number of this hub's is known to have been acknowledged to the partner, the gap record of R258 leads
    let owes := (s.strm i).gapReset && decide (k.ackedOrd = 0)
    let reset := match k.runs with | r :: _ => if owes && decide (0 < r.first) then [unknownGap i r.w3 r.first] else [] | [] => []
    let s := s.upStrm i fun r =>
      { r with gapReset := owes && k.runs.isEmpty, takeoverMark := true, closed := r.closed.map (fun c => if c.interim then c else { c with again := true }) }
    s.upStall (s.st.stallOf i) fun k =>
      { k with gaps := k.gaps ++ reset ++ lost
               held := k.held.map (fun b =>
                 let again := bs.any (fun x => decide (x.ord = b.ord))
                 if b.interim then b else { b with sent := !again, again := again }) }
  match s.tdm.partner with
  | none => s
  | some hb =>
    let src := s.serviceAddr
    let step : Word := 0x1000000
    let new (peer cls : Nat) (next : Word) : Assoc := { s.assoc src peer cls with next := next + step }
    s.upRim fun r =>
      { r with assocs := (r.assocs.filter (fun a => !(a.src == src && (a.peer == 0 || (a.peer == 4095 && a.cls == 0))))) ++
                 [new 0 3 hb.nextBulk, new 0 2 hb.nextCtl, new 0 0 hb.nextExp, new 4095 0 hb.nextExp] }

/-- The witnesses found missing, bit 0 token to bit 3 excitation (N_TANDEM_TAKEOVER, R397). -/
def Tdm.missing (t : Tdm) : Nat :=
  boolBit (!t.witToken) 0 + boolBit (!t.witLink) 1 + boolBit (!t.witRim) 2 + boolBit (!t.witExc) 3

/-- RTD looks of a standby carry SUSPECT while any witness is missing (R366). -/
def State.witnessSpans (s : State) : State :=
  let standby := decide (s.tdm.role = .standby) || decide (s.tdm.role = .standbyDesync)
  let missing := standby && decide (s.tdm.missing ≠ 0)
  let now := s.fine
  forEach (((List.range 768).filter (fun i => s.st.mode i == 5)).flatMap s.st.spokeLooks) s fun s i =>
    if missing then
      if s.hasSpan i causeWitness then s
      else s.addSpan i { tag := tagSuspect, rule := .kernel, start := now, stop := none, blank := false, cause := causeWitness }
    else s.closeSpans i causeWitness now

/-- A hub enters CLAIMING at instant `c` (R361, R362: counted in TDM_TAKEOVERS). Each driver starts at the amplitude and the phase offset of the kept
estimate, its output limited to 50 mA (R133, R134). -/
def State.claim (s : State) (c : Nat) : State :=
  let fail := match s.tdm.partner with | none => c | some hb => hb.sendTime
  let s := s.upTdm fun t =>
    { t with takeovers := satInc t.takeovers, lastTakeover := c, activeSince := c, lastSent := none }
  let s := s.enterRole .claiming
  let s := forEach s.st.driven s fun s l =>
    s.upLaceOf l fun p =>
      if p.tripped then p
      else
        let scale := match p.kept with
          | none => 65536
          | some k => if s.st.commandedAmp l = 0 then 65536 else k.1 * 65536 / s.st.commandedAmp l
        { p with highZ := false, drive := s.st.drive l, interval := s.st.senseClocks l, limit50 := true, record := []
                 phaseOff := match p.kept with | none => 0 | some k => k.2, phaseFrom := s.tick
                 ramp := some { source := 0, target := scale, start := s.tick, stop := s.tick + us 100 } }
  let s := s.closeLoops
  let s := forEach s.st.takeoverLooks s fun s i =>
    s.addSpan i { tag := tagSuspect, rule := .kernel, start := s.fine, stop := none, blank := false, cause := causeTakeover }
  let s := s.witnessSpans.startPublishing
  s.notify s.st.tandemQ 0x58 (s.tdm.partnerRole * 16 + s.tdm.missing) 0 (argSX c (c - fail)) 1

/-- The takeover rule (R360), after any change of a witness: a standby with no token, no link heartbeat, and no rim heartbeat or no excitation
claims, unless its firmware is halted (R485). -/
def State.takeoverRule (s : State) : State :=
  let s := s.witnessSpans
  let standby := decide (s.tdm.role = .standby) || decide (s.tdm.role = .standbyDesync)
  if s.live && !s.ldr.halted && standby && !s.tdm.witToken && !s.tdm.witLink && (!s.tdm.witRim || !s.tdm.witExc) then s.claim s.now else s

/-- No TRIG_IO output is driven (R224). -/
def State.stopPulses (s : State) : State := s.upPath fun p => { p with trigOut := [] }

/-- A completion item (R390). -/
def Item.isCompletion (i : Item) : Bool := i.w0.field 15 8 == 0

/-- What a hub of a tandem that does not publish may have on its way (R358): heartbeats, HELLO, completions of commands to its own address, notices of
F_TANDEM's queue, acknowledgements of frames to its own address (log entry 46), and the frames of others that it forwards. -/
def State.maySend (s : State) (f : OutFrame) : Bool :=
  match f.body with
  | .completion i => f.src == s.lnk.rim.addr && !(s.que (i.w0.field 5 0)).service.any (fun n => n % 65536 == i.w0.field 31 16)
  | .notice i => f.src == s.lnk.rim.addr && i.w0.field 5 0 == s.st.tandemQ
  | .hello .. => true
  | .linkHb .. => true
  | .partnerHb _ => true
  | .ackOf _ => f.src == s.lnk.rim.addr && f.src != s.serviceAddr
  | .forwarded _ => true
  | _ => false

/-- A hub that no longer publishes lets go of everything else that waits to be sent, to be sent again or to be acknowledged (R358). -/
def State.silence (s : State) : State :=
  let s := (s.recordsUnsent s.lnk.rim.e.bulk).recordsUnsent s.lnk.rim.w.bulk
  let quiet (r : RimPort) : RimPort :=
    { r with express := r.express.filter s.maySend, time := r.time.filter s.maySend, control := r.control.filter s.maySend, bulk := [] }
  ((s.upPort .e quiet).upPort .w quiet).upRim fun r =>
    { r with ctl := r.ctl.filter (fun c => s.maySend c.frame), bulkOut := [], resend := [], delivered := []
             assocs := r.assocs.map (fun a => if a.src = s.serviceAddr then { a with ackDue := none } else a) }

/-- A hub enters YIELDING (R133, R368): drivers off, CURRENT and CHARGE isolation open, publication stopped (R358), no TRIG_IO output driven (R224). `cause`: 0 CONFLICT,
1 FAIL_OVER, 2 SWAP. An autonomous act (R463). -/
def State.yieldRole (s : State) (cause : Nat) : State :=
  let s := s.enterRole .yielding
  let s := s.upTdm fun t => { t with activeSince := 0, lastSent := none }
  let s := forEach (List.range 48) s fun s l => s.driverOff l
  let s := s.openLoops.allLowSpans
  let s := s.endEverywhere causeTakeover s.fine
  let s := s.stopPulses.silence
  s.notify s.st.tandemQ 0x59 0 cause (argT s.now) 1

/-- A lace when CLAIMING ends at `tick` (R134, R362): `i_limit` is the committed one again, and a lace whose amplitude is not the commanded one ramps to it
over `ticks`. Its 100 µs ramp goes on where that leads to the commanded amplitude. The amplitude ramped from is the driver's own, or, of a lace whose output
the 50 mA limit holds down, the sensed one (log entry 43, DESIGN CHOICE). From now on the phase offset kept at the takeover is closed. -/
def Lace.afterClaim (p : Lace) (commanded tick ticks : Nat) : Lace :=
  let at_ := p.amp tick
  let sensed := match p.newest with | none => commanded | some e => e.1
  let p := { p with limit50 := false, phaseFrom := if p.limit50 then tick else p.phaseFrom }
  let rising := match p.ramp with | none => false | some r => decide (r.target = 65536) && decide (tick < r.stop)
  if p.tripped || p.highZ || decide (p.drive = 0) || rising || (p.ramp.isNone && decide (at_ = 65536) && decide (sensed = commanded)) then p
  else
    let from_ := if p.limit ∧ commanded ≠ 0 then min at_ (sensed * 65536 / commanded) else at_
    { p with ramp := some { source := from_, target := 65536, start := tick, stop := tick + ticks } }

/-- CLAIMING ends and the hub is ACTIVE (R362). -/
def State.endClaiming (s : State) : State :=
  let s := s.enterRole .active
  let s := s.endEverywhere causeTakeover s.fine
  forEach (List.range 48) s fun s l =>
    (s.upLaceOf l fun p => p.afterClaim (s.st.commandedAmp l) s.tick (s.st.rampTicks l)).lowSpans l

/-- FAIL_OVER (R375): an active hub with a live partner in STANDBY or STANDBY_DESYNC yields; otherwise it is refused. -/
def State.failOver (s : State) : State :=
  if s.tdm.role ≠ .active then s.notify s.st.tandemQ 0x5E 0 1 (argT s.now)
  else if s.partnerAlive && (s.tdm.partnerRole == 2 || s.tdm.partnerRole == 3) then s.yieldRole 1
  else s.notify s.st.tandemQ 0x5E 0 0 (argT s.now)

end Sys2Proof.Machine
end

