-- ==== Sys2Proof/Machine/Faults.lean ====
section
/-! DEFINITION. Fault classes and fault windows (R458 to R462), the warm restart (R22 to R24), SAFE_STATE (R461), and the two
memories behind their codes (R430 to R436), whose errors are fault events (R442). -/

namespace Sys2Proof.Machine

/-! ### Warm restart and SAFE_STATE -/

/-- A long command that a warm restart abandons (R24): every one that its table does not let continue or stay pending. -/
def LongOp.abandoned : LongOp → Bool
  | .load .. | .store .. | .recalibrate .. | .restoreContext .. => true
  | _ => false

/-- A closed block coded as without a restored context, that holds the restores `cs` yet. -/
def ClosedBlock.unrestored (b : ClosedBlock) (cs : List CmdItem) : ClosedBlock :=
  match b.undo with
  | none => { b with restores := cs }
  | some u => { b with restores := cs, restored := false, escaped := u.escaped, start := u.start, bytes := u.bytes, undo := none }

/-- The commands that complete before a restart begins (R24 leaves it open whether they do; log entry 30, DESIGN CHOICE): the saving of an address that
is already in force, and the restoring of a context for a block that is coded as a key block, with KEY_BLOCK (R302). A restored block that waits for its
placement is coded as without the restore, which is abandoned without effect. -/
def State.beforeRestart (s : State) : State :=
  forEach s.cmd.long s fun s l => match l.op with
    | .setAddress => (s.saveAddr (l.item.a 11 0)).endLong l 0
    | .restoreContext i =>
      match (s.strm i).closed.find? (fun b => b.restores.contains l.item) with
      | none => s
      | some b =>
        (if b.key then s.endLong l 0x17 else s).upStrm i fun r =>
          { r with code := match b.undo with | none => r.code | some u => u.code
                   closed := r.closed.map (fun b => b.unrestored (b.restores.filter (fun c => decide (c ≠ l.item)))) }
    | _ => s

/-- RUN is left: the RUN time of a probation counts what has passed of it (R483). -/
def State.leaveRun (s : State) : State :=
  if s.glb.state = .run then
    s.upLdr fun l => { l with probationRan := l.probationRan + (match l.probationFrom with | none => 0 | some t => s.tick - t) }
  else s

/-- The firmware restarts (R22, R24): the state is WARM_RESTART, a load, a store and the restoring of a context are
abandoned without effect, a recalibration is abandoned and its spoke released; commands are held (R23). -/
def State.beginRestart (s : State) : State :=
  let before := s.glb.state
  let s := s.beforeRestart.leaveRun
  let s := (s.upGlb fun g => { g with warmRestarts := satTo 255 (g.warmRestarts + 1) }).enter .warmRestart
  let s := s.upLdr fun l => { l with restartSince := s.tick, restartTime := s.now, restartFrom := before, coresHalted := false }
  let s := if s.cfg.stage = .loading then s.upCfg fun c => { c with stage := .empty, staged := none, badFrame := 0xFFFF } else s
  let s := forEach s.cmd.long s fun s l => match l.op with
    | .store slot _ => s.upLdr fun d => { d with flash := { d.flash with library := d.flash.library.set [] slot [] } }
    | _ => s
  let s := match s.cal.recal with
    | none => s
    | some i => (s.upCal fun c => { c with recal := none, recalFound := none, ramps := c.ramps.filter (fun r => !(r.spoke == i)) }).release i 2
  let s := forEach s.cmd.long s fun s l => match l.op with
    | .restoreContext i => s.upStrm i fun r => { r with restores := [], restoreFrom := none }
    | _ => s
  s.upCmd fun k => { k with long := k.long.map (fun l => if l.op.abandoned then { l with op := .aborted } else l) }

/-- A warm restart after a fault, with N_WARM_RESTART. `why`: 0 lockstep, 1 watchdog timer, 2 window action. A restart during WARM_RESTART has no
further effect (R462); a hub that R485 halted has no running firmware. The restart ends in the state it began in (log entry 30). -/
def State.warmRestart (s : State) (q why : Nat) : State :=
  match s.glb.state with
  | .reset | .fault | .warmRestart => s
  | _ => if s.ldr.halted then s else (s.notify q 0x74 0 why (argT s.now) 1).beginRestart

/-- SAFE_STATE (R461): every spoke is quarantined, one that was so already or is under `RECALIBRATE` stays so (R462), drivers go to ≥ 10 MΩ, and the hub
enters FAULT, where token and heartbeats stop (R359). -/
def State.safeState (s : State) (w : Nat) : State :=
  let q := s.st.winQ w
  let s := forEach (List.range 768) s fun s i =>
    if (s.spoke i).quarantined then s.upSpoke i fun p => { p with quarantineWindow := true }
    else (s.quarantine i).noteQuarantine q i 0xFFFF 1
  let s := forEach (List.range 48) s fun s l => s.driverOff l
  (s.leaveRun.enter .fault).notify q 0x75 w 0 (argT s.now) 1

/-! ### Windows -/

/-- The spoke that an instance of a class names for QUARANTINE_SPOKE (R458, R461). -/
def spokeOfInstance (cls inst : Nat) : Option Nat :=
  match cls with
  | 4 => if inst < 768 then some inst else none
  | 5 => if inst < 768 then some inst else none
  | 7 => if inst < 768 then some inst else none
  | 8 => if inst < 12288 then some (inst / 16) else none
  | 9 => if inst < 12288 then some (inst / 16) else none
  | _ => none

/-- The action that runs for an instance: an action without an object runs as NOTIFY (R461). -/
def actionRun (action cls inst : Nat) : Nat :=
  if action = 1 ∧ (spokeOfInstance cls inst).isNone then 0
  else if action = 2 ∧ cls ≠ 3 then 0
  else action

/-- A window's action runs on the instance (R461, R462). -/
def State.runAction (s : State) (w action cls inst : Nat) : State :=
  match action with
  | 1 => match spokeOfInstance cls inst with
    | none => s
    | some i =>
      if s.cal.recal = some i then s.upSpoke i fun p => { p with quarantineWindow := true }
      else if (s.spoke i).quarantined then s
      else (s.quarantine i).noteQuarantine (s.st.winQ w) i w 1
  | 2 => s.retrain inst
  | 3 => s.warmRestart (s.st.winQ w) 2
  | 4 => s.failOver
  | 5 => s.safeState w
  | _ => s

/-- One event counted by one window (R459, R460): the history, N_TRANSIENT, and whether the event completes a lasting
fault. -/
def State.countIn (s : State) (w inst : Nat) : State × Bool :=
  let t := s.tick
  let n := s.st.winThresh w
  let hist := (s.window w).history ++ [t]
  let lasting := !(s.window w).latched &&
    decide (n ≤ (hist.filter (fun x => decide (t < x + ms (s.st.winMs w)))).length)
  let s := s.upWindow w fun x =>
    { x with history := lastN (max 255 n) hist, events := satInc x.events, last := t, lastInst := inst % 65536
             noteCount := x.noteCount + 1 }
  let s := if s.passedOpt (s.window w).noteTick Config.ticksPerS then
      (s.notify (s.st.winQ w) 0x70 w (s.window w).noteCount (argSX s.now (inst % 65536))).upWindow w fun x =>
        { x with noteCount := 0, noteTick := some t }
    else s
  (s, lasting)

/-- N_LASTING: the window latches (R460, R464). -/
def State.declare (s : State) (w cls inst : Nat) : State :=
  let action := s.st.winAction w
  let run := actionRun action cls inst
  let s := s.notify (s.st.winQ w) 0x71 w (cls * 4096 + run * 512 + boolBit (decide (run ≠ action)) 8)
    (argSX s.now (s.st.winThresh w * 65536 + inst % 65536)) 1
  (s.upWindow w fun x => { x with latched := true, lastings := satTo 0xFFFF (x.lastings + 1) }).intr 8

/-- The enabled windows that count events of a class and instance (R459). -/
def Struct.watching (st : Struct) (cls inst : Nat) : List Nat :=
  (List.range 64).filter (fun w => st.winEnable w && st.winClass w == cls && (st.winAny w || st.winInstance w == inst))

/-- A fault event (R458): counted in its class; one that a window watches waits for the end of the tick, where the windows take the events of the tick in
their order (R459). -/
def State.faultEvent (s : State) (cls inst : Nat) : State :=
  let s := s.upHlt fun h => { h with classes := h.classes.upd 0 cls satInc }
  if s.st.watching cls inst = [] then s else s.upHlt fun h => { h with due := h.due ++ [(cls, inst)] }

/-- One event in every window that watches it (R459, R460): each whose lasting fault it completes posts N_LASTING. The completed ones are listed with
their event. -/
def State.takeEvent (a : State × List (Nat × Nat × Nat)) (e : Nat × Nat) : State × List (Nat × Nat × Nat) :=
  forEach (a.1.st.watching e.1 e.2) a fun a w =>
    let r := a.1.countIn w e.2
    if r.2 then (r.1.declare w e.1 e.2, a.2 ++ [(w, e.1, e.2)]) else (r.1, a.2)

/-- The action that runs for a window's lasting fault. -/
def State.actionOf (s : State) (x : Nat × Nat × Nat) : Nat := actionRun (s.st.winAction x.1) x.2.1 x.2.2

/-- The lasting faults of one tick, strongest action first (R462). -/
def State.byStrength (s : State) (l : List (Nat × Nat × Nat)) : List (Nat × Nat × Nat) :=
  sortBy (fun a b => decide (s.actionOf b ≤ s.actionOf a)) l

/-- Their actions, none after SAFE_STATE (R462). -/
def State.runActions (s : State) (l : List (Nat × Nat × Nat)) : State :=
  forEach (s.byStrength l) s fun s x => if s.glb.state = .fault then s else s.runAction x.1 (s.actionOf x) x.2.1 x.2.2

/-- The order of events of one tick: by class, then instance (R459). -/
def eventOrder (l : List (Nat × Nat)) : List (Nat × Nat) :=
  sortBy (fun a b => decide (a.1 < b.1) || (decide (a.1 = b.1) && decide (a.2 ≤ b.2))) l

/-- A fault event of a class that counts at most one event per object per 1 ms; `last` is the tick of the last one counted. -/
def mayCount (s : State) (last : Option Nat) : Bool := s.passedOpt last Config.ticksPerMs

/-- A window returns to ARMED with its history cleared (R460): `auto` 0 by `CLEAR_WINDOW`, 1 by itself. -/
def State.rearm (s : State) (w auto : Nat) : State :=
  (s.upWindow w fun x => { x with latched := false, history := [] }).notify (s.st.winQ w) 0x79 w auto (argT s.now)

/-! ### A supervisor fault (R27, R458, R483, R485) -/

/-- The supervisor halts (R485): RECOVERY with cause HALTED, the hardware path going on; an active member with a standby
partner yields as FAIL_OVER does; the servo is held, so the time state is HOLDOVER. -/
def State.haltFirmware (s : State) : State :=
  let s := s.upLdr fun l => { l with halted := true, recoveryCause := 4 }
  let s := s.leaveRun.enter .recovery
  let s := if s.tmb.timeState = .holdover then s else s.enterHoldover
  let s := s.notify 0 0x98 0 4 (argT s.now)
  if s.tdm.role = .active ∧ s.partnerAlive ∧ (s.tdm.partnerRole = 2 ∨ s.tdm.partnerRole = 3) then s.yieldRole 1 else s

/-- What a WATCHDOG event of instance `inst` leads to: probation fails at the first and the firmware halts at the second (R483, R485); otherwise a warm
restart follows unless a stronger window action has run: SAFE_STATE, or a FAIL_OVER that was not refused (R27, R375), after which both cores stay halted
until the watchdog timer, which nothing services, expires (log entry 30, DEDUCED). `role` is the role before the actions of its tick. -/
def State.watchdogFollow (s : State) (role : Role) (inst : Nat) : State :=
  let probation := s.ldr.probationFrom.isSome
  let failedOver := decide (role = .active ∧ s.tdm.role ≠ .active)
  let s := if probation then
      let s := s.upLdr fun l => { l with watchdogEvents := l.watchdogEvents + 1, probationFailed := true }
      if s.ldr.watchdogEvents = 1 then
        s.notify 0 0x95 0 1 (argSX s.now (match s.ldr.image with | none => 0 | some i => (i.header.getD 3 0).toNat))
      else s
    else s
  if s.glb.state = .fault then s
  else if probation && decide (2 ≤ s.ldr.watchdogEvents) then s.haltFirmware
  else if failedOver then (if s.glb.state = .warmRestart then s else s.upLdr fun l => { l with coresHalted := true })
  else s.warmRestart 0 inst

/-- A WATCHDOG event of instance `inst`: 0 a lockstep mismatch (R27), 1 the watchdog timer (R458). Where a window watches it, it waits with its window
for the end of the tick. -/
def State.watchdogEvent (s : State) (inst : Nat) : State :=
  let t := s.faultEvent 11 inst
  if s.st.watching 11 inst = [] then t.watchdogFollow s.tdm.role inst else t

/-- The end of a tick takes the fault events of the tick (R459, R462): counted in the order of class, then instance, their actions strongest first, then
what each WATCHDOG event leads to. -/
def State.settleFaults (s : State) : State :=
  match s.hlt.due with
  | [] => s
  | due =>
    let evs := eventOrder due
    let role := s.tdm.role
    let r := forEach evs (s.upHlt fun h => { h with due := [] }, ([] : List (Nat × Nat × Nat))) State.takeEvent
    forEach (evs.filter (fun e => e.1 == 11)) (r.1.runActions r.2) fun s e => s.watchdogFollow role e.2

/-- With no command waiting a tick ends and the next begins (R21, R459; log entry 1). -/
def State.passTick (s : State) : State := s.settleFaults.idle

/-! ### The scratchpad (R427 to R433, R440) -/

/-- How a cell decodes (R430, R431): the data delivered, whether it is poisoned, whether a correction or an uncorrectable
error was found. Three or more wrong bits are a free value (log entry 14). -/
def MemCell.decode (c : MemCell) : Byte × Bool × Bool × Bool :=
  let n := ((List.range 14).filter (fun i => c.flips.getLsbD i)).length
  let stored : Byte := c.data ^^^ c.flips.setWidth 8
  if n = 0 then (c.data, c.poison, false, false)
  else if n = 1 then (c.data, c.poison, true, false)
  else if n = 2 then (stored, true, false, true)
  else
    let r := Config.manyBitCell c.data.toNat c.flips.toNat
    if r.2 then (r.1, c.poison, true, false) else (stored, true, false, true)

/-- The bank of a scratchpad address (R427). -/
def bankOf (a : Nat) : Nat := a / 0x40000

/-- An access wakes a bank: a bank that was OFF has lost its contents, every cell reads poisoned until written, and its state
is ON (R440). -/
def State.touchBank (s : State) (b : Nat) : State :=
  let p := s.bank b
  match p.power with
  | .on => if p.awake ∧ p.lastUse = s.tick then s else s.upBank b fun x => { x with awake := true, lastUse := s.tick }
  | .retain => s.upBank b fun x => { x with awake := true, lastUse := s.tick }
  | .off => s.upBank b fun x => { x with power := .on, awake := true, lastUse := s.tick, lost := true }
  | .failed => s

/-- What an address that is not listed reads as: in a bank whose contents were lost, but where a job has initialised it since, or in one that is held OFF as
FAILED, a poisoned cell (R440, R441, R444). -/
def State.unlistedCell (s : State) (a : Nat) : MemCell :=
  let b := s.bank (bankOf a)
  if b.power = .failed ∨ (b.lost = true ∧ b.clean.any (fun r => decide (r.1 ≤ a) && decide (a < r.1 + r.2)) = false) then { poison := true } else {}

/-- The cell at an address. -/
def State.cellAt (s : State) (a : Nat) : MemCell := s.mem.pad.get (s.unlistedCell a) a

/-- A cell stored at an address; in a bank that lost its contents a clean zero differs from what an unlisted address reads as, so it is listed. A FAILED
bank keeps nothing. -/
def State.putCell (s : State) (a : Nat) (c : MemCell) : State :=
  if (s.bank (bankOf a)).power = .failed then s
  else s.upMem fun m => { m with pad := m.pad.set (s.unlistedCell a) a c }

/-- A correctable error of a unit at an address (R431, R434, R442): counted, an event of class CE_MEMORY at most once per unit per
1 ms, N_MEM_CE at most once per unit per second. -/
def State.countCe (s : State) (u a : Nat) : State :=
  let s := s.upMemUnit u fun x => { x with ce := satInc x.ce, ceAddr := a, ceNote := x.ceNote + 1 }
  let s := if mayCount s (s.memUnit u).ceEventTick then
      (s.upMemUnit u fun x => { x with ceEventTick := some s.tick }).faultEvent 1 u else s
  if s.passedOpt (s.memUnit u).ceNoteTick Config.ticksPerS then
    (s.notify 0 0x68 u (s.memUnit u).ceNote (argT a)).upMemUnit u fun x => { x with ceNote := 0, ceNoteTick := some s.tick }
  else s

/-- An uncorrectable error of a unit, first read by port `p` (R431, R434, R442): N_MEM_UE at most once per unit per 100 ms. -/
def State.countUe (s : State) (u a p : Nat) : State :=
  let s := s.upMemUnit u fun x =>
    { x with ue := satInc x.ue, ueAddr := a, ueNote := x.ueNote + 1, ueNotePort := if x.ueNote = 0 then p else x.ueNotePort
             ueNoteAddr := if x.ueNote = 0 then a else x.ueNoteAddr }
  let s := s.intr 7
  let s := if mayCount s (s.memUnit u).ueEventTick then
      (s.upMemUnit u fun x => { x with ueEventTick := some s.tick }).faultEvent 2 u else s
  if s.passedOpt (s.memUnit u).ueNoteTick (100 * Config.ticksPerMs) then
    (s.notify 0 0x69 u ((s.memUnit u).ueNotePort * 256 + satField 8 (s.memUnit u).ueNote) (argT (s.memUnit u).ueNoteAddr)).upMemUnit
      u fun x => { x with ueNote := 0, ueNoteTick := some s.tick }
  else s

/-- Every access may wait for other ports: the clocks waited are a matter of timing, a free number (R428; log entry 26). -/
def State.contend (s : State) (p : Nat) : State :=
  s.draw.upMem fun m => { m with conflicts := m.conflicts.upd 0 p (fun v => satAdd v (Config.unspecified s.freeCount)) }

/-- One byte read through port `p` (R431): the data delivered and whether it is poisoned. Two wrong bits rewrite the cell with
poison. -/
def State.readByte (s : State) (p a : Nat) : State × Byte × Bool :=
  let c := s.cellAt a
  let d := c.decode
  let s := if d.2.2.1 then s.countCe (bankOf a) a else s
  let s := if d.2.2.2 then (s.putCell a { data := d.1, poison := true }).countUe (bankOf a) a p else s
  (s, d.1, d.2.1)

/-- A read of `n` bytes: the bytes and whether any of them is poisoned (R431). -/
def State.readPad (s : State) (p a n : Nat) : State × List Byte × Bool :=
  match n with
  | 0 => (s, [], false)
  | n + 1 =>
    let s := s.touchBank (bankOf a)
    let r := s.readByte p a
    let q := r.1.readPad p (a + 1) n
    (q.1, r.2.1 :: q.2.1, r.2.2 || q.2.2)

/-- A write of bytes: each is a clean cell (R432); no cell is read before it. -/
def State.writePad (s : State) (a : Nat) (bs : List Byte) : State :=
  match bs with
  | [] => s
  | b :: r => ((s.touchBank (bankOf a)).putCell a { data := b }).writePad (a + 1) r

/-- The wrong or poisoned cells of an area. -/
def Mem.wrongIn (m : Mem) (a n : Nat) : List (Nat × MemCell) :=
  m.pad.filter (fun e => decide (a ≤ e.1) && decide (e.1 < a + n) && (decide (e.2.flips ≠ 0) || e.2.poison))

/-- The compressor reads a block through port 18 (R431, R433): whether a cell of it was poisoned. Which cells of the block-assembly buffers are a stream's the
manual does not say: of the wrong ones, a free choice (log entry 26). -/
def State.readBuffer (s : State) : State × Bool :=
  forEach (s.mem.wrongIn 0x1800000 0x400000) (s.contend 18, false) fun a e =>
    let mine : Bool := Config.unspecified a.1.freeCount
    if mine then let r := a.1.draw.readByte 18 e.1; (r.1, a.2 || r.2.2) else (a.1.draw, a.2)

/-- Scaling writes a sample into a block-assembly buffer through port 17: clean cells (R432), of the wrong ones a free choice too. -/
def State.writeBuffer (s : State) : State :=
  forEach (s.mem.wrongIn 0x1800000 0x400000) (s.contend 17) fun s e =>
    let mine : Bool := Config.unspecified s.freeCount
    if mine then s.draw.putCell e.1 { data := e.2.data } else s.draw

/-! ### The central store (R434 to R436) -/

/-- How a codeword decodes: data, poisoned, corrected, uncorrectable. The poison syndrome is no new error (R436). -/
def StoreWord.decode (c : StoreWord) : DWord × Bool × Bool × Bool :=
  let n := ((List.range 72).filter (fun i => c.flips.getLsbD i)).length
  let stored : DWord := c.data ^^^ c.flips.setWidth 64
  if n = 0 then (c.data, c.poison, false, false)
  else if n = 1 then (c.data, c.poison, true, false)
  else if n = 2 then (stored, true, false, true)
  else
    let r := Config.manyBitWord c.data.toNat c.flips.toNat
    if r.2 then (r.1, c.poison, true, false) else (stored, true, false, true)

/-- The codeword at a number. -/
def State.storeAt (s : State) (cw : Nat) : StoreWord := s.mem.store.get {} cw

/-- The DRAM die of a codeword: unit 128 or 129 (R442). Which addresses lie on which die is not in the manual; the model takes the
lower 8 GiB for die 0 (log entry 14). -/
def dieOf (cw : Nat) : Nat := if cw < 2 ^ 30 then 128 else 129

/-- A codeword read: its data and whether it is poisoned or uncorrectable (R434). -/
def State.readWord (s : State) (cw : Nat) : State × DWord × Bool :=
  let d := (s.storeAt cw).decode
  let s := if d.2.2.1 then s.countCe (dieOf cw) (cw * 8) else s
  let s := if d.2.2.2 then s.countUe (dieOf cw) (cw * 8) 19 else s
  (s, d.1, d.2.1)

/-- `n` codewords read: their data and whether any is bad. -/
def State.readWords (s : State) (cw n : Nat) : State × List DWord × Bool :=
  match n with
  | 0 => (s, [], false)
  | n + 1 =>
    let r := s.readWord cw
    let q := r.1.readWords (cw + 1) n
    (q.1, r.2.1 :: q.2.1, r.2.2 || q.2.2)

/-- Codewords written whole (R435), with the poison syndrome when `poison` (R433). -/
def State.writeWords (s : State) (cw : Nat) (ds : List DWord) (poison : Bool) : State :=
  match ds with
  | [] => s
  | d :: r =>
    (s.upMem fun m => { m with store := m.store.set {} cw { data := d, poison := poison } }).writeWords (cw + 1) r poison

/-- Bytes as codewords, the last one filled with zeros. -/
def dwordsOf (n : Nat) (bs : List Byte) : List DWord :=
  match n with
  | 0 => []
  | n + 1 => BitVec.ofNat 64 (leNat (bs.take 8)) :: dwordsOf n (bs.drop 8)

/-- Codewords as bytes. -/
def bytesOfDwords (ds : List DWord) : List Byte := ds.flatMap (fun d => leBytes 8 d.toNat)

/-- A journal item read for a chain or a replay (R394, R412, R434): none when it is uncorrectable. -/
def State.readJournal (s : State) (q n : Nat) : State × Option Item :=
  let r := s.readWords (journalSlot q n) 2
  let a := (r.2.1.getD 0 0).toNat
  let b := (r.2.1.getD 1 0).toNat
  (r.1, if r.2.2 then none
        else some { w0 := wordOf a, w1 := wordOf (a / 2 ^ 32), w2 := wordOf b, w3 := wordOf (b / 2 ^ 32) })

end Sys2Proof.Machine
end

