-- ==== Sys2Proof/Machine/Commands.lean ====
section
/-! DEFINITION. The receipt of command items (R382 to R386, R405 to R409), their credits (R384), `NOP`, `RESYNC` (R414), leases (R409) and the
interrupt enables (R501). -/

namespace Sys2Proof.Machine

/-! ### Receipt -/

/-- Sequence accounting on receipt (R405, R406): a `cseq` other than the one expected posts N_SEQ_GAP ahead of the completion; the first item
sets `based` without a check; `RESYNC` is not compared. -/
def State.sequence (s : State) (c : CmdItem) : State :=
  if c.opcode.toNat = 0x59 then s
  else
    let r := s.mst c.master
    let s := if r.based ∧ c.cseq ≠ r.expected then
        (s.notify (r.cplQ % 64) 0x60 (masterNum c.master) r.expected.toNat (argSX s.now c.cseq.toNat)).upMst c.master fun r =>
          { r with gaps := satInc r.gaps }
      else s
    s.upMst c.master fun r => { r with based := true, expected := c.cseq + 1, lastSeq := c.cseq }

/-- A lapsed master's command is refused, apart from `RESYNC`, `READ_REG` and `WRITE_REG` (R409). -/
def MasterRec.lapsedRefuses (r : MasterRec) (c : CmdItem) : Bool :=
  r.lapsed && !(c.opcode.toNat == 0x59 || c.opcode.toNat == 0x5A || c.opcode.toNat == 0x5B)

/-- The item is taken: it holds a credit (R384), enters the ledger (R408) and the hub's queue in order of arrival (R385). An unlisted opcode behind
which nothing waits completes at once (R386), but not where commands are held (R23). -/
def State.takeItem (s : State) (c : CmdItem) : State :=
  let s := s.upMst c.master fun r =>
    { r with inFlight := r.inFlight + 1, accepted := c.cseq
             outstanding := if c.opcode.toNat = 0x59 then r.outstanding else r.outstanding ++ [c.cseq] }
  if knownOpcode c.opcode.toNat || s.holds || !s.cmd.queue.isEmpty then s.upCmd fun k => { k with queue := k.queue ++ [c] } else s.finish c 0x1F

/-- A command item arrives (R384, R386, R405, R409): the lease is renewed, the sequence checked, then the lapse and the credit. -/
def State.receive (s : State) (item : CmdItem) : State :=
  let c := { item with base := (s.mst item.master).base }
  let s := (s.upMst c.master fun r => { r with itemTick := s.tick }).sequence c
  let r := s.mst c.master
  if r.lapsedRefuses c ∨ r.credit ≤ r.inFlight then s.refuseItem c else s.takeItem c

/-- The master whose item a write to QUE_CMD_IN[target] delivers, if the writer may (R383). `WRITE_REG` acts as a PCIe access does (R389). -/
def cmdInMaster (writer : Master) (target : Nat) : Option Master :=
  match writer, target with
  | .spi, 0 => some .spi
  | .pcie, 1 => some .pcie
  | .rim, 1 => some .pcie
  | _, _ => none

/-- The word 3 of a command item is written (R383): the item is taken. -/
def cmdItemWrite (writer : Master) (target : Nat) (w3 : Word) (s : State) : State :=
  if s.glb.state = .reset then s
  else
    match cmdInMaster writer target with
    | none => s
    | some m =>
      let w := (s.mst m).cmdIn
      s.receive (itemOfWords m { w0 := w.1, w1 := w.2.1, w2 := w.2.2, w3 := w3 } false)

/-- CMD_ITEM_WRITE (R383). -/
def execCmdItemWrite (writer : Master) (target : Fin 2) (word3 : Word) (s : State) : Ans := act s (cmdItemWrite writer target.val word3)

/-- Words 0 to 2 of QUE_CMD_IN (R383). -/
def cmdInWord (writer : Master) (target w : Nat) (v : Word) (s : State) : State :=
  match cmdInMaster writer target with
  | none => s
  | some m => s.upMst m fun r =>
      { r with cmdIn := match w with | 0 => (v, r.cmdIn.2) | 1 => (r.cmdIn.1, v, r.cmdIn.2.2) | _ => (r.cmdIn.1, r.cmdIn.2.1, v) }

/-- A COMMAND frame delivers its items (R383). -/
def commandFrameIn (service : Bool) (items : List ItemWords) (s : State) : State :=
  if s.glb.state = .reset then s
  else forEach items s fun s w => s.receive (itemOfWords .rim w (service && s.st.tandemOn))

/-- COMMAND_FRAME (R383). -/
def execCommandFrame (port : Port) (service : Bool) (items : List ItemWords) (s : State) : Ans :=
  actIf (Instr.wf (.commandFrame port service items)) s fun s => occurs s (s.portActive port) (commandFrameIn service items)

/-! ### NOP and RESYNC -/

/-- `NOP` does nothing and completes with OK (R387). -/
def nopCommand (s : State) : State := s.start 0x01 fun c s => s.complete c 0

/-- NOP (R387). -/
def execNop (s : State) : Ans := act s nopCommand

/-- `RESYNC` (R414): a new command base; commands in flight no longer count toward `done_through`; the lapse ends. -/
def resync (s : State) : State :=
  s.start 0x59 fun c s =>
    let b : Half := BitVec.ofNat 16 (c.a 15 0)
    (s.upMst c.master fun r =>
      { r with expected := b, based := true, accepted := b - 1, lastSeq := b - 1, outstanding := [], lapsed := false, base := r.base + 1 }).complete c 0

/-- RESYNC (R414). -/
def execResync (s : State) : Ans := act s resync

/-! ### Credits and leases -/

/-- The sum of the four credits. -/
def Cmd.creditSum (k : Cmd) : Nat := k.spi.credit + k.pcie.credit + k.rim.credit + k.tandem.credit

/-- QUE_CMD_CFG[m] is written (R384, R403): a write that would take the sum of the credits above 256 is ignored. -/
def cmdCfgWrite (m : Nat) (v : Word) (s : State) : State :=
  let r := s.mst (masterOf m)
  if s.glb.state = .reset ∨ 256 < s.cmd.creditSum - r.credit + v.field 31 24 then s
  else
    let s := s.upMst (masterOf m) fun r => { r with credit := v.field 31 24, cplQ := v.field 21 16 }
    if v.field 23 22 = 0 ∧ v.field 15 0 = 0 then s else s.undefinedUse 12

/-- CMD_CREDIT_WRITE (R384). -/
def execCmdCreditWrite (m : Fin 4) (value : Word) (s : State) : Ans := act s (cmdCfgWrite m.val value)

/-- QUE_LEASE[m] is written (R423). -/
def leaseWrite (m : Nat) (v : Word) (s : State) : State := s.upMst (masterOf m) fun r => { r with leaseMs := v.field 31 16 }

/-- No item has come for `lease_ms` (R409). -/
def leaseLapse (m : Nat) (s : State) : State :=
  let r := s.mst (masterOf m)
  if s.glb.state ≠ .reset ∧ r.leaseMs ≠ 0 ∧ !r.lapsed ∧ s.passed r.itemTick (ms r.leaseMs) then
    s.upMst (masterOf m) fun r => { r with lapsed := true, lapses := satTo 0xFFFF (r.lapses + 1) }
  else s

/-- LEASE_LAPSE (R409). -/
def execLeaseLapse (m : Fin 3) (s : State) : Ans := act s (leaseLapse m.val)

/-! ### Interrupt enables -/

/-- GLB_INT_ENABLE is written (R501): vector 64 goes out when the write enables a bit that is already set. -/
def intEnableWrite (v : Word) (s : State) : State :=
  if s.glb.state = .reset then s
  else
    let fresh := v &&& ~~~s.glb.intEnable &&& s.glb.intStatus &&& 0xFFF
    let s := s.upGlb fun g => { g with intEnable := v &&& 0xFFF }
    let s := if fresh = 0 then s else s.sendVector 64
    if v.field 31 12 = 0 then s else s.undefinedUse 12

/-- GLB_INT_STATUS is written (W1C, R501): a bit set at this same tick stays set, and if it is enabled the vector is sent. -/
def intStatusWrite (v : Word) (s : State) : State :=
  let keep := v &&& s.freshBits &&& s.glb.intStatus
  let s := s.upGlb fun g => { g with intStatus := g.intStatus &&& ~~~v ||| keep }
  if keep &&& s.glb.intEnable = 0 then s else s.summaryVector

/-- INT_ENABLE_WRITE (R501). -/
def execIntEnableWrite (value : Word) (s : State) : Ans := act s (intEnableWrite value)

end Sys2Proof.Machine
end

