-- ==== Sys2Proof/Machine/Wire.lean ====
section
/-! DEFINITION. IRP frames as bytes (R312 to R317, R371): addresses, the header's words and fields, the body of each type that the hub sends, padding
and the FCS. Bytes of a frame run from the destination MAC to the last body or padding byte. -/

namespace Sys2Proof

/-! ### A received frame (R314, R315) -/

/-- EtherType. -/
def RimFrame.etherType (f : RimFrame) : Nat := beNat ((f.bytes.drop 12).take 2)

/-- Word `i` of the IRP header. -/
def RimFrame.header (f : RimFrame) (i : Nat) : Nat := beNat ((f.bytes.drop (14 + 4 * i)).take 4)

/-- What follows the header: the body and its padding. -/
def RimFrame.body (f : RimFrame) : List Byte := f.bytes.drop 30

def RimFrame.ver (f : RimFrame) : Nat := bitsOf (f.header 0) 31 28
def RimFrame.type (f : RimFrame) : Nat := bitsOf (f.header 0) 27 22
def RimFrame.cls (f : RimFrame) : Nat := bitsOf (f.header 0) 21 20
def RimFrame.src (f : RimFrame) : Nat := bitsOf (f.header 0) 19 8
def RimFrame.hop (f : RimFrame) : Nat := bitsOf (f.header 0) 7 0
def RimFrame.dst (f : RimFrame) : Nat := bitsOf (f.header 1) 31 20
def RimFrame.memberOnly (f : RimFrame) : Bool := bitOf (f.header 1) 19
def RimFrame.ackValid (f : RimFrame) : Bool := bitOf (f.header 1) 18
def RimFrame.length (f : RimFrame) : Nat := bitsOf (f.header 1) 15 0
def RimFrame.seq (f : RimFrame) : Word := wordOf (f.header 2)
def RimFrame.ack (f : RimFrame) : Word := wordOf (f.header 3)

/-- The frame with `hop` incremented (R316). -/
def RimFrame.hopped (f : RimFrame) : RimFrame := { f with bytes := f.bytes.set 17 (BitVec.ofNat 8 (f.hop + 1)) }

end Sys2Proof

namespace Sys2Proof.Machine

/-! ### Addresses and header (R312, R314, R315) -/

/-- The MAC address 02:51:48:00:0H:HH of an address (R312). -/
def macOf (a : Nat) : List Byte := [0x02, 0x51, 0x48, 0x00] ++ beBytes 2 (a % 4096)

/-- The destination MAC address: a broadcast for 4,095 (R314). -/
def macTo (a : Nat) : List Byte := if a = 4095 then List.replicate 6 0xFF else macOf a

/-- The fields of an IRP header (R315). -/
structure IrpHeader where
  type : Nat
  cls : Nat
  src : Nat
  hop : Nat
  dst : Nat
  memberOnly : Bool
  seq : Word
  ack : Option Word
  deriving DecidableEq, Repr, Inhabited

/-- The header's four words over a body of `n` bytes; reserved bits are 0 (R314, R315). -/
def IrpHeader.words (h : IrpHeader) (n : Nat) : List Nat :=
  [2 ^ 28 + h.type * 2 ^ 22 + h.cls * 2 ^ 20 + h.src * 2 ^ 8 + h.hop, h.dst * 2 ^ 20 + boolBit h.memberOnly 19 + boolBit h.ack.isSome 18 + n,
    h.seq.toNat, (h.ack.getD 0).toNat]

/-- A frame: addresses, EtherType 0x88B5, header, body, and padding to the 64-byte minimum, of which the FCS takes four (R314). -/
def IrpHeader.frame (h : IrpHeader) (body : List Byte) : List Byte :=
  let bs := macTo h.dst ++ macOf h.src ++ [0x88, 0xB5] ++ (h.words body.length).flatMap (beBytes 4) ++ body
  bs ++ List.replicate (60 - bs.length) 0

/-! ### Bodies (R317, R371) -/

/-- An item travels as it is stored. -/
def itemBytes (i : Item) : List Byte := (i.w0.bytes ++ i.w1.bytes) ++ (i.w2.bytes ++ i.w3.bytes)

/-- The words of a HEARTBEAT section after its section word (R371). -/
def heartbeatWords (h : Heartbeat) : List Nat :=
  [h.role * 2 ^ 28 + h.glb * 2 ^ 24 + boolBit h.driving 23 + boolBit h.tokenSeen 22 + boolBit h.linkSeen 21 + boolBit h.rimSeen 20
      + boolBit h.excSeen 19 + boolBit h.synced 18 + h.count.toNat, h.sendTime / 2 ^ 32, h.sendTime % 2 ^ 32, h.activeSince / 2 ^ 32,
    h.activeSince % 2 ^ 32, h.nextBulk.toNat, h.nextCtl.toNat, h.nextExp.toNat]

/-- A section: its word, then its words (R371). -/
def sectionBytes (kind : Nat) (words : List Nat) : List Byte :=
  ((kind * 2 ^ 24 + 4 * (words.length + 1)) :: words).flatMap (beBytes 4)

/-- The `kind` of a section (R371). -/
def hbKind : HbSection → Nat
  | .digest .. => 0x02 | .ackpos .. => 0x03 | .mean .. => 0x04 | .isrc .. => 0x05 | .reserved kind _ => kind

/-- The words of a DIGEST section, or of one entry of an ACKPOS, MEANS or ISRC section; reserved bits are 0 (R371). -/
def hbWords : HbSection → List Nat
  | .digest id last commits => [id.toNat / 2 ^ 32, id.toNat % 2 ^ 32, last / 2 ^ 32, last % 2 ^ 32, commits]
  | .ackpos stream seq w3 => [stream * 2 ^ 18 + seq / 2 ^ 32, seq % 2 ^ 32, w3]
  | .mean stream seq w3 value => [stream * 2 ^ 18 + seq / 2 ^ 32, seq % 2 ^ 32, w3, value.toNat]
  | .isrc spoke look value => [spoke * 2 ^ 22 + look * 2 ^ 18, value.toNat]
  | .reserved .. => []

/-- The sections of one kind of a body: their entries make one section. -/
def kindBytes (kind : Nat) (xs : List HbSection) : List Byte :=
  match (xs.filter (fun x => hbKind x == kind)).flatMap hbWords with
  | [] => []
  | ws => sectionBytes kind ws

/-- The body of a tandem-lane PARTNER_HB (R371): HEARTBEAT, then the sections that are pending. -/
def tandemBody (h : Heartbeat) (xs : List HbSection) : List Byte :=
  sectionBytes 0x01 (heartbeatWords h) ++ [0x02, 0x03, 0x04, 0x05].flatMap (fun k => kindBytes k xs)

/-- `type` of the frames that the hub sends (R317). -/
def FrameBody.type : FrameBody → Nat
  | .blocks _ => 0x01 | .record .. => 0x02 | .ackOf _ => 0x04 | .completion _ => 0x07 | .notice _ => 0x08 | .hello .. => 0x0A
  | .trigger _ => 0x10 | .alarm _ => 0x11 | .beacon .. => 0x18 | .linkHb .. => 0x19 | .partnerHb _ => 0x1A | .forwarded f => f.type

/-- The body bytes (R317). -/
def FrameBody.bytes : FrameBody → List Byte
  | .blocks bs => bs.flatten
  | .record stall offset item bytes => beBytes 4 (stall * 2 ^ 20 + offset) ++ beBytes 4 (item.opB.toNat % 2 ^ 32) ++ bytes
  | .ackOf cls => beBytes 4 (cls * 2 ^ 30)
  | .completion i => itemBytes i
  | .notice i => itemBytes i
  | .alarm i => itemBytes i
  | .hello chip session source hopsE hopsW =>
    beBytes 8 chip.toNat ++ beBytes 4 (session % 65536 * 65536 + source * 2 ^ 14) ++ beBytes 4 (hopsE * 256 + hopsW)
  | .trigger m =>
    beBytes 4 (m.group * 2 ^ 24 + m.origin * 2 ^ 12 + m.unit * 2 ^ 6 + m.outcome * 2 ^ 4) ++ beBytes 8 m.point ++ beBytes 4 (m.frac * 65536)
  | .beacon e detail => beBytes 8 e ++ beBytes 4 detail
  | .linkHb heFar fromE hops => beBytes 4 (boolBit heFar 31 + boolBit fromE 30 + hops)
  | .partnerHb h => sectionBytes 0x01 (heartbeatWords h)
  | .forwarded f => f.body

/-- The header of a frame that the hub sends. PARTNER_HB to an even member is for that member only (R313; log entry 46, DEDUCED). -/
def OutFrame.header (f : OutFrame) : IrpHeader :=
  { type := f.body.type, cls := f.cls, src := f.src, hop := 0, dst := f.dst
    memberOnly := match f.body with | .partnerHb _ => f.dst % 2 == 0 | _ => false
    seq := f.seq, ack := f.ack }

/-! ### The FCS (IEEE 802.3 Clause 3.2.9) -/

/-- One bit step of the reflected CRC-32 with polynomial 0x04C11DB7. -/
def fcsBit (c : Nat) : Nat := if c % 2 = 1 then Nat.xor (c / 2) 0xEDB88320 else c / 2

/-- One byte. -/
def fcsByte (c : Nat) (b : Byte) : Nat :=
  fcsBit (fcsBit (fcsBit (fcsBit (fcsBit (fcsBit (fcsBit (fcsBit (Nat.xor c b.toNat))))))))

/-- The FCS of a frame's bytes, in the order in which its bytes leave. -/
def fcsOf (bs : List Byte) : List Byte := leBytes 4 (Nat.xor (bs.foldl fcsByte 0xFFFFFFFF) 0xFFFFFFFF)

/-- A tandem-lane PARTNER_HB as it leaves (R371). -/
def tandemBytes (src dst : Nat) (seq : Word) (h : Heartbeat) (xs : List HbSection) : List Byte :=
  let hd : IrpHeader := { type := 0x1A, cls := 1, src := src, hop := 0, dst := dst, memberOnly := dst % 2 == 0, seq := seq, ack := none }
  let bs := hd.frame (tandemBody h xs)
  bs ++ fcsOf bs

/-- A frame as it leaves (R314, R320): a cut frame ends with the inverse of its FCS. -/
def OutFrame.bytes (f : OutFrame) : List Byte :=
  let bs := match f.body with | .forwarded g => g.bytes | b => f.header.frame b.bytes
  bs ++ (if f.cut then (fcsOf bs).map (fun b => ~~~b) else fcsOf bs)

end Sys2Proof.Machine
end

