-- ==== Sys2Proof/Machine/Frames.lean ====
section
/-! DEFINITION. Frames on the rim (R313 to R317, R323 to R329): their lengths, the associations that number them, and the queues of a port in
which they wait for PORT_TRANSMIT. -/

namespace Sys2Proof.Machine

/-- Body bytes of a frame (R317, R371). -/
def FrameBody.length : FrameBody → Nat
  | .blocks bs => bs.foldl (fun n b => n + b.length) 0
  | .record _ _ _ bytes => 8 + bytes.length
  | .ackOf _ => 4
  | .completion _ => 16
  | .notice _ => 16
  | .hello .. => 16
  | .trigger _ => 16
  | .alarm _ => 16
  | .beacon .. => 12
  | .linkHb .. => 4
  | .partnerHb _ => 36
  | .forwarded f => f.length

/-- Frame bytes from the destination MAC to the FCS (R314, R329). -/
def FrameBody.frameBytes (b : FrameBody) : Nat :=
  match b with | .forwarded f => f.bytes.length + 4 | b => max 64 (34 + b.length)

/-- The address that the hub writes as the source of BULK and EXPRESS frames (R313). -/
def State.dataSource (s : State) : Nat := if s.publishes then s.serviceAddr else s.lnk.rim.addr

/-- A frame waits at a port; a port whose lane is not ACTIVE sends nothing. -/
def State.enqueue (s : State) (p : Port) (f : OutFrame) : State :=
  if !s.portActive p then s
  else s.upPort p fun r =>
    match f.cls with
    | 0 => { r with express := r.express ++ [f] }
    | 1 => { r with time := r.time ++ [f] }
    | 2 => { r with control := r.control ++ [f] }
    | _ => { r with bulk := r.bulk ++ [f] }

/-- An association written back. -/
def State.putAssoc (s : State) (a : Assoc) : State :=
  s.upRim fun r => { r with assocs := r.assocs.filter (fun x => !(x.src == a.src && x.peer == a.peer && x.cls == a.cls)) ++ [a] }

/-- The next sequence number of an association, which moves on (R325). -/
def State.number (s : State) (src peer cls : Nat) : State × Word :=
  let a := s.assoc src peer cls
  (s.putAssoc { a with next := a.next + 1 }, a.next)

/-- An EXPRESS frame leaves by both ports with one sequence number (R324); an unassigned hub (R312) and one that does not publish (R224, R358) send
none. -/
def State.sendExpress (s : State) (dst : Nat) (body : FrameBody) : State :=
  if s.lnk.rim.addr = 4095 ∨ !s.publishes then s
  else
    let src := s.dataSource
    let r := s.number src dst 0
    let f : OutFrame := { cls := 0, src := src, dst := dst, seq := r.2, body := body, cut := false }
    (r.1.enqueue .e f).enqueue .w f

/-- The port for CONTROL and TIME frames to the head-end (R328): that of its last CONTROL frame if it has reach, otherwise the other one. -/
def State.toHead (s : State) : Port :=
  let p := s.lnk.rim.headPort.getD .e
  if (s.rimPort p).reach then p else otherPort p

/-- The source of CONTROL frames to the head-end: the service address where the hub speaks for it (R358, R371). -/
def State.controlSource (s : State) (service : Bool) : Nat := if service then s.serviceAddr else s.lnk.rim.addr

/-- A CONTROL association has room in its window (R327). -/
def State.ctlRoom (s : State) (src dst : Nat) : Bool :=
  decide ((s.lnk.rim.ctl.filter (fun c => c.frame.src == src && c.frame.dst == dst)).length < s.st.ctlWindow)

/-- A CONTROL frame is numbered, kept for retransmission and queued (R327). It carries the association's `ack`, so no ACK frame is due. -/
def State.sendControl (s : State) (src dst : Nat) (body : FrameBody) : State :=
  let r := s.number src dst 2
  let a := r.1.assoc src dst 2
  let f : OutFrame := { cls := 2, src := src, dst := dst, seq := r.2, body := body, cut := false, ack := some a.expected }
  let s := (r.1.putAssoc { a with ackDue := none }).upRim fun q => { q with ctl := q.ctl ++ [{ frame := f, tries := 1, tick := s.tick }] }
  s.enqueue s.toHead f

/-- A TIME frame to the head-end, by one port. -/
def State.sendTime (s : State) (p : Port) (dst : Nat) (body : FrameBody) : State :=
  s.enqueue p { cls := 1, src := s.lnk.rim.addr, dst := dst, seq := 0, body := body, cut := false }

/-- A TIME frame leaves by both ports, numbered in its association (R325). -/
def State.sendTimeBoth (s : State) (dst : Nat) (body : FrameBody) : State :=
  let src := s.lnk.rim.addr
  let r := s.number src dst 1
  let f : OutFrame := { cls := 1, src := src, dst := dst, seq := r.2, body := body, cut := false }
  (r.1.enqueue .e f).enqueue .w f

/-- A BEACON (R76, R328); a hub of a tandem that does not publish sends none (R358). -/
def State.sendBeacon (s : State) (epochTime detail : Nat) : State :=
  if s.publishes then s.sendTimeBoth 0 (.beacon epochTime detail) else s

/-- A frame that takes part in no association of the hub: HELLO, LINK_HB, and what it forwards (R325). -/
def OutFrame.unnumbered (f : OutFrame) : Bool :=
  match f.body with
  | .hello .. => true
  | .linkHb .. => true
  | .forwarded _ => true
  | _ => false

/-- Every association starts again from 0, and the frames it had waiting are gone, at the ports too (R311, R312, R325; log entry 20, DESIGN CHOICE). The
blocks of unacknowledged BULK frames are sent again (R326). -/
def State.resetAssocs (s : State) : State :=
  let s := (s.recordsUnsent s.lnk.rim.e.bulk).recordsUnsent s.lnk.rim.w.bulk
  let s := (s.declareLost .e).declareLost .w
  let keep (r : RimPort) : RimPort :=
    { r with express := r.express.filter OutFrame.unnumbered, time := r.time.filter OutFrame.unnumbered
             control := r.control.filter OutFrame.unnumbered, bulk := [] }
  ((s.upPort .e keep).upPort .w keep).upRim fun r => { r with assocs := [], ctl := [], bulkOut := [] }

end Sys2Proof.Machine
end

