-- ==== Sys2Proof/Machine/Image.lean ====
section
/-! DEFINITION. The structure image: its CRC (R31), the walk over its frames (R28 to R35), the checks of a load (R40), the structure
an image makes on its base (R34, R36, R37), and the comparison of two structures (R38). -/

namespace Sys2Proof.Machine

/-! ### CRC-32C (R31) -/

/-- One bit step of the reflected CRC-32C with polynomial 0x1EDC6F41. -/
def crcBit (c : Nat) : Nat := if c % 2 = 1 then Nat.xor (c / 2) 0x82F63B78 else c / 2

/-- One byte into the register. -/
def crcByte (c : Nat) (b : Byte) : Nat :=
  crcBit (crcBit (crcBit (crcBit (crcBit (crcBit (crcBit (crcBit (Nat.xor c b.toNat))))))))

/-- CRC-32C of bytes in memory order (R31). -/
def crc32c (bs : List Byte) : Nat := Nat.xor (bs.foldl crcByte 0xFFFFFFFF) 0xFFFFFFFF

/-- CRC-32C of words, least significant byte of each word first (R31). -/
def crcWords (ws : List Word) : Nat := crc32c (ws.flatMap Word.bytes)

/-- Little-endian words from bytes. -/
def wordsOfBytes : List Byte → List Word
  | a :: b :: c :: d :: r =>
    wordOf (a.toNat + b.toNat * 2 ^ 8 + c.toNat * 2 ^ 16 + d.toNat * 2 ^ 24) :: wordsOfBytes r
  | _ => []

/-! ### Frames (R30, R34, R35) -/

/-- One frame of an image: its type, class, instances and payload. -/
structure Frame where
  type : Nat
  cls : Nat
  first : Nat
  count : Nat
  payload : List Word
  deriving DecidableEq, Repr, Inhabited

/-- The result of the walk over the frames of R35: the frames in order, and whether a trailer failed (check 5 of R40), in which case the
frames are those before the failing one. -/
structure Walk where
  frames : List Frame
  failed : Bool
  deriving DecidableEq, Repr, Inhabited

/-- The walk over the words that remain of the image (`fuel` bounds the number of frames; a frame has at least 3 words). -/
def walkFrames (fuel : Nat) (ws : List Word) : Walk :=
  match fuel with
  | 0 => { frames := [], failed := false }
  | fuel + 1 =>
    match ws with
    | [] => { frames := [], failed := false }
    | h :: r =>
      let n := h.field 15 0
      if ws.length < n + 3 then { frames := [], failed := true }
      else
        let idx := r.headD 0
        let payload := (r.drop 1).take n
        let trailer := (r.drop (n + 1)).headD 0
        if crcWords (h :: idx :: payload) ≠ trailer.toNat then { frames := [], failed := true }
        else
          let f : Frame := { type := h.field 31 24, cls := h.field 23 16, first := idx.field 31 16, count := idx.field 15 0, payload := payload }
          if f.type = 0x7F then { frames := [f], failed := false }
          else
            let w := walkFrames fuel (r.drop (n + 2))
            { frames := f :: w.frames, failed := w.failed }

/-- The records of a frame put into a structure, in instance order; a later frame replaces an earlier one (R34). -/
def putRecords (st : Struct) (k : RecKind) (i n : Nat) (payload : List Word) : Struct :=
  match n with
  | 0 => st
  | n + 1 => putRecords (st.setRecord k i (payload.take k.len)) k (i + 1) n (payload.drop k.len)

/-- The frame's effect on the structure being staged; F_END and a frame that names no kind of record have none. -/
def applyFrame (st : Struct) (f : Frame) : Struct :=
  match frameKind f.type f.cls with
  | none => st
  | some k => putRecords st k f.first f.count f.payload

/-- A frame keeps the rules of R30, R32 and R33. -/
def Frame.sound (f : Frame) : Bool :=
  if f.type = 0x7F then decide (f.cls = 0) && f.payload.isEmpty && decide (f.first = 0) && decide (f.count = 1)
  else
    match frameKind f.type f.cls with
    | none => false
    | some k => decide (f.first + f.count ≤ k.instances) && decide (f.payload.length = f.count * k.len)

/-- A frame of commit class Sampling (R33). -/
def Frame.isSampling (f : Frame) : Bool :=
  match frameKind f.type f.cls with | none => false | some k => k.sampling

/-! ### The checks of a load (R40, R41) -/

/-- The completion codes of R40 (R391). -/
def codeBadMagic : Nat := 0x06
def codeBadModel : Nat := 0x07
def codeTooLong : Nat := 0x08
def codeBadImageCrc : Nat := 0x09
def codeBadFrameCrc : Nat := 0x0A

/-- A load's outcome: a failure with its code and the ordinal for `bad_frame`, or the frames. -/
inductive LoadResult where
  | bad (code badFrame : Nat)
  | ok (frames : List Frame)
  deriving DecidableEq, Repr, Inhabited

/-- Checks 1 to 3 on the header words. -/
def headerCode (h : List Word) : Option Nat :=
  if (h.getD 0 0).toNat ≠ 0x49534851 then some codeBadMagic
  else if (h.getD 2 0).field 15 0 ≠ 0x768 then some codeBadModel
  else if 1048576 < (h.getD 8 0).toNat then some codeTooLong
  else none

/-- Checks 4 and 5 on the words 0 to `total_words` − 1. -/
def bodyChecks (ws : List Word) : LoadResult :=
  let body := ws.drop 16
  if crcWords body ≠ (ws.getD 15 0).toNat then .bad codeBadImageCrc 0xFFFF
  else
    let w := walkFrames body.length body
    if w.failed then .bad codeBadFrameCrc (satTo 0xFFFE w.frames.length) else .ok w.frames

/-- `struct_id` and `parent_id` of an image. -/
def imageId (ws : List Word) : Nat := (ws.getD 3 0).toNat + (ws.getD 4 0).toNat * 2 ^ 32
def imageParent (ws : List Word) : Nat := (ws.getD 5 0).toNat + (ws.getD 6 0).toNat * 2 ^ 32

/-- The header rules that the hub does not check (R29, R54). -/
def headerSound (ws : List Word) : Bool :=
  (ws.getD 1 0).toNat == 0x10000 && decide (imageId ws ≠ 0) && (((ws.getD 9 0).flag 0) == decide (imageParent ws ≠ 0)) &&
    decide ((ws.getD 2 0).field 31 16 = 0) && decide ((ws.getD 9 0).field 31 1 = 0) &&
    ((ws.drop 10).take 5).all (fun w => decide (w = 0))

/-! ### Comparing structures (R38) -/

/-- The instances of a kind whose records differ between two structures, rising. -/
def changedOf (a b : Struct) (k : RecKind) : List Nat :=
  let ka := ((a.table k).map (·.1)).filter (fun i => a.record k i != b.record k i)
  let kb := ((b.table k).map (·.1)).filter (fun i => !(a.table k).any (fun e => e.1 == i) && a.record k i != b.record k i)
  kb.foldl (fun acc i => insertBy (fun x y => decide (x ≤ y)) i acc) ka

/-- The number of changed instances (R48). -/
def changedCount (a b : Struct) : Nat := RecKind.all.foldl (fun n k => n + (changedOf a b k).length) 0

/-- A field of an instance's record differs. -/
def fieldDiffers (a b : Struct) (k : RecKind) (i w hi lo : Nat) : Bool := a.fld k i w hi lo != b.fld k i w hi lo

/-- The excitation fields of an F_LACE record that restart the looks they drive differ (R49). -/
def laceDriveChanged (a b : Struct) (l : Nat) : Bool :=
  fieldDiffers a b .lace l 0 31 28 || a.word .lace l 1 != b.word .lace l 1 || a.word .lace l 2 != b.word .lace l 2 ||
    a.word .lace l 3 != b.word .lace l 3 || a.word .lace l 4 != b.word .lace l 4 || fieldDiffers a b .lace l 5 15 8

/-- The coefficient words of a look's FIR differ (R183). -/
def coefChanged (a b : Struct) (stream : Nat) : Bool :=
  let used (st : Struct) : List Word :=
    if st.isFir stream then (numbersFrom (st.coefBase stream) (st.taps stream)).map (fun i => st.word .coef i 0) else []
  used a != used b

/-- The chain record of a stream differs, by number or content (R183). -/
def chainChanged (a b : Struct) (stream : Nat) : Bool :=
  let rec1 (st : Struct) : Option (Nat × List Word) := (st.chainOf stream).map (fun c => (c, st.record .chain c))
  rec1 a != rec1 b || coefChanged a b stream

/-- The curve record of a stream or one of its SEGMENT records differs, or stands at another instance (R38, R203). -/
def curveChanged (a b : Struct) (stream : Nat) : Bool :=
  let rec1 (st : Struct) : Option (Nat × List Word) := (st.curveOf stream).map (fun c => (c,
    st.record .curve c ++
      (if st.curveNo stream = 56 then (numbersFrom (c + 1) (st.fld .curve c 0 21 17)).flatMap (fun i => st.record .curve i) else [])))
  rec1 a != rec1 b

/-- A look counts as changed in the sense of R49. -/
def lookChanged (a b : Struct) (stream : Nat) : Bool :=
  let s := stream / 16
  let l := stream / 256
  if isAux stream then
    a.record .auxSeq ((stream - 12288) / 16) != b.record .auxSeq ((stream - 12288) / 16) || chainChanged a b stream || curveChanged a b stream
  else
    a.word .spoke s 0 != b.word .spoke s 0 || fieldDiffers a b .spoke s 1 23 0 ||
      a.record .lookSeq s != b.record .lookSeq s || chainChanged a b stream || curveChanged a b stream ||
      ((a.isBridge s || b.isBridge s) && laceDriveChanged a b l) ||
      ((isCurrentDrive (a.drive l) || isCurrentDrive (b.drive l)) && laceDriveChanged a b l)

end Sys2Proof.Machine
end

