-- ==== Sys2Proof/Machine/Stages.lean ====
section
/-! DEFINITION. The fixed stages of a look's chain on numbers alone (R16, 07_filter_chain): the sinc filters of stages 1 and 2 (R163, R168), the
interpolation of a mend (R103), the demodulator (R165), the division by the sensed excitation (R167), the compensation FIR (R170) and the two-tap
interpolation (R171). Codes and words are listed oldest first; a 48-bit word has full scale 2^46. -/

namespace Sys2Proof.Machine

/-! ### Filters -/

/-- The sum of products of two lists. -/
def dot : List Int → List Int → Int
  | a :: as, b :: bs => a * b + dot as bs
  | _, _ => 0

/-- The sum of a list. -/
def sumOf (l : List Int) : Int := l.foldl (fun a x => a + x) 0

/-- The weights of a filter followed by a boxcar of `n`. -/
def boxed (n : Nat) (w : List Int) : List Int :=
  (List.range (w.length + n - 1)).map fun k => sumOf ((w.take (k + 1)).drop (k + 1 - n))

/-- The 5n − 4 weights of a fifth-order sinc filter that decimates by `n`; they sum to n^5. -/
def sincWeights (n : Nat) : List Int := boxed n (boxed n (boxed n (boxed n (List.replicate n 1))))

/-- A filter of the given weights that delivers every `step`-th result whose inputs are all there. -/
def decimated (weights : List Int) (step : Nat) (xs : List Int) : List Int :=
  if xs.length < weights.length then []
  else (List.range ((xs.length - weights.length) / max 1 step + 1)).map fun i => dot weights (xs.drop (i * step))

/-! ### Stage 1 (R163) -/

/-- The full scale of the gear in force in a 48-bit word (R163, R104). -/
def fullScale : Int := 2 ^ 46

/-- The 32-bit stage-1 words of a run of codes: full scale is 2^30, and codes of mean +2 give 1.25 times that. -/
def stageOne (codes : List Int) : List Int := (decimated (sincWeights 8) 8 codes).map fun x => x * (5 * 2 ^ 12)

/-- A stage-1 word sign-extended to the 48-bit scale. -/
def widened (w : Int) : Int := w * 2 ^ 16

/-- A 48-bit word in G0's scale (R104). -/
def rescaled (r : Q) (w : Int) : Int := Q.near ((Q.ofInt w).mul r)

/-! ### The mend (R103) -/

/-- The cubic interpolation of R103: the weights of a replaced word, in 1/105. -/
def mendWeights : List (Int × Int × Int × Int) :=
  [(-50, 140, 35, -20), (-60, 126, 84, -45), (-45, 84, 126, -60), (-20, 35, 140, -50)]

/-- A replaced word from the rescaled W−1, W, W+5 and W+6. -/
def mendWord (w : Int × Int × Int × Int) (a b c d : Int) : Int :=
  Q.near { num := w.1 * a + w.2.1 * b + w.2.2.1 * c + w.2.2.2 * d, den := 105 }

/-- The four replaced words. -/
def mendWords (a b c d : Int) : List Int := mendWeights.map fun w => mendWord w a b c d

/-- The words `ws`, the first of which has number `n`, with W+1 to W+4 of the mend at W replaced. -/
def mendAt (n : Int) (ws : List Int) (w : Nat) : List Int :=
  if (w : Int) < n + 1 ∨ n + ws.length < w + 7 then ws
  else
    let i := ((w : Int) - n).toNat
    let at_ (k : Nat) : Int := ws.getD k 0
    ws.take (i + 1) ++ mendWords (at_ (i - 1)) (at_ i) (at_ (i + 5)) (at_ (i + 6)) ++ ws.drop (i + 5)

/-! ### The bridge ratio (R165, R167) -/

/-- The divisor of R165 and R167 as a fraction of the commanded amplitude: the sensed one, clamped at 5 %. -/
def sensedShare (commanded : Nat) (amp : Int) : Q :=
  if commanded = 0 then { num := 1, den := 1 }
  else if amp * 20 < commanded then { num := 1, den := 20 } else { num := amp, den := commanded }

/-- A phase of R122 and a sensed offset in 2^-16 degree as a fraction of a turn: `half` counts half clocks of 12.8 MHz since network time 0. -/
def turnAt (n l half : Nat) (phase : Int) : Int × Nat :=
  let den := 96 * n * 23592960
  (((half % (2 * n) * 48 + l * 2 * n : Nat) : Int) * 23592960 + phase * (96 * n : Nat), den)

/-- A product of R165: the word times (2 / A_s) times a factor in fixed point. -/
def demodulated (w : Int) (share : Q) (factor : Int) : Int :=
  match ((Q.ofInt (2 * w)).mul (Q.ofFix factor)).div share with | none => 0 | some q => Q.near q

/-- A word divided by the sensed excitation (R167). -/
def divided (w : Int) (share : Q) : Int :=
  match (Q.ofInt w).div share with | none => 0 | some q => Q.near q

/-! ### Stage 2 and the compensation FIR (R168 to R171) -/

/-- A fifth-order sinc filter with unit DC gain that decimates by `r`. -/
def stageTwo (r : Nat) (words : List Int) : List Int :=
  (decimated (sincWeights r) r words).map fun x => Q.near { num := x, den := r ^ 5 }

/-- A coefficient of the compensation FIR before its gain is bounded, tap 0 for the newest word: the hub's fixed ones, with the fractional delay of R171
in ps, are free values (log entry 11); those of the linear form without a fractional delay are symmetric, which is its constant delay of 15 P_s2
(R170). -/
def compTap (minPhase : Bool) (osrK : Nat) (lowPower : Bool) (delay : Int) (i : Nat) : Int :=
  Config.compCoef minPhase osrK lowPower delay (if minPhase ∨ delay ≠ 0 then i else min i (30 - i))

/-- P_s2 in ps. -/
def ps2Ps (osrK : Nat) (lowPower : Bool) : Int := 32 * 2 ^ osrK * (if lowPower then 312500 else 78125)

/-- The 31 coefficients: the gain at DC within ±0.005 dB of 1, and the group delay at DC 15 P_s2 of the linear and 3.5 P_s2 of the minimum-phase form, with the
fractional delay (R170, R171). A free set that keeps both stands as it is. -/
def compSet (minPhase : Bool) (osrK : Nat) (lowPower : Bool) (delay : Int) : List Int :=
  let cs := (List.range 31).map (compTap minPhase osrK lowPower delay)
  let sum := sumOf cs
  -- 10^(∓0.005/20) in units of 2^-30
  let off := clampInt sum 1073123907 1074360107 - sum
  let cs := cs.modify 15 (fun c => c + off)
  -- the sum of i × c_i over the gain is the delay at DC, in periods
  let p := ps2Ps osrK lowPower
  let moment := sumOf (((List.range 31).zip cs).map fun e => (e.1 : Int) * e.2)
  let want := Q.near { num := (sum + off) * ((if minPhase then 7 else 30) * p + 2 * delay), den := (2 * p).toNat }
  let shift := (want - moment) / 2
  (cs.modify 14 (fun c => c - shift)).modify 16 (fun c => c + shift)

/-- The 31-tap compensation FIR (R170). -/
def compensated (minPhase : Bool) (osrK : Nat) (lowPower : Bool) (delay : Int) (words : List Int) : List Int :=
  (decimated (compSet minPhase osrK lowPower delay).reverse 1 words).map fun x => Q.near { num := x, den := 2 ^ 30 }

/-- The two-tap interpolation of R171 by a delay of `delay` ps between words that lie one clock of `c` ps apart. -/
def delayed (delay : Int) (c : Nat) (earlier later : List Int) : List Int :=
  (earlier.zip later).map fun w => Q.near { num := ((c : Int) - delay) * w.2 + delay * w.1, den := c }

end Sys2Proof.Machine
end

