-- ==== Sys2Proof/Machine/Timebase.lean ====
section
/-! DEFINITION. Network time (03_network_time_and_cadence): the servo and its measurements (R70, R80, R533), the time states (R77, R78),
the PTP boundary clock (R66 to R69), the GNSS inputs and pulse outputs (R71, R72), scheduled events (R60 to R62), `SET_TIME` (R83) and the
sample clock's lock (R15). The realignment and the epoch instant stand in Realign.lean and Epoch.lean. -/

namespace Sys2Proof.Machine

/-! ### Scheduled events (R60 to R62) -/

/-- An event is scheduled: the compare logic is armed with a target within 2.0 s, the supervisor holds a farther one; a target already passed makes the
event late (R60). -/
def State.schedule (s : State) (k : SchedKind) (target : Nat) : State :=
  s.upTmb fun t =>
    { t with sched := t.sched ++ [{ id := t.nextSched, kind := k, target := target, armed := decide (target ≤ s.now + 2000000000)
                                    fired := false, late := decide (target < s.now) }]
             nextSched := t.nextSched + 1 }

/-- The events of a kind are dropped: they have happened or were cancelled. -/
def State.unschedule (s : State) (k : SchedKind) : State :=
  s.upTmb fun t => { t with sched := t.sched.filter (fun e => !decide (e.kind = k)) }

/-- The event of an id. -/
def State.schedOf (s : State) (id : Nat) : Option SchedEvent := s.tmb.sched.find? (fun e => e.id == id)

/-- One event changed. -/
def State.upSched (s : State) (id : Nat) (f : SchedEvent → SchedEvent) : State :=
  s.upTmb fun t => { t with sched := t.sched.map (fun e => if e.id = id then f e else e) }

/-- An armed event fires at the first tick at which network time is at or after its target, by the signed 32-bit difference, once; one armed with its
target passed fires at the next tick, however long ago that was (R60, R62). -/
def fireEvent (id : Nat) (s : State) : State :=
  match s.schedOf id with
  | none => s
  | some e =>
    if e.armed ∧ !e.fired ∧ (e.late ∨ signedOf 32 (s.now + 2 ^ 32 - e.target % 2 ^ 32) ≥ 0) then s.upSched id fun x => { x with fired := true }
    else s

/-- SCHEDULED_EVENT (R60). -/
def execScheduledEvent (id : Nat) (s : State) : Ans := act s (fireEvent id)

/-- The supervisor arms a held event that has come within 2.0 s; one whose instant passed while it was paused fires at once, marked late,
with N_EVENT_LATE unless it is a commit (R60, R61). -/
def armEvent (id : Nat) (s : State) : State :=
  match s.schedOf id with
  | none => s
  | some e =>
    if s.firmware ∧ !e.armed ∧ e.target ≤ s.now + 2000000000 then
      if e.target < s.now then
        let s := s.upSched id fun x => { x with armed := true, fired := true, late := true }
        if e.kind = .commit then s else s.notify 0 0x07 0 0 (argSXs s.now (((s.now : Int) - e.target) / 1000))
      else s.upSched id fun x => { x with armed := true }
    else s

/-- EVENT_ARM (R60, R61). -/
def execEventArm (id : Nat) (s : State) : Ans := act s (armEvent id)

/-! ### Steps of network time -/

/-- The instant at which a PPS_OUT pulse of the present structure would have begun last (R72). -/
def State.ppsInstant (s : State) : Option Nat :=
  match s.st.ppsMode with
  | 1 => some (s.now / 1000000000 * 1000000000)
  | 2 => some (s.now / Config.epochNs * Config.epochNs)
  | _ => none

/-- A pulse begins only at its instant (R72): one whose instant lies behind a step of time, or before the mode was committed, does not begin. -/
def State.ppsPassed (s : State) : State :=
  match s.ppsInstant with
  | none => s
  | some e => if ((e * 65536 : Nat) : Int) < s.nowFine then s.upTmb fun t => { t with ppsPulsed := some e } else s

/-- A start of sampling that has been set lies at the first cadence-epoch instant, on the present time scale, once the time that must pass from the
lock or the expiry of `fr_wait` has passed (R79). -/
def State.restartAt (s : State) : State :=
  match s.tmb.startFrom with
  | none => s
  | some (k, wait) =>
    if s.glb.sampling ∨ s.tmb.startAt = none then s
    else s.upTmb fun t => { t with startAt := some (epochAtOrAfter (s.now + (wait - (s.tick - k) * s.tmb.rate / 2 ^ 40))) }

/-- Network time steps by `d` (2^-16 ns); events passed over by a forward step fire at this tick, marked late (R62). -/
def State.stepTime (s : State) (d : Int) : State :=
  let before := s.now
  let s := s.upTmb fun t => { t with offset := s.nowFine + d, anchor := t.counter }
  let s := s.upTmb fun t =>
    { t with sched := t.sched.map (fun e =>
        if !e.fired && decide (before < e.target) && decide (e.target < s.now) then { e with armed := true, fired := true, late := true } else e) }
  s.restartAt.ppsPassed

/-- The first cadence-epoch instant that lies at least 20 ms from now (R44, R79). -/
def State.nextStart (s : State) : Nat := epochAtOrAfter (s.now + Config.prepNs)

/-- The start of sampling with `source` FREE: the first cadence-epoch instant at least 20 ms after the end of the trim ramp, on the
present time scale (R79). -/
def State.freeStart (s : State) : State :=
  match s.tmb.trimsIn with
  | none => s
  | some k =>
    if s.glb.state = .timewait ∧ s.st.timeSource = 0 then
      let elapsed := (s.tick - k) * s.tmb.rate / 2 ^ 40
      s.upTmb fun t => { t with startAt := some (epochAtOrAfter (s.now + (Config.prepNs - elapsed))) }
    else s

/-! ### Time states (R77, R78) -/

/-- The hub enters LOCKED (R77): N_TIME_LOCKED; the first lock in TIMEWAIT sets the start of sampling (R79). -/
def State.lock (s : State) : State :=
  let s := (s.enterTime .locked).setRate s.estimate s.slewExtra
  let s := s.upTmb fun t => { t with inRun := 0, outRun := 0 }
  let s := s.notify 0 0x02 0 0 (argT s.now)
  if s.glb.state = .timewait ∧ s.tmb.startAt = none then
    s.upTmb fun t => { t with startAt := some s.nextStart, startFrom := some (t.counter, Config.prepNs) }
  else s

/-- The hub enters ACQUIRING from a state in which it had no source, or from LOCKED: one change of rate is due (R533). -/
def State.acquire (s : State) (rebase : Bool) : State :=
  (s.enterTime .acquiring).upTmb fun t =>
    { t with rateSet := false, sinceAcq := 0, inRun := 0, outRun := 0, confirm := [], rebase := t.rebase || rebase
             accepted := if rebase then [] else t.accepted }

/-- The rim port that is slave; none in HOLDOVER, whose source is lost (R88). -/
def State.slavePort (s : State) : Option Port := match s.tmb.timeState with | .holdover => none | _ => s.tmb.tdSource

/-- `upstream` of TMB_STATUS (R88). -/
def State.upstream (s : State) : Nat :=
  match s.tmb.timeState with
  | .holdover => 0
  | _ =>
    match s.slavePort with
    | some .e => 1
    | some .w => 2
    | none => if s.st.timeSource = 2 && s.tmb.ppsValid then 3 else 0

/-- A source has become valid (R77, R78); the servo of a halted hub is held in HOLDOVER (R485). -/
def State.sourceValid (s : State) : State :=
  if s.ldr.halted then s
  else match s.tmb.timeState with
  | .freeRun => s.acquire true
  | .holdover =>
    let ms := match s.tmb.holdoverFrom with | none => s.tmb.holdoverMs | some k => satTo 0xFFFFFFFF ((s.tick - k) / Config.ticksPerMs)
    let s := (s.acquire false).upTmb fun t => { t with holdoverFrom := none, holdoverMs := ms }
    s.notify 0 0x04 0 s.upstream (argT s.now) 1
  | _ => s

/-- The source is lost (R77, R78). -/
def State.sourceLost (s : State) : State :=
  match s.tmb.timeState with
  | .locked => s.enterHoldover
  | .acquiring => if s.tmb.everLocked then s.enterHoldover else (s.enterTime .freeRun).upTmb fun t => { t with inRun := 0, outRun := 0, confirm := [] }
  | _ => s

/-! ### The servo (R70, R79, R80, R533); measurements in 2^-16 ns -/

/-- 200 ns, 1 µs and a nanosecond in 2^-16 ns. -/
def fineNs (n : Nat) : Int := ((n * 65536 : Nat) : Int)

/-- The values agree with one another within 200 ns (R70, R80). -/
def agree200 (l : List Int) : Bool :=
  l.all (fun a => l.all (fun b => decide (a - b ≤ fineNs 200)))

/-- The recovered clock's frequency over the preceding 10 ms (R533), rounded down. -/
def State.recoveredRate (s : State) (p : Port) : Option Nat :=
  let l := (s.ptpPort p).recovered.filter (fun e => decide (s.tick ≤ e.1 + 10 * Config.ticksPerMs))
  if l.isEmpty then none else some ((l.foldl (fun n e => n + e.2) 0) / l.length)

/-- The change of rate at an accepted measurement (R533): frequency comes from the recovered clock while the upstream lane is ACTIVE (R64). -/
def State.servoStep (s : State) : State :=
  let set (r : Nat) : State := s.setRate r s.slewExtra
  let rim := match s.tmb.tdSource with
    | some p => if s.st.timeSource = 1 ∧ s.portActive p then s.recoveredRate p else none
    | none => none
  let next := Config.servoRate s.tick s.estimate s.tmb.accepted rim
  if s.tmb.rateSet then set next
  else
    match rim with
    | some r => (set r).upTmb fun t => { t with rateSet := true }
    | none =>
      if 2 ≤ s.tmb.sinceAcq then (set next).upTmb fun t => { t with rateSet := true }
      else s

/-- A confirmed offset Δ is removed (R79, R80): before sampling by a step, below 1 µs by a slew of at most 10 ppm, otherwise by a
realignment at the first cadence-epoch instant of true time at least 20 ms ahead. An epoch instant that the hub, far ahead, has already passed on its
own scale is none of these: E is then the first at or after network time; and a Δ confirmed while a slew or a realignment stands is not acted on (log
entry 42, DESIGN CHOICE). -/
def State.removeOffset (s : State) (d : Int) : State :=
  let s := s.upTmb fun t => { t with offsetEst := d, confirm := [] }
  if !s.glb.sampling then s.stepTime d
  else if d = 0 then s
  else if -fineNs 1000 < d ∧ d < fineNs 1000 then
    if s.tmb.slew.isSome then s
    else
      -- 10 ppm of the rate at most, the share left open
      let size := s.tmb.rate * 10 * (1 + Config.slewShare s.tick % 1000) / 1000000000
      let extra : Int := if d < 0 then -(size : Int) else (size : Int)
      (s.setRate s.tmb.rate extra).upTmb fun t => { t with slew := some (t.counter + ceilDiv (d.natAbs * 2 ^ 24) size, extra) }
  else if s.tmb.realign.isSome then s
  else
    let trueNow := ((s.nowFine + d) / 65536).toNat
    let e := epochAtOrAfter (max (trueNow + Config.prepNs) s.now)
    s.upTmb fun t => { t with realign := some (e, d) }

/-- An accepted measurement `d` (R77, R79, R80, R533); at a re-base the prediction rests on it and those after it (R70). -/
def State.acceptMeasure (s : State) (d : Int) : State :=
  let inside := decide (-fineNs s.st.lockNs ≤ d) && decide (d ≤ fineNs s.st.lockNs)
  let s := s.upTmb fun t =>
    { t with accepted := d :: (if t.rebase then [] else t.accepted), discarded := [], rebase := false, sinceAcq := t.sinceAcq + 1
             inRun := if inside then t.inRun + 1 else 0, outRun := if inside then 0 else t.outRun + 1
             confirm := lastN 8 (t.confirm ++ [d]) }
  let s := s.servoStep
  let s :=
    if !s.glb.sampling then s.stepTime d
    else if s.tmb.confirm.length = 8 ∧ agree200 s.tmb.confirm then s.removeOffset (median8 s.tmb.confirm)
    else s
  if s.tmb.timeState = .acquiring ∧ 16 ≤ s.tmb.inRun then s.lock
  else if s.tmb.timeState = .locked ∧ 16 ≤ s.tmb.outRun then s.acquire false
  else s

/-- A discarded measurement (R70): counted, a TIME_OUTLIER event; eight in a row that agree re-base the prediction, that of the edges of PPS_IN
with it (R71). -/
def State.discardMeasure (s : State) (d : Int) : State :=
  let s := (s.upTmb fun t => { t with outliers := satInc t.outliers, discarded := lastN 8 (t.discarded ++ [d]) }).faultEvent 10 0
  if s.tmb.discarded.length = 8 ∧ agree200 s.tmb.discarded then
    let m := median8 s.tmb.discarded
    (s.upTmb fun t =>
      { t with accepted := t.discarded.reverse, discarded := []
               ppsBase := match t.ppsOff with | none => t.ppsBase | some (k, x) => some (k, some x) }).removeOffset m
  else s

/-- The servo is at work: in ACQUIRING and LOCKED. In HOLDOVER the rate is held and in FREE_RUN there is no source (R77, R78, R533). -/
def State.servoOn (s : State) : Bool := match s.tmb.timeState with | .acquiring => true | .locked => true | _ => false

/-- The servo takes a measurement of true time minus hub time (R70). One that reaches it while it holds, as a buffered one after a loss in WARM_RESTART
may, is not used (R78; log entry 42, DEDUCED). -/
def State.takeMeasure (s : State) (d : Int) : State :=
  let p := Config.servoPredict s.tmb.accepted
  if !s.servoOn then s
  else if s.tmb.rebase ∨ s.tmb.accepted = [] then s.acceptMeasure d
  else if p - fineNs s.st.outlierNs ≤ d ∧ d ≤ p + fineNs s.st.outlierNs then s.acceptMeasure d
  else s.discardMeasure d

/-- A measurement arrives: in WARM_RESTART its stamps are buffered and consumed on resume (R22); without firmware, or with its cores halted, the servo
is held (R27, R485). -/
def State.measure (s : State) (d : Int) : State :=
  if s.firmware then s.takeMeasure d
  else if s.glb.state = .warmRestart then s.upTmb fun t => { t with buffered := t.buffered ++ [d] }
  else s

/-- The buffered measurements are consumed (R22). -/
def State.consumeBuffered (s : State) : State :=
  let l := s.tmb.buffered
  forEach l (s.upTmb fun t => { t with buffered := [] }) State.takeMeasure

/-! ### The PTP boundary clock (R66 to R69) -/

/-- clockIdentity of the hub: EUI-64 of its MAC address (R66, R312). -/
def State.clockIdentity (s : State) : DWord := BitVec.ofNat 64 (0x025148FFFE000000 + s.lnk.rim.addr)

/-- clockClass of the hub's own clock (R66, R88): 6 while LOCKED to PPS_IN; a hub LOCKED over the rim, for which R66 names no class, has 248 (log entry
42, DESIGN CHOICE). -/
def State.ownClass (s : State) : Nat :=
  match s.tmb.timeState with
  | .locked => if s.st.timeSource = 2 then 6 else 248
  | .holdover => 7
  | _ => 248

/-- Stamp corrections of a lane to the ball, transmit and receive, in 2^-16 ns, rounded to the nearest unit (R68). -/
def State.stampTx (s : State) (p : Port) : Int :=
  let l := s.lane (laneOfPort p)
  if l.rate10 then 6343885 else if l.fec then 7169638 else 2726298
def State.stampRx (s : State) (p : Port) : Int :=
  let l := s.lane (laneOfPort p)
  if l.rate10 then 8126464 else if l.fec then 12248678 else 3486515

/-- With RS-FEC on, the correction for the delimiter's position within the codeword (R68; a free value, log entry 42). -/
def State.codewordShift (s : State) (p : Port) (received : Bool) : Int :=
  let l := s.lane (laneOfPort p)
  if l.fec && !l.rate10 then Config.delimiterShift s.tick (laneOfPort p) received else 0

/-- The time stamp of a received event message at the ball (R57, R68); `frac` counts units of 78.125 ps in the tick. -/
def State.rxStamp (s : State) (p : Port) (frac : Nat) : Int := s.nowFine + ((frac * 5120 : Nat) : Int) - s.stampRx p - s.codewordShift p true
/-- The time stamp of a sent event message at the ball. -/
def State.txStamp (s : State) (p : Port) (frac : Nat) : Int := s.nowFine + ((frac * 5120 : Nat) : Int) + s.stampTx p + s.codewordShift p false

/-- The boundary clock is at work: the lane is ACTIVE and the hub is out of start-up, also while a warm restart runs (R22, R66). -/
def State.ptpOn (s : State) (p : Port) : Bool :=
  s.portActive p && (s.live || decide (s.hardware = .timewait))

/-- Lexicographic order on such keys: the first is better. -/
def keyLess : List Nat → List Nat → Bool
  | a :: r, b :: q => decide (a < b) || (decide (a = b) && keyLess r q)
  | _, _ => false

/-- The data set of the hub's own clock as grandmaster (R66, R85): accuracy 0xFE, unknown, and variance 0xFFFF, not computed (log entry 42,
PRESUMED). -/
def State.ownData (s : State) : PtpAnnounce :=
  { priority1 := s.st.priority1, gmClass := s.ownClass, gmAccuracy := 0xFE, gmVariance := 0xFFFF, priority2 := s.st.priority2
    gmIdentity := s.clockIdentity, steps := 0 }

/-- The data set comparison of IEEE 1588-2019 Clause 9.3.4 (R66): the first Announce is better, or better by topology. With one grandmaster the steps
removed decide, then the sender; otherwise the grandmasters' attributes in order. -/
def betterData (h : PtpHdr) (a : PtpAnnounce) (g : PtpHdr) (b : PtpAnnounce) : Bool :=
  if a.gmIdentity = b.gmIdentity then keyLess [a.steps, h.srcClock.toNat, h.srcPort.toNat] [b.steps, g.srcClock.toNat, g.srcPort.toNat]
  else keyLess [a.priority1, a.gmClass, a.gmAccuracy, a.gmVariance, a.priority2, a.gmIdentity.toNat]
    [b.priority1, b.gmClass, b.gmAccuracy, b.gmVariance, b.priority2, b.gmIdentity.toNat]

/-- Of two Announces of one grandmaster, the second received by the clock `own`, the first is better by topology only (Clause 9.3.4): its steps are as
many, or one fewer and the second's receiver stands above its sender. -/
def byTopology (own : DWord) (a : PtpAnnounce) (g : PtpHdr) (b : PtpAnnounce) : Bool :=
  a.gmIdentity == b.gmIdentity && (decide (b.steps ≤ a.steps) || decide (b.steps = a.steps + 1 ∧ g.srcClock.toNat < own.toNat))

/-- The hub's own clock is better than a received data set. -/
def State.ownBetter (s : State) (h : PtpHdr) (a : PtpAnnounce) : Bool :=
  betterData { domain := 0, srcClock := s.clockIdentity, srcPort := 0, seqId := 0, correction := 0 } s.ownData h a

/-- The better of the two ports' qualified Announces, if any: Ebest of Clause 9.3.2. -/
def State.bestPort (s : State) : Option Port :=
  match s.tmb.portE.best, s.tmb.portW.best with
  | none, none => none
  | some _, none => some .e
  | none, some _ => some .w
  | some (h, a), some (g, b) => if betterData g b h a then some .w else some .e

/-- The slave port changes (R70): the prediction re-bases, and a move between ports posts N_TIME_PORT_CHANGE. -/
def State.setSlave (s : State) (p : Option Port) : State :=
  if s.tmb.tdSource = p then s
  else
    let code (q : Option Port) : Nat := match q with | none => 0 | some .e => 1 | some .w => 2
    let old := s.tmb.tdSource
    let s := s.upTmb fun t => { t with tdSource := p, rebase := true }
    let s := match p with
      | none => s
      | some q => s.upPtp q fun r => { r with syncTick := s.tick, lastSync := none, syncWait := none, delaySent := none }
    match old, p with
    | some _, some _ => s.notify 0 0x05 0 (code p * 4 + code old) (argT s.now)
    | _, _ => s

/-- The best master clock algorithm selects the port states (R66, R71, R77; Clause 9.3.3): SLAVE on the port of the best data set, PASSIVE on the other
where that is better by topology only, MASTER otherwise; with `source` GNSS or FREE the hub is master on both ports. A port that has heard nothing
stays LISTENING until announceReceiptTimeout. A hub in HOLDOVER takes a better clock as its slave's although its own class is 7: R77 and the chapter's
worked example have it so (log entry 42). -/
def State.selectPorts (s : State) : State :=
  let slave : Option Port :=
    if s.st.timeSource ≠ 1 then none
    else match s.bestPort with
      | none => none
      | some p =>
        match (s.ptpPort p).best with
        | none => none
        | some (h, a) => if s.ownBetter h a then none else some p
  let role (p : Port) : PtpRole :=
    if slave = some p then .slave
    else if s.st.timeSource = 1 ∧ (s.ptpPort p).best = none ∧ (s.ptpPort p).role = .listening then .listening
    else match slave with
      | none => .master
      | some q =>
        match (s.ptpPort q).best, (s.ptpPort p).best with
        | some (_, a), some (g, b) => if byTopology s.clockIdentity a g b then .passive else .master
        | _, _ => .master
  let was := s.tmb.tdSource
  let s := (s.upPtp .e fun r => { r with role := role .e }).upPtp .w fun r => { r with role := role .w }
  let s := s.setSlave slave
  if s.st.timeSource ≠ 1 then s
  else match was, slave with
    | none, some _ => s.sourceValid
    | some _, none => s.sourceLost
    | _, _ => s

/-- FINE_PHASE_MEASUREMENT (R64): the frequency of a lane's recovered clock in 2^-40 ns per tick. -/
def finePhase (p : Port) (rate : Nat) (s : State) : State :=
  if s.portActive p then
    s.upPtp p fun r =>
      { r with recovered := (s.tick, rate) :: r.recovered.filter (fun e => decide (s.tick ≤ e.1 + 10 * Config.ticksPerMs)) }
  else s

/-- FINE_PHASE_MEASUREMENT (R64). -/
def execFinePhaseMeasurement (p : Port) (rate : Nat) (s : State) : Ans :=
  actIf (Instr.wf (.finePhaseMeasurement p rate)) s (finePhase p rate)

/-- The message is one the slave port takes: its domain is the hub's and its sender the selected master (R66). -/
def State.fromMaster (s : State) (p : Port) (h : PtpHdr) : Bool :=
  s.ptpOn p && s.tmb.tdSource == some p && h.domain == s.st.ptpDomain &&
    (match (s.ptpPort p).best with | none => false | some (g, _) => g.srcClock == h.srcClock && g.srcPort == h.srcPort)

/-- A Sync is complete: origin `t1` and corrected receipt `t2`; with a mean path delay known, a measurement follows (R66, R70). -/
def State.syncDone (s : State) (p : Port) (t1 t2 : Int) : State :=
  let s := s.upPtp p fun r => { r with lastSync := some (t1, t2), syncWait := none }
  let s := if s.tmb.timeState = .freeRun ∨ s.tmb.timeState = .holdover then s.sourceValid else s
  if (s.ptpPort p).mpdKnown then s.measure (t1 + (s.ptpPort p).mpd - t2) else s

/-- A received Sync (R66, R68): stamped at the ball, corrected by the asymmetry; a one-step Sync is complete. -/
def receiveSync (p : Port) (h : PtpHdr) (frac : Nat) (twoStep : Bool) (origin : Int) (s : State) : State :=
  if s.fromMaster p h then
    let t2 := s.rxStamp p frac - h.correction - s.st.asym p
    let s := s.upPtp p fun r => { r with syncTick := s.tick }
    if twoStep then s.upPtp p fun r => { r with syncWait := some (h.seqId, origin, t2) }
    else s.syncDone p origin t2
  else s

/-- PTP_SYNC (R66). -/
def execPtpSync (p : Port) (h : PtpHdr) (frac : Fin 64) (twoStep : Bool) (origin : Int) (s : State) : Ans :=
  actIf (Instr.wf (.ptpSync p h frac twoStep origin)) s (receiveSync p h frac.val twoStep origin)

/-- A received Follow_Up completes the two-step Sync of its sequence number (R66). -/
def receiveFollowUp (p : Port) (h : PtpHdr) (origin : Int) (s : State) : State :=
  match (s.ptpPort p).syncWait with
  | none => s
  | some (seq, _, t2) => if s.fromMaster p h && seq == h.seqId then s.syncDone p origin (t2 - h.correction) else s

/-- PTP_FOLLOW_UP (R66). -/
def execPtpFollowUp (p : Port) (h : PtpHdr) (origin : Int) (s : State) : Ans :=
  actIf (Instr.wf (.ptpFollowUp p h origin)) s (receiveFollowUp p h origin)

/-- A PTP message may start on a port: nothing that goes before it waits there (R323). -/
def State.ptpMayStart (s : State) (p : Port) : Bool := (s.rimPort p).express.isEmpty && (s.rimPort p).ptp.isEmpty

/-- A PTP message that leaves as soon as it may start on its port (R323). -/
def State.sendPtp (s : State) (p : Port) (o : Out) : State :=
  if s.ptpMayStart p then s.emit o else s.upPort p fun r => { r with ptp := r.ptp ++ [o] }

/-- The header of a message that the hub sends on a port (R66, R312): the domain of F_TIME, its clockIdentity, port number 1 for E and 2 for W, which R66
does not number (log entry 42, DESIGN CHOICE), the sequence number and the correction. -/
def State.ptpHdr (s : State) (p : Port) (seq : Half) (correction : Int) : PtpHdr :=
  { domain := s.st.ptpDomain, srcClock := s.clockIdentity, srcPort := (match p with | .e => 1 | .w => 2), seqId := seq, correction := correction }

/-- A received Delay_Req on a master port is stamped and answered (R66, R68). -/
def receiveDelayReq (p : Port) (h : PtpHdr) (frac : Nat) (s : State) : State :=
  if s.ptpOn p && decide ((s.ptpPort p).role = .master) && h.domain == s.st.ptpDomain then
    s.sendPtp p (.ptpDelayResp p (s.ptpHdr p h.seqId h.correction) h.srcClock h.srcPort (s.rxStamp p frac))
  else s

/-- PTP_DELAY_REQ (R66). -/
def execPtpDelayReq (p : Port) (h : PtpHdr) (frac : Fin 64) (s : State) : Ans :=
  actIf (Instr.wf (.ptpDelayReq p h frac)) s (receiveDelayReq p h frac.val)

/-- Half of a sum of stamps: R68 gives no rounding, so of an odd one either neighbour, as a free value (log entry 15). -/
def halved (free : Nat) (d : Int) : Int := if d % 2 = 0 then d / 2 else if (Config.unspecified free : Bool) then d / 2 + 1 else d / 2

/-- A received Delay_Resp completes the delay measurement (R66): mean path delay from the four stamps, and a measurement. -/
def receiveDelayResp (p : Port) (h : PtpHdr) (requester : DWord) (received : Int) (s : State) : State :=
  match (s.ptpPort p).delaySent, (s.ptpPort p).lastSync with
  | some (seq, t3), some (t1, t2) =>
    if s.fromMaster p h && requester == s.clockIdentity && seq == h.seqId then
      let mpd := halved s.freeCount ((t2 - t3) + (received - h.correction - t1))
      let first := !(s.ptpPort p).mpdKnown
      let s := s.draw.upPtp p fun r => { r with mpd := mpd, mpdKnown := true, delaySent := none }
      if first then s.measure (t1 + mpd - t2) else s
    else s
  | _, _ => s

/-- PTP_DELAY_RESP (R66). -/
def execPtpDelayResp (p : Port) (h : PtpHdr) (requester : DWord) (received : Int) (s : State) : Ans :=
  actIf (Instr.wf (.ptpDelayResp p h requester received)) s (receiveDelayResp p h requester received)

/-- A received Announce (R66): the second one from a sender within four announce intervals qualifies it, and the port states are selected
again. -/
def receiveAnnounce (p : Port) (h : PtpHdr) (a : PtpAnnounce) (s : State) : State :=
  if s.ptpOn p && h.domain == s.st.ptpDomain && h.srcClock != s.clockIdentity && decide (a.steps < 255) then
    let again := match (s.ptpPort p).heard with
      | none => false
      | some (c, q, k) => c == h.srcClock && q == h.srcPort && decide (s.tick ≤ k + 4 * logInterval s.st.logAnn)
    let s := s.upPtp p fun r => { r with heard := some (h.srcClock, h.srcPort, s.tick) }
    if again then (s.upPtp p fun r => { r with best := some (h, a), announceTick := s.tick }).selectPorts else s
  else s

/-- PTP_ANNOUNCE (R66). -/
def execPtpAnnounce (p : Port) (h : PtpHdr) (a : PtpAnnounce) (s : State) : Ans :=
  actIf (Instr.wf (.ptpAnnounce p h a)) s (receiveAnnounce p h a)

/-- A due message of a port: no message of its kind was sent within an interval. -/
def State.due (s : State) (last : Option Nat) (e : Int) : Bool := s.passedOpt last (logInterval e)

/-- PTP_SYNC_TX (R66): a two-step Sync and its Follow_Up, stamped at the ball. -/
def sendSync (p : Port) (frac : Nat) (s : State) : State :=
  let r := s.ptpPort p
  if s.ptpOn p && decide (r.role = .master) && s.ptpMayStart p && s.due r.syncTx s.st.logSync then
    (s.emit (.ptpSync p (s.ptpHdr p r.seqSync 0) (s.txStamp p frac))).upPtp p fun x => { x with seqSync := x.seqSync + 1, syncTx := some s.tick }
  else s

/-- PTP_SYNC_TX (R66). -/
def execPtpSyncTx (p : Port) (frac : Fin 64) (s : State) : Ans := act s (sendSync p frac.val)

/-- What the hub announces: the selected grandmaster one step farther, or its own clock (R66). -/
def State.announced (s : State) : PtpAnnounce :=
  match s.tmb.tdSource with
  | none => s.ownData
  | some q => match (s.ptpPort q).best with | none => s.ownData | some (_, a) => { a with steps := a.steps + 1 }

/-- PTP_ANNOUNCE_TX (R66). -/
def sendAnnounce (p : Port) (s : State) : State :=
  let r := s.ptpPort p
  if s.ptpOn p && decide (r.role = .master) && s.ptpMayStart p && s.due r.announceTx s.st.logAnn then
    (s.emit (.ptpAnnounce p (s.ptpHdr p r.seqAnnounce 0) s.announced)).upPtp p fun x => { x with seqAnnounce := x.seqAnnounce + 1, announceTx := some s.tick }
  else s

/-- PTP_ANNOUNCE_TX (R66). -/
def execPtpAnnounceTx (p : Port) (s : State) : Ans := act s (sendAnnounce p)

/-- PTP_DELAY_REQ_TX (R66): on the slave port, with the asymmetry in its correction (Clause 16.8). -/
def sendDelayReq (p : Port) (frac : Nat) (s : State) : State :=
  let r := s.ptpPort p
  if s.ptpOn p && s.tmb.tdSource == some p && s.ptpMayStart p && s.due r.delayTx s.st.logDreq then
    (s.emit (.ptpDelayReq p (s.ptpHdr p r.seqDelay (-(s.st.asym p))) (s.txStamp p frac))).upPtp p fun x =>
      { x with seqDelay := x.seqDelay + 1, delayTx := some s.tick, delaySent := some (x.seqDelay, s.txStamp p frac) }
  else s

/-- PTP_DELAY_REQ_TX (R66). -/
def execPtpDelayReqTx (p : Port) (frac : Fin 64) (s : State) : Ans := act s (sendDelayReq p frac.val)

/-- No Announce has qualified the port within announceReceiptTimeout (R78); a port that was LISTENING is then MASTER (Clause 9.2.6.12). A port that has
qualified no Announce counts the time-out from reset (log entry 42, DESIGN CHOICE). -/
def announceLost (p : Port) (s : State) : State :=
  let r := s.ptpPort p
  if (r.best.isSome || decide (r.role = .listening) && s.ptpOn p) && s.passed r.announceTick (s.st.annTimeout * logInterval s.st.logAnn) then
    (s.upPtp p fun x => { x with best := none, heard := none, role := .master }).selectPorts
  else s

/-- ANNOUNCE_TIMEOUT (R78). -/
def execAnnounceTimeout (p : Port) (s : State) : Ans := act s (announceLost p)

/-- The slave port has accepted no Sync for 3 sync intervals (R78). -/
def syncLost (s : State) : State :=
  match s.tmb.tdSource with
  | none => s
  | some p => if s.passed (s.ptpPort p).syncTick (3 * logInterval s.st.logSync) then s.sourceLost else s

/-- SYNC_TIMEOUT (R78). -/
def execSyncTimeout (s : State) : Ans := act s syncLost

/-! ### GNSS (R71) and pulse outputs (R72) -/

/-- Edge times in units of 78.125 ps of the timebase: one second and one millisecond. -/
def ppsSecond : Nat := 64 * Config.ticksPerS
def ppsMs : Nat := 64 * Config.ticksPerMs

/-- An edge at `at_` lies within 1 ms of its predicted instant, a whole number of seconds after the edge at `k`: that number (R71). -/
def ppsSeconds (k at_ : Nat) : Option Nat :=
  let n := (at_ - k + ppsSecond / 2) / ppsSecond
  if 1 ≤ n ∧ k + n * ppsSecond ≤ at_ + ppsMs ∧ at_ ≤ k + n * ppsSecond + ppsMs then some n else none

/-- A measurement from an edge off its predicted instant is discarded as an outlier (R70, R71). -/
def State.measureOutlier (s : State) (d : Int) : State :=
  if !s.firmware then s.measure d else if s.servoOn then s.discardMeasure d else s

/-- The active edge of PPS_IN at `at_` (R57, R71): stamped, corrected by `pps_delay`, and a measurement when PPS_IN is valid and the edge is named. While
PPS_IN is valid the prediction rests on the last edge that was no outlier; before that edges count that follow one another by 1 s. -/
def State.ppsStamped (s : State) (at_ : Nat) (stamp : Int) : State :=
  let valid := s.tmb.ppsValid
  let n := match s.tmb.ppsBase with
    | none => none
    | some (k, _) => (ppsSeconds k at_).filter (fun n => valid || n == 1)
  let sec := match n, s.tmb.ppsBase with | some n, some (_, some sec) => some (sec + n) | _, _ => none
  let outlier := valid && n.isNone && s.tmb.ppsBase.isSome
  let off := match s.tmb.ppsBase with
    | some (k, some x) => if outlier then some (at_, x + ((max 1 ((at_ - k + ppsSecond / 2) / ppsSecond) : Nat) : Int)) else none
    | _ => none
  let s := s.upTmb fun t =>
    { t with ppsOff := off, ppsLast := some (at_, stamp), ppsTime := (stamp / 65536).toNat, ppsNamed := sec.map (fun x => (stamp, x)), ppsHeard := false
             ppsAgree := if n = some 1 ∧ t.ppsHeard then t.ppsAgree else 0
             ppsBase := if outlier then t.ppsBase else some (at_, sec) }
  if !valid then s
  else if outlier then
    match off with
    | some (_, x) => s.measureOutlier (x * (1000000000 * 65536) - stamp)
    | none => (s.upTmb fun t => { t with outliers := satInc t.outliers }).faultEvent 10 0
  else match sec with
    | none => s
    | some x => s.measure (x * (1000000000 * 65536) - stamp)

/-- An edge of PPS_IN (R71): an active one of the GNSS source is stamped; the opposite one less than 100 ns after it is undefined behaviour
(R89). -/
def ppsEdge (rising : Bool) (frac : Nat) (s : State) : State :=
  let at_ := s.tick * 64 + frac
  if s.glb.state = .reset then s
  else if rising = !s.st.ppsFalling then
    let s := s.upTmb fun t => { t with ppsActive := some at_ }
    if s.st.timeSource = 2 then s.ppsStamped at_ (s.nowFine + ((frac * 5120 : Nat) : Int) - s.st.ppsDelay) else s
  else
    let narrow := match s.tmb.ppsActive with | none => false | some k => decide (at_ < k + 1280)
    let s := s.upTmb fun t => { t with ppsActive := none }
    if narrow then s.undefinedUse 89 else s

/-- PPS_IN_EDGE (R71). -/
def execPpsInEdge (rising : Bool) (frac : Fin 64) (s : State) : Ans := act s (ppsEdge rising frac.val)

/-- The value of an ASCII decimal digit. -/
def digitOf (b : Byte) : Option Nat := if 48 ≤ b.toNat ∧ b.toNat ≤ 57 then some (b.toNat - 48) else none

/-- The value of an ASCII hexadecimal digit. -/
def hexOf (b : Byte) : Option Nat :=
  if 48 ≤ b.toNat ∧ b.toNat ≤ 57 then some (b.toNat - 48)
  else if 65 ≤ b.toNat ∧ b.toNat ≤ 70 then some (b.toNat - 55)
  else if 97 ≤ b.toNat ∧ b.toNat ≤ 102 then some (b.toNat - 87)
  else none

/-- A decimal number of ASCII digits. -/
def decimalOf (l : List Byte) : Option Nat :=
  l.foldl (fun acc b => match acc, digitOf b with | some n, some d => some (n * 10 + d) | _, _ => none) (some 0)

/-- The part of a sentence up to a byte, and the part after it. -/
def splitAtByte (c : Nat) : List Byte → List Byte × List Byte
  | [] => ([], [])
  | b :: r => if b.toNat = c then ([], r) else (b :: (splitAtByte c r).1, (splitAtByte c r).2)

/-- Days from 1970-01-01 to a civil date. -/
def daysFromCivil (y m d : Nat) : Int :=
  let y' : Nat := if m ≤ 2 then y - 1 else y
  let era := y' / 400
  let yoe := y' - era * 400
  let mp := (m + 9) % 12
  let doy := (153 * mp + 2) / 5 + d - 1
  let doe := yoe * 365 + yoe / 4 - yoe / 100 + doy
  ((era * 146097 + doe : Nat) : Int) - 719468

/-- An NMEA 0183 ZDA sentence, `$..ZDA,hhmmss.ss,dd,mm,yyyy,..*cc`: the UTC second it names since 1970, or none when it is not such a
sentence or its checksum fails (R71). -/
def parseZda (bytes : List Byte) : Option Int :=
  match bytes with
  | [] => none
  | b0 :: rest =>
    let (body, tail) := splitAtByte 42 rest
    let sum := body.foldl (fun n b => Nat.xor n b.toNat) 0
    let (f0, r0) := splitAtByte 44 body
    let (f1, r1) := splitAtByte 44 r0
    let (f2, r2) := splitAtByte 44 r1
    let (f3, r3) := splitAtByte 44 r2
    let (f4, _) := splitAtByte 44 r3
    match tail with
    | h :: l :: _ =>
      match hexOf h, hexOf l, decimalOf (f1.take 2), decimalOf ((f1.drop 2).take 2), decimalOf ((f1.drop 4).take 2),
            decimalOf f2, decimalOf f3, decimalOf f4 with
      | some a, some b, some hh, some mm, some ss, some d, some m, some y =>
        if b0.toNat = 36 ∧ a * 16 + b = sum ∧ (f0.drop 2).map BitVec.toNat = [90, 68, 65] ∧ 6 ≤ f1.length ∧ 1 ≤ m ∧ m ≤ 12 ∧ 1 ≤ d ∧ d ≤ 31 then
          some (daysFromCivil y m d * 86400 + ((hh * 3600 + mm * 60 + ss : Nat) : Int))
        else none
      | _, _, _, _, _, _, _, _ => none
    | _ => none

/-- A sentence has named the newest edge the TAI second `sec` (R71): it agrees when the edge had no name yet or this one. A second sentence after one
edge counts no further edge. -/
def Tmb.ppsNaming (t : Tmb) (stamp sec : Int) : Tmb :=
  let agrees := match t.ppsNamed with | none => true | some (_, x) => x == sec
  let count := if !agrees then 1 else if t.ppsHeard then t.ppsAgree else t.ppsAgree + 1
  { t with todValid := true, ppsAgree := count, ppsHeard := true, ppsNamed := some (stamp, sec), ppsValid := t.ppsValid || decide (2 ≤ count)
           ppsBase := match t.ppsBase, t.ppsLast with
             | some (k, _), some (l, _) => if k = l then some (k, some sec) else t.ppsBase
             | b, _ => b }

/-- A ZDA sentence (R71): accepted with its checksum right and 100 ms to 900 ms after an edge; it names a PPS edge. PPS_IN is valid once two
consecutive edges 1 s ± 1 ms apart have each been followed by a sentence that agrees. -/
def zdaReceived (bytes : List Byte) (s : State) : State :=
  if s.st.timeSource ≠ 2 ∨ s.glb.state = .reset then s
  else match parseZda bytes, s.tmb.ppsLast with
    | some utc, some (k, stamp) =>
      let after := s.tick * 64 - k
      if 100 * ppsMs ≤ after ∧ after ≤ 900 * ppsMs then
        let tai := utc + s.st.taiUtc
        let was := s.tmb.ppsValid
        let s := s.upTmb fun t => t.ppsNaming stamp (if s.st.todNamesNext then tai - 1 else tai)
        if s.tmb.ppsValid ∧ !was then s.sourceValid else s
      else s.upTmb fun t => { t with todValid := false }
    | _, _ => s.upTmb fun t => { t with todValid := false }

/-- ZDA_SENTENCE (R71). -/
def execZdaSentence (bytes : List Byte) (s : State) : Ans :=
  actIf (Instr.wf (.zdaSentence bytes)) s (zdaReceived bytes)

/-- No edge for 1.5 s makes PPS_IN invalid: the GNSS source is lost (R71, R78). -/
def ppsLost (s : State) : State :=
  match s.tmb.ppsLast with
  | none => s
  | some (k, _) =>
    if s.tmb.ppsValid ∧ k + 3 * ppsSecond / 2 ≤ s.tick * 64 then
      let s := s.upTmb fun t => { t with ppsValid := false, ppsAgree := 0, ppsNamed := none, ppsLast := none, ppsBase := none, ppsOff := none, ppsHeard := false }
      if s.st.timeSource = 2 then s.sourceLost else s
    else s

/-- PPS_IN_TIMEOUT (R71). -/
def execPpsInTimeout (s : State) : Ans := act s ppsLost

/-- PPS_OUT rises at a whole second or a cadence-epoch instant (R72). -/
def ppsRise (s : State) : State :=
  match s.ppsInstant with
  | none => s
  | some e =>
    if s.tmb.ppsPulsed = some e ∨ s.glb.state = .reset then s
    else s.upTmb fun t =>
      { t with ppsOut := some t.counter, ppsPulsed := some e
               zdaDue := if s.st.ppsMode = 1 then some (t.counter, e / 1000000000) else t.zdaDue }

/-- PPS_OUT_PULSE (R72). -/
def execPpsOutPulse (s : State) : Ans := act s ppsRise

/-- PPS_OUT falls after `pps_width` µs (R72). -/
def ppsFall (s : State) : State :=
  match s.tmb.ppsOut with
  | none => s
  | some k => if s.passed k (us s.st.ppsWidthUs) then s.upTmb fun t => { t with ppsOut := none } else s

/-- PPS_OUT_PULSE_END (R72). -/
def execPpsOutPulseEnd (s : State) : Ans := act s ppsFall

/-- 10 ms after a seconds pulse TOD_TX sends a ZDA sentence naming the UTC second of the pulse (R72). -/
def todSend (s : State) : State :=
  match s.tmb.zdaDue with
  | none => s
  | some (k, sec) =>
    if s.passed k (ms 10) then (s.emit (.zda ((sec : Int) - s.st.taiUtc))).upTmb fun t => { t with zdaDue := none } else s

/-- TOD_TX_SENTENCE (R72). -/
def execTodTxSentence (s : State) : Ans := act s todSend

/-! ### `SET_TIME` (R83) -/

/-- SET_TIME: only in FREE_RUN; before sampling begins it steps network time, afterwards it is a realignment: at the first cadence-epoch instant at
least 20 ms of the time set ahead and not before present network time, in place of one that is pending, and Δ, which no measurement confirmed, stands
in TMB_OFFSET_EST (log entry 42, DESIGN CHOICE). -/
def setTime (s : State) : State :=
  s.start 0x18 fun c s =>
    if s.tmb.timeState ≠ .freeRun then s.complete c 0x20
    else
      let d := ((c.opB.toNat * 65536 : Nat) : Int) - s.nowFine
      if !s.glb.sampling then
        (s.stepTime d).freeStart.complete c 0
      else
        let e := epochAtOrAfter (max (c.opB.toNat + Config.prepNs) s.now)
        (s.upTmb fun t => { t with realign := some (e, d), offsetEst := d }).complete c 0

/-- SET_TIME (R83). -/
def execSetTime (s : State) : Ans := act s setTime

/-! ### The sample clock's lock (R15, R74) -/

/-- The jitter-cleaning PLL loses lock: INVALID from detection on, N_SAMPLE_CLOCK_UNLOCK (R15). -/
def clockUnlock (s : State) : State :=
  if s.tmb.pllLock then
    (s.upTmb fun t => { t with pllLock := false, unlocks := (s.fine, none) :: t.unlocks }).notify 0 0x08 0 0 (argT s.now)
  else s

/-- SAMPLE_CLOCK_UNLOCK (R15). -/
def execSampleClockUnlock (s : State) : Ans := act s clockUnlock

/-- The PLL is in lock again (R15): the INVALID span ends, one kernel span later for each look. -/
def clockRelock (s : State) : State :=
  if s.tmb.pllLock ∨ s.glb.state = .reset then s
  else s.upTmb fun t =>
    { t with pllLock := true, unlocks := t.unlocks.map (fun u => match u.2 with | none => (u.1, some s.fine) | some _ => u) }

/-- SAMPLE_CLOCK_RELOCK (R15). -/
def execSampleClockRelock (s : State) : Ans := act s clockRelock

end Sys2Proof.Machine
end

