-- ==== Sys2Proof/Machine/FrontEnd.lean ====
section
/-! DEFINITION. The spoke front end (04_spoke_front_end): its settings (R91 to R99, R112, R116), gear shifts and their mends (R100 to R110), over-range
(R107), open wire (R111 to R114), and the release of a quarantined spoke (R115). Stage-1 words are integers in which the full scale of the gear in force
is 2^46; a BRIDGE gear's full scale is that of the commanded excitation (R94). -/

namespace Sys2Proof.Machine

/-! ### Full scales (R93, R154) in the units of R92 -/

/-- The full scale of a gear code in a mode. -/
def gearFullScale (mode code : Nat) : Q :=
  match mode with
  | 2 => { num := 250, den := 4 ^ code }
  | 3 => { num := 25, den := 10 ^ code }
  | 4 => { num := 100000, den := 10 ^ code }
  | 5 => { num := 65536, den := 4 ^ code }
  | _ => if code = 0 then { num := 1024, den := 100 }
    else if code = 5 then { num := 1, den := 100 } else { num := 256, den := 100 * 4 ^ (code - 1) }

/-- The full scale of a service point of an auxiliary look. -/
def pointFullScale (point : Nat) : Q :=
  match point with
  | 0 => { num := 128, den := 10 } | 1 => { num := 256, den := 100 } | 2 => { num := 256, den := 10 }
  | 3 => { num := 256, den := 1 } | 4 => { num := 512, den := 100 } | _ => { num := 256, den := 100 }

/-- FS_G0 of a look (R188). -/
def Struct.fsG0 (st : Struct) (stream : Nat) : Q :=
  if isAux stream then pointFullScale (st.auxPoint stream) else gearFullScale (st.mode (stream / 16)) (st.gearCode stream 0)

/-- A gear's full scale at the input: in BRIDGE mode, in V, the figure in mV/V times the commanded excitation amplitude, against which stage-1 words are
compared (R94); in the unit of R92 otherwise. -/
def Struct.inputFullScale (st : Struct) (stream g : Nat) : Q :=
  let i := stream / 16
  let fs := gearFullScale (st.mode i) (st.gearCode stream g)
  if st.isBridge i then fs.mul { num := st.commandedAmp (i / 16), den := 10 ^ 9 } else fs

/-! ### The front end's settings (R91, R96 to R99, R112, R115, R116, R148) -/

/-- The settings of a spoke's front end: isolation switches open, calibration bus connected, gear code and its full scale at the input, source current
in µA with its sign, shunt in Ω (0 none), open-wire bias, and in CHARGE mode the high-pass corner in 0.1 Hz and the resistor that sets it, in Ω. -/
structure FrontEndView where
  isolated : Bool
  calBus : Bool
  gear : Nat
  full : Q
  source : Int
  shunt : Nat
  bias : Bool
  corner : Nat
  resistor : Q
  deriving DecidableEq, Repr, Inhabited

/-- The internal shunt that a code selects, in Ω (R99, R159). -/
def shuntOhm (code : Nat) : Nat :=
  match code with | 1 => 50000 | 2 => 100000 | 3 => 200000 | 4 => 500000 | _ => 0

/-- The shunt connected now: that of the running look, none in an idle slot or under quarantine (R99, R115, R148). -/
def State.shuntNow (s : State) (i : Nat) : Nat :=
  let stream := s.runningStream i
  if s.live && s.glb.sampling && s.st.lookRuns stream && !(s.slotNow i).2 && !(s.spoke i).quarantined then shuntOhm (s.st.shunt stream) else 0

/-- The open-wire bias is on (R112, R116): not in OFF, CURRENT and CHARGE modes, and not on a standby. -/
def State.biasOn (s : State) (i : Nat) : Bool :=
  s.live && decide (s.st.mode i ≠ 0) && decide (s.st.looks (i * 16) ≠ 0) && s.st.owBias i && !s.st.isLoop i &&
    (match s.tdm.role with | .standby => false | .standbyDesync => false | _ => true)

/-- The high-pass corner of `chg_hp` in 0.1 Hz (R96, R117). -/
def chargeCorner (code : Nat) : Nat := match code with | 0 => 1 | 1 => 10 | _ => 100

/-- The feedback capacitor of a CHARGE gear in pF (R93). -/
def chargePf (code : Nat) : Nat := 40000 / 10 ^ code

/-- The resistor that gives a corner with a gear's capacitor (R96): 1 / (2π f C) in Ω, so that the corner is the same on every gear. -/
def chargeResistor (corner code : Nat) : Q := { num := 10 ^ 13 * fixOne, den := (fixTwoPi * (corner * chargePf code : Nat)).toNat }

/-- The look whose settings the front end has: L0 in an idle slot (R148). -/
def State.shownLook (s : State) (i : Nat) : Nat := if (s.slotNow i).2 then i * 16 else s.runningStream i

/-- The front end of a spoke now. -/
def State.frontEnd (s : State) (i : Nat) : FrontEndView :=
  let stream := s.shownLook i
  let g := s.gearNow stream
  let code := s.st.gearCode stream g
  let charge := s.st.mode i == 4
  let corner := chargeCorner (s.st.fld .spoke i 0 23 22)
  { isolated := s.isolated i, calBus := decide (s.glb.state = .calibrate) || decide (s.cal.recal = some i), gear := code
    full := s.st.inputFullScale stream g
    source := if s.isrcOn i then (if s.isrcNeg i then -(s.st.isrcUa stream : Int) else s.st.isrcUa stream) else 0
    shunt := s.shuntNow i, bias := s.biasOn i, corner := if charge then corner else 0
    resistor := if charge then chargeResistor corner code else Q.ofInt 0 }

/-! ### Stage-1 words in time (R103, R105, R110): a word W begins with the second or third clock of its eight -/

/-- The number of the newest stage-1 word of a sequence: its 36 codes have come over the spoke link of 3 clocks. -/
def State.wordNow (s : State) (i : Nat) : Nat := (s.fine / s.st.clk (i * 16) - 41) / 8

/-- The fine time at which word `w` of a look has come over the spoke link. -/
def Struct.wordTime (st : Struct) (stream w : Nat) : Nat := (8 * w + 41) * st.clk stream

/-- The slot that the newest word belongs to, whether or not it has ended since. -/
def State.wordSlot (s : State) (i : Nat) : Nat × Bool :=
  if s.st.seqRuns (i * 16) then s.st.slotAt (i * 16) (8 * s.wordNow i + 37) else (0, false)

/-- The look that the newest word belongs to. -/
def State.wordStream (s : State) (i : Nat) : Nat := i * 16 + (s.wordSlot i).1

/-- W−1 of word W lies in its run, and the words of the run after W (R110): a run ends with its last word, before any idle rest of its slot (R147). -/
def Struct.wordsLeft (st : Struct) (stream w : Nat) : Bool × Nat :=
  (decide ((st.runAt stream (8 * w + 37)).1 < 8 * w - 6), (st.runEnd stream (8 * w + 37) - 38) / 8 - w)

/-- The newest word lies in an idle slot (R148) or in the idle rest of one (R147): no run is on. -/
def State.wordIdle (s : State) (i : Nat) : Bool := (s.wordSlot i).2 || !s.st.inRun (s.wordStream i) (s.wordNow i)

/-- A look of a sequence can shift gear at its newest word (R22, R100 to R102, R109): the first word that may decide a further shift is W+5. -/
def State.canShift (s : State) (i stream w : Nat) : Bool :=
  s.live && s.glb.sampling && s.st.lookRuns stream && s.st.autoranges stream && !(s.spoke i).frozen && !(s.spoke i).quarantined &&
    !s.wordIdle i && (s.look stream).mends.all (fun m => m.done || decide (m.word + 5 ≤ w))

/-- The key of a mode family of a spoke's calibration. -/
def skewKey (spoke family : Nat) : Nat := spoke * 8 + family

/-- σ_s of a spoke as its chain applies it (R171), for the family of its mode (R450). -/
def State.skewApplied (s : State) (i : Nat) : Int :=
  let family := match s.st.mode i with | 1 => some 0 | 6 => some 0 | 2 => some 1 | 3 => some 2 | 4 => some 3 | 5 => some 4 | _ => none
  match family with | none => 0 | some k => (s.cal.skew.get (0, 0) (skewKey i k)).1

/-- Modulator clocks of a look's own runs from network time 0 to clock `m` (R152): of the whole time in a one-look sequence. -/
def Struct.runClocksTo (st : Struct) (stream m : Nat) : Nat :=
  if !st.multiLook stream then m
  else
    let per := (st.discard stream + st.runSamples stream) * 5 * st.osr stream
    let pass := m / st.passClocks stream
    let runs := ceilDiv pass (st.every stream)
    let into := m % st.passClocks stream - st.slotStart stream
    runs * per + (if pass % st.every stream = 0 then min per into else 0)

/-- The calibration slot of a gear code in a mode (R450). -/
def calSlotOf (mode code : Nat) : Nat :=
  match mode with
  | 2 => 6 + code
  | 3 => 11 + code
  | 4 => 16 + code
  | 5 => 20 + code
  | _ => code

/-- The calibrated ratio of a gear code's full scale to that of code 0 (R452). -/
def State.calRatio (s : State) (spoke mode code : Nat) : Q :=
  (of32 (s.cal.slots.get {} (spoke * 32 + calSlotOf mode code)).ratio).getD { num := 0, den := 1 }

/-- r_i of a look (R104, R452): the ratio of gear Gi divided by the ratio of G0; r_0 = 1. -/
def State.gearRatio (s : State) (st : Struct) (stream g : Nat) : Q :=
  if g = 0 ∨ isAux stream ∨ st.gearCount stream < 2 then { num := 1, den := 1 }
  else
    let i := stream / 16
    ((s.calRatio i (st.mode i) (st.gearCode stream g)).div (s.calRatio i (st.mode i) (st.gearCode stream 0))).getD { num := 1, den := 1 }

/-- A shift to gear `g` decided at word W (R103, R105): the gear-switch command goes out, the mend span W+1 to W+4 opens and the samples whose kernels
hold one of its words carry MENDED (R106): kernels that end after W+1 and begin by W+4. The gear is in force from the third modulator clock on (R14) and
rescales words from W+5 on. -/
def State.shiftGear (s : State) (i stream g w : Nat) (before word : Int) : State :=
  let c := s.st.clk stream
  let t := s.st.wordTime stream w
  let r := s.gearRatio s.st stream (s.look stream).gear
  let s := s.emit (.gearCommand i (s.st.gearCode stream g))
  let s := s.upLook stream fun l =>
    { l.putGear g (t + 3 * c) (w + 5) c with
      mends := l.mends.filter (fun m => decide (t < m.time + logSpan)) ++
        [{ word := w, before := rescaled r before, last := rescaled r word, gear := g, time := t, done := false }]
      lastShift := (8 * w + 38) * c }
  s.addSpan stream
    { tag := tagMended, rule := .kernel, start := (8 * w + 44) * c + 1, stop := some ((8 * w + 34) * c + 1), blank := false, cause := 0 }

/-- A shift to gear `g` falls due at word W (R109, R110): made where its mend lies in the run, and with fewer than six words of the run left deferred to
the look's next run. -/
def State.shiftDue (s : State) (i stream g w : Nat) (before word : Int) : State :=
  let left := s.st.wordsLeft stream w
  if !s.st.multiLook stream then s.shiftGear i stream g w before word
  else if left.2 < 6 then s.upLook stream fun l => { l with startNext := some g }
  else if left.1 then s.shiftGear i stream g w before word
  else s

/-- A shift up (R100, R158): a word above 90 % of full scale or an overload flag, with a wider gear. -/
def shiftUp (i : Nat) (before word : Int) (overload : Bool) (s : State) : State :=
  let stream := s.wordStream i
  let w := s.wordNow i
  let g := (s.look stream).gear
  if s.canShift i stream w && decide (0 < g) && (overload || decide (9 * fullScale < 10 * (word.natAbs : Int))) then
    s.shiftDue i stream (g - 1) w before word
  else s

/-- GEAR_SHIFT_UP (R100). -/
def execGearShiftUp (i : Fin 768) (before word : Int) (overload : Bool) (s : State) : Ans := act s (shiftUp i.val before word overload)

/-- A shift down at a stage-2 boundary (R100, R110, R152): a narrower gear, at least `dwell` stage-2 periods of the look's own runs since the word of the
last shift, and every word of the last `dwell` periods, of which `peak` is the largest magnitude, below 8 % of full scale. -/
def shiftDown (i : Nat) (before word : Int) (peak : Nat) (s : State) : State :=
  let stream := s.wordStream i
  let w := s.wordNow i
  let l := s.look stream
  if s.canShift i stream w && decide (l.gear + 1 < s.st.gearCount stream) && s.st.endsStageTwo stream w &&
      decide (s.st.runClocksTo stream (l.lastShift / s.st.clk stream) + s.st.gearDwell i * s.st.osr stream ≤ s.st.runClocksTo stream (8 * w + 38)) &&
      decide (100 * (peak : Int) < 8 * fullScale) then
    s.shiftDue i stream (l.gear + 1) w before word
  else s

/-- GEAR_SHIFT_DOWN (R100). -/
def execGearShiftDown (i : Fin 768) (before word : Int) (peak : Nat) (s : State) : Ans := act s (shiftDown i.val before word peak)

/-- N_GEAR_SHIFT at the end of a cadence epoch, with the shifts since the previous notice (R108); each shift is an autonomous act
(R463). -/
def State.noteShifts (s : State) (stream : Nat) : State :=
  let l := s.look stream
  if l.shiftNote = 0 then s
  else
    (s.notify (s.st.spokeQ (stream / 16)) 0x20 stream (satField 14 l.shiftNote * 4 + l.gear % 4)
      (l.shiftFirst % 2 ^ 32 + l.shiftLast % 2 ^ 32 * 2 ^ 32) l.shiftNote).upLook stream fun x =>
        { x with shiftNote := 0 }

/-- The mend of which word W+6 has just come: the oldest in progress of the spoke's looks. -/
def State.mendDue (s : State) (i : Nat) : Option (Nat × Mend) :=
  ((s.st.spokeLooks i).filterMap fun x => ((s.look x).mends.find? (fun m => !m.done && decide (m.word + 6 ≤ s.wordNow i))).map (x, ·)).head?

/-- Word W+6 has arrived (R103): W+1 to W+4 are replaced by interpolation through the rescaled words, and the shift is counted. A mend that a word of
this one decided takes the replaced W+4 for its own W−1. -/
def mendDone (i : Nat) (w5 w6 : Int) (s : State) : State :=
  match s.mendDue i with
  | none => s
  | some (stream, m) =>
    if s.live then
      let r := s.gearRatio s.st stream m.gear
      let ws := mendWords m.before m.last (rescaled r w5) (rescaled r w6)
      let w (k : Nat) : Int := ws.getD k 0
      ((s.emit (.mended i (w 0) (w 1) (w 2) (w 3))).upLook stream fun x =>
        { x with mends := x.mends.map fun y =>
            if y = m then { y with done := true } else if y.word = m.word + 5 then { y with before := w 3 } else y }).countShift stream (m.time / 65536)
    else s

/-- MEND_COMPLETE (R103). -/
def execMendComplete (i : Fin 768) (w5 w6 : Int) (s : State) : Ans := act s (mendDone i.val w5 w6)

/-- The look cannot shift up at a word (R107): at its widest gear, without autoranging, frozen by an open wire, at the first word of
its run or near the end of it (R109, R110). -/
def State.cannotShift (s : State) (i stream w : Nat) : Bool :=
  decide ((s.look stream).gear = 0) || !s.st.autoranges stream || (s.spoke i).frozen ||
    (s.st.multiLook stream && (!(s.st.wordsLeft stream w).1 || decide ((s.st.wordsLeft stream w).2 < 6)))

/-- A stage-1 word reaches full scale where the look cannot shift up (R107): CLIPPED on the samples whose kernels hold the word, SPK_CLIPS, and an
OVER_RANGE event at most once per look per 1 ms. -/
def overRange (i : Nat) (word : Int) (s : State) : State :=
  let stream := s.wordStream i
  let l := s.look stream
  if s.live && s.glb.sampling && s.st.lookRuns stream && !s.wordIdle i && decide (fullScale ≤ (word.natAbs : Int)) &&
      s.cannotShift i stream (s.wordNow i) then
    let c := s.st.clk stream
    let w := s.wordNow i
    let s := s.upSpoke i fun p => { p with clips := satInc p.clips, clipAt := some s.tick }
    let s := s.addSpan stream
      { tag := tagClipped, rule := .kernel, start := (8 * w + 36) * c + 1, stop := some ((8 * w + 2) * c + 1), blank := false, cause := 0 }
    if mayCount s l.clipTick then (s.upLook stream fun x => { x with clipTick := some s.tick }).faultEvent 5 i else s
  else s

/-- OVER_RANGE (R107). -/
def execOverRange (i : Fin 768) (word : Int) (s : State) : Ans := act s (overRange i.val word)

/-! ### Open wire (R111 to R114) -/

/-- The code of `ow_method` (R119). -/
def owCode : OwMethod → Nat
  | .extreme => 1 | .quadrature => 2 | .sense => 2 | .testLook => 3

/-- A DC drive (R111, R121). -/
def isDc (d : Nat) : Bool := d == 1 || d == 3

/-- The method applies to the spoke's mode and its lace's drive (R111); a spoke without looks is OFF (R144). -/
def Struct.owApplies (st : Struct) (i : Nat) (m : OwMethod) : Bool :=
  let mode := st.mode i
  let d := st.drive (i / 16)
  st.owDetect i && st.seqRuns (i * 16) && !st.isLoop i && (match m with
    | .extreme => mode == 1 || mode == 6 || mode == 5 || (mode == 2 && isDc d)
    | .quadrature => mode == 2 && isSine d
    | .sense => mode == 2 && (isSine d || isDc d)
    | .testLook => (st.spokeLooks i).any (fun x => st.owTest x))

/-- An open wire on one spoke with detection instant D, a fine time (R113, R114): INVALID from the first sample at or after D on, SUSPECT
within one kernel span before it; autoranging freezes; N_OPEN_WIRE and an OPEN_WIRE event. While the condition stands a detection by another method is
no new one: neither counted nor told (log entry 43, DESIGN CHOICE). -/
def State.openWire (s : State) (i : Nat) (m : OwMethod) (d : Nat) : State :=
  if (s.spoke i).openWire ∨ !s.st.owApplies i m then s
  else
    let s := s.upSpoke i fun p =>
      { p with openWire := true, owMethod := owCode m, owAt := s.fine, frozen := true, owEvents := satInc p.owEvents }
    let s := forEach (s.st.spokeLooks i) s fun s x =>
      (s.openWireSpan x d).addSpan x
        { tag := tagSuspect, rule := .instant, start := d - s.st.kernelSpan x, stop := some d, blank := false, cause := 0 }
    (s.notify (s.st.spokeQ i) 0x21 i (owCode m) (argT (d / 65536))).faultEvent 4 i

/-- The modulator clears its integrators in clock `m` (R157): one of the four clocks after an overload's flagged clock, which the link tells 3 clocks
later. -/
def State.clearingAt (s : State) (i m : Nat) : Bool :=
  let c := s.st.clk (i * 16)
  (s.modu i).clears.any (fun t => decide (t ≤ (m + 2) * c) && decide (m * c < t + 2 * c))

/-- 64 codes at the extreme level from fine time `d` on (R111); a code 0 of an overload's clearing clocks counts as extreme (R158). -/
def State.extremeRun (s : State) (i d : Nat) (codes : List Int) : Bool :=
  let c := s.st.clk (i * 16)
  decide (codes.length = 64) &&
    ((List.range 64).zip codes).all (fun e => e.2 == 2 || e.2 == -2 || (e.2 == 0 && s.clearingAt i (ceilDiv d c + e.1))) &&
    decide (d + 67 * c ≤ s.fine)

/-- The sensed amplitude and phase in force at a fine time (R125, R165): those of the newest estimate by then. -/
def Lace.sensedAt (p : Lace) (t : Nat) : Int × Int :=
  match p.sensedLog.find? (fun e => decide (e.1 ≤ t)) with | none => (0, 0) | some e => e.2

/-- The divisor of R165 and R167 at a fine time, and the sensed phase. -/
def State.shareAt (s : State) (st : Struct) (l t : Nat) : Q × Int :=
  let a := (s.laceOf l).sensedAt t
  (sensedShare (st.commandedAmp l) a.1, a.2)

/-- The half clocks of 12.8 MHz since network time 0 at the centre of the stage-1 word that begins at clock `a` of a look (R165): the mean index of its 36
codes, `a` + 17.5 clocks (log entry 36, DESIGN CHOICE: the manual does not say where in a word its centre lies). -/
def Struct.wordCentre (st : Struct) (stream : Nat) (a : Int) : Int :=
  (2 * a + 35) * (if st.lowPower stream then 4 else 1)

/-- The in-phase or the quadrature product of a word that begins at clock `a` (R165). -/
def State.product (s : State) (st : Struct) (stream : Nat) (quadrature : Bool) (a w : Int) : Int :=
  let l := stream / 256
  let half := (st.wordCentre stream a).toNat
  let x := s.shareAt st l (half * 2560000)
  let turn := turnAt (max 1 (st.freqDiv l)) l half x.2
  demodulated w x.1 (if quadrature then fixCos turn.1 turn.2 else fixSin turn.1 turn.2)

/-! ### The words that leave the mend stage (R103, R104) -/

/-- The codes of clocks `lo` to `hi` − 1, with 0 for a clock whose code the chain does not hold: it starts empty (R49). -/
def Look.window (l : Look) (lo hi : Int) : List Int :=
  let begun : Int := l.codeEnd - (l.codes.length : Int)
  let from_ := max lo begun
  let front := (min hi from_ - lo).toNat
  let body := (l.codes.drop (from_ - begun).toNat).take (hi - from_).toNat
  List.replicate front 0 ++ body ++ List.replicate ((hi - lo).toNat - front - body.length) 0

/-- What rescales a word of a standby's RTD look, whose own source is off (R116): its codes are taken against the commanded current, and the partner's
calibrated current, once it has come, takes its place. -/
def State.sourceRatio (s : State) (st : Struct) (stream : Nat) : Q :=
  let stands := decide (s.tdm.role = .standby) || decide (s.tdm.role = .standbyDesync)
  if isAux stream || st.mode (stream / 16) != 5 || !stands then { num := 1, den := 1 }
  else
    match of32 (s.tdm.isrc.get 0 stream) with
    | none => { num := 1, den := 1 }
    | some q => ((Q.ofInt (st.isrcUa stream)).div q).getD { num := 1, den := 1 }

/-- The 48-bit words of a run of codes that begins at clock `a`, rescaled by the gear of each word, with mends carried out (R103, R104). The codes of 40
clocks more on each side serve the mends. -/
def State.mendedWords (s : State) (st : Struct) (stream : Nat) (l : Look) (a : Int) (n : Nat) : List Int :=
  let pad : Nat := if isAux stream then 0 else 40
  let raw := stageOne (l.window (a - pad) (a + n + pad))
  let first := (a - pad - 1) / 8
  let src := s.sourceRatio st stream
  let ws := ((List.range raw.length).zip raw).map fun e =>
    rescaled ((s.gearRatio st stream (gearAt l.wordGears (st.startGear stream) (first + e.1).toNat)).mul src) (widened e.2)
  let ws := l.mends.foldl (fun ws m => mendAt first ws m.word) ws
  (ws.drop (pad / 8)).take ((n - 36) / 8 + 1)

/-- The first stage-1 word of a look whose centre lies at or after `half` half clocks of 12.8 MHz (R165). -/
def Struct.wordFrom (st : Struct) (stream half : Nat) : Nat :=
  ceilDiv (half - (if st.lowPower stream then 156 else 39)) (if st.lowPower stream then 64 else 16)

/-- The words of the excitation cycle of `n` clocks of 12.8 MHz from fine time `d` on: the number of the first, and how many. -/
def Struct.cycleWords (st : Struct) (stream d n : Nat) : Nat × Nat :=
  let first := st.wordFrom stream (2 * (d / 5120000))
  (first, st.wordFrom stream (2 * (d / 5120000) + 2 * n) - first)

/-- The mean of the quadrature products of `n` words of a look's chain from number `w` on, in G0's scale (R111, R165). -/
def State.quadratureMean (s : State) (stream w n : Nat) (l : Look) : Int :=
  let a : Int := 8 * w + 2
  let ws := s.mendedWords s.st stream l a (8 * n + 28)
  sumOf (((List.range ws.length).zip ws).map fun e => s.product s.st stream true (a + 8 * (e.1 : Int)) e.2) / max 1 (n : Int)

/-- The quadrature condition in two excitation cycles from fine time `d` on, at which a cycle begins (R111): more than 50 % of the full scale of the gear in
force in each. `codes` are those from 40 clocks before the first word of the two cycles to 40 clocks after the last. -/
def State.quadratureHigh (s : State) (i d : Nat) (codes : List Int) : Bool :=
  let stream := s.runningStream i
  let n := s.st.freqDiv (i / 16)
  let one := s.st.cycleWords stream d n
  let two := s.st.cycleWords stream (d + n * 5120000) n
  let first : Int := 8 * (one.1 : Int) - 38
  let l := { s.look stream with codes := codes, codeEnd := first + codes.length }
  let limit := (s.gearRatio s.st stream (gearAt l.wordGears (s.st.startGear stream) (two.1 + two.2))).mul (Q.ofInt fullScale)
  let high (c : Nat × Nat) : Bool := limit.less (Q.ofInt (2 * ((s.quadratureMean stream c.1 c.2 l).natAbs : Int)))
  decide (d % 5120000 = 0) && decide (d / 5120000 % n = 0) && decide (codes.length = 8 * (one.2 + two.2) + 108) &&
    decide (d + 2 * n * 5120000 ≤ s.fine) && high one && high two

/-- A test look's newest word lies above `ow_limit` (R111): its magnitude against the full scale of the gear in force at its instant. -/
def State.testFails (s : State) (stream : Nat) (w : Nat × Int) : Bool :=
  let g := gearAt (s.look stream).gears (s.st.startGear stream) w.1
  let limit := (s.gearRatio s.st stream g).mul (Q.ofInt (fullScale * (s.st.owLimit (stream / 16) : Int)))
  limit.less (Q.ofInt ((w.2.natAbs : Int) * 65536))

/-- The failing sample of a spoke's test looks: its represented instant (R113). -/
def State.testFound (s : State) (i : Nat) : Option Nat :=
  ((s.st.spokeLooks i).filterMap fun x =>
    if s.st.owTest x then (match (s.look x).lastWord with | none => none | some w => if s.testFails x w then some w.1 else none) else none).head?

/-- An open wire is found (R111): the run of extreme codes and the quadrature by the codes from D on, the sense check by the lace's low estimates, which
flags every BRIDGE spoke of the lace, and the test look by its sample. -/
def openWireFound (i : Nat) (m : OwMethod) (d : Nat) (codes : List Int) (s : State) : State :=
  if s.live && s.glb.sampling && s.st.owApplies i m then
    match m with
    | .extreme => if s.extremeRun i d codes then s.openWire i m d else s
    | .quadrature => if s.quadratureHigh i d codes then s.openWire i m d else s
    | .sense =>
      match (s.laceOf (i / 16)).lowFrom with
      | some k => if 2 ≤ (s.laceOf (i / 16)).senseLowRuns then forEach ((laceSpokes (i / 16)).filter s.st.isBridge) s fun s j => s.openWire j m k else s
      | none => s
    | .testLook => match s.testFound i with | some k => s.openWire i m k | none => s
  else s

/-- OPEN_WIRE_DETECT (R113). -/
def execOpenWireDetect (i : Fin 768) (m : OwMethod) (instant : Nat) (codes : List Int) (s : State) : Ans :=
  actIf (Instr.wf (.openWireDetect i m instant codes)) s (openWireFound i.val m instant codes)

/-- Every test look of the spoke has passed since the open wire was found (R113). -/
def State.testsPassed (s : State) (i : Nat) : Bool :=
  ((s.st.spokeLooks i).filter s.st.owTest).all fun x => match (s.look x).lastWord with
    | none => false
    | some w => decide ((s.spoke i).owAt < w.1) && !s.testFails x w

/-- Cycles without the quadrature and sense conditions after which an open wire clears (R113, R366). -/
def State.quietNeed (s : State) : Nat := if s.tdm.role = .claiming then 2 else 8

/-- The condition clears (R113): 1,024 non-extreme codes, 8 cycles (2 in CLAIMING, R366) without the quadrature and sense conditions, the latter by the
lace's own estimates, and a passing test look where the spoke has one. INVALID ends with the first sample whose whole kernel lies after the clear. -/
def wireBack (i quietCodes quietCycles : Nat) (s : State) : State :=
  let bridge := s.st.owApplies i .quadrature || s.st.owApplies i .sense
  if (s.spoke i).openWire && decide (1024 ≤ quietCodes) && (!bridge || decide (s.quietNeed ≤ quietCycles)) &&
      (!s.st.owApplies i .sense || decide (s.quietNeed ≤ (s.laceOf (i / 16)).senseOkRuns)) && s.testsPassed i then
    let s := s.upSpoke i fun p => { p with openWire := false, owMethod := 0, frozen := false }
    let s := forEach (s.st.spokeLooks i) s fun s x => s.closeSpans x causeOpenWire s.fine
    s.notify (s.st.spokeQ i) 0x22 i 0 (argT s.now)
  else s

/-- WIRE_RESTORED (R113). -/
def execWireRestored (i : Fin 768) (quietCodes quietCycles : Nat) (s : State) : Ans := act s (wireBack i.val quietCodes quietCycles)

/-! ### Release (R115) -/

/-- RELEASE_SPOKE (R115, R391, R456). -/
def releaseSpoke (s : State) : State :=
  s.start 0x20 fun c s =>
    let i := c.a 9 0
    if s.cal.recal = some i then s.complete c 0x51
    else if (s.spoke i).quarantined then (s.release i 0).complete c 0
    else s.complete c 0x21

/-- RELEASE_SPOKE (R115). -/
def execReleaseSpoke (s : State) : Ans := act s releaseSpoke

/-- After a release, each look takes a synchronising reset at the first instant of its output grid at or after it (R115). -/
def releaseReset (i n : Nat) (s : State) : State :=
  let stream := i * 16 + n
  let p := s.spoke i
  let t := s.st.instantOf stream (s.st.indexAt stream p.released)
  if s.hasSpan stream causeQuarantine && !p.quarantined && decide (t ≤ s.fine) then
    (s.closeSpans stream causeQuarantine t).syncResetAt s.st s.st stream t
  else s

/-- RELEASE_SYNC_RESET (R115). -/
def execReleaseSyncReset (i : Fin 768) (n : Fin 16) (s : State) : Ans := act s (releaseReset i.val n.val)

end Sys2Proof.Machine
end

