-- ==== Sys2Proof/Machine/Scaling.lean ====
section
/-! DEFINITION. Scaling (08_scaling_and_sample_words): raw and engineering format (R186 to R189), the curves (R192 to R199), and the
arithmetic of the programmable FIR (R172) and of the rank filter (R175). -/

namespace Sys2Proof.Machine

/-- The stream emits engineering format (R186). -/
def Struct.eng (st : Struct) (stream : Nat) : Bool :=
  decide (st.curveNo stream ≠ 0) ||
    (!isAux stream && st.entry stream 1 26 26 == 1 && decide (2 ≤ st.gearCount stream)) ||
    (match st.curveOf stream with | none => false | some i => st.fld .curve i 0 29 29 == 1)

/-! ### Raw words (R187) -/

/-- The raw value of a 48-bit word in the scale of the gear in force, and whether it was clipped. -/
def rawValue (w : Int) (r : Q) : Int × Bool :=
  let v := match (Q.ofInt w).div (r.mul { num := 2 ^ 23, den := 1 }) with | none => (0 : Int) | some q => q.round
  if 2 ^ 23 - 1 < v then (2 ^ 23 - 1, true) else if v < -(2 ^ 23) then (-(2 ^ 23), true) else (v, false)

/-- A raw word: value [31:8], tag [7:0]. -/
def rawWord (v : Int) (tag : Nat) : Word := wordOf (unsignedOf 24 v * 256 + tag % 256)

/-- The value of a raw word. -/
def rawOf (w : Word) : Int := signedOf 24 (w.field 31 8)

/-! ### Engineering values and curves -/

/-- A constant in binary64. -/
def c64 (num : Int) (den : Nat) : Option F64 := F64.of { num := num, den := den }

/-- x of R188: w × FS_G0 / 2^46 in binary64. -/
def engValue (w : Int) (fs : Q) : Option F64 := divF (mulF (F64.of (Q.ofInt w)) (F64.of fs)) (c64 (2 ^ 46) 1)

/-- The outcome of a curve: the binary32 word and the tags it sets. -/
abbrev Curved := Word × Nat

/-- A binary64 result of a curve (R189). -/
def curved (v : Option F64) (tag : Nat) : Curved :=
  let r := F64.out v
  (r.1, if r.2 then tagOr tag tagInvalid else tag)

/-- A free binary32 result: one that is not finite is the quiet NaN with INVALID (R189). -/
def cleaned (w : Word) (tag : Nat) : Curved := (finite32 w, if notFinite32 w then tagOr tag tagInvalid else tag)

/-- The solution of f(t) = y for a rising f between `lo` and `hi`, in fixed point, by halvings. -/
def bisect (f : Q → Q) (y : Q) : Nat → Int → Int → Int
  | 0, lo, _ => lo
  | n + 1, lo, hi =>
    let mid := (lo + hi) / 2
    if (f (Q.ofFix mid)).atMost y then bisect f y n mid hi else bisect f y n lo mid

/-- The hub's solution of f(t) = y: the free value `t` where it lies within `err` of a solution, and a solution otherwise (R193, R194; log entry 9). -/
def solved (f : Q → Q) (y : Q) (lo hi t err : Int) : Q :=
  if lo ≤ t ∧ t ≤ hi ∧ (f (Q.ofFix (max lo (t - err)))).atMost y ∧ y.atMost (f (Q.ofFix (min hi (t + err)))) then Q.ofFix t
  else Q.ofFix (bisect f y 110 lo hi)

/-- The range of a thermocouple type, °C (R192). -/
def tcRange (curve : Nat) : Int × Int :=
  match curve with
  | 1 => (0, 1820) | 2 => (-270, 1000) | 3 => (-210, 1200) | 4 => (-270, 1372) | 5 => (-270, 1300)
  | 6 => (-50, 1768) | 7 => (-50, 1768) | _ => (-270, 400)

/-- A whole number as binary32. -/
def int32 (n : Int) : Word := (Q.to32 (Q.ofInt n)).1

/-- E of a thermocouple type at a temperature, in mV (R193): its reference function, and a free value outside the type's range, where a cold junction
can lie and the function is not stated (log entry 9). -/
def emfAt (curve : Nat) (t : Q) : Q :=
  let r := tcRange curve
  Q.ofFix (if r.1 * fixOne ≤ t.fix ∧ t.fix ≤ r.2 * fixOne then emfFix curve t.fix else Config.emf curve t.fix)

/-- Where E of a type begins to rise, in units of 2^-96 °C: the low end of its range, but for type B, whose E falls from 0 °C to its least value at 21.02 °C. -/
def emfLow (curve : Nat) : Int := if curve = 1 then 1665396724698839514715521718768 else (tcRange curve).1 * fixOne

/-- An inverse of E at `e` (R193): the hub's own solution, which is free within 0.01 °C. An e not above 0 of type B has two; which of them the hub gives is free
too (log entry 9). -/
def emfInverse (curve : Nat) (e : F64) : Q :=
  let t := Config.thermocouple curve e.q.num e.q.den
  let hi := (tcRange curve).2 * fixOne
  if curve = 1 ∧ t < emfLow 1 ∧ e.q.num ≤ 0 then solved (fun x => (emfAt 1 x).neg) e.q.neg 0 (emfLow 1) t (fixOne / 100)
  else solved (emfAt curve) e.q (emfLow curve) hi t (fixOne / 100)

/-- Curves 1 to 8 with a cold-junction temperature (R193, R199): the inverse of E at e = 1000 x + E(t_cj), within 0.01 °C, and the nearer end of the
range, SUSPECT, beyond it. -/
def thermocoupleCurve (curve : Nat) (x : Option F64) (cj : Word) : Curved :=
  match F64.of32 cj with
  | none => (quietNan, tagInvalid)
  | some c =>
    match addF (mulF x (c64 1000 1)) (F64.of (emfAt curve c.q)) with
    | none => (quietNan, tagInvalid)
    | some e =>
      let lo := (tcRange curve).1
      let hi := (tcRange curve).2
      if e.q.less (emfAt curve (Q.ofFix (emfLow curve))) then (int32 lo, tagSuspect)
      else if (emfAt curve (Q.ofInt hi)).less e.q then (int32 hi, tagSuspect)
      else curved (F64.of (emfInverse curve e)) 0

/-- The resistance of a platinum RTD at a temperature (R194), exact: R0 (1 + A t + B t² + C (t − 100) t³), C below 0 °C only. -/
def cvdAt (r0 : Int) (t : Q) : Q :=
  -- A, B and C in units of 10^-15
  let n := t.num
  let d : Int := t.den
  let k : Int := 10 ^ 15 * d ^ 4 + 3908300000000 * n * d ^ 3 - 577500000 * n ^ 2 * d ^ 2 + (if n < 0 then -4183 * (n - 100 * d) * n ^ 3 else 0)
  { num := r0 * k, den := 10 ^ 15 * t.den ^ 4 }

/-- Curves 16 to 19 (R194, R199): the error is within 0.001 °C over the reduced range and within 0.01 °C over the full one. -/
def rtdCurve (curve : Nat) (r : Q) : Curved :=
  let r0 : Int := if curve < 18 then 100 else 1000
  let lo : Int := if curve % 2 = 0 then -200 else -50
  let hi : Int := if curve % 2 = 0 then 850 else 200
  let f := cvdAt r0
  if r.less (f (Q.ofInt lo)) then (int32 lo, tagSuspect)
  else if (f (Q.ofInt hi)).less r then (int32 hi, tagSuspect)
  else
    let reduced := (f (Q.ofInt (-50))).atMost r && r.atMost (f (Q.ofInt 200))
    curved (F64.of (solved f r (lo * fixOne) (hi * fixOne) (Config.platinumRtd curve r.num r.den) (fixOne / (if reduced then 1000 else 100)))) 0

/-- Curve 24 (R195) of a resistance R > 0: 1 / (A + B ln R + C (ln R)³) − 273.15. -/
def thermistorCurve (a b c : Word) (r : Q) : Option F64 :=
  let l := F64.of (Q.ofFix (fixLn r))
  let t := divF (c64 1 1) (addF (addF (F64.of32 a) (mulF (F64.of32 b) l)) (mulF (F64.of32 c) (mulF (mulF l l) l)))
  subF t (c64 27315 100)

/-- Curve 32 (R196), in the order the formulas are written (log entry 9). -/
def strainCurve (bridge : Nat) (k zero scale : Word) (x : Option F64) : Option F64 :=
  let vr := mulF (subF x (F64.of32 zero)) (c64 1 1000)
  let eps := match bridge with
    | 0 => divF (mulF (c64 4 1) vr) (mulF (F64.of32 k) (subF (c64 1 1) (mulF (c64 2 1) vr)))
    | 1 => divF (mulF (c64 2 1) vr) (F64.of32 k)
    | _ => divF vr (F64.of32 k)
  mulF eps (F64.of32 scale)

/-- The tag of curve 40 by its input current in mA (R197). -/
def loopTag (x : Q) : Nat :=
  if x.less { num := 36, den := 10 } then tagInvalid
  else if x.less { num := 38, den := 10 } then tagSuspect
  else if ({ num := 21, den := 1 } : Q).less x then tagInvalid
  else if ({ num := 205, den := 10 } : Q).less x then tagSuspect
  else 0

/-- Curve 40 (R197). -/
def loopCurve (lo hi : Word) (x : Option F64) : Option F64 :=
  addF (F64.of32 lo) (divF (mulF (subF x (c64 4 1)) (subF (F64.of32 hi) (F64.of32 lo))) (c64 16 1))

/-- The segment of curve 56 used for x: the one with the highest breakpoint at or below it, else segment 0 (R198). -/
def segmentFor (x : Q) (breaks : List Q) : Nat := (breaks.takeWhile (fun b => b.atMost x)).length - 1

/-- The polynomial of a segment, in the order R198 writes it. -/
def segmentValue (c : List Word) (x : Option F64) : Option F64 :=
  let p (k : Nat) : Option F64 := F64.of32 (c.getD k 0)
  let d := subF x (p 1)
  let d2 := mulF d d
  addF (addF (addF (p 2) (mulF (p 3) d)) (mulF (p 4) d2)) (mulF (p 5) (mulF d2 d))

/-- The segments of the curve 56 record at instance i, and their breakpoints (R198, R202). -/
def Struct.segments (st : Struct) (i : Nat) : List (List Word) := (numbersFrom (i + 1) (st.fld .curve i 0 21 17)).map (fun k => st.record .curve k)
def Struct.breaks (st : Struct) (i : Nat) : List Q := (st.segments i).map (fun c => (of32 (c.getD 1 0)).getD { num := 0, den := 1 })

/-- The tag of curve 56 (R198): SUSPECT below the first breakpoint and above `x_max`. -/
def Struct.piecewiseTag (st : Struct) (i : Nat) (x : Q) : Nat :=
  let outside := (match st.breaks i with | [] => false | b :: _ => x.less b) ||
    (match of32 (st.word .curve i 1) with | none => false | some m => m.less x)
  if outside then tagSuspect else 0

/-- Curve 56 of the record at instance i (R198). -/
def Struct.piecewise (st : Struct) (i : Nat) (x : F64) : Curved :=
  curved (segmentValue ((st.segments i).getD (segmentFor x.q (st.breaks i)) []) (some x)) (st.piecewiseTag i x.q)

/-- The stream of a thermocouple look's cold junction (R117, R193). -/
def Struct.cjStream (st : Struct) (stream : Nat) : Nat := 12288 + stream / 256 * 16 + st.cjLook (stream / 16)

/-- The newest cold-junction sample since that look's last synchronising reset (R193). -/
def State.coldJunction (s : State) (st : Struct) (stream : Nat) : Option (Nat × Word × Nat) :=
  let cj := s.look (st.cjStream stream)
  match cj.last with
  | none => none
  | some x => if cj.resets.any (fun r => decide (r.1 ≤ s.fine)) ∨ x.1 < cj.chainFrom then none else some x

/-- The tags that a thermocouple sample of instant `t` takes from its cold junction (R193): its INVALID and SUSPECT; INVALID without one; SUSPECT from one
more than 2 s older. -/
def State.coldTag (s : State) (st : Struct) (stream t : Nat) : Nat :=
  match s.coldJunction st stream with
  | none => tagInvalid
  | some (t0, _, tag) => tagOr (tag &&& (tagInvalid + tagSuspect)) (if t0 + 2000000000 * 65536 < t then tagSuspect else 0)

/-- Curves 1 to 8 with the newest cold-junction sample (R193). -/
def State.tcCurve (s : State) (st : Struct) (stream t : Nat) (x : F64) : Curved :=
  let c := match s.coldJunction st stream with
    | none => cleaned (Config.noColdJunction stream x.q.num x.q.den) tagInvalid
    | some (_, w, _) => thermocoupleCurve (st.curveNo stream) (some x) w
  (c.1, tagOr c.2 (s.coldTag st stream t))

/-- A look's curve applied to its value (R192). -/
def State.curve (s : State) (st : Struct) (stream t : Nat) (x : Option F64) : Curved :=
  match x with
  | none => (quietNan, tagInvalid)
  | some v =>
    let p (k : Nat) : Word := st.curveP stream k
    let n := st.curveNo stream
    if 1 ≤ n ∧ n ≤ 8 then s.tcCurve st stream t v
    else if 16 ≤ n ∧ n ≤ 19 then
      match subF x (F64.of32 (p 1)) with | none => (quietNan, tagInvalid) | some r => rtdCurve n r.q
    else if n = 24 then
      match subF x (F64.of32 (p 4)) with
      | none => (quietNan, tagInvalid)
      | some r => if r.q.num ≤ 0 then (quietNan, tagInvalid) else curved (thermistorCurve (p 1) (p 2) (p 3) r.q) 0
    else if n = 32 then
      curved (strainCurve (match st.curveOf stream with | none => 0 | some i => st.fld .curve i 0 16 14) (p 1) (p 2) (p 3) x) 0
    else if n = 40 then curved (loopCurve (p 1) (p 2) x) (loopTag v.q)
    else if n = 48 then curved (addF (mulF (F64.of32 (p 1)) x) (F64.of32 (p 2))) 0
    else if n = 56 then
      match st.curveOf stream with | none => curved x 0 | some i => st.piecewise i v
    else curved x 0

/-- The tags that a curve sets by its input whatever the value (R193, R197, R198): they hold for a sample that comes in INVALID too. -/
def State.inputTags (s : State) (st : Struct) (stream t : Nat) (x : Option F64) : Nat :=
  let n := st.curveNo stream
  match x with
  | none => 0
  | some v =>
    if 1 ≤ n ∧ n ≤ 8 then s.coldTag st stream t
    else if n = 40 then loopTag v.q
    else if n = 56 then (match st.curveOf stream with | none => 0 | some i => st.piecewiseTag i v.q)
    else 0

/-- A chain word scaled into the stream's form (R186 to R199) with the tag it carries in: the raw word's value or the binary32 word, and the
tag. A sample that comes in INVALID keeps its value through the curve (R199). -/
def State.scaled (s : State) (st : Struct) (stream t : Nat) (w : Int) (tag : Nat) : Word × Nat :=
  if st.eng stream then
    let x := engValue w (st.fsG0 stream)
    let c := if hasTag tag tagInvalid then curved x (s.inputTags st stream t x) else s.curve st stream t x
    (c.1, tagOr tag c.2)
  else
    let v := rawValue w (s.gearRatio st stream (if isAux stream then 0 else st.startGear stream))
    let tag := if v.2 then tagOr tag tagClipped else tag
    (rawWord v.1 tag, tag)

/-- A placeholder's word (R82, R115, R175): value 0 in a raw word, the quiet NaN otherwise. -/
def blankWord (eng : Bool) (tag : Nat) : Word := if eng then quietNan else rawWord 0 tag

/-- What a switch compares (R205): the raw value, or the order-preserving integer of the binary32 value. -/
def switchValue (eng : Bool) (w : Word) : Int := if eng then order32 w else rawOf w

/-! ### The programmable FIR (R172) -/

/-- A coefficient word as a signed number. -/
def Struct.coefAt (st : Struct) (i : Nat) : Int := signedOf 32 (st.word .coef i 0).toNat

/-- One FIR result rounded to 48 bits, newest input first, and whether it saturated: to the nearest, and of two equally near either (log entry 15). -/
def firResult (coefs hist : List Int) : Int × Bool :=
  let y := Q.nearest { num := dot coefs hist, den := 2 ^ 30 }
  if 2 ^ 47 - 1 < y then (2 ^ 47 - 1, true) else if y < -(2 ^ 47 - 1) then (-(2 ^ 47 - 1), true) else (y, false)

/-! ### The rank filter (R175) -/

/-- round(a / b) to nearest, ties to even (R187). -/
def roundDiv (a b : Nat) : Nat := if b = 0 then 0 else roundEvenNat a b

/-- The rank filter's output over a window of (value, tag): samples with INVALID are left out, and fewer than half valid makes the output
INVALID with no value. -/
def rankResult (w r : Nat) (window : List (Int × Nat)) : Option Int × Nat :=
  let ok := window.filter (fun x => !hasTag x.2 tagInvalid)
  let m := ok.length
  let tags := ok.foldl (fun acc x => tagOr acc (x.2 &&& 0x78)) 0
  if m * 2 < w + 1 then (none, tagOr tags tagInvalid)
  else
    let sorted := sortBy (fun a b => decide (a ≤ b)) (ok.map (·.1))
    (some (sorted.getD (roundDiv (r * (m - 1)) (w - 1)) 0), tags)

end Sys2Proof.Machine
end

