-- ==== Sys2Proof/Machine/Compress.lean ====
section
/-! DEFINITION. Lossless compression (12_compression): the coding of a block's values and tags (R287 to R297), its decoding, the coding
history (R298), and the 40-byte header of a stored block (R321). -/

namespace Sys2Proof.Machine

/-! ### Values as integers (R287) -/

/-- μ of a binary32 bit pattern. -/
def mu (w : Word) : Int := if w.flag 31 then -1 - (w.field 30 0 : Int) else w.field 30 0

/-- The inverse of μ. -/
def muInv (x : Int) : Word := if x < 0 then wordOf (2 ^ 31 + (-1 - x).toNat) else wordOf x.toNat

/-- The coded integer of a sample word, and the width W. -/
def OpenBlock.value (b : OpenBlock) (w : Word) : Int :=
  if b.words then signedOf 32 w.toNat else if b.eng then mu w else rawOf w
def OpenBlock.width (b : OpenBlock) : Nat := if b.words || b.eng then 32 else 24

/-- The block's values. -/
def OpenBlock.values (b : OpenBlock) : List Int := b.samples.map (fun s => b.value s.1)

/-- The block's tags. -/
def OpenBlock.tags (b : OpenBlock) : List Nat := b.samples.map (·.2)

/-! ### Bits (R289) -/

/-- The `n` low bits of a number, most significant first. -/
def bitsMsb : Nat → Nat → List Bool
  | 0, _ => []
  | n + 1, v => bitOf v n :: bitsMsb n v

/-- A number from bits, most significant first. -/
def ofBitsMsb (l : List Bool) : Nat := l.foldl (fun n b => 2 * n + (if b then 1 else 0)) 0

/-- Bits as bytes from bit 7 downward; `n` bytes, missing bits zero. -/
def packBits : Nat → List Bool → List Byte
  | 0, _ => []
  | n + 1, l => BitVec.ofNat 8 (ofBitsMsb ((l ++ List.replicate 8 false).take 8)) :: packBits n (l.drop 8)

/-- A bit stream as payload bytes: zero bits up to the next multiple of 32. -/
def payloadOf (l : List Bool) : List Byte := packBits (ceilDiv l.length 32 * 4) l

/-- The bits of payload bytes. -/
def bitsOfBytes (bs : List Byte) : List Bool := bs.flatMap (fun b => bitsMsb 8 b.toNat)

/-! ### Prediction and history (R291, R298) -/

/-- The prediction of P0 to P3 from the history, by the order used. -/
def predictBack (p : Nat) (c : CodeState) : Int :=
  match min p c.n with
  | 0 => 0
  | 1 => c.h1
  | 2 => 2 * c.h1 - c.h2
  | _ => 3 * c.h1 - 3 * c.h2 + c.h3

/-- A value shifted into the history. -/
def CodeState.push (c : CodeState) (x : Int) : CodeState :=
  { c with h3 := c.h2, h2 := c.h1, h1 := x, n := min (c.n + 1) 3 }

/-- The start of a key block (R298). -/
def CodeState.keyed (c : CodeState) : CodeState := { c with n := 0, kprev := 0 }

/-- All values shifted into the history. -/
def CodeState.pushAll (c : CodeState) (xs : List Int) : CodeState := xs.foldl CodeState.push c

/-- The prediction of a sample; for P4 `ys` are the neighbour's samples from this position on, `back` the previous (x, y) pair. -/
def predict (p : Nat) (c : CodeState) (ys : List Int) (back : Option (Int × Int)) : Int :=
  if p = 4 then
    match back with
    | none => ys.headD 0
    | some (x, y) => ys.headD 0 + x - y
  else predictBack p c

/-- The mapped residues of a block under a predictor (R294). -/
def residues (p w : Nat) (c : CodeState) (ys : List Int) (back : Option (Int × Int)) : List Int → List Nat
  | [] => []
  | x :: xs =>
    let r := signedOf w (unsignedOf w (x - predict p c ys back))
    let u : Nat := if r < 0 then (-2 * r - 1).toNat else (2 * r).toNat
    u :: residues p w (c.push x) ys.tail (some (x, ys.headD 0)) xs

/-! ### Sub-blocks (R294, R296) -/

/-- The data bits of a sub-block at k, if every q is at most 63. -/
def riceBits (k : Nat) (us : List Nat) : Option Nat :=
  if us.any (fun u => decide (63 < u / 2 ^ k)) then none else some (us.foldl (fun n u => n + u / 2 ^ k + 1 + k) 0)

/-- The k of the fewest data bits among those of a list, the lowest among equals. -/
def bestRice (us : List Nat) (ks : List Nat) : Option (Nat × Nat) :=
  ks.foldl (fun best k => match riceBits k us with
    | none => best
    | some n => match best with | none => some (k, n) | some b => if n < b.2 then some (k, n) else some b) none

/-- The parameter of a sub-block: 31, the escape, when no k qualifies or it needs no more bits. -/
def riceParameter (w : Nat) (us : List Nat) : Nat :=
  match bestRice us (List.range 31) with
  | none => 31
  | some (k, n) => if us.length * w ≤ n then 31 else k

/-- One sample's bits. -/
def sampleBits (k w : Nat) (x : Int) (u : Nat) : List Bool :=
  if k = 31 then bitsMsb w (unsignedOf w x) else List.replicate (u / 2 ^ k) true ++ false :: bitsMsb k u

/-- The sub-blocks of a block, 16 samples each: the bits and the carried parameter at the end. -/
def subBlocks (fuel w kprev : Nat) (l : List (Int × Nat)) : List Bool × Nat :=
  match fuel with
  | 0 => ([], kprev)
  | fuel + 1 =>
    match l with
    | [] => ([], kprev)
    | _ =>
      let part := l.take 16
      let k := riceParameter w (part.map (·.2))
      let head := if k = kprev then [false] else true :: bitsMsb 5 k
      let rest := subBlocks fuel w k (l.drop 16)
      (head ++ part.flatMap (fun s => sampleBits k w s.1 s.2) ++ rest.1, rest.2)

/-! ### Tags (R295, R296) -/

/-- The runs of a tag list, each at most 256 long: tag and length. -/
def tagRuns : List Nat → List (Nat × Nat)
  | [] => []
  | t :: ts => match tagRuns ts with
    | [] => [(t, 1)]
    | (t', n) :: r => if t = t' ∧ n < 256 then (t', n + 1) :: r else (t, 1) :: (t', n) :: r

/-- Runs that fill from the front: a run longer than 256 is cut after its first 256 samples. -/
def frontRuns (l : List Nat) : List (Nat × Nat) := ((tagRuns l.reverse).reverse)

/-- The tag section and `tmode`. -/
def tagSection (words : Bool) (tags : List Nat) : Nat × List Bool :=
  if words then (0, [])
  else
    let runs := frontRuns tags
    if tags.length * 8 < runs.length * 16 then (0, tags.flatMap (bitsMsb 8))
    else (1, runs.flatMap (fun r => bitsMsb 8 r.1 ++ bitsMsb 8 (r.2 - 1)))

/-! ### The coded payload (R290, R296) -/

/-- The payload bits of a block under one predictor, and the carried parameter at the end. -/
def predBits (p : Nat) (b : OpenBlock) (c : CodeState) (ys : List Int) : List Bool × Nat :=
  let xs := b.values
  let us := residues p b.width c ys none xs
  let t := tagSection b.words b.tags
  let data := subBlocks xs.length b.width c.kprev (xs.zip us)
  (bitsMsb 3 p ++ bitsMsb 1 t.1 ++ bitsMsb 4 0 ++ data.1 ++ t.2, data.2)

/-- The predictors a block may use: those of the mask, P4 only with a neighbour's samples (R292), P0 when none remains. -/
def candidates (mask : Nat) (hasNeighbour : Bool) : List Nat :=
  let l := (List.range 5).filter (fun i => bitOf mask i && (decide (i ≠ 4) || hasNeighbour))
  if l.isEmpty then [0] else l

/-- The coding with the fewest bits, the lowest code among equals. -/
def bestCoding (mask : Nat) (b : OpenBlock) (c : CodeState) (ys : Option (List Int)) : List Bool × Nat :=
  ((candidates mask ys.isSome).map (fun p => predBits p b c (ys.getD []))).foldl
    (fun best x => match best with
      | none => some x
      | some y => if x.1.length < y.1.length then some x else some y) none |>.getD ([], c.kprev)

/-- The PLAIN payload (R190, R270). -/
def OpenBlock.plain (b : OpenBlock) : List Byte :=
  b.samples.flatMap (fun s => s.1.bytes) ++
    (if b.eng && !b.words then (b.samples.map (fun s => BitVec.ofNat 8 s.2)) ++ List.replicate (256 - b.samples.length) 0 else [])

/-! ### Decoding -/

/-- The leading 1 bits of a bit stream and what follows the zero bit that ends them. -/
def unary : List Bool → Nat × List Bool
  | [] => (0, [])
  | true :: l => ((unary l).1 + 1, (unary l).2)
  | false :: l => (0, l)

/-- The samples of a payload; `todo` remain, `pos` are decoded. -/
def decodeSamples (p w : Nat) : Nat → Nat → CodeState → List Int → Option (Int × Int) → List Bool → List Int × List Bool
  | 0, _, _, _, _, l => ([], l)
  | todo + 1, pos, c, ys, back, l =>
    let start := decide (pos % 16 = 0)
    let k := if start && l.headD false then ofBitsMsb ((l.drop 1).take 5) else c.kprev
    let l := if start then (if l.headD false then l.drop 6 else l.drop 1) else l
    let y := ys.headD 0
    let out : Int × List Bool :=
      if k = 31 then (signedOf w (ofBitsMsb (l.take w)), l.drop w)
      else
        let q := unary l
        let u := q.1 * 2 ^ k + ofBitsMsb (q.2.take k)
        let r : Int := if u % 2 = 0 then (u / 2 : Nat) else -((u + 1) / 2 : Nat)
        (signedOf w (unsignedOf w (predict p c ys back + r)), q.2.drop k)
    let rest := decodeSamples p w todo (pos + 1) { c.push out.1 with kprev := k } ys.tail (some (out.1, y)) out.2
    (out.1 :: rest.1, rest.2)

/-- Tags from runs until `n` are set. -/
def decodeRuns : Nat → Nat → List Bool → List Nat
  | 0, _, _ => []
  | fuel + 1, n, l =>
    if n = 0 then []
    else
      let len := min n (ofBitsMsb ((l.drop 8).take 8) + 1)
      List.replicate len (ofBitsMsb (l.take 8)) ++ decodeRuns fuel (n - len) (l.drop 16)

/-- The values and tags of a PRED payload of `n` samples. -/
def decodePred (words : Bool) (w n : Nat) (c : CodeState) (ys : List Int) (bytes : List Byte) : List Int × List Nat :=
  let l := bitsOfBytes bytes
  let p := ofBitsMsb (l.take 3)
  let runs := (l.drop 3).headD false
  let d := decodeSamples p w n 0 c ys none (l.drop 8)
  (d.1, if words then List.replicate n 0
        else if runs then decodeRuns n n d.2
        else (List.range n).map (fun i => ofBitsMsb ((d.2.drop (8 * i)).take 8)))

/-! ### A block's payload (R288, R303, R305) -/

/-- How a block came out: `method` 0 PLAIN, 1 PRED, 2 ESCAPED, its payload, and the carried parameter after it. -/
structure Coded where
  method : Nat
  payload : List Byte
  kprev : Nat
  deriving DecidableEq, Repr, Inhabited

/-- A block coded from a starting history and verified (R303): a payload that does not decode to its input is stored ESCAPED. -/
def codeBlock (plain : Bool) (mask : Nat) (b : OpenBlock) (c : CodeState) (ys : Option (List Int)) : Coded :=
  if plain then { method := 0, payload := b.plain, kprev := c.kprev }
  else
    let best := bestCoding mask b c ys
    let bytes := payloadOf best.1
    if decodePred b.words b.width b.samples.length c (ys.getD []) bytes = (b.values, if b.words then b.tags.map (fun _ => 0) else b.tags) then
      { method := 1, payload := bytes, kprev := best.2 }
    else { method := 2, payload := b.plain, kprev := c.kprev }

/-! ### The stored block (R321) -/

/-- A block's 40-byte header and payload. `flags` as w0 [15:0]. -/
def blockBytes (stream flags seq coding tagOrs w3 tFirst count keyDist hub : Nat) (payload : List Byte) : List Byte :=
  let head := leBytes 4 (stream * 65536 + flags) ++ leBytes 4 (seq % 2 ^ 32) ++
    leBytes 4 (seq / 2 ^ 32 % 65536 * 65536 + coding * 256 + tagOrs) ++ leBytes 4 w3 ++ leBytes 8 tFirst ++
    leBytes 4 (count * 65536 + keyDist) ++ leBytes 4 payload.length ++ leBytes 4 (hub * 2 ^ 20)
  head ++ leBytes 4 (crc32c (head ++ payload)) ++ payload

/-- Header flags (R321). -/
def flagGap : Nat := 1
def flagKey : Nat := 2
def flagReducer : Nat := 4
def flagResend : Nat := 8
def flagReplay : Nat := 16
def flagTakeover : Nat := 32
def flagSplit : Nat := 64

/-- A block's bytes with flags added as it is sent, and its `crc` again (R321). -/
def withFlags (bytes : List Byte) (flags : Nat) : List Byte :=
  if flags = 0 then bytes
  else
    let f := leNat (bytes.take 2)
    let head := leBytes 2 (f ||| flags) ++ (bytes.take 36).drop 2
    let payload := bytes.drop 40
    head ++ leBytes 4 (crc32c (head ++ payload)) ++ payload

/-- The bytes of a gap record (R257). -/
def gapBytes (g : Gap) (flags hub : Nat) : List Byte :=
  blockBytes g.stream (flagGap ||| flags) (if g.startUnknown then 0 else g.first) 0 0 g.w3 (if g.startUnknown then 0 else g.tFirst) 0 0 hub
    (leBytes 4 (g.last % 2 ^ 32) ++ leBytes 4 (g.last / 2 ^ 32 % 65536 * 65536 + g.cause * 256 + boolBit g.startUnknown 0))

/-- B_max of a stream (R239, R247): its plain payload, the header and, where blocks are coded, 40 bytes of expansion (R297), in whole
sectors. No block of a reducer record of W words, fewer than 256, is longer than W words (R270). -/
def Struct.bMax (st : Struct) (stream : Nat) : Nat :=
  let plain :=
    if stream < 13056 then (if st.eng stream then 1280 else 1024)
    else match st.jobOf stream with | none => 1024 | some k => min 1024 (4 * st.recWords k)
  ceilDiv (plain + (if st.cmpPlain stream then 40 else 80)) 32 * 32

end Sys2Proof.Machine
end

