-- ==== Sys2Proof/Machine/Coding.lean ====
section
/-! DEFINITION. The compressor's state per stream (12_compression): closing and coding a block (R296 to R303), `FLUSH` (R301) and the context
commands (R302). A block closes in the order its stream produced it and after the block before it has been placed (log entry 18). -/

namespace Sys2Proof.Machine

/-- The address that a stored block names (R313, R321). -/
def State.blockHub (s : State) : Nat := s.serviceAddr

/-- The neighbour whose samples P4 may use, by the records of a structure (R292). -/
def Struct.near (st : Struct) (i : Nat) : Option Nat :=
  let nb := st.neighbour i
  if i ≤ nb ∨ !st.stored nb ∨ st.dest nb ≠ st.dest i then none else some nb

/-- The neighbour's samples for P4 (R292); `near` is the neighbour that the records in force at the block's closing allow (R304). -/
def State.neighbourValues (s : State) (near : Option Nat) (b : OpenBlock) : Option (List Int) :=
  match near with
  | none => none
  | some nb =>
    if b.words then none else
    match (s.strm nb).coded.find? (fun e =>
        e.1 == b.w3 && e.2.1 == b.seq && e.2.2.1 == b.tFirst && e.2.2.2.1 == b.eng && e.2.2.2.2.length == b.samples.length) with
    | none => none
    | some e => some e.2.2.2.2

/-- A final block of the stream is coded as a key block (R299), apart from the page-start rule. -/
def State.keyDue (s : State) (i : Nat) (b : OpenBlock) : Bool :=
  let r := s.strm i
  !r.started || r.forceKey || b.keyed || decide (s.st.keyEvery i ≤ r.keyDist + 1)

/-- OR of a block's tags. -/
def OpenBlock.tagOrs (b : OpenBlock) : Nat := if b.words then 0 else b.tags.foldl tagOr 0

/-- The stored bytes of a coded block (R288, R321). -/
def State.storedBytes (s : State) (i : Nat) (b : OpenBlock) (interim restored takeover : Bool) (keyDist : Nat) (c : Coded) : List Byte :=
  let flags := (if keyDist = 0 then flagKey else 0) ||| (if b.words then flagReducer else 0) ||| (if takeover then flagTakeover else 0)
    ||| (if b.split then flagSplit else 0)
  let coding := c.method * 64 + boolBit b.eng 5 + boolBit b.words 4 + boolBit interim 3 + boolBit restored 2
  blockBytes i flags b.seq coding b.tagOrs b.w3 b.tFirst b.samples.length keyDist s.blockHub c.payload

/-- A block coded under records that say `plain`, `preds` and, but for an interim block (R292), the neighbour `near`. -/
def State.codeUnder (s : State) (plain : Bool) (preds : Nat) (near : Option Nat) (b : OpenBlock) (start : CodeState) : Coded :=
  codeBlock plain preds b start (s.neighbourValues near b)

/-- A final block coded under the stream's committed records. -/
def State.codeNow (s : State) (i : Nat) (b : OpenBlock) (start : CodeState) : Coded :=
  s.codeUnder (s.st.cmpPlain i) (s.st.predMask i) (s.st.near i) b start

/-- A verification mismatch (R303): counted, a fault event, N_CMP_MISMATCH at most once per stream per cadence epoch. -/
def State.mismatch (s : State) (i : Nat) (b : OpenBlock) : State :=
  let s := s.upStrm i fun r => { r with escapes := satInc r.escapes }
  let s := (s.upPath fun p => { p with lastMismatch := i * 2 ^ 18 }).faultEvent 8 i
  let epoch := s.now / Config.epochNs
  if (s.strm i).mismatchEpoch = some epoch then s
  else (s.upStrm i fun r => { r with mismatchEpoch := some epoch }).notify (s.st.streamQ i) 0x44 i 0 (argT b.seq)

/-- The context slot's word, and the slot as a starting history (R302). -/
def State.ctxWord (s : State) (i w : Nat) : Word := s.path.ctx.get 0 (i * 16 + w)
/-- A word of a slot is written; a snapshot alias reads the slot poisoned from then on (R421). -/
def State.setCtx (s : State) (i w : Nat) (v : Word) : State :=
  let s := s.upPath fun p => { p with ctx := p.ctx.set 0 (i * 16 + w) v }
  if s.snap.image.isNone ∨ s.snap.ctxStale.contains i then s else s.upSnap fun x => { x with ctxStale := i :: x.ctxStale }
def State.ctxCode (s : State) (i : Nat) : CodeState :=
  { n := (s.ctxWord i 0).field 17 16, kprev := (s.ctxWord i 0).field 12 8, h1 := signedOf 32 (s.ctxWord i 1).toNat
    h2 := signedOf 32 (s.ctxWord i 2).toNat, h3 := signedOf 32 (s.ctxWord i 3).toNat }

/-- The coding state saved after a block (R302). -/
def State.saveCtx (s : State) (i : Nat) (b : OpenBlock) (c : CodeState) (keyDist : Nat) : State :=
  let ws : List Word :=
    [wordOf (i * 2 ^ 18 + c.n * 2 ^ 16 + c.kprev * 2 ^ 8 + 1), wordOf (unsignedOf 32 c.h1), wordOf (unsignedOf 32 c.h2),
     wordOf (unsignedOf 32 c.h3), wordOf (b.seq % 2 ^ 32), wordOf (b.seq / 2 ^ 32 % 65536 * 65536 + keyDist), wordOf b.w3]
  forEach ((List.range 7).zip ws) s fun s e => s.setCtx i e.1 e.2

/-- Two descriptions of one block: an interim block and its final block. -/
def OpenBlock.sameAs (a b : OpenBlock) : Bool := a.w3 == b.w3 && a.seq == b.seq && a.tFirst == b.tFirst

/-! ### The block means of a tandem (R373) -/

/-- The mean of a block's values in binary64, INVALID samples left out: none without a sample. -/
def OpenBlock.mean64 (b : OpenBlock) : Option Q :=
  let ok := b.samples.filter (fun x => !hasTag x.2 tagInvalid)
  if ok.isEmpty then none
  else div64 (ok.foldl (fun acc x => add64 acc (if b.eng then of32 x.1 else some (Q.ofInt (rawOf x.1)))) (some (Q.ofInt 0))) (some (Q.ofInt ok.length))

/-- Two block means differ by more than agree_tol × F / 65,536 (R373). A mean that is no number belongs to a skipped block. -/
def Struct.disagree (st : Struct) (i : Nat) (eng : Bool) (a b : Word) : Bool :=
  match of32 a, of32 b with
  | some x, some y =>
    let d := x.sub y
    let f := if eng then st.fsG0 i else Q.ofInt (2 ^ 23)
    (f.mul { num := st.agreeTol, den := 65536 }).less { num := d.num.natAbs, den := d.den }
  | _, _ => false

/-- The two means of one block meet: a disagreeing block is counted in TDM_DISAGREE (R379), and after `agree_n` disagreeing blocks in a row a fault event of class 9 and N_TANDEM_DISAGREE (R373). -/
def State.compareMeans (s : State) (i seq : Nat) (own partner : Word) : State :=
  if (of32 own).isNone ∨ (of32 partner).isNone then s
  else if !s.st.disagree i (s.st.eng i) own partner then s.upTdm fun t => { t with agreeRun := t.agreeRun.set 0 i 0 }
  else
    let n := s.tdm.agreeRun.get 0 i + 1
    let s := s.upTdm fun t => { t with disagree := satInc t.disagree }
    if s.st.agreeN ≤ n then
      let s := s.upTdm fun t => { t with agreeRun := t.agreeRun.set 0 i 0 }
      (s.faultEvent 9 i).notify s.st.tandemQ 0x5D i (seq % 65536) (own.toNat + partner.toNat * 2 ^ 32)
    else s.upTdm fun t => { t with agreeRun := t.agreeRun.set 0 i n }

/-- The mean of a final block of a spoke look (R371, R373): it waits to be sent in a MEANS section, and is compared where the partner's mean
has come. A block to be skipped for its tags has the quiet NaN for its mean, which tells the partner so (log entry 44, DESIGN CHOICE). -/
def State.ownMean (s : State) (i : Nat) (b : OpenBlock) : State :=
  if 12288 ≤ i ∨ !s.st.tandemOn then s
  else
    let skip := b.tagOrs &&& (tagInvalid + tagUnsettled + tagMended) != 0
    let m := (out32 (if skip then none else b.mean64)).1
    let s := s.upTdm fun t => { t with meansDue := t.meansDue ++ [(i, b.w3, b.seq, m)] }
    if !s.st.agreeEn then s
    else
      match s.tdm.means.find? (fun x => x.1 == i && x.2.1 == b.w3 && x.2.2.1 == b.seq) with
      | some x =>
        (s.upTdm fun t => { t with means := eraseFirst (fun y => decide (y = x)) t.means }).compareMeans i b.seq m x.2.2.2
      | none => s.upTdm fun t => { t with ownMeans := t.ownMeans ++ [(i, b.w3, b.seq, m)] }

/-- A block closes (R238, R296, R298): it is coded from the carried history, from a restored context (R302), or as a key block (R299); and it
waits for its placement, where the form stored is verified (R303, R304). A block of an unstored stream is dropped (R237). -/
def closeBlock (i : Nat) (s : State) : State :=
  let r := s.strm i
  match r.ready with
  | [] => s
  | b :: rest =>
    -- the block before it waits for its placement
    if s.glb.state = .reset ∨ r.closed.any (fun x => !x.interim) then s
    else if !s.st.stored i then s.upStrm i fun x => { x with ready := rest }
    else
      let read := s.readBuffer
      let s := read.1
      let b := { b with poisoned := b.poisoned || read.2 }
      let key := s.keyDue i b
      let base := match r.restoreFrom with | none => r.code | some c => c
      let restored := !key && r.restoreFrom.isSome
      let start := if key then base.keyed else base
      let dist := if key then 0 else r.keyDist + 1
      let c := s.codeNow i b start
      let undo : Option Unrestored := if !restored then none else
        let c := s.codeNow i b r.code
        some { escaped := decide (c.method = 2), start := r.code, bytes := s.storedBytes i b false false r.takeoverMark dist c
               code := { r.code.pushAll b.values with kprev := c.kprev } }
      let mark := r.takeoverMark
      let bytes := s.storedBytes i b false restored mark dist c
      let s := s.upStrm i fun x =>
        { x with ready := rest, started := true, forceKey := false, takeoverMark := false, restores := [], restoreFrom := none, saves := []
                 keyDist := dist, code := { start.pushAll b.values with kprev := c.kprev }
                 coded := (b.w3, b.seq, b.tFirst, b.eng, b.values) :: x.coded
                 closed := x.closed.filter (b.sameAs ·.block) ++
                   [{ block := b, interim := false, key := key, restored := restored, escaped := decide (c.method = 2), start := base
                      keyDist := dist, bytes := bytes, takeover := mark, saves := r.saves, restores := r.restores
                      plain := s.st.cmpPlain i, preds := s.st.predMask i, near := s.st.near i, undo := undo }] ++
                   x.closed.filter (!b.sameAs ·.block) }
      s.ownMean i b

/-- BLOCK_CLOSE (R296). -/
def execBlockClose (stream : Fin 16384) (s : State) : Ans := act s (closeBlock stream.val)

/-- The final block that closes next is a key block with its interim blocks (R299, R301): the open one, or else the next to open. -/
def StreamRec.keyOpen (r : StreamRec) : StreamRec :=
  match r.block with
  | none => { r with keyNext := true }
  | some b =>
    if b.samples.isEmpty then { r with keyNext := true }
    else
      { r with block := some { b with keyed := true }
               closed := r.closed.map (fun c => if c.interim && b.sameAs c.block then { c with block := { c.block with keyed := true } } else c) }

/-- The final block that closes next is a key block where the stream begins or its F_COMPRESS record changes (R299, R304): one that waits to close, or else
the open one or the next to open. -/
def StreamRec.keyClosing (r : StreamRec) : StreamRec :=
  match r.ready with
  | [] => r.keyOpen
  | b :: bs => { r with ready := { b with keyed := true } :: bs }

/-- FLUSH (R301): the samples of the open block so far are closed as an interim block; with key the next final block and its interim blocks
are key blocks. That effect of `key` also follows where the command completes with EMPTY, so a reserved operand bit is not refused then either (R12, R530). -/
def flush (s : State) : State :=
  s.start 0x40 fun c s =>
    let i := c.a 13 0
    if 13056 ≤ i then s.complete c 0x13
    else if !s.st.stored i ∨ !s.st.streamExists i then s.complete c 0x15
    else
      let s := if c.a 31 31 = 1 then (if c.reservedClear then s else s.undefinedUse 12).upStrm i StreamRec.keyOpen else s
      match (s.strm i).block with
      | none => s.complete c 0x14
      | some b =>
        if b.samples.isEmpty then s.complete c 0x14
        else
          (s.upStrm i fun r =>
            { r with closed := r.closed ++ [{ block := b, interim := true, key := false, restored := false, escaped := false, start := {}
                                              keyDist := 0, bytes := [], takeover := false, saves := [], restores := []
                                              plain := s.st.cmpPlain i, preds := s.st.predMask i, near := none }] }).complete c 0

/-- FLUSH (R301). -/
def execFlush (s : State) : Ans := act s flush

/-- SAVE_CONTEXT (R302): a long command that completes when the next final block has been placed. -/
def saveContext (s : State) : State :=
  s.start 0x41 fun c s =>
    let i := c.a 13 0
    if !s.st.stored i ∨ !s.st.streamExists i then s.complete c 0x15
    else (s.upStrm i fun r => { r with saves := r.saves ++ [c] }).startLong c (.saveContext i)

/-- SAVE_CONTEXT (R302). -/
def execSaveContext (s : State) : Ans := act s saveContext

/-- RESTORE_CONTEXT (R302): the next final block that closes starts from the slot as it stands now; the command completes with that block. -/
def restoreContext (s : State) : State :=
  s.start 0x42 fun c s =>
    let i := c.a 13 0
    if !s.st.stored i ∨ !s.st.streamExists i then s.complete c 0x15
    else if !(s.ctxWord i 0).flag 0 ∨ (s.ctxWord i 0).field 31 18 ≠ i then s.complete c 0x16
    else (s.upStrm i fun r => { r with restores := r.restores ++ [c], restoreFrom := some (s.ctxCode i) }).startLong c (.restoreContext i)

/-- RESTORE_CONTEXT (R302). -/
def execRestoreContext (s : State) : Ans := act s restoreContext

/-- The long command of an item completes, if it is still in progress. -/
def State.finishItem (s : State) (c : CmdItem) (status : Nat) (result : Nat := 0) : State :=
  match s.cmd.long.find? (fun l => decide (l.item = c)) with
  | none => s
  | some l => s.endLong l status result

end Sys2Proof.Machine
end

