-- ==== Sys2Proof/Machine/Spool.lean ====
section
/-! DEFINITION. The central store's stalls (10_spool_and_captures): placement (R238), acknowledgement (R240), records and pins (R241 to
R252), watermarks (R253, R254), rewind marks and `REPLAY` (R255, R256), gap records (R257). -/

namespace Sys2Proof.Machine

/-! ### Pins, reservations and levels -/

/-- The list without repeats. -/
def distinct (l : List Nat) : List Nat := l.foldl (fun acc x => if acc.contains x then acc else acc ++ [x]) []

/-- An entry names blocks (R242): it is neither MISSING, EMPTY nor DISCARDED. -/
def RecEntry.live (e : RecEntry) : Bool := !e.missing && !e.empty && !e.discarded

/-- A final block lies in the range of an entry (R246, R301). -/
def RecEntry.names (e : RecEntry) (b : HeldBlock) : Bool :=
  e.live && !b.interim && e.stream == b.stream && e.w3 == b.w3 && decide (e.first ≤ b.seq) && decide (b.seq ≤ e.last)

/-- Every record of the hub with its record-set stall. -/
def State.allRecords (s : State) : List (Nat × Record) := s.path.stalls.flatMap (fun e => e.2.records.map (fun r => (e.1, r)))

/-- The entries of the records that satisfy `p`. -/
def State.entriesWhere (s : State) (p : Record → Bool) : List RecEntry := (s.allRecords.filter (fun r => p r.2)).flatMap (·.2.entries)

/-- Pages of a stream stall that hold a block named by one of a list of entries. -/
def Stall.pagesOf (k : Stall) (es : List RecEntry) : List Nat :=
  distinct ((k.held.filter (fun b => es.any (fun e => e.names b))).map (·.page))

/-- The pages of a stall that the unreleased records satisfying `p` pin (R246, R250): blocks count wherever a commit of F_STREAM has put them. -/
def State.pinnedBy (s : State) (k : Nat) (p : Record → Bool) : List Nat :=
  if s.st.stallKind k = 2 then distinct (((s.stall k).records.filter (fun r => decide (r.state ≠ .released) && p r)).map (·.page))
  else (s.stall k).pagesOf (s.entriesWhere (fun r => decide (r.state ≠ .released) && p r))

/-- The pinned pages of a stall (R246, R250). -/
def State.pinned (s : State) (k : Nat) : List Nat := s.pinnedBy k (fun _ => true)

/-- STL_PINNED: what R247 tests, with the records that satisfy `p` left out. -/
def State.pinLoadBut (s : State) (k : Nat) (p : Nat → Record → Bool) : Nat :=
  let rs := s.allRecords.filter (fun r => !p r.1 r.2)
  let of (q : RecState) : List RecEntry := (rs.filter (fun r => decide (r.2.state = q))).flatMap (·.2.entries)
  ((s.stall k).pagesOf (of .complete)).length
    + ((of .opened).filter (fun e => e.live && decide (e.stall = some k))).foldl (fun n e => n + e.reserve) 0

/-- STL_PINNED (R262). -/
def State.pinLoad (s : State) (k : Nat) : Nat := s.pinLoadBut k (fun _ _ => false)

/-- The stream a stall's blocks are sent for: the stream assigned to it (R237). -/
def State.sentStall (s : State) (k : Nat) : Bool := match s.st.streamIn k with | none => false | some i => s.st.sent i

/-- STL_LEVEL (R253). -/
def State.level (s : State) (k : Nat) : Nat :=
  let pins := s.pinned k
  if s.st.stallKind k = 1 ∧ s.sentStall k then
    let q := s.stall k
    (distinct (pins ++ (q.finals.filter (fun b => !q.isAcked b)).map (·.page))).length
  else pins.length

/-- A watermark in pages (R253). -/
def Struct.mark (st : Struct) (k i : Nat) : Nat := st.pages k * st.wmPct k i / 100

/-- One watermark latch sees a level (R254). -/
def Latch.see (l : Latch) (mark level now : Nat) : Latch :=
  if l.latched then { l with peak := max l.peak level, below := decide (level < mark) }
  else if l.below && decide (mark ≤ level) && decide (0 < mark) then { latched := true, below := false, time := now, peak := level }
  else { l with below := decide (level < mark) }

/-- The latches of a stall after any change of its level (R254): N_WATERMARK at each first crossing. -/
def State.checkWater (s : State) (k : Nat) : State :=
  if s.st.stallKind k ≠ 1 ∧ s.st.stallKind k ≠ 2 then s
  else
    let n := s.level k
    let w := s.stall k
    let warn := w.warn.see (s.st.mark k 0) n s.now
    let crit := w.crit.see (s.st.mark k 1) n s.now
    let s := s.upStall k fun x => { x with warn := warn, crit := crit }
    let s := if warn.latched && !w.warn.latched then s.notify (s.st.stallQ k) 0x3C k 0 (argT s.now) else s
    if crit.latched && !w.crit.latched then s.notify (s.st.stallQ k) 0x3C k 1 (argT s.now) else s

/-- The stalls that a record touches, and its own record-set stall. -/
def State.touched (s : State) (k : Nat) (r : Record) : List Nat :=
  distinct (k :: r.entries.filterMap (·.stall) ++
    (s.path.stalls.filter (fun e => e.2.held.any (fun b => r.entries.any (fun x => x.names b)))).map (·.1))

/-- The latches of several stalls. -/
def State.checkWaters (s : State) (ks : List Nat) : State := forEach ks s fun s k => s.checkWater k

/-! ### Pages (R238, R240, R256) -/

/-- The next page of a stall in ascending order, wrapping, that no record satisfying `p` pins (R238); none when every page is. -/
def State.nextPageBut (s : State) (k : Nat) (p : Record → Bool) : Option Nat :=
  let base := s.st.basePage k
  let n := s.st.pages k
  let pins := s.pinnedBy k p
  let from_ := match (s.stall k).page with | none => 0 | some p => p + 1 - base
  (numbersFrom from_ n).map (fun j => base + j % max 1 n) |>.find? (fun p => !pins.contains p)

/-- The next page for blocks of a stall: the reuse of a page comes before a record opening of the same tick (R249). -/
def State.blockPage (s : State) (k : Nat) : Option Nat := s.nextPageBut k (fun r => decide (r.openTick ≠ s.tick))

/-- The addresses of a page. -/
def pageBase (p : Nat) : Nat := p * 65536

/-- The unacknowledged blocks of a sent stream that a page reuse overwrites (R240): counted, `overrun` set, N_SPOOL_OVERRUN at most once per
stall per 100 ms, and the ones not yet sent become gap records. A hub that does not publish queues none (R358). Blocks overwritten within 100 ms of a
N_SPOOL_OVERRUN are told by the one that the next overwriting after them posts (R240 does not say when; log entry 19, DESIGN CHOICE). -/
def State.overrun (s : State) (k i : Nat) (lost : List HeldBlock) : State :=
  match lost with
  | [] => s
  | b :: _ =>
    let w := s.stall k
    let unsent := (lost.filter (fun x => !x.sent)).map (·.ord)
    let gaps := if s.publishes then (distinct (unsent)).foldl (fun gs o => gs ++ s.gapsFor w o (o + 1) 1) [] else []
    let merged := gaps.foldl (fun acc g => match acc.getLast? with
      | some h => if h.stream = g.stream ∧ h.w3 = g.w3 ∧ h.last + 1 = g.first then acc.dropLast ++ [{ h with last := g.last }] else acc ++ [g]
      | none => [g]) ([] : List Gap)
    let n := lost.length
    let s := s.upStall k fun x =>
      { x with overrun := true, overruns := satAdd x.overruns n, overNote := x.overNote + n
               overFirst := if x.overNote = 0 then b.seq else x.overFirst, gaps := x.gaps ++ merged }
    if s.passedOpt (s.stall k).overTick (100 * Config.ticksPerMs) then
      (s.notify (s.st.streamQ i) 0x38 i (s.stall k).overNote (argT (s.stall k).overFirst)).upStall k fun x =>
        { x with overNote := 0, overTick := some s.tick }
    else s

/-- The marks whose blocks lie on a page that is reused (R256). -/
def State.overtake (s : State) (k : Nat) (gone : List HeldBlock) : State :=
  forEach (List.range 4) s fun s m =>
    let x := (s.stall k).marks.getD m {}
    if x.valid && gone.any (fun b => b.stream == x.stream && b.w3 == x.w3 && b.seq == x.seq) then
      (s.upStall k fun w => { w with marks := updAt w.marks m (fun y => { y with valid := false, overtaken := true }) }).notify
        (s.st.stallQ k) 0x3D k m (argT x.seq)
    else s

/-- Starting to fill a page discards everything that it held (R238, R249): blocks, or descriptors of released records. -/
def State.startPage (s : State) (k p : Nat) : State :=
  let w := s.stall k
  let gone := w.finals.filter (fun b => b.page == p)
  let s := match w.finals.filter (fun b => b.page == p && !w.isAcked b) with
    | [] => s
    | b :: r => if s.st.sent b.stream ∧ s.st.stallOf b.stream = k then s.overrun k b.stream (b :: r) else s
  let s := s.overtake k gone
  s.upStall k fun x =>
    { x with page := some p, offset := 0, held := x.held.filter (fun b => b.page != p)
             records := x.records.filter (fun r => !(decide (r.state = .released) && r.page == p)) }

/-- Bytes laid into the central store from an address that a sector begins (R238); the 32-byte sector that they end in is filled with zeros (R435). -/
def State.layBytes (s : State) (addr : Nat) (bs : List Byte) (poison : Bool := false) : State :=
  s.writeWords (addr / 8) (dwordsOf (ceilDiv bs.length 32 * 4) bs) poison

/-- Bytes read from the central store and whether any codeword of them is bad (R434). -/
def State.fetchBytes (s : State) (addr n : Nat) : State × List Byte × Bool :=
  let r := s.readWords (addr / 8) (ceilDiv n 8)
  (r.1, (bytesOfDwords r.2.1).take n, r.2.2)

/-! ### Descriptors (R251, R252) -/

def RecState.code : RecState → Nat
  | .opened => 0 | .complete => 1 | .released => 2

/-- A full time as two words, low then high. -/
def timeBytes (t : Nat) : List Byte := leBytes 8 t

/-- An entry's words (R252). -/
def RecEntry.bytes (e : RecEntry) : List Byte :=
  let flags := boolBit e.shortPre 0 + boolBit e.missing 1 + boolBit e.discarded 2 + boolBit e.split 3 + boolBit e.empty 4
  leBytes 4 (e.stream * 2 ^ 18 + flags) ++ leBytes 4 e.w3 ++ leBytes 4 (e.first % 2 ^ 32) ++
    leBytes 4 (e.first / 2 ^ 32 % 65536 * 65536 + e.last / 2 ^ 32 % 65536) ++ leBytes 4 (e.last % 2 ^ 32) ++ leBytes 4 (satField 32 e.preUs)

/-- The header's delivered pre-trigger: the least over the entries but MISSING and EMPTY ones and the later ones of a stream (R243). -/
def leastPre : List Nat → List RecEntry → Option Nat
  | _, [] => none
  | seen, e :: es =>
    let rest := leastPre (e.stream :: seen) es
    if e.missing || e.empty || seen.contains e.stream then rest
    else match rest with | none => some e.preUs | some n => some (min n e.preUs)

/-- Bytes of a descriptor with `n` entries, rounded up to a multiple of 64 (R250). -/
def descriptorSize (n : Nat) : Nat := ceilDiv (448 + 24 * n) 64 * 64

/-- The descriptor of a record (R251): 16 words, 32 retrigger slots, the entries. -/
def State.descriptor (s : State) (r : Record) : List Byte :=
  let flags := boolBit (r.entries.any (·.shortPre)) 0 + boolBit r.extended 1 + boolBit r.remote 2 + boolBit r.streamLost 3
  let slot (p : Nat) : List Byte := timeBytes (p / 65536) ++ leBytes 4 (p % 65536 * 65536)
  let slots := (r.retrigPoints.take 32).flatMap slot
  leBytes 4 r.number ++ leBytes 4 (s.lnk.rim.addr * 2 ^ 20 + r.unit * 2 ^ 14 + r.state.code * 2 ^ 12 + r.entries.length % 4096) ++
    timeBytes (r.point / 65536) ++ leBytes 4 (r.point % 65536 * 65536 + satTo 0xFFFF r.retriggers) ++ timeBytes (r.winStart / 65536) ++
    timeBytes (r.winEnd / 65536) ++ leBytes 4 (satField 32 ((leastPre [] r.entries).getD 0)) ++
    leBytes 4 (r.originHub * 2 ^ 20 + r.originUnit * 2 ^ 14 + flags) ++ timeBytes r.doneTime ++ leBytes 4 r.size ++ leBytes 8 0 ++
    slots ++ List.replicate (384 - slots.length) 0 ++ r.entries.flatMap RecEntry.bytes

/-- A record changed and its descriptor rewritten (R241). -/
def State.rewrite (s : State) (k : Nat) (r : Record) : State :=
  let s := s.upStall k fun x => { x with records := x.records.map (fun q => if q.number = r.number then r else q) }
  let bs := s.descriptor r
  s.layBytes r.addr (bs ++ List.replicate (r.room - bs.length) 0)

/-- Room for a descriptor of `size` bytes in a record-set stall, by the rules of R238 (R250): its page and address; none where every page is pinned. -/
def State.placeDescriptor (s : State) (k size : Nat) : Option (State × Nat × Nat) :=
  let w := s.stall k
  let here := match w.page with | none => none | some p => if w.offset + size ≤ 65536 then some (p, w.offset, false) else none
  let place := match here with | some x => some x | none => (s.nextPageBut k (fun _ => true)).map (fun p => (p, 0, true))
  place.map fun (p, off, fresh) =>
    ((if fresh then s.startPage k p else s).upStall k fun x => { x with page := some p, offset := off + size }, p, pageBase p + off)

/-- A record with the entries `es`: its descriptor stays where it was placed, or is placed anew where it has outgrown that room (R250; log entry 45). -/
def State.refit (s : State) (k : Nat) (r : Record) (es : List RecEntry) : Option (State × Record) :=
  let size := descriptorSize es.length
  if size ≤ r.room then some (s, { r with entries := es, size := size })
  else (s.placeDescriptor k size).map fun (s, p, a) => (s, { r with entries := es, size := size, room := size, page := p, addr := a })

/-! ### Entries (R242, R243) -/

/-- A stretch of a stream's blocks under one w3: its first number and the time of that block's first sample, and for a stretch that has
ended its last number and the fine time before which its samples lie. -/
structure Stretch where
  w3 : Nat
  first : Nat
  start : Nat
  ended : Option (Nat × Nat)
  deriving DecidableEq, Repr, Inhabited

/-- A time in which a stream had samples under one w3, as fine times: from when on, and until when where it is over. -/
structure Life where
  w3 : Nat
  start : Nat
  stop : Option Nat
  deriving DecidableEq, Repr, Inhabited

/-- A stream goes on from era `e` into the next era `f`: at the same rate, and with no index skipped by a forward step (R50, R82). -/
def Era.goesOn (e f : Era) (i : Nat) : Bool := f.st.streamRuns i && f.st.streamW3 i == e.st.streamW3 i && decide (f.start ≤ f.prevEnd)

/-- The lives of a stream in eras, oldest first. -/
def livesIn (i : Nat) : List Era → List Life
  | [] => []
  | e :: r =>
    if !e.st.streamRuns i then livesIn i r
    else
      let new (stop : Option Nat) : Life := { w3 := e.st.streamW3 i, start := e.start * 65536, stop := stop }
      match r, livesIn i r with
      | f :: _, x :: xs => if e.goesOn f i then { x with start := e.start * 65536 } :: xs else new (some (f.prevEnd * 65536)) :: x :: xs
      | f :: _, [] => [new (some (f.prevEnd * 65536))]
      | [], _ => [new none]

/-- A written run lies in a life. -/
def Run.livesIn (r : Run) (x : Life) : Bool :=
  x.w3 == r.w3 && decide (x.start < r.stop) && (match x.stop with | none => true | some t => decide (r.stop ≤ t + 65536))

/-- The stretches of a stream, oldest first: the runs written, the newest of which goes on as long as its life, and after it the lives that no block is
written of yet. -/
def State.stretches (s : State) (i : Nat) : List Stretch :=
  let runs := s.writtenRuns i
  let lives := livesIn i s.cfg.eras.reverse
  let fresh (x : Life) : Stretch :=
    let b := s.blockAt i x.w3 x.start
    { w3 := x.w3, first := b.1, start := b.2, ended := x.stop.map (fun t => (s.blockEnd i x.w3 (t - 1) - 1, t)) }
  let old (r : Run) : Stretch := { w3 := r.w3, first := r.first, start := r.time * 65536, ended := some (r.last, r.stop) }
  match runs.getLast? with
  | none => lives.map fresh
  | some r =>
    runs.dropLast.map old ++
      (match lives.dropWhile (fun x => !r.livesIn x) with
        | [] => old r :: lives.map fresh
        | x :: xs => { old r with ended := x.stop.map (fun t => (max r.last (s.blockEnd i r.w3 (t - 1) - 1), t)) } :: xs.map fresh)

/-- Whole µs from a sample to the trigger point; 0 for a sample after it (R243). -/
def preOf (point first : Nat) : Nat := (point - first) / (65536 * 1000)

/-- The held block of the least number, of a split one its first part. -/
def leastSeq : List HeldBlock → Option HeldBlock
  | [] => none
  | h :: r => match leastSeq r with
    | none => some h
    | some x => if x.seq < h.seq ∨ (x.seq = h.seq ∧ x.tFirst < h.tFirst) then some x else some h

/-- The blocks of a stream that are yet to be written as final blocks: open, waiting or closed. -/
def State.unwritten (s : State) (i : Nat) : List OpenBlock :=
  let r := s.strm i
  r.block.toList ++ r.ready ++ (r.closed.filter (fun c => !c.interim)).map (·.block)

/-- The entry of a stretch in a window [a, b], if a sample of it lies there (R242, R243), with the number of its blocks for its reservation. Where every
block of it was written before the decision and none of them is held, no block of the window is left to name or still to come, and the entry is EMPTY with
SHORT_PRE (R243 does not say; log entry 45, DESIGN CHOICE). -/
def State.entryOf (s : State) (i : Nat) (x : Stretch) (point a b : Nat) : Option RecEntry :=
  let held := (s.heldOf i).filter (fun h => h.w3 == x.w3)
  let runs := (s.writtenRuns i).filter (fun r => r.w3 == x.w3)
  let at_ := s.blockAt i x.w3 a
  let first := max at_.1 x.first
  let t := max at_.2 x.start
  let last := match x.ended with | none => s.blockEnd i x.w3 b - 1 | some e => min (s.blockEnd i x.w3 b - 1) e.1
  let inside := decide (t ≤ b) && (match x.ended with | none => true | some e => decide (t < e.2)) && decide (first ≤ last)
  if !inside then none
  else
    -- the block that holds the first index, or of a split one the part that does (R191)
    let here (seq tFirst : Nat) : Bool := seq == first && decide (tFirst * 65536 ≤ t)
    let waits := (s.unwritten i).any (fun b => b.w3 == x.w3 && here b.seq b.tFirst)
    let gone := runs.any (fun r => decide (r.first ≤ first) && decide (first ≤ r.last)) && !held.any (fun h => here h.seq h.tFirst) && !waits
    let inWindow := held.filter (fun h => decide (first ≤ h.seq) && decide (h.seq ≤ last))
    let begins : Nat × Nat :=
      if !gone then (first, t)
      else match leastSeq inWindow with
        | some h => (h.seq, h.tFirst * 65536)
        | none =>
          let next := (runs.filter (fun r => decide (r.first ≤ last))).foldl (fun n r => max n (r.last + 1)) first
          (next, s.seqTime i x.w3 next * 65536)
    let n := last + 1 - begins.1
    some { stream := i, stall := some (s.st.stallOf i), w3 := x.w3, first := begins.1, last := last, shortPre := gone, missing := false
           discarded := false, split := false, empty := decide (last < begins.1), preUs := preOf point begins.2
           reserve := n, done := false }

/-- Two neighbouring entries of one w3 as one (R242): where the stream has skipped numbers its blocks still carry one w3. -/
def RecEntry.joined (e f : RecEntry) : RecEntry :=
  if e.empty then { f with shortPre := true }
  else { e with last := f.last, reserve := e.reserve + (f.last + 1 - max f.first (e.last + 1)) }

/-- Entries in the order of their stretches, those of one w3 that follow each other joined. -/
def joinEntries : List RecEntry → List RecEntry
  | [] => []
  | e :: r =>
    match joinEntries r with
    | [] => [e]
    | f :: fs => if f.w3 = e.w3 then e.joined f :: fs else e :: f :: fs

/-- The entries of a stream in a window by its stretches (R242), each with the number of its blocks for its reservation. -/
def State.windowEntries (s : State) (i point a b : Nat) : List RecEntry :=
  joinEntries ((s.stretches i).filterMap (fun x => s.entryOf i x point a b))

/-- An entry as a record holds it (R242, R247): with the pages reserved for its blocks, or EMPTY. -/
def State.settled (s : State) (e : RecEntry) : RecEntry :=
  if e.empty then { e with first := 0, last := 0, preUs := 0, done := true, reserve := 0 }
  else { e with reserve := ceilDiv e.reserve (65536 / s.st.bMax e.stream) + 1 }

/-- Two entries of a stream carry SPLIT (R242). -/
def splitPair (es : List RecEntry) : List RecEntry := if 2 ≤ es.length then es.map (fun e => { e with split := true }) else es

/-- The entry of a stream that has no block to name in a window: MISSING or EMPTY (R242). -/
def blankEntry (i w3 : Nat) (stall : Option Nat) (missing : Bool) : RecEntry :=
  { stream := i, stall := stall, w3 := w3, first := 0, last := 0, shortPre := false, missing := missing, discarded := false, split := false
    empty := !missing, preUs := 0, reserve := 0, done := true }

/-- The entries of a stream in a window (R242): one MISSING, one EMPTY, or one for each w3, a pair carrying SPLIT. -/
def State.entriesOf (s : State) (i point a b : Nat) : List RecEntry :=
  if !s.st.stored i ∨ !s.st.streamExists i then [blankEntry i 0 none true]
  else
    match s.windowEntries i point a b with
    | [] => [blankEntry i (s.st.streamW3 i) (some (s.st.stallOf i)) false]
    | es => splitPair (es.map s.settled)

/-- Entries recomputed for a record whose window or streams have changed (R221, R242, R248): what a block range already begins with stays, and a stream
that has no sample in the window any more is EMPTY. -/
def State.entriesAgain (s : State) (r : Record) (b : Nat) : List RecEntry :=
  (distinct (r.entries.map (·.stream))).flatMap (fun i =>
    let old := r.entries.filter (fun e => e.stream == i)
    if old.any (fun e => e.missing || e.discarded) then old
    else
      let again (n : RecEntry) : RecEntry :=
        match old.find? (fun o => !o.empty && o.w3 == n.w3 && decide (n.first ≤ o.first) && decide (o.first ≤ n.last)) with
        | none => n
        | some o => { n with first := o.first, shortPre := o.shortPre, preUs := o.preUs, stall := o.stall, reserve := n.reserve - (o.first - n.first) }
      match s.windowEntries i r.point r.winStart b with
      | [] => old.take 1 |>.map (fun e => { e with first := 0, last := 0, preUs := 0, empty := true, done := true, reserve := 0, split := false })
      | es => splitPair (es.map (fun e => s.settled (again e))))

/-! ### Completion (R244) -/

/-- The block that holds an entry's last index has been written, in whichever stall the stream has come to, and both parts of it where a format
change split it. -/
def State.entryDone (s : State) (e : RecEntry) : Bool :=
  if !e.live then true
  else
    let rs := (s.runsOf e.stream).filter (fun r => r.w3 == e.w3)
    let waits := (s.unwritten e.stream).any (fun b => b.w3 == e.w3 && b.seq == e.last)
    rs.any (fun q => decide (e.last < q.last)) || (rs.any (fun q => decide (e.last ≤ q.last)) && !waits)

/-- An OPEN record all of whose entries are done becomes COMPLETE (R244): its reservation ends, N_RECORD_DONE. -/
def State.tryComplete (s : State) (k : Nat) (r : Record) : State :=
  let es := r.entries.map (fun e => if s.entryDone e then { e with done := true } else e)
  if r.state ≠ .opened then s
  else if es.all (·.done) then
    let s := s.rewrite k { r with state := .complete, entries := es.map (fun e => { e with reserve := 0 }), doneTime := s.now, doneTick := s.tick }
    (s.notify (s.st.trQ r.unit) 0x39 k r.entries.length (argSX s.now r.number)).checkWaters (s.touched k r)
  else if es = r.entries then s
  else s.upStall k fun x => { x with records := x.records.map (fun q => if q.number = r.number then { r with entries := es } else q) }

/-- The open records that a new block of stream `i` may complete. -/
def State.completeRecords (s : State) (i : Nat) : State :=
  forEach (s.allRecords.filter (fun r => decide (r.2.state = .opened) && r.2.entries.any (fun e => e.stream == i))) s
    fun s r => s.tryComplete r.1 r.2

/-! ### Opening and extending a record (R218, R241, R247, R248, R250) -/

/-- The stalls in which new entries do not fit (R247), the records that satisfy `p` being left out of the present load. -/
def State.overPins (s : State) (es : List RecEntry) (p : Nat → Record → Bool) : Option Nat :=
  (distinct ((es.filter RecEntry.live).filterMap (·.stall))).find? (fun k =>
    let need := ((es.filter (fun e => e.live && decide (e.stall = some k))).foldl (fun n e => n + e.reserve) 0)
    decide (s.st.pages k * s.st.pinShare k / 100 < s.pinLoadBut k p + need))

/-- A stream set whose entries exceed 2,048 is an undefined use (R242, R264). -/
def State.manyEntries (s : State) (es : List RecEntry) : State := if 2048 < es.length then s.undefinedUse 264 else s

/-- A refusal (R247, R250): STL_REFUSED of the stall that failed, and N_CAPTURE_REFUSED. -/
def State.refuseCapture (s : State) (k u point : Nat) : State :=
  (s.upStall k fun x => { x with refused := satInc x.refused }).notify (s.st.trQ u) 0x3B k u (argT (point / 65536))

/-- A record opens (R241, R242, R247), or is refused: the answer is its number. `remote`: a REMOTE event contributed, from hub and unit
`origin`. -/
def State.openRecord (s : State) (u point a b : Nat) (remote : Option (Nat × Nat)) : State × Option Nat :=
  let k := s.st.trRecSet u
  let es := (s.st.trStreams u).flatMap (fun i => s.entriesOf i point a b)
  let s := s.manyEntries es
  match s.overPins es (fun _ _ => false) with
  | some bad => (s.refuseCapture bad u point, none)
  | none =>
    let size := descriptorSize es.length
    let n := (s.stall k).nextRecord
    match s.placeDescriptor k size with
    | none => (s.refuseCapture k u point, none)
    | some (s, p, a') =>
      let r : Record :=
        { number := n, unit := u, state := .opened, point := point, winStart := a, winEnd := b, retriggers := 0, retrigPoints := []
          originHub := (remote.getD (s.lnk.rim.addr, u)).1, originUnit := (remote.getD (s.lnk.rim.addr, u)).2, extended := false
          remote := remote.isSome, streamLost := false, doneTime := 0, doneTick := 0, entries := es, page := p
          addr := a', size := size, room := size, openTick := s.tick }
      let s := s.upStall k fun x => { x with records := x.records ++ [r], nextRecord := (n + 1) % 2 ^ 32 }
      let s := (s.rewrite k r).checkWaters (s.touched k r)
      (s.tryComplete k r, some n)

/-- A record's window end moves (R221, R248): false when the reservation fails, or when its descriptor has outgrown its room and finds none (log entry
45). A COMPLETE record is OPEN again (R244). -/
def State.extendRecord (s : State) (k : Nat) (r : Record) (b : Nat) : State × Bool :=
  let es := s.entriesAgain r b
  let s := s.manyEntries es
  match s.overPins es (fun q x => q == k && x.number == r.number) with
  | some _ => (s, false)
  | none =>
    let r := { r with winEnd := b, extended := true, state := .opened, doneTime := 0 }
    match s.refit k r (es.map (fun e => if e.live then { e with done := false } else e)) with
    | none => (s, false)
    | some (s, r) =>
      let s := (s.rewrite k r).checkWaters (s.touched k r)
      (s.tryComplete k r, true)

/-- A record is RELEASED: its pins end and its descriptor is rewritten (R245). -/
def State.releaseRec (s : State) (k : Nat) (r : Record) : State :=
  (s.rewrite k { r with state := .released }).checkWaters (s.touched k r)

/-- The record of a number in a record-set stall that is still held, the newest. -/
def State.recordOf (s : State) (k n : Nat) : Option Record := (s.stall k).records.reverse.find? (fun r => r.number == n)

/-! ### Placement (R238, R239, R299) -/

/-- Bytes of the sectors that a block takes (R238). -/
def sectors (n : Nat) : Nat := ceilDiv n 32 * 32

/-- A block of `size` bytes fits in the rest of the page being filled. -/
def Stall.fits (k : Stall) (size : Nat) : Bool := k.page.isSome && decide (k.offset + sectors size ≤ 65536)

/-- No final block has been written into the page being filled. -/
def Stall.freshPage (k : Stall) : Bool := match k.page with | none => true | some p => !k.finals.any (fun b => b.page == p)

/-- Records opened at this very tick, those complete since then among them, name their blocks as they are held now (R243, R249): a page has just been
reused. -/
def State.reopened (s : State) : State :=
  forEach (s.allRecords.filter (fun r => decide (r.2.state ≠ .released) && decide (r.2.openTick = s.tick))) s fun s r =>
    let es := (distinct (r.2.entries.map (·.stream))).flatMap (fun i => s.entriesOf i r.2.point r.2.winStart r.2.winEnd)
    let es := if r.2.state = .opened then es else es.map (fun e => { e with done := true, reserve := 0 })
    match s.refit r.1 r.2 es with
    | none => s
    | some (s, q) => s.rewrite r.1 q

/-- The fine time just after a block's last sample: its period follows from w3. A reducer block belongs to one instant. -/
def OpenBlock.stopFine (b : OpenBlock) : Nat :=
  b.tFirst * 65536 + (if b.words then 0 else (b.samples.length - 1) * (Config.epochNs * 65536) / max 1 b.w3) + 65536

/-- A block written at the present place, or at the start of the next page. -/
def State.writeBlock (s : State) (k i : Nat) (b : OpenBlock) (interim key : Bool) (bytes : List Byte) (newPage : Bool) : State :=
  let turn := newPage || !(s.stall k).fits bytes.length
  let s := if turn then (match s.blockPage k with | none => s | some p => (s.startPage k p).reopened) else s
  let w := s.stall k
  let p := w.page.getD (s.st.basePage k)
  let x : Run := { stream := i, w3 := b.w3, first := b.seq, last := b.seq, time := b.tFirst, stop := b.stopFine }
  let runs := if interim then w.runs else runsAfter x (decide (b.tFirst ≠ s.blockStart i b.w3 b.seq / 65536)) w.runs
  let again := match w.runs.getLast? with | none => false | some r => r.stream == i && r.w3 == b.w3 && r.last == b.seq
  let ord := if !interim && again then w.nextOrd - 1 else w.nextOrd
  let s := s.layBytes (pageBase p + w.offset) bytes b.poisoned
  let s := s.upStall k fun x =>
    { x with page := some p, offset := x.offset + sectors bytes.length, runs := runs
             nextOrd := if interim || again then x.nextOrd else x.nextOrd + 1
             held := x.held ++ [{ page := p, addr := pageBase p + w.offset, size := bytes.length, stream := i, seq := b.seq, w3 := b.w3
                                  tFirst := b.tFirst, key := key, interim := interim, split := b.split, sent := false, again := false
                                  ord := ord }] }
  (s.followAck i).checkWater k

/-- The gap record with START_UNKNOWN before the first block of a sent stream after a reset (R258). A stream that is not sent, and a hub that does not
publish, leave it owing. -/
def State.resetGap (s : State) (k i : Nat) (b : OpenBlock) : State :=
  if (s.strm i).gapReset && s.st.sent i && s.publishes then
    let s := s.upStrm i fun r => { r with gapReset := false }
    if b.seq = 0 then s else s.upStall k fun x => { x with gaps := x.gaps ++ [unknownGap i b.w3 b.seq] }
  else s

/-- An interim block (R301): coded from the history, and with the key distance, of its final block. The form stored is the one that is verified, and a key
block is counted (R303, R304, R306). -/
def State.placeInterim (s : State) (k i : Nat) (c : ClosedBlock) : State :=
  let s := s.resetGap k i c.block
  let r := s.strm i
  let final := r.closed.find? (fun x => !x.interim && c.block.sameAs x.block)
  let base := match final with | some f => f.start | none => (match r.restoreFrom with | none => r.code | some x => x)
  let keyed := match final with | some f => f.key | none => s.keyDue i c.block
  let key := keyed || (s.stall k).freshPage
  let restored := !key && (match final with | some f => f.restored | none => r.restoreFrom.isSome)
  let mark := match final with | some f => f.takeover | none => r.takeoverMark
  let form (key : Bool) : Coded × List Byte :=
    let dist := if key then 0 else (match final with | some f => f.keyDist | none => r.keyDist + 1)
    let x := s.codeUnder c.plain c.preds none c.block (if key then base.keyed else base)
    (x, s.storedBytes i c.block true (restored && !key) mark dist x)
  let fits := (s.stall k).fits (form key).2.length
  let key := key || !fits
  let x := form key
  let s := if x.1.method = 2 then s.mismatch i c.block else s
  let s := if key then s.upStrm i fun r => { r with keys := satInc r.keys } else s
  s.writeBlock k i c.block true key x.2 (!fits)

/-- A final block: coded again as a key block where it does not fit in the rest of the page, or is the first final block of its page
(R238, R299, R304). -/
def State.placeFinal (s : State) (k i : Nat) (c : ClosedBlock) : State :=
  let w := s.stall k
  let fits := w.fits c.bytes.length
  let s := s.resetGap k i c.block
  let recode := !c.key && (!fits || w.freshPage)
  let x := s.codeUnder c.plain c.preds c.near c.block c.start.keyed
  let bytes := if recode then s.storedBytes i c.block false false c.takeover 0 x else c.bytes
  let key := c.key || recode
  let s := if (if recode then decide (x.method = 2) else c.escaped) then s.mismatch i c.block else s
  let s := s.writeBlock k i c.block false key bytes (!fits)
  let s := if !c.again then s else s.upStall k fun x =>
    { x with held := x.held.map (fun b => if !b.sent && !b.interim && b.stream == i && b.w3 == c.block.w3 && b.seq == c.block.seq then { b with again := true } else b) }
  let s := s.upStrm i fun r =>
    { r with keys := if key then satInc r.keys else r.keys, plainBytes := r.plainBytes + c.block.plain.length
             storedBytes := r.storedBytes + (bytes.length - 40)
             keyDist := if recode then 0 else r.keyDist, code := if recode then { r.code with kprev := x.kprev } else r.code }
  let r := s.strm i
  let s := forEach c.saves s fun s x => (s.saveCtx i c.block r.code r.keyDist).finishItem x 0
  let s := forEach c.restores s fun s x => s.finishItem x (if key then 0x17 else 0)
  s.completeRecords i

/-- A closed block is written into its stall within 50 µs of its closing (R238). A stream that a commit has left without a stall loses it
(R237). -/
def placeBlock (i : Nat) (s : State) : State :=
  let r := s.strm i
  match r.closed with
  | [] => s
  | c :: rest =>
    let early := c.interim && (match r.ready with | [] => false | b :: _ => !c.block.sameAs b)
    if s.glb.state = .reset ∨ early then s
    else
      let k := s.st.stallOf i
      let s := s.upStrm i fun r => { r with closed := rest }
      if !s.st.stored i then forEach (c.saves ++ c.restores) s fun s x => s.finishItem x 0x15
      else if c.interim then s.placeInterim k i c
      else s.placeFinal k i c

/-- BLOCK_PLACE (R238). -/
def execBlockPlace (stream : Fin 16384) (s : State) : Ans := act s (placeBlock stream.val)

/-! ### Acknowledgement (R240, R255, R326) -/

/-- Numbers of a stream are acknowledged; the level and the latches follow. -/
def State.ackNumbers (s : State) (i w3 first last : Nat) : State :=
  let k := s.st.stallOf i
  match (s.stall k).ordOf i w3 first, (s.stall k).ordOf i w3 last with
  | some a, some b => (s.upStall k fun x => x.ackRange a (b + 1)).checkWater k
  | _, _ => s

/-- The newest run of a stream that holds a number, and whether that number had been sent when a commit ended its delivery. -/
def State.endedSent (s : State) (i seq : Nat) : Bool :=
  match (s.writtenRuns i).reverse.find? (fun r => r.holds i r.w3 seq) with
  | none => false
  | some r => match r.unsent with | none => true | some n => decide (seq < n)

/-- ACK_BLOCKS (R255, R264): the named block and every one before it. Naming a block not yet sent is undefined, be it one that a commit or a page reuse
has kept from being sent, or any of a LOCAL stream; of one that was sent and whose delivery a commit has ended (R259) nothing is left to acknowledge. -/
def ackBlocks (s : State) : State :=
  s.start 0x34 fun c s =>
    let i := c.a 13 0
    let seq := c.b 47 0
    let k := s.st.stallOf i
    let w := s.stall k
    match w.runs.reverse.find? (fun r => r.holds i r.w3 seq) with
    | none => (if s.endedSent i seq then s else s.undefinedUse 264).complete c 0
    | some r =>
      match w.ordOf i r.w3 seq with
      | none => s.complete c 0
      | some o =>
        let unsent := match r.unsent with | some n => decide (n ≤ seq) | none => decide (max w.sentTop w.ackedOrd ≤ o)
        let s := if unsent then s.undefinedUse 264 else s
        ((s.upStall k fun x => x.ackThrough o).checkWater k).complete c 0

/-- ACK_BLOCKS (R255). -/
def execAckBlocks (s : State) : Ans := act s ackBlocks

/-! ### Records: release, expiry, reading -/

/-- A COMPLETE record is released by itself when `max_age_s` seconds have passed since its completion (R245): N_RECORD_EXPIRED. -/
def expireRecord (k n : Nat) (s : State) : State :=
  match s.recordOf k n with
  | none => s
  | some r =>
    let age := s.st.maxAgeS k
    if r.state = .complete ∧ s.st.stallKind k = 2 ∧ age ≠ 0 ∧ s.passed r.doneTick (age * Config.ticksPerS) then
      (s.releaseRec k r).notify (s.st.stallQ k) 0x3A k 0 (argSX s.now n)
    else s

/-- RELEASE_RECORD (R245, R255): an expiry that is due at the same tick takes effect first. -/
def releaseRecord (s : State) : State :=
  s.start 0x33 fun c s =>
    let k := c.a 31 20
    let s := expireRecord k (c.b 31 0) s
    match s.recordOf k (c.b 31 0) with
    | none => s.complete c 0x11
    | some r =>
      match r.state with
      | .opened => s.complete c 0x10
      | .released => s.complete c 0x11
      | .complete => (s.releaseRec k r).complete c 0

/-- RELEASE_RECORD (R245). -/
def execReleaseRecord (s : State) : Ans := act s releaseRecord

/-- RECORD_EXPIRY (R245). -/
def execRecordExpiry (k : Fin 4096) (record : Nat) (s : State) : Ans := act s (expireRecord k.val record)

/-! ### Watermarks -/

/-- The host writes 1 to latch bits of STL_STATUS[k] (R254, R263): 27 warn, 26 crit; bit 25 clears `overrun`. -/
def rearmWater (k : Nat) (v : Word) (s : State) : State :=
  let again (l : Latch) (i : Nat) : Latch :=
    { latched := false, below := decide (s.level k < s.st.mark k i), time := l.time, peak := 0 }
  s.upStall k fun x =>
    { x with warn := if v.flag 27 then again x.warn 0 else x.warn, crit := if v.flag 26 then again x.crit 1 else x.crit
             overrun := x.overrun && !v.flag 25 }

/-- WATERMARK_REARM (R254): the write to STL_STATUS[k]; a non-zero reserved field is an undefined use (R12). -/
def execWatermarkRearm (k : Fin 4096) (value : Word) (s : State) : Ans :=
  act s fun s => occurs s (s.glb.state ≠ .reset) fun s => rearmWater k.val value (if value.field 20 0 = 0 then s else s.undefinedUse 12)

/-! ### Marks and replays (R255, R256) -/

/-- SET_MARK (R255). -/
def setMark (s : State) : State :=
  s.start 0x30 fun c s =>
    let k := c.a 31 20
    let m := c.a 1 0
    let seq := c.b 47 0
    let w := s.stall k
    let block := if seq = 2 ^ 48 - 1 then w.finals.getLast?
      else (w.runOf seq).bind (fun r => (w.parts r.stream r.w3 seq).head?)
    match block with
    | none => s.complete c 0x0E
    | some b =>
      (s.upStall k fun x => { x with marks := updAt x.marks m (fun _ => { valid := true, overtaken := false, stream := b.stream, seq := b.seq, w3 := b.w3 }) }).complete c 0

/-- SET_MARK (R255). -/
def execSetMark (s : State) : Ans := act s setMark

/-- CLEAR_MARK (R255). -/
def clearMark (s : State) : State :=
  s.start 0x31 fun c s =>
    (s.upStall (c.a 31 20) fun x => { x with marks := updAt x.marks (c.a 1 0) (fun _ => {}) }).complete c 0

/-- CLEAR_MARK (R255). -/
def execClearMark (s : State) : Ans := act s clearMark

/-- The oldest held block of a stall, on whichever page it lies (R239, R256). -/
def Stall.oldestBlock (k : Stall) : Option HeldBlock := k.finals.head?

/-- The gap record that a replay from an overtaken mark sends first (R256). -/
def State.markGap (s : State) (w : Stall) (m : Mark) : Option Gap :=
  if !m.overtaken then none
  else
    let last := match w.oldestBlock with
      | some b => if b.stream = m.stream ∧ b.w3 = m.w3 ∧ m.seq < b.seq then b.seq - 1 else m.seq
      | none => m.seq
    some { stream := m.stream, w3 := m.w3, first := m.seq, last := last, cause := 4, startUnknown := false
           tFirst := s.seqTime m.stream m.w3 m.seq }

/-- The block numbers of a list of runs, in order. -/
def numbersOf (rs : List Run) : List (Nat × Nat × Nat) := rs.flatMap (fun r => (numbersFrom r.first r.length).map (fun q => (r.stream, r.w3, q)))

/-- The numbers of a replay's range (R255): `n` numbers of the stream in the order produced from (i, w3, seq) on; from a number that the stall does
not know, `n` numbers under that w3. -/
def Stall.range (w : Stall) (i w3 seq n : Nat) : List (Nat × Nat × Nat) :=
  match w.ordOf i w3 seq with
  | some o => (numbersOf ((w.spans o w.nextOrd).filter (fun r => r.stream == i))).take n
  | none => (numbersFrom seq n).map (fun q => (i, w3, q))

/-- REPLAY (R255, R256): a long command; its blocks and gap records are handed over by BULK_SEND or RING_ENTRY_WRITE. -/
def replay (s : State) : State :=
  s.start 0x32 fun c s =>
    let k := c.a 31 20
    if s.st.stallKind k ≠ 1 then s.complete c 0x0F
    else
      let w := s.stall k
      let i := match w.finals.getLast? with | some b => b.stream | none => (s.st.streamIn k).getD 0
      let n := c.a 15 0
      let m := w.marks.getD (c.a 17 16) {}
      let newestW3 := match w.finals.getLast? with | none => s.st.streamW3 i | some b => b.w3
      let job : Option Gap × List (Nat × Nat × Nat) :=
        if c.a 18 18 = 1 then
          if m.valid then (none, w.range m.stream m.w3 m.seq n)
          else (s.markGap w m, match w.oldestBlock with | none => [] | some b => w.range b.stream b.w3 b.seq n)
        else
          let seq := c.b 47 0
          (none, match w.runOf seq with | some r => w.range r.stream r.w3 seq n | none => w.range i newestW3 seq n)
      let of := match job with | (some g, _) => g.stream | (none, b :: _) => b.1 | (none, []) => i
      (s.upStall k fun x => { x with replays := x.replays ++
        [{ item := c, toHost := decide (c.a 19 19 = 1), ring := s.st.streamRing of, gap := job.1, todo := job.2 }] }).startLong c (.replay k)

/-- REPLAY (R255). -/
def execReplay (s : State) : Ans := act s replay

/-- A replay whose whole range has been handed over completes (R385). -/
def replayEnd (k : Nat) (s : State) : State :=
  match (s.stall k).replays.find? (fun j => j.gap.isNone && j.todo.isEmpty) with
  | none => s
  | some j => (s.upStall k fun x => { x with replays := eraseFirst (fun q => decide (q = j)) x.replays }).finishItem j.item 0

/-- REPLAY_DONE (R255). -/
def execReplayDone (k : Fin 4096) (s : State) : Ans := act s (replayEnd k.val)

/-- READ_RECORD (R388): the descriptor as it stands at execution, for the rim or a BLOCK ring; NOT_FOUND where it cannot be read (R434). -/
def readRecord (s : State) : State :=
  s.start 0x35 fun c s =>
    let k := c.a 31 20
    let host := decide (c.a 19 19 = 1)
    let ring := c.a 5 0
    if s.st.stallKind k ≠ 2 then s.complete c 0x0F
    else
      match s.recordOf k (c.b 31 0) with
      | none => s.complete c 0x11
      | some r =>
        let cfg := (s.ring ring).cfg
        if host && (!cfg.flag 31 || cfg.field 30 30 == 0) then s.complete c 0x13
        else
          let f := s.fetchBytes r.addr r.size
          if f.2.2 then f.1.complete c 0x11
          else
            (f.1.upStall k fun x =>
              { x with reads := x.reads ++ [{ item := c, toHost := host, ring := ring, bytes := f.2.1, handed := 0, sent := 0 }] }).startLong c (.readRecord k)

/-- READ_RECORD (R388). -/
def execReadRecord (s : State) : Ans := act s readRecord

/-- A READ_RECORD whose last byte has been sent completes with the descriptor's size (R387, R388). -/
def readRecordEnd (k : Nat) (s : State) : State :=
  match (s.stall k).reads.find? (fun r => decide (r.bytes.length ≤ r.sent)) with
  | none => s
  | some r => (s.upStall k fun x => { x with reads := eraseFirst (fun q => decide (q = r)) x.reads }).finishItem r.item 0 r.bytes.length

/-- READ_RECORD_DONE (R388). -/
def execReadRecordDone (k : Fin 4096) (s : State) : Ans := act s (readRecordEnd k.val)

end Sys2Proof.Machine
end

