-- ==== Sys2Proof/Machine/Handover.lean ====
section
/-! DEFINITION. What a stall hands over to the rim or to a host ring (R240, R255, R258, R326, R363): gap records, held blocks, replays and
re-sends, each as the bytes that leave. -/

namespace Sys2Proof.Machine

/-- The bytes of one thing handed over, and what they carry. -/
abbrev Handed := List Byte × SentItem

/-- A gap record as it leaves. -/
def State.handGap (s : State) (g : Gap) (flags : Nat) : Handed := (gapBytes g flags s.serviceAddr, .gap g)

/-- A gap record that names one block number. -/
def State.gapOf (s : State) (i w3 first last cause : Nat) : Gap :=
  { stream := i, w3 := w3, first := first, last := last, cause := cause, startUnknown := false, tFirst := s.seqTime i w3 first }

/-- A held block read for sending, with flags added (R321); one that cannot be read is replaced by a gap record with cause MEMORY, an interim
block by nothing (R258). -/
def State.handBlock (s : State) (b : HeldBlock) (flags : Nat) : State × List Handed :=
  let r := s.fetchBytes b.addr b.size
  if r.2.2 then
    (r.1, if b.interim then [] else [s.handGap { s.gapOf b.stream b.w3 b.seq b.seq 3 with tFirst := b.tFirst } 0])
  else (r.1, [(withFlags r.2.1 flags, if b.interim then .interim b.stream b.w3 b.seq b.addr else .final b.stream b.w3 b.seq b.tFirst)])

/-- Several held blocks in order: both parts of a split block go together (R191). -/
def State.handBlocks (s : State) (bs : List HeldBlock) (flags : Nat) : State × List Handed :=
  bs.foldl (fun (a : State × List Handed) b =>
    let r := a.1.handBlock b flags
    (r.1, a.2 ++ r.2)) (s, [])

/-- The first of the stall's blocks that has not been sent: in the order of writing, which is that of production (R240). -/
def Stall.nextUnsent (k : Stall) : Option HeldBlock := k.held.find? (fun b => !b.sent)

/-- The stall has something to hand over in its stream's order. -/
def Stall.waits (k : Stall) : Bool := !k.gaps.isEmpty || k.nextUnsent.isSome

/-- The place of a gap record in the order of its stream: START_UNKNOWN leads. -/
def Stall.gapPlace (k : Stall) (g : Gap) : Nat :=
  if g.startUnknown then 0 else match k.ordOf g.stream g.w3 g.first with | none => 0 | some o => o + 1

/-- The queued gap record that comes first in that order. -/
def Stall.firstGap (k : Stall) : Option Gap :=
  k.gaps.foldl (fun best g => match best with
    | none => some g
    | some b => if k.gapPlace g < k.gapPlace b then some g else some b) none

/-- What goes next: the first gap record, unless the next block was produced before what it names (R258). -/
def Stall.gapLeads (k : Stall) : Option Gap :=
  match k.firstGap, k.nextUnsent with
  | some g, some b => if b.ord + 1 < k.gapPlace g then none else some g
  | g, _ => g

/-- A commit has left a gap record of the stream for the same destination, the rim or a host ring: it goes before anything newer (R258). -/
def State.owesGap (s : State) (i : Nat) (toHost : Bool) (ring : Nat) : Bool :=
  s.path.stalls.any (fun e => e.2.oldGaps.any (fun g => g.1 == toHost && (!toHost || g.2.1 == ring) && g.2.2.stream == i))

/-- Of two gap records that commits have left in different stalls for one stream and destination, the earlier goes first (R258). -/
def State.olderGap (s : State) (g : Bool × Nat × Gap) : Bool :=
  s.path.stalls.any (fun e => e.2.oldGaps.any (fun h =>
    h.1 == g.1 && (!g.1 || h.2.1 == g.2.1) && h.2.2.stream == g.2.2.stream && decide (h.2.2.tFirst < g.2.2.tFirst)))

/-- The next gap record or block of a stall, in the order of its stream's numbers (R240, R258); a block sent after a takeover carries RESEND
(R363). -/
def State.handNext (s : State) (k : Nat) : State × List Handed :=
  let w := s.stall k
  match w.gapLeads with
  | some g =>
    let top := match w.ordOf g.stream g.w3 g.last with | none => 0 | some o => o + 1
    (s.upStall k fun x => { x with gaps := eraseFirst (fun q => decide (q = g)) x.gaps, sentTop := max x.sentTop top }, [s.handGap g 0])
  | none =>
    match w.nextUnsent with
    | none => (s, [])
    | some b =>
      let s := s.upStall k fun x =>
        { x with held := x.held.map (fun q => if q = b then { q with sent := true, again := false } else q)
                 sentTop := if b.interim then x.sentTop else max x.sentTop (b.ord + 1) }
      s.handBlock b (if b.again then flagResend else 0)

/-- The next part of a stall's oldest replay to the rim or to the host (R255, R256): blocks carry REPLAY, each number no longer held goes as a gap
record with cause OVERWRITTEN, which so counts once as a block does (DEDUCED; log entry 44). -/
def State.handReplay (s : State) (k : Nat) (toHost : Bool) : State × List Handed :=
  let w := s.stall k
  match w.replays.find? (fun j => decide (j.toHost = toHost) && (j.gap.isSome || !j.todo.isEmpty)) with
  | none => (s, [])
  | some j =>
    let put (s : State) (j' : ReplayJob) : State := s.upStall k fun x => { x with replays := x.replays.map (fun q => if q = j then j' else q) }
    match j.gap, j.todo with
    | some g, _ => (put s { j with gap := none }, [s.handGap g flagReplay])
    | none, [] => (s, [])
    | none, (i, w3, seq) :: r =>
      match w.parts i w3 seq with
      | [] => (put s { j with todo := r }, [s.handGap (s.gapOf i w3 seq seq 1) flagReplay])
      | bs => (put s { j with todo := r }).handBlocks bs flagReplay

/-- Something that was handed over from stall `k` before, read afresh: with the flags given, or a gap record with cause OVERWRITTEN for a block
that is no longer held (R326, R403). `whole`: both parts of a split block go (R191), otherwise the one part that had gone. -/
def State.handFresh (s : State) (k : Nat) (x : SentItem) (flags : Nat) (whole : Bool) : State × List Handed :=
  match x with
  | .record => (s, [])
  | .gap g => (s, [s.handGap g flags])
  | .interim i w3 seq addr =>
    s.handBlocks ((s.stall k).held.filter (fun b => b.interim && b.stream == i && b.w3 == w3 && b.seq == seq && b.addr == addr)) flags
  | .final i w3 seq part =>
    let bs := (s.stall k).parts i w3 seq
    let r := s.handBlocks (if whole then bs else bs.filter (fun b => b.tFirst == part)) flags
    if bs.any (fun b => b.tFirst == part) then r else (r.1, s.handGap (s.gapOf i w3 seq seq 1) 0 :: r.2)

/-- The stream whose number a thing handed over carries. -/
def SentItem.stream : SentItem → Nat
  | .final i _ _ _ => i
  | .interim i _ _ _ => i
  | .gap g => g.stream
  | .record => 0

/-- A final block, or a part of one, of a number. -/
def SentItem.isNumber (i w3 seq : Nat) : SentItem → Bool
  | .final x y z _ => x == i && y == w3 && z == seq
  | _ => false

/-- Two things that one re-send covers: the same, or parts of one block number (R191). -/
def SentItem.sameAs (x y : SentItem) : Bool := decide (x = y) || (match x with | .final i w3 seq _ => y.isNumber i w3 seq | _ => false)

/-- What was sent is a block that is still held. -/
def SentItem.isBlock (x : SentItem) (b : HeldBlock) : Bool :=
  match x with
  | .final i w3 seq _ => !b.interim && b.stream == i && b.w3 == w3 && b.seq == seq
  | .interim i w3 seq addr => b.interim && b.stream == i && b.w3 == w3 && b.seq == seq && b.addr == addr
  | _ => false

/-- The stall that holds what was sent: a replay may have sent it from one that its stream has left (R255, R259). -/
def State.stallHolding (s : State) (x : SentItem) : Nat :=
  match s.path.stalls.find? (fun e => e.2.held.any x.isBlock) with | some e => e.1 | none => s.st.stallOf x.stream

/-- A lost frame's contents again, with RESEND (R326). -/
def State.handAgain (s : State) (x : SentItem) : State × List Handed := s.handFresh (s.stallHolding x) x flagResend true

/-! ### Acknowledgement of what was handed over (R240, R326) -/

/-- Every part of a block number lies in an acknowledged frame (R191, R326): what waits to be written, to be sent, to be sent again or to be acknowledged
is none of it, but for parts that have been delivered already. -/
def State.numberDone (s : State) (i w3 seq : Nat) : Bool :=
  let r := s.lnk.rim
  let open_ (x : SentItem) : Bool := x.isNumber i w3 seq && !r.delivered.contains x
  !((s.stall (s.st.stallOf i)).parts i w3 seq).any (fun b => !b.sent && !r.delivered.contains (.final i w3 seq b.tFirst)) &&
    !r.bulkOut.any (fun f => f.items.any open_) && !r.resend.any open_ &&
    !(s.unwritten i).any (fun b => b.w3 == w3 && b.seq == seq)

/-- One thing has arrived at the head-end. -/
def State.ackItem (s : State) (x : SentItem) : State :=
  match x with
  | .final i w3 seq _ =>
    let s := s.upRim fun r => { r with delivered := if r.delivered.contains x then r.delivered else r.delivered ++ [x] }
    if s.numberDone i w3 seq then
      (s.upRim fun r => { r with delivered := r.delivered.filter (fun y => !y.isNumber i w3 seq) }).ackNumbers i w3 seq seq
    else s
  | .gap g => if g.startUnknown then s else s.ackNumbers g.stream g.w3 g.first g.last
  | _ => s

end Sys2Proof.Machine
end

