-- ==== Sys2Proof/Machine/Rim.lean ====
section
/-! DEFINITION. The rim (13_rim_protocol): heartbeats and reach (R309), addresses (R311, R312), acknowledgement and re-sending (R326, R327),
credits (R329), BULK frames (R310, R329) and the transmit order of a port (R323). -/

namespace Sys2Proof.Machine

/-! ### Heartbeats and reach (R309) -/

/-- What the LINK_HB sent on a port states: the reach of the other port. -/
def State.hbContent (s : State) (p : Port) : Bool × Nat := let q := s.rimPort (otherPort p); (q.reach, q.hops)

/-- A LINK_HB leaves a port whose lane is ACTIVE: every 100 µs, and when its content has changed (R309). The manual gives it no destination
address; it goes one hop as a broadcast (log entry 20). -/
def linkHbOut (p : Port) (s : State) : State :=
  let c := s.hbContent p
  let due := match (s.rimPort p).hbSent with
    | none => true
    | some x => s.passed x.1 (us 100) || decide (x.2 ≠ c)
  if s.portActive p && due then
    (s.upPort p fun r => { r with hbSent := some (s.tick, c) }).sendTime p 4095 (.linkHb c.1 (decide (p = .e)) c.2)
  else s

/-- LINK_HB_SEND (R309). -/
def execLinkHbSend (port : Port) (s : State) : Ans := act s (linkHbOut port)

/-- A LINK_HB has arrived (R309): reach and hops of its port, or crossed wiring, which is noted when it is first seen. -/
def linkHbIn (p : Port) (heFar fromE : Bool) (hops : Nat) (s : State) : State :=
  if !s.portActive p then s
  else if fromE = decide (p = .e) then
    let fresh := !(s.rimPort p).miswired
    let s := (s.upPort p fun r => { r with miswired := true, hbTick := some s.tick }).upRim fun r => { r with miswired := true }
    (if fresh then s.notify s.st.rimQ 0x48 0 (portNum p) (argT s.now) else s).loseReach p
  else
    let had := (s.rimPort p).reach
    let s := s.upPort p fun r => { r with miswired := false, hbTick := some s.tick, hbFar := heFar, hbHops := hops }
    if heFar then
      let s := s.upPort p fun r => { r with reach := true, hops := min 0xFF (hops + 1) }
      if had then s else s.rimUpdate
    else s.loseReach p

/-- LINK_HB (R309). -/
def execLinkHb (port : Port) (heFar fromE : Bool) (hops : Byte) (s : State) : Ans := act s (linkHbIn port heFar fromE hops.toNat)

/-- No LINK_HB with `he_far` within `reach_us` (R309). -/
def reachOver (p : Port) (s : State) : State :=
  if s.passedOpt (s.rimPort p).hbTick (us s.st.reachUs) then s.loseReach p else s

/-- REACH_TIMEOUT (R309). -/
def execReachTimeout (port : Port) (s : State) : Ans := act s (reachOver port)

/-! ### Addresses (R311, R312) -/

/-- The hub's address changes at once and every association is reset (R311); a lane in EXCHANGE states the new one (R345). -/
def State.changeAddr (s : State) (a src : Nat) : State :=
  let same := decide (a = s.lnk.rim.addr)
  let s := (if same then s else s.resetAssocs).upRim fun r => { r with addr := a, addrSrc := src }
  if same then s else forEach ((List.range 4).filter (fun x => decide ((s.lane x).state = .exchange))) s State.sayCapability

/-- A HELLO leaves by both ports every 100 ms (R312, R317). -/
def helloOut (s : State) : State :=
  if s.glb.state ≠ .reset ∧ s.passedOpt s.lnk.rim.helloTick (ms 100) then
    let r := s.lnk.rim
    let f : OutFrame := { cls := 2, src := r.addr, dst := 4095, seq := 0, cut := false
                          body := .hello Config.chipId r.session r.addrSrc r.e.hops r.w.hops }
    ((s.upRim fun r => { r with helloTick := some s.tick }).enqueue .e f).enqueue .w f
  else s

/-- HELLO_SEND (R312). -/
def execHelloSend (s : State) : Ans := act s helloOut

/-- A HELLO has arrived (R312, R324): a new session of its source resets the window of its EXPRESS frames; the hub's own address with
another chip identity drops the hub to 4,095, an autonomous act (R463). -/
def helloIn (src : Nat) (chip : DWord) (session : Nat) (s : State) : State :=
  if s.glb.state = .reset then s
  else
    let known := s.lnk.rim.sessions.get 0 src
    let s := s.upRim fun r =>
      { r with sessions := r.sessions.set 0 src (session + 1)
               expressSeen := if known ≠ 0 ∧ known ≠ session + 1 then r.expressSeen.set [] src [] else r.expressSeen }
    if src = s.lnk.rim.addr ∧ src ≠ 4095 ∧ chip ≠ Config.chipId then
      let s := s.notify s.st.rimQ 0x4B src 0 chip.toNat 1
      (s.changeAddr 4095 3).upRim fun r => { r with conflict := true }
    else s

/-- HELLO (R312). -/
def execHello (port : Port) (src : Nat) (chipId : DWord) (session : Half) (s : State) : Ans :=
  actIf (Instr.wf (.hello port src chipId session)) s (helloIn src chipId session.toNat)

/-- Enumeration (R311): an unassigned hub with `enum_ok` takes base + hop count, if that is an address. -/
def State.enumerated (s : State) (hop base : Nat) : State :=
  let a := base + hop
  if s.lnk.rim.addr = 4095 ∧ s.st.enumOk ∧ 0 < a ∧ a < 4095 then s.changeAddr a 1 else s

/-! ### Forwarding (R319, R320, R323) -/

/-- A frame forwarded out of a port: BULK frames through the 2 MiB buffer, where one that finds it full is discarded and counted. `cut`: its
reception broke off, so that it ends as a cut frame and counts as discarded. -/
def State.forward (s : State) (p : Port) (f : RimFrame) (cut : Bool) : State :=
  if !s.portActive p then s
  else
    let o : OutFrame := { cls := f.cls, src := f.src, dst := f.dst, seq := f.seq, body := .forwarded f, cut := cut, ack := if f.ackValid then some f.ack else none }
    let n := (FrameBody.forwarded f).frameBytes
    let s := if cut then s.upPort p fun r => { r with fwdDrop := satInc r.fwdDrop } else s
    match f.cls with
    | 3 =>
      if 2097152 < (s.rimPort p).forwardBytes + n then
        if cut then s else s.upPort p fun r => { r with fwdDrop := satInc r.fwdDrop }
      else s.upPort p fun r => { r with forward := r.forward ++ [o], forwardBytes := r.forwardBytes + n }
    | _ => s.enqueue p o

/-- ENUMERATE (R311): the frame with its hop count as received (R316); every hub forwards it (R319). -/
def enumerate (p : Port) (hop base : Nat) (s : State) : State :=
  if !s.portActive p ∨ 129 < hop then s
  else
    let h : IrpHeader := { type := 0x09, cls := 2, src := 0, hop := hop, dst := 4095, memberOnly := false, seq := 0, ack := none }
    let f : RimFrame := { bytes := h.frame (beBytes 4 (base * 2 ^ 20)), fcs := .good }
    (s.enumerated hop base).forward (otherPort p) f false

/-- ENUMERATE (R311). -/
def execEnumerate (port : Port) (hop base : Nat) (s : State) : Ans :=
  actIf (Instr.wf (.enumerate port hop base)) s (enumerate port hop base)

/-- SET_ADDRESS (R311): over SPI alone; with persist it is a long command that completes when the settings are written (R488). -/
def setAddress (s : State) : State :=
  s.start 0x48 fun c s =>
    let a := c.a 11 0
    if c.master ≠ .spi then s.complete c 0x19
    else if a = 0 then s.complete c 0x18
    else
      let s := s.changeAddr a (if a = 4095 then 3 else 2)
      if c.a 31 31 = 1 then s.startLong c .setAddress else s.complete c 0

/-- SET_ADDRESS (R311). -/
def execSetAddress (s : State) : Ans := act s setAddress

/-- CUT_FRAME (R320): reception of a frame that is being forwarded breaks off, so the outgoing frame is ended with the inverse of its FCS and
counts as discarded. -/
def cutFrame (p : Port) (s : State) : State :=
  let q := otherPort p
  if s.portActive q then (s.upPort q fun r => { r with fwdDrop := satInc r.fwdDrop }).emit (.cutFrame q) else s

/-- CUT_FRAME (R320). -/
def execCutFrame (port : Port) (s : State) : Ans := act s (cutFrame port)

/-! ### Acknowledgement (R325 to R327) -/

/-- Sequence `a` lies before `b` on the circle of 2^32. -/
def seqBefore (a b : Word) : Bool := let d := (b - a).toNat; decide (0 < d) && decide (d < 2 ^ 31)

/-- An acknowledgement of an association's frames below `next` (R326, R327): CONTROL frames leave the retransmit buffer; the contents of BULK
frames that are not lost are acknowledged. -/
def State.ackFrom (s : State) (src peer cls : Nat) (next : Word) : State :=
  match cls with
  | 2 => s.upRim fun r =>
      { r with ctl := r.ctl.filter (fun c => !(c.frame.src == src && c.frame.dst == peer && seqBefore c.frame.seq next)) }
  | 3 =>
    let hit (f : BulkFrame) : Bool := decide (peer = 0) && f.src == src && seqBefore f.seq next
    let passed := s.lnk.rim.bulkOut.filter (fun f => hit f && !f.lost)
    let s := s.upRim fun r => { r with bulkOut := r.bulkOut.filter (fun f => !hit f) }
    forEach (passed.flatMap (·.items)) s fun s x => s.ackItem x
  | _ => s

/-- The source address under which the hub numbers frames of a class to the head-end. -/
def State.ackSource (s : State) (cls : Nat) : Nat := if cls = 3 then s.dataSource else s.lnk.rim.addr

/-- ACK (R326). -/
def execAck (port : Port) (peer cls : Nat) (next : Word) (s : State) : Ans :=
  actIf (Instr.wf (.ack port peer cls next)) s fun s => s.ackFrom (s.ackSource cls) peer cls next

/-- A CONTROL frame is sent again, or abandoned after `ctl_tries` sendings (R327). -/
def State.ctlAgain (s : State) (c : CtlFrame) : State :=
  if s.st.ctlTries ≤ c.tries then
    (s.upRim fun r => { r with ctl := r.ctl.filter (fun x => decide (x ≠ c)), ctlLost := satInc r.ctlLost }).notify s.st.rimQ 0x4C c.frame.dst 2
      (argSX s.now c.frame.seq.toNat)
  else
    let f := { c.frame with ack := some (s.assoc c.frame.src c.frame.dst 2).expected }
    (s.upRim fun r => { r with ctl := r.ctl.map (fun x => if x = c then { x with tries := x.tries + 1, tick := s.tick } else x) }).enqueue s.toHead f

/-- A NAK names lost frames of an association (R326, R327). -/
def State.nakFrom (s : State) (src peer cls : Nat) (ranges : List (Word × Nat)) : State :=
  let named (q : Word) : Bool := ranges.any (fun r => decide ((q - r.1).toNat < r.2))
  match cls with
  | 2 =>
    forEach (s.lnk.rim.ctl.filter (fun c => c.frame.src == src && c.frame.dst == peer && named c.frame.seq)) s fun s c => s.ctlAgain c
  | 3 =>
    if peer ≠ 0 then s
    else
      let hit (f : BulkFrame) : Bool := f.src == src && named f.seq && !f.lost && !f.resent
      s.upRim fun r =>
        { r with resend := r.resend ++ (r.bulkOut.filter hit).flatMap (·.items)
                 bulkOut := r.bulkOut.map (fun f => if hit f then { f with lost := true } else f) }
  | _ => s

/-- NAK (R326). -/
def execNak (port : Port) (peer cls : Nat) (ranges : List (Word × Nat)) (s : State) : Ans :=
  actIf (Instr.wf (.nak port peer cls ranges)) s fun s => s.nakFrom (s.ackSource cls) peer cls ranges

/-- A BULK frame unacknowledged for `bulk_rto_ms`: its contents go again (R326). -/
def bulkTimeout (q : Word) (s : State) : State :=
  let hit (f : BulkFrame) : Bool := decide (f.seq = q) && !f.lost && !f.resent && s.passed f.tick (ms s.st.bulkRtoMs)
  s.upRim fun r =>
    { r with resend := r.resend ++ (r.bulkOut.filter hit).flatMap (·.items)
             bulkOut := r.bulkOut.map (fun f => if hit f then { f with resent := true } else f) }

/-- BULK_RTO (R326). -/
def execBulkRto (seq : Word) (s : State) : Ans := act s (bulkTimeout seq)

/-- A CONTROL frame unacknowledged for `ctl_rto_us` (R327). -/
def ctlTimeout (dst : Nat) (q : Word) (s : State) : State :=
  match s.lnk.rim.ctl.find? (fun c => c.frame.dst == dst && decide (c.frame.seq = q) && s.passed c.tick (us s.st.ctlRtoUs)) with
  | none => s
  | some c => s.ctlAgain c

/-- CTL_RTO (R327). -/
def execCtlRto (dst : Nat) (seq : Word) (s : State) : Ans := actIf (Instr.wf (.ctlRto dst seq)) s (ctlTimeout dst seq)

/-- An ACK frame acknowledges the CONTROL frames received from a peer (R327). It is a CONTROL frame of the association like any other (R325). -/
def ackOut (peer : Nat) (s : State) : State :=
  match s.lnk.rim.assocs.find? (fun a => a.peer == peer && a.cls == 2 && a.ackDue.isSome) with
  | none => s
  | some a => if s.ctlRoom a.src peer then s.sendControl a.src peer (.ackOf 2) else s

/-- ACK_SEND (R327). -/
def execAckSend (peer : Nat) (s : State) : Ans := actIf (Instr.wf (.ackSend peer)) s (ackOut peer)

/-! ### Credit (R329) -/

/-- The cadence epoch in progress: its instant. -/
def State.epochNow (s : State) : Nat := s.now / Config.epochNs * Config.epochNs

/-- A grant for one direction: for the epoch in progress it replaces the earlier one from its arrival, for the next it is held, for any other
it is discarded (R329). -/
def State.grant (s : State) (p : Port) (e n : Nat) : State :=
  if e = s.epochNow then s.upPort p fun r => { r with credit := n - r.sentEpoch, granted := true }
  else if e = s.epochNow + Config.epochNs then s.upPort p fun r => { r with nextGrant := some (e, n) }
  else s

/-- A CREDIT frame (R329): bytes toward the east end and toward the west end. -/
def credit (e east west : Nat) (s : State) : State := (s.grant .e e east).grant .w e west

/-- CREDIT (R329). -/
def execCredit (port : Port) (epochTime east west : Nat) (s : State) : Ans :=
  act s fun s => occurs s (s.portActive port) (credit epochTime east west)

/-- A cadence epoch begins at `e` (R329): unused credit lapses, the grant held for it or `grant_default` comes into force. -/
def State.creditEpoch (s : State) (e : Nat) : State :=
  let begin (r : RimPort) : RimPort :=
    match r.nextGrant with
    | some (e', n) => if e' = e then { r with credit := n, granted := true, nextGrant := none, sentEpoch := 0 }
      else { r with credit := s.st.grantDefault, granted := false, nextGrant := none, sentEpoch := 0 }
    | none => { r with credit := s.st.grantDefault, granted := false, sentEpoch := 0 }
  (s.upPort .e begin).upPort .w begin

/-! ### BULK frames (R310, R312, R326, R329) -/

/-- The port through which BULK frames leave at present (R310). -/
def State.bulkPort (s : State) : Port := if s.lnk.rim.bulkWest then .w else .e

/-- The stream of a stall is published on the rim, and no gap record of it that a commit has left goes before (R258). -/
def State.toRim (s : State) (k : Nat) : Bool :=
  match s.st.streamIn k with | none => false | some i => s.st.stored i && s.st.dest i == 1 && !s.owesGap i false 0

/-- A READ_RECORD that has a part of a descriptor for the rim to hand over. -/
def RecordRead.forRim (x : RecordRead) : Bool := !x.toHost && decide (x.handed < x.bytes.length)

/-- What may go next: 0 a re-send, 1 the next of a stall, 2 a replay, 3 a descriptor, 4 a gap record that a commit has left for the rim
(R259). -/
def State.bulkChoices (s : State) : List (Nat × Nat) :=
  (if s.lnk.rim.resend.isEmpty then [] else [(0, 0)]) ++
    s.path.stalls.flatMap (fun e =>
      let k := e.1
      let w := e.2
      (if w.waits && s.toRim k then [(1, k)] else []) ++
        (if w.replays.any (fun j => !j.toHost && (j.gap.isSome || !j.todo.isEmpty)) then [(2, k)] else []) ++
        (if w.reads.any RecordRead.forRim then [(3, k)] else []) ++
        (if w.oldGaps.any (fun g => !g.1 && !s.olderGap g) then [(4, k)] else []))

/-- The next part of a descriptor for the rim: at most 1,476 bytes a frame (R317, R388). -/
def State.handRecord (s : State) (k : Nat) : State × List (FrameBody × SentItem) :=
  match (s.stall k).reads.find? RecordRead.forRim with
  | none => (s, [])
  | some r =>
    let bytes := (r.bytes.drop r.handed).take 1476
    (s.upStall k fun x => { x with reads := x.reads.map (fun q => if q = r then { q with handed := q.handed + bytes.length } else q) },
      [(.record k r.handed r.item bytes, .record)])

/-- One choice carried out: the frames' bodies with what they carry, one block or gap record to a frame (log entry 21). -/
def State.handChoice (s : State) (c : Nat × Nat) : State × List (FrameBody × SentItem) :=
  let wrap (r : State × List Handed) : State × List (FrameBody × SentItem) := (r.1, r.2.map (fun h => (.blocks [h.1], h.2)))
  match c.1 with
  | 0 =>
    match s.lnk.rim.resend with
    | [] => (s, [])
    | x :: rest =>
      let h := wrap ((s.upRim fun r => { r with resend := rest.filter (fun y => !x.sameAs y) }).handAgain x)
      (h.1.upRim fun r => { r with resent := satAdd r.resent h.2.length }, h.2)
  | 1 => wrap (s.handNext c.2)
  | 2 => wrap (s.handReplay c.2 false)
  | 3 => s.handRecord c.2
  | _ =>
    match (s.stall c.2).oldGaps.find? (fun g => !g.1 && !s.olderGap g) with
    | none => (s, [])
    | some g => (s.upStall c.2 fun x => { x with oldGaps := eraseFirst (fun q => decide (q = g)) x.oldGaps }, [(.blocks [(s.handGap g.2.2 0).1], .gap g.2.2)])

/-- BULK frames enter the queue of the present port, numbered and awaiting acknowledgement; their bytes leave the credit (R326, R329). -/
def State.sendBulk (s : State) (p : Port) (bs : List (FrameBody × SentItem)) : State :=
  forEach bs s fun s b =>
    let src := s.dataSource
    let r := s.number src 0 3
    let n := b.1.frameBytes
    let s := r.1.upRim fun q =>
      { q with bulkOut := q.bulkOut ++ [{ seq := r.2, src := src, port := p, items := [b.2], tick := s.tick, lost := false, resent := false }] }
    (s.upPort p fun q => { q with credit := q.credit - n, sentEpoch := q.sentEpoch + n }).enqueue p
      { cls := 3, src := src, dst := 0, seq := r.2, body := b.1, cut := false }

/-- Something is sent on the rim within the credit of the present port, by a hub that publishes (R358). Which stream goes next the manual leaves open: a free choice (log
entry 21). -/
def bulkSend (s : State) : State :=
  let p := s.bulkPort
  let choices := s.bulkChoices
  if s.lnk.rim.addr = 4095 ∨ !s.publishes ∨ !(s.rimPort p).reach ∨ !s.portActive p ∨ choices.isEmpty then s
  else
    let c := choices.getD ((Config.unspecified s.freeCount : Nat) % choices.length) (0, 0)
    let s := s.draw
    let r := s.handChoice c
    if r.2.foldl (fun n b => n + b.1.frameBytes) 0 ≤ (s.rimPort p).credit then r.1.sendBulk p r.2 else s

/-- BULK_SEND (R329). -/
def execBulkSend (s : State) : Ans := act s bulkSend

/-! ### Transmission (R323) -/

/-- What leaves a port first of what waits there: EXPRESS, PTP, TIME, CONTROL, forwarded BULK, the hub's own BULK. -/
def RimPort.pop (r : RimPort) (p : Port) : Option (Out × RimPort) :=
  match r.express, r.ptp, r.time, r.control, r.forward, r.bulk with
  | f :: fs, _, _, _, _, _ => some (.frame p f f.bytes, { r with express := fs })
  | [], o :: os, _, _, _, _ => some (o, { r with ptp := os })
  | [], [], f :: fs, _, _, _ => some (.frame p f f.bytes, { r with time := fs })
  | [], [], [], f :: fs, _, _ => some (.frame p f f.bytes, { r with control := fs })
  | [], [], [], [], f :: fs, _ => some (.frame p f f.bytes, { r with forward := fs, forwardBytes := r.forwardBytes - f.body.frameBytes })
  | [], [], [], [], [], f :: fs => some (.frame p f f.bytes, { r with bulk := fs })
  | [], [], [], [], [], [] => none

/-- A part of a descriptor has left the hub (R388). -/
def State.recordSent (s : State) (f : OutFrame) : State :=
  match f.body with
  | .record k at_ item bytes => s.upStall k fun x =>
      { x with reads := x.reads.map (fun r => if decide (r.item = item) && r.sent == at_ then { r with sent := r.sent + bytes.length } else r) }
  | _ => s

/-- A frame starts on a port (R323). -/
def transmit (p : Port) (s : State) : State :=
  if !s.portActive p then s
  else
    match (s.rimPort p).pop p with
    | none => s
    | some (o, r) =>
      let s := (s.upPort p fun _ => r).emit o
      match o with | .frame _ f _ => s.recordSent f | _ => s

/-- PORT_TRANSMIT (R323). -/
def execPortTransmit (port : Port) (s : State) : Ans := act s (transmit port)

/-- Preemption runs on an ACTIVE port that enables it, once verified or without verification; a port that does not enable it verifies anew later
(R323). -/
def State.preemption (s : State) (p : Port) : State :=
  s.upPort p fun r =>
    { r with preOn := s.portActive p && s.st.preEnable p && (r.verified || s.st.verifyOff), verified := r.verified && s.st.preEnable p }

/-- PREEMPTION_VERIFY (R323): verification under Clause 99.4.3 has succeeded on a port that enables preemption. -/
def preemptionVerify (p : Port) (s : State) : State :=
  if s.portActive p && s.st.preEnable p then (s.upPort p fun r => { r with verified := true }).preemption p else s

/-- PREEMPTION_VERIFY (R323). -/
def execPreemptionVerify (port : Port) (s : State) : Ans := act s (preemptionVerify port)

end Sys2Proof.Machine
end

