-- ==== Sys2Proof/Machine/Lanes.lean ====
section
/-! DEFINITION. Serial lanes (14_serial_lanes): detection (R340, R343), training (R341, R342), lock and the exchange of capabilities (R344,
R345), failures and back-off (R346), tests (R350, R353) and the optics commands (R348). -/

namespace Sys2Proof.Machine

/-! ### Taps (R341) -/

abbrev Taps := Int × Int × Int

/-- The limits of R341. -/
def legalTaps (t : Taps) : Bool :=
  decide (-12 ≤ t.1) && decide (t.1 ≤ 0) && decide (28 ≤ t.2.1) && decide (t.2.1 ≤ 63) && decide (-20 ≤ t.2.2) && decide (t.2.2 ≤ 0) &&
    decide (t.2.1 - t.1 - t.2.2 ≤ 63) && decide (14 ≤ t.2.1 + t.1 + t.2.2)

/-- PRESET and INITIALIZE (R341). -/
def presetTaps : Taps := (0, 63, 0)
def initTaps : Taps := (-4, 52, -7)

/-- Three taps as LNK_TAPS holds them. -/
def tapsWord (t : Taps) : Nat := unsignedOf 8 t.1 * 65536 + unsignedOf 8 t.2.1 * 256 + unsignedOf 8 t.2.2

/-- A written profile clamped to the limits (R351). -/
def clampTaps (t : Taps) : Taps :=
  let c : Taps := (clampInt t.1 (-12) 0, clampInt t.2.1 28 63, clampInt t.2.2 (-20) 0)
  if legalTaps c then c
  else
    let f := Config.tapsWithin c.1 c.2.1 c.2.2
    if legalTaps f then f else presetTaps

/-- One step of a tap. -/
def stepTap (t : Taps) (tap : Tap) (d : Int) : Taps :=
  match tap with
  | .pre => (t.1 + d, t.2.1, t.2.2)
  | .main => (t.1, t.2.1 + d, t.2.2)
  | .post => (t.1, t.2.1, t.2.2 + d)

/-- A request and its answer in the status report (R342): 0 NOT_UPDATED, 1 UPDATED, 2 MINIMUM, 3 MAXIMUM. -/
def answerTap (t : Taps) (tap : Tap) (req : TapReq) : Taps × Nat :=
  match req with
  | .hold => (t, 0)
  | .preset => (presetTaps, 1)
  | .init => (initTaps, 1)
  | .inc => if legalTaps (stepTap t tap 1) then (stepTap t tap 1, 1) else (t, 3)
  | .dec => if legalTaps (stepTap t tap (-1)) then (stepTap t tap (-1), 1) else (t, 2)

/-! ### Detection (R339, R340, R343) -/

/-- A lane enters TRAIN or, with fixed taps, LOCK. -/
def State.toTrain (s : State) (x : Nat) : State :=
  s.upLane x fun l => { l with state := .train, since := s.tick, taps := initTaps, fixed := false, rxReady := false, partnerReady := false }
def State.toLock (s : State) (x : Nat) : State := s.upLane x fun l => { l with state := .lock, since := s.tick }
def State.toLockFixed (s : State) (x : Nat) : State :=
  s.upLane x fun l => { l with state := .lock, since := s.tick, taps := l.fixedTaps, fixed := true }

/-- What a module's bytes make of its lane (R343): 1 optical, 2 copper, 3 unknown. -/
def moduleKind (byte0 byte8 : Byte) : Nat :=
  if byte0 ≠ 0x03 then 3 else if bitsOf byte8.toNat 3 2 = 0 then 1 else 2

/-- A lane in DETECT reads its module and finds a partner (R340, R343); N_OPTICS_UNKNOWN at the first sight of an unknown module in this stay in DETECT. A
lane in back-off classifies its module and waits (R346). -/
def detect (x : Nat) (m : Module) (s : State) : State :=
  let l := s.lane x
  let waits := l.backoffUntil.isSome
  if l.state ≠ .detect then s
  else if 2 ≤ x then (if waits then s else s.toTrain x)
  else
    match m with
    | .none => s.upLane x fun l => { l with module := 0 }
    | .answers byte0 byte8 rxLos receiver =>
      let k := moduleKind byte0 byte8
      let s := if k = 3 ∧ l.module ≠ 3 then s.notify s.st.rimQ 0x54 x byte0.toNat (argT s.now) else s
      let s := s.upLane x fun l => { l with module := k }
      if waits then s
      else if k = 2 then (if receiver then s.toTrain x else s)
      else if rxLos then s
      else s.toLockFixed x

/-- PARTNER_DETECT (R340). -/
def execPartnerDetect (x : Fin 4) (m : Module) (s : State) : Ans := act s (detect x.val m)

/-! ### Training (R342) -/

/-- TRAIN_REQUEST (R342). -/
def trainRequest (x : Nat) (tap : Tap) (req : TapReq) (s : State) : State :=
  let l := s.lane x
  if l.state ≠ .train then s
  else
    let r := answerTap l.taps tap req
    (s.upLane x fun l => { l with taps := r.1 }).emit (.tapStatus x tap r.2)

/-- TRAIN_REQUEST (R342). -/
def execTrainRequest (x : Fin 4) (tap : Tap) (req : TapReq) (s : State) : Ans := act s (trainRequest x.val tap req)

/-- The receiver's adaptation, as it ends (R342): the steps of the partner's taps that it has requested, one at a time, of which the last eight did not
improve its eye metric. Which steps these are is free (log entry 47). -/
def State.requestTaps (s : State) (x : Nat) : State :=
  let asked : List (Tap × Bool) × Vector (Tap × Bool) 8 := Config.unspecified s.freeCount
  s.draw.emit (.tapRequests x (asked.1 ++ asked.2.toList))

/-- A receiver is ready, the lane's own or the partner's; with both the lane enters LOCK (R342). -/
def receiverReady (x : Nat) (own : Bool) (s : State) : State :=
  if (s.lane x).state ≠ .train then s
  else
    let s := if own && !(s.lane x).rxReady then s.requestTaps x else s
    let s := s.upLane x fun l => { l with rxReady := l.rxReady || own, partnerReady := l.partnerReady || !own }
    if (s.lane x).rxReady && (s.lane x).partnerReady then s.toLock x else s

/-- RX_READY (R342). -/
def execRxReady (x : Fin 4) (own : Bool) (s : State) : Ans := act s (receiverReady x.val own)

/-- A state of bring-up has lasted its time: a failure (R339, R346). -/
def bringUpTimeout (x : Nat) (st : LaneState) (n : Nat) (s : State) : State :=
  if (s.lane x).state = st ∧ s.passed (s.lane x).since (ms n) then s.laneFail x else s

/-- TRAIN_TIMEOUT, LOCK_TIMEOUT and EXCHANGE_TIMEOUT (R339). -/
def execTrainTimeout (x : Fin 4) (s : State) : Ans := act s (bringUpTimeout x.val .train 500)
def execLockTimeout (x : Fin 4) (s : State) : Ans := act s (bringUpTimeout x.val .lock 10)
def execExchangeTimeout (x : Fin 4) (s : State) : Ans := act s (bringUpTimeout x.val .exchange 50)

/-- LOSS_OF_SIGNAL (R346): a failure of bring-up. -/
def lossOfSignal (x : Nat) (s : State) : State :=
  match (s.lane x).state with
  | .train => s.laneFail x
  | .lock => s.laneFail x
  | .exchange => s.laneFail x
  | _ => s

/-- LOSS_OF_SIGNAL (R346). -/
def execLossOfSignal (x : Fin 4) (s : State) : Ans := act s (lossOfSignal x.val)

/-! ### Lock and exchange (R344, R345) -/

/-- The receive PCS gets the hub's own transmit stream back (R350): idle blocks through loop 2, and through loop 1 without a generator; a PRBS in loop 1
gives it none. With the other loops its lock is the partner's matter. -/
def pcsLoops (w : Word) : Option Bool :=
  match w.field 31 30 with
  | 1 => some (decide (w.field 29 28 = 0))
  | 2 => some true
  | _ => none

/-- The receiver has block lock, and RS-FEC alignment lock where RS-FEC is in use (R344, R352). -/
def Lane.locked (l : Lane) : Lane := { l with blockLock := true, fecLock := l.fec, hiBer := false }

/-- LOCK_ACQUIRED (R344): block lock, and RS-FEC alignment lock where enabled. In EXCHANGE, and in TEST where the receiver has the partner's stream, a lock
that was lost is there again (R352). -/
def lockAcquired (x : Nat) (s : State) : State :=
  match (s.lane x).state with
  | .lock => (s.upLane x fun l => { l.locked with state := .exchange, since := s.tick, prevWord := none, ackOut := false }).sayCapability x
  | .exchange => s.upLane x Lane.locked
  | .test => if (pcsLoops (s.lane x).test).isNone then s.upLane x Lane.locked else s
  | _ => s

/-- LOCK_ACQUIRED (R344). -/
def execLockAcquired (x : Fin 4) (s : State) : Ans := act s (lockAcquired x.val)

/-- The pairing of port kinds and `ver` that R345 allows. -/
def capabilityFits (x w : Nat) : Bool :=
  let kind := bitsOf w 23 20
  bitsOf w 19 18 == 1 && (if x < 2 then kind == 0 || kind == 1 || kind == 4 else kind == x)

/-- The lane enters ACTIVE (R347): N_LANE_UP, an autonomous act (R463). -/
def State.laneUp (s : State) (x : Nat) : State :=
  let l := s.lane x
  -- a tandem link that comes up waits for a complete ACKPOS sweep again (R370)
  let s := if 2 ≤ x ∧ (s.lane (5 - x)).state ≠ .active then s.upTdm fun t => { t with swept := [] } else s
  let s := (s.upLane x fun l => { l with state := .active, since := s.tick }).intr 5
  let s := s.notify s.st.rimQ 0x50 x (boolBit l.fec 15 + boolBit l.rate10 14) (argSX s.now (tapsWord l.taps)) 1
  if x < 2 then s.preemption (portOfLane x) else s

/-- The receiver delivers blocks: block lock, RS-FEC alignment lock where enabled, and no hi_ber (R344). -/
def Lane.inLock (l : Lane) : Bool := l.blockLock && (l.fecLock || !l.fec) && !l.hiBer

/-- A capability word in EXCHANGE (R345): agreement after two successive identical valid words with `ack` when the lane's own words carry it
too, or a mismatch. None arrives without lock (R344). -/
def capability (x w : Nat) (s : State) : State :=
  let l := s.lane x
  if l.state ≠ .exchange ∨ !l.inLock ∨ capabilityCheck w ≠ bitsOf w 3 0 then s
  else
    let s := s.upLane x fun l => { l with partner := w }
    if !capabilityFits x w then (s.notify s.st.rimQ 0x53 x 0 (argSX s.now w)).laneFail x
    else
      let twice := decide (l.prevWord = some w)
      let s := s.upLane x fun l => { l with prevWord := some w, ackOut := l.ackOut || twice }
      let s := if twice && !l.ackOut then s.sayCapability x else s
      if twice && bitOf w 17 then s.laneUp x else s

/-- CAPABILITY_WORD (R345). -/
def execCapabilityWord (x : Fin 4) (word : BitVec 24) (s : State) : Ans := act s (capability x.val word.toNat)

/-! ### Exit, back-off and failures (R344, R346, R347) -/

/-- The code of a loss (N_LANE_DOWN, R397). -/
def lossCode : LossCause → Nat
  | .blockLock => 0 | .fecLock => 1 | .signal => 2 | .hiBer => 3

/-- What a loss leaves of the receiver's locks (R344, R352). -/
def Lane.lose (l : Lane) : LossCause → Lane
  | .blockLock => { l with blockLock := false, fecLock := false, hiBer := false }
  | .fecLock => { l with fecLock := false }
  | .signal => { l with blockLock := false, fecLock := false, hiBer := false }
  | .hiBer => { l with hiBer := true }

/-- LOCK_LOSS (R347): the lane leaves ACTIVE and goes to DETECT at once; in EXCHANGE and TEST, LNK_STATE shows the loss (R352). -/
def lockLoss (x : Nat) (c : LossCause) (s : State) : State :=
  match (s.lane x).state with
  | .active => s.toDetect x (lossCode c)
  | .exchange => s.upLane x fun l => l.lose c
  | .test => s.upLane x fun l => l.lose c
  | _ => s

/-- LOCK_LOSS (R347). -/
def execLockLoss (x : Fin 4) (cause : LossCause) (s : State) : Ans := act s (lockLoss x.val cause)

/-- The wait ends and detection resumes as a retry (R346); N_LANE_RETRY on every tenth, an autonomous act (R463). -/
def backoffEnd (x : Nat) (s : State) : State :=
  match (s.lane x).backoffUntil with
  | none => s
  | some t =>
    if (s.lane x).state ≠ .detect ∨ s.tick < t then s
    else
      let s := s.upLane x fun l => { l with backoffUntil := none, retries := satInc l.retries, retriesSince := l.retriesSince + 1, since := s.tick }
      let l := s.lane x
      if l.retriesSince % 10 = 0 then s.notify s.st.rimQ 0x52 x l.lastFail (argSX s.now l.retriesSince) 1 else s

/-- BACKOFF_END (R346). -/
def execBackoffEnd (x : Fin 4) (s : State) : Ans := act s (backoffEnd x.val)

/-- FAILURE_COUNT_RESET (R346): 1 s in ACTIVE without a break. -/
def failuresClear (x : Nat) (s : State) : State :=
  if (s.lane x).state = .active ∧ s.passed (s.lane x).since Config.ticksPerS then s.upLane x fun l => { l with failures := 0, retriesSince := 0 } else s

/-- FAILURE_COUNT_RESET (R346). -/
def execFailureCountReset (x : Fin 4) (s : State) : Ans := act s (failuresClear x.val)

/-- LANE_SYMBOL_ERROR (R347): an errored block, or a codeword that could not be corrected, is counted; a fault event at most once per lane per
1 ms. A corrected codeword counts in LNK_FEC_CORR (R351; log entry 38). -/
def symbolError (x : Nat) (k : SymError) (s : State) : State :=
  let l := s.lane x
  if !l.blockLock ∨ (k ≠ .block ∧ !l.fecLock) then s
  else if k = .corrected then s.upLane x fun l => { l with fecCorr := satInc l.fecCorr }
  else
    let s := s.upLane x fun l => { l with symErr := satInc l.symErr }
    if mayCount s l.symTick then (s.upLane x fun l => { l with symTick := some s.tick }).faultEvent 3 x else s

/-- LANE_SYMBOL_ERROR (R347). -/
def execLaneSymbolError (x : Fin 4) (kind : SymError) (s : State) : Ans := act s (symbolError x.val kind)

/-- OPTICS_POLL (R351): every 100 ms. -/
def opticsPoll (x : Nat) (byte0 status : Byte) (power : Half) (s : State) : State :=
  if s.glb.state = .reset ∨ !s.passed (s.lane x).optTick (ms 100) then s
  else s.upLane x fun l => { l with optTick := s.tick, optStatus := wordOf (byte0.toNat * 2 ^ 24 + status.toNat * 2 ^ 16 + power.toNat) }

/-- OPTICS_POLL (R351). -/
def execOpticsPoll (x : Fin 2) (byte0 status : Byte) (power : Half) (s : State) : Ans := act s (opticsPoll x.val byte0 status power)

/-! ### Tests (R350, R353) and fixed taps (R351) -/

/-- The generator's stream comes back to the checker of the same pattern at the pad (R350). -/
def testLoops (w : Word) : Bool := w.field 31 30 == 1 && w.field 29 28 != 0 && w.field 29 28 == w.field 27 26

/-- LNK_TEST takes a value (R350, R353): a non-zero one puts the lane in TEST at once, zero returns it to DETECT and clears nothing: the errors counted
and the lock found so far stay. A loop that brings the hub's own stream back gives the receiver both its locks (log entry 47, DEDUCED). -/
def setTest (x : Nat) (v : Word) (s : State) : State :=
  if s.glb.state = .reset then s
  else
    let s := if v.field 23 0 ≠ 0 then s.undefinedUse 12 else s
    let s := if v.field 29 28 = 3 ∨ v.field 27 26 = 3 then s.undefinedUse 354 else s
    let w := v &&& 0xFE000000
    let l := s.lane x
    if v.field 31 24 ≠ 0 then
      let fresh := decide (l.test.field 27 26 = 0 ∧ w.field 27 26 ≠ 0)
      let pcs := pcsLoops w
      (s.leaveActive x 5).upLane x fun q =>
        let q := q.settlePrbs x s.tick
        { q with state := .test, since := if l.state = .test then q.since else s.tick, test := w, backoffUntil := none
                 prbsErr := if fresh then 0 else q.prbsErr, prbsFrom := if fresh then s.tick else q.prbsFrom, prbsLock := testLoops w
                 blockLock := pcs.getD q.blockLock, fecLock := match pcs with | none => q.fecLock | some b => b && q.fec
                 hiBer := if pcs.isSome then false else q.hiBer }
    else if l.state = .test then (s.toDetect x 5).upLane x fun q => { q with test := 0 }
    else s.upLane x fun q => { q with test := 0 }

/-- A write of LNK_TEST (R350, R353): with `inject` it inverts one transmitted bit besides, which a checker at the end of a near-end serial loop counts. -/
def testWrite (x : Nat) (v : Word) (s : State) : State :=
  let s := setTest x v s
  let l := s.lane x
  if v.flag 24 ∧ s.glb.state ≠ .reset ∧ l.state = .test ∧ testLoops l.test then s.upLane x fun q => { q with prbsErr := satTo 0x7FFFFFFF (q.prbsErr + 1) } else s

/-- LNK_TEST_WRITE (R350). -/
def execLnkTestWrite (x : Fin 4) (value : Word) (s : State) : Ans := act s (testWrite x.val value)

/-- PRBS_INJECT (R353): a write of LNK_TEST with `inject`. -/
def prbsInject (x : Nat) (v : Word) (s : State) : State := if v.flag 24 then testWrite x v s else s

/-- PRBS_INJECT (R353). -/
def execPrbsInject (x : Fin 4) (value : Word) (s : State) : Ans := act s (prbsInject x.val value)

/-- FIXED_TAPS_WRITE (R351): it takes effect at the next detection. -/
def fixedTaps (x : Nat) (v : Word) (s : State) : State :=
  if s.glb.state = .reset then s
  else
    let s := if v.field 31 24 ≠ 0 then s.undefinedUse 12 else s
    s.upLane x fun l =>
      { l with fixedTaps := clampTaps (signedOf 8 (v.field 23 16), signedOf 8 (v.field 15 8), signedOf 8 (v.field 7 0)) }

/-- FIXED_TAPS_WRITE (R351). -/
def execFixedTapsWrite (x : Fin 2) (value : Word) (s : State) : Ans := act s (fixedTaps x.val value)

/-! ### Commands (R348) -/

/-- RETRAIN_LANE (R348). -/
def execRetrainLane (s : State) : Ans := act s fun s => s.start 0x49 fun c s => (s.retrain (c.a 1 0)).complete c 0

/-- OPTICS_READ and OPTICS_WRITE (R348): a bad length or device is refused (R354), with the one code that R348 gives for a bad operand. -/
def optics (op : Nat) (write : Bool) (s : State) : State :=
  s.start op fun c s =>
    let x := c.a 31 31
    let dev := c.a 30 30
    let off := c.a 23 16
    let len := c.a 3 0
    if len = 0 ∨ 8 < len ∨ (write ∧ dev = 0) then s.complete c 0x1A
    else
      let bytes := if write then leBytes len c.opB.toNat else []
      (s.startLong c (.optics x dev off len write)).emit (.optics x dev off bytes)

/-- OPTICS_READ and OPTICS_WRITE (R348). -/
def execOpticsRead (s : State) : Ans := act s (optics 0x4A false)
def execOpticsWrite (s : State) : Ans := act s (optics 0x4B true)

/-- The I²C transaction of the oldest optics command of a lane ends (R348). -/
def opticsDone (x : Nat) (r : OpticsResult) (s : State) : State :=
  match s.longOf (fun o => match o with | .optics y _ _ _ _ => decide (x = y) | _ => false) with
  | none => s
  | some l =>
    match r, l.op with
    | .noModule, _ => s.endLong l 0x1B
    | .data bytes, .optics _ _ _ len false => s.endLong l 0 (leNat (bytes.take len))
    | .data _, _ => s.endLong l 0

/-- OPTICS_DONE (R348). -/
def execOpticsDone (x : Fin 2) (result : OpticsResult) (s : State) : Ans := act s (opticsDone x.val result)

end Sys2Proof.Machine
end

