-- ==== Sys2Proof/Machine/Calibration.lean ====
section
/-! DEFINITION. Calibration results and trims (R449 to R457), the commands over fault windows (R460), and the supervisor's faults (R27, R458). -/

namespace Sys2Proof.Machine

/-! ### Results (R451 to R454) -/

/-- The key of a calibration slot of a spoke. -/
def calKey (spoke slot : Nat) : Nat := spoke * 32 + slot

def State.calSlot (s : State) (spoke slot : Nat) : CalSlot := s.cal.slots.get {} (calKey spoke slot)

/-- The mode and gear code of a calibration slot (R450). -/
def slotGear (g : Nat) : Nat × Nat :=
  if g < 6 then (1, g) else if g < 11 then (2, g - 6) else if g < 16 then (3, g - 11) else if g < 20 then (4, g - 16) else (5, g - 20)

/-- The ratio of a gear's full scale to that of the next wider gear of its mode, from the readings of one bus level on both (R452); 1 of gear code 0. -/
def adjacentRatio (x : SlotCal) : Q :=
  if (slotGear x.slot).2 = 0 then { num := 1, den := 1 } else { num := x.wide, den := x.narrow.toNat }

/-- The calibrated ratio of slot `g`: the product of the adjacent ratios from gear code 0 of its mode on (R452), as binary32, rounded to nearest, ties to
even (log entry 27, DESIGN CHOICE). -/
def calRatio (c : SpokeCal) (g : Nat) : Word :=
  let own := c.slots.filter (fun x => decide (x.slot ≤ g) && decide (g - (slotGear g).2 ≤ x.slot))
  (own.foldl (fun (q : Q) x => q.mul (adjacentRatio x)) { num := 1, den := 1 }).to32.1

/-- An adjacent ratio departs more than 0.5 % from nominal (R454). -/
def ratioDeparts (x : SlotCal) : Bool :=
  let m := slotGear x.slot
  if m.2 = 0 then false
  else
    let nominal := (gearFullScale m.1 m.2).mul { num := (gearFullScale m.1 (m.2 - 1)).den, den := (gearFullScale m.1 (m.2 - 1)).num.toNat }
    let q := adjacentRatio x
    -- |q / nominal − 1| > 1 / 200
    decide (q.den * nominal.num.toNat < 200 * (q.num * nominal.den - nominal.num * q.den).natAbs)

/-- What was found for a slot, held in the ranges of the trim converters; a code that would lie outside and a ratio that departs are failures (R451,
R454). -/
def heldSlot (c : SpokeCal) (x : SlotCal) : CalSlot :=
  let o := clampInt x.offsetCode (-2048) 2047
  let g := clampInt x.gainCode (-512) 511
  { offsetCode := o, gainCode := g, ratio := calRatio c x.slot, offsetRes := x.offsetRes, gainRes := x.gainRes
    failed := ratioDeparts x || decide (o ≠ x.offsetCode) || decide (g ≠ x.gainCode) }

/-- The 50 % crossing of one step in ps after its instant, between the two samples that lie 2.5 µs apart at OSR 32 (R453). -/
def stepCrossing (x : SkewStep) : Q :=
  (Q.ofInt x.at_).add { num := (500000 - x.below) * 2500000, den := (x.above - x.below).toNat }

/-- The nominal delay of a chain at OSR 32 with linear compensation, in ps (R177). -/
def nominalDelay : Int := 47434000

/-- σ_s of a family in ps (R453): the mean of the crossings after the step's instant, less the nominal delay; where the mean is no whole number of ps, which
R453 does not round, a neighbour (log entry 15). -/
def sigmaOf (x : SkewCal) : Int :=
  let sum := x.steps.foldl (fun (q : Q) y => q.add (stepCrossing y)) (Q.ofInt 0)
  Q.near { num := sum.num, den := sum.den * max 1 x.steps.length } - nominalDelay

/-- σ_s beyond ±20 ns (R454). -/
def skewFails (x : SkewCal) : Bool := decide (sigmaOf x < -20000) || decide (20000 < sigmaOf x)

/-- The results of one spoke stand: slots, then σ_s and residual of each family, σ_s clamped to ±20 ns (R171, R454). -/
def State.putCal (s : State) (c : SpokeCal) : State :=
  let s := forEach c.slots s fun s x => s.upCal fun k => { k with slots := k.slots.set {} (calKey c.spoke x.slot) (heldSlot c x) }
  s.upCal fun k =>
    { k with skew := c.skew.foldl (fun m x => m.set (0, 0) (skewKey c.spoke x.family) (clampInt (sigmaOf x) (-20000) 20000, x.residual)) k.skew
             skewFail := if c.skew.any skewFails then c.spoke :: k.skewFail.filter (fun i => i != c.spoke) else k.skewFail.filter (fun i => i != c.spoke) }

/-- The slots of a spoke that failed, rising (CAL_SPOKE_FLAGS, R466). -/
def State.failedSlots (s : State) (spoke : Nat) : List Nat := (List.range 25).filter (fun g => (s.calSlot spoke g).failed)

/-- Any flag of CAL_SPOKE_FLAGS is set. -/
def State.spokeFails (s : State) (i : Nat) : Bool :=
  !(s.failedSlots i).isEmpty || s.cal.skewFail.contains i || s.cal.refFailSpoke.contains i

/-- `fail_spokes` of CAL_STATUS counts again. -/
def State.countFails (s : State) : State :=
  let n := ((List.range 768).filter s.spokeFails).length
  s.upCal fun c => { c with failSpokes := n }

/-- N_CAL_FAIL of a failing spoke (R454, R464): its lowest failing slot, or 0xFE for skew, 0xFF for the reference (log entry 27). -/
def State.noteCalFail (s : State) (i : Nat) : State :=
  if s.spokeFails i then
    s.notify 0 0x77 i (match s.failedSlots i with | g :: _ => g | [] => if s.cal.skewFail.contains i then 0xFE else 0xFF) (argT s.tick)
  else s

/-! ### Trim ramps (R451) -/

/-- Step k of 64 of a ramp, rounded to the nearest code (half upward). -/
def rampCode (source target : Int) (k : Nat) : Int := (2 * (source * 64 + (target - source) * k) + 64) / 128

/-- Steps of a ramp made by now: one each 1.5625 ms. -/
def State.rampSteps (s : State) (start : Nat) : Nat := satTo 64 ((s.tick - start) / 312500)

/-- The codes of a slot at present: those of its ramp where one runs; during the first 100 ms of TIMEWAIT all trims ramp in from 0. -/
def State.trimNow (s : State) (i g : Nat) : Int × Int :=
  let c := s.calSlot i g
  match s.cal.ramps.find? (fun r => r.spoke == i && r.slot == g) with
  | some r =>
    let k := s.rampSteps r.start
    (rampCode c.offsetCode r.offsetCode k, rampCode c.gainCode r.gainCode k)
  | none =>
    if s.glb.state = .timewait ∧ s.tmb.trimsIn = none then
      let k := s.rampSteps s.tmb.timewaitTick
      (rampCode 0 c.offsetCode k, rampCode 0 c.gainCode k)
    else (c.offsetCode, c.gainCode)

/-- A slot that a look of the spoke uses: it belongs to a gear of the set of a running look. -/
def State.slotUsed (s : State) (i g : Nat) : Bool :=
  (s.st.spokeLooks i).any (fun stream =>
    (List.range (s.st.gearCount stream)).any (fun n => calSlotOf (s.st.mode i) (s.st.gearCode stream n) == g))

/-- The codes of a slot are set. -/
def State.setCodes (s : State) (i g : Nat) (o n : Int) : State :=
  s.upCal fun c => { c with slots := c.slots.upd {} (calKey i g) (fun x => { x with offsetCode := o, gainCode := n }) }

/-- Codes in the layout of CAL_TRIM: [27:16] offset, [9:0] gain (R455, R466). -/
def codesWord (c : Int × Int) : Nat := unsignedOf 12 c.1 * 2 ^ 16 + unsignedOf 10 c.2

/-- `SET_TRIM` (R457): a slot in use ramps, another changes at once. -/
def setTrim (s : State) : State :=
  s.start 0x69 fun c s =>
    let i := c.a 9 0
    let g := c.a 14 10
    if 24 < g then s.complete c 0x52
    else if s.cal.recal = some i then s.complete c 0x51
    else
      let old := s.trimNow i g
      let o := signedOf 12 (c.b 27 16)
      let n := signedOf 10 (c.b 9 0)
      let s := (s.setCodes i g old.1 old.2).upCal fun k => { k with ramps := k.ramps.filter (fun r => !(r.spoke == i && r.slot == g)) }
      let s := if s.slotUsed i g then
          s.upCal fun k => { k with ramps := k.ramps ++ [{ spoke := i, slot := g, offsetCode := o, gainCode := n, start := s.tick }] }
        else (s.setCodes i g o n).notify 0 0x78 i g (argT s.now)
      s.complete c 0 (codesWord old)

/-- SET_TRIM (R457). -/
def execSetTrim (s : State) : Ans := act s setTrim

/-- A commanded ramp has ended after 100 ms (R451, R457); those of a recalibration end with it (R456). -/
def State.endRamp (s : State) (i g : Nat) : State :=
  match s.cal.ramps.find? (fun r => r.spoke == i && r.slot == g) with
  | none => s
  | some r =>
    if s.cal.recal ≠ some i ∧ s.passed r.start (ms 100) then
      ((s.setCodes i g r.offsetCode r.gainCode).upCal fun k => { k with ramps := k.ramps.filter (fun x => decide (x ≠ r)) }).notify 0 0x78 i g (argT s.now)
    else s

/-! ### RECALIBRATE (R456) -/

/-- `RECALIBRATE` (R456): one at a time; the spoke is quarantined. -/
def recalibrate (s : State) : State :=
  s.start 0x68 fun c s =>
    let i := c.a 9 0
    if s.cal.recal.isSome then s.complete c 0x51
    else
      let s := (if (s.spoke i).quarantined then s else s.quarantine i).noteQuarantine 0 i 0xFFFE 0
      (s.upCal fun k => { k with recal := some i, recalSince := s.tick, recalFound := none, ramps := k.ramps.filter (fun r => !(r.spoke == i)) }).startLong c (.recalibrate i)

/-- RECALIBRATE (R456). -/
def execRecalibrate (s : State) : Ans := act s recalibrate

/-- The recalibration has measured, and from 2.0 s on its new trims ramp in (R451, R456): those of slots in use over 100 ms, the others at once. The old
trims stay behind the ramps until they end. -/
def State.rampFound (s : State) (c : SpokeCal) : State :=
  let from_ := s.cal.recalSince + ms 2000
  let ramp (x : SlotCal) : TrimRamp :=
    { spoke := c.spoke, slot := x.slot, offsetCode := (heldSlot c x).offsetCode, gainCode := (heldSlot c x).gainCode
      start := if s.slotUsed c.spoke x.slot then from_ else from_ - ms 100 }
  s.upCal fun k => { k with recalFound := some c, ramps := k.ramps ++ c.slots.map ramp }

/-- The results of a recalibration come at the end of its 2.0 s, from which on the trims ramp, or at the end of the ramp 100 ms later (R456; log entry 27).
Then they stand, and the spoke is released, unless a window has quarantined it meanwhile (R462). -/
def recalibrated (c : SpokeCal) (s : State) : State :=
  if s.cal.recal ≠ some c.spoke ∨ !s.passed s.cal.recalSince (ms 2000) then s
  else if !s.passed s.cal.recalSince (ms 2100) then (if s.cal.recalFound.isSome then s else s.rampFound c)
  else
    let c := s.cal.recalFound.getD c
    let s := (((s.putCal c).upCal fun k =>
      { k with recal := none, recalFound := none, ramps := k.ramps.filter (fun r => !(r.spoke == c.spoke)) }).countFails).noteCalFail c.spoke
    let s := if (s.spoke c.spoke).quarantineWindow then s.upSpoke c.spoke fun p => { p with quarantineWindow := false }
      else s.release c.spoke 2
    match s.longOf (fun o => match o with | .recalibrate i => i == c.spoke | _ => false) with
    | none => s
    | some l => s.endLong l 0

/-- RECALIBRATE_DONE (R456). -/
def execRecalibrateDone (result : SpokeCal) (s : State) : Ans := actIf (Instr.wf (.recalibrateDone result)) s (recalibrated result)

/-! ### Windows (R460) -/

/-- `CLEAR_WINDOW` (R460). -/
def clearWindow (s : State) : State :=
  s.start 0x6A fun c s =>
    let w := c.a 5 0
    if (s.window w).latched then (s.rearm w 0).complete c 0 else s.complete c 0x50

/-- CLEAR_WINDOW (R460). -/
def execClearWindow (s : State) : Ans := act s clearWindow

/-- A latched window with `rearm` set returns once W has passed without a counted event (R460). -/
def windowRearm (w : Nat) (s : State) : State :=
  if (s.window w).latched ∧ s.st.winRearm w ∧ s.passed (s.window w).last (ms (s.st.winMs w)) then s.rearm w 1 else s

/-- WINDOW_REARM (R460). -/
def execWindowRearm (w : Fin 64) (s : State) : Ans := act s (windowRearm w.val)

/-! ### The supervisor's faults (R27, R458) -/

/-- A lockstep mismatch of the supervisor (R27): in RESET and after a halt (R485) nothing is compared. In FAULT, which is left by
reset alone (R471), the event is counted. -/
def lockstepMismatch (s : State) : State :=
  if s.glb.state = .reset ∨ s.ldr.halted then s else s.watchdogEvent 0

/-- LOCKSTEP_MISMATCH (R27). -/
def execLockstepMismatch (s : State) : Ans := act s lockstepMismatch

/-- The watchdog timer has run for 250 ms in RUN, warm restarts left out, without being serviced (R458); whether the firmware serviced it is outside the model, which starts it
at the entry to RUN. -/
def watchdogExpiry (s : State) : State :=
  if s.glb.state = .run ∧ s.passed s.hlt.serviced (ms 250) then (s.upHlt fun h => { h with serviced := s.tick }).watchdogEvent 1 else s

/-- WATCHDOG_EXPIRY (R458). -/
def execWatchdogExpiry (s : State) : Ans := act s watchdogExpiry

end Sys2Proof.Machine
end

