-- ==== Sys2Proof/Machine/Crier.lean ====
section
/-! DEFINITION. The crier (R392 to R395, R402, R403, R412): entry of waiting and replayed items into a chain, aging, and the drains. -/

namespace Sys2Proof.Machine

/-! ### N_NOTICES_LOST (R394) -/

/-- The N_NOTICES_LOST for a lost range of a queue: it takes the next `nseq` and its journal slot, and is delivered ahead of the next item. -/
def State.lostNotice (s : State) (q first count : Nat) : State × Nat × Item :=
  let n := (s.que q).posted
  let arg := argSX s.now (first % 65536)
  let i : Item := { w0 := wordOf ((n % 65536) * 65536 + 0x61 * 256 + q), w1 := wordOf (satField 16 count * 65536 + q)
                    w2 := wordOf (arg % 2 ^ 32), w3 := wordOf (arg / 2 ^ 32) }
  ((s.writeJournal q n i).upQue q fun c => c.posting n i 0 .journal 0 s.tick, n, i)

/-- An item of a queue is lost (R394). -/
def Queue.lose (c : Queue) (n : Nat) : Queue := { c with lost := insertLost n c.lost }

/-! ### Chain entry (R393, R412) -/

/-- A chain has an empty stage. -/
def Queue.hasRoom (c : Queue) : Bool := decide (c.chain.length < 32)

/-- A waiting item enters the chain from its journal copy; a copy that is uncorrectable is lost (R393, R394). -/
def State.enterWaiting (s : State) (q : Nat) (w : WaitItem) : State :=
  let s := s.upQue q fun c => { c with waiting := eraseFirst (fun x => decide (x = w)) c.waiting }
  let r := s.readJournal q w.nseq
  match r.2 with
  | none => r.1.upQue q fun c => c.lose w.nseq
  | some i => r.1.upQue q fun c =>
      { c with chain := c.chain ++ [{ nseq := w.nseq, item := i, prio := w.prio, entered := s.tick, aged := s.tick, replayed := false
                                      drain := w.drain, ring := w.ring }] }

/-- A replayed item, or the N_NOTICES_LOST that precedes it, takes a stage at the queue's `prio`, by the queue's drain (R412). -/
def State.enterReplayed (s : State) (q n : Nat) (i : Item) : State :=
  s.upQue q fun c =>
    { c with chain := c.chain ++ [{ nseq := n, item := i, prio := s.st.queuePrio q, entered := s.tick, aged := s.tick, replayed := true
                                    drain := s.st.queueDrain q, ring := s.st.queueRing q }] }

/-- A replay moves on to item `n`, or ends after the last (R412). -/
def Queue.replayTo (c : Queue) (n last : Nat) : Queue := { c with replay := if last < n then none else some (n, last) }

/-- The next item of a replay (R412): items whose slots have been reused are stated by one N_NOTICES_LOST that precedes the next one. It takes the
journal slot of the oldest item still held, which is lost with them. -/
def State.stepReplay (s : State) (q n last : Nat) : State :=
  let oldest := (s.que q).posted - 65536
  if n < oldest then
    let next := min (oldest + 1) (last + 1)
    let r := s.lostNotice q n (next - n)
    (r.1.upQue q fun c => c.replayTo next last).enterReplayed q r.2.1 r.2.2
  else
    let s := s.upQue q fun c => c.replayTo (n + 1) last
    let r := s.readJournal q n
    match r.2 with
    | none => r.1.upQue q fun c => c.lose n
    | some i => r.1.enterReplayed q n i

/-- The next item enters the chain as a stage is free: items that enter at 15 first, then a replay's, then the others (R393, R412). -/
def chainEntry (q : Nat) (s : State) : State :=
  -- a queue whose drain has become JOURNAL holds no item, so a replay of it is over (R395)
  let s := if s.st.queueDrain q = .journal then s.upQue q fun c => { c with replay := none } else s
  let c := s.que q
  if !c.hasRoom then s
  else
    match c.replay with
    | some (n, last) =>
      match c.waiting.find? (fun w => w.prio == 15) with
      | some w => s.enterWaiting q w
      | none => s.stepReplay q n last
    | none =>
      match c.waiting with
      | [] => s
      | w :: _ => s.enterWaiting q w

/-- CRIER_CHAIN_ENTRY (R393). -/
def execCrierChainEntry (q : Fin 64) (s : State) : Ans := act s (chainEntry q.val)

/-! ### Aging (R392) -/

/-- An item that has waited 1 ms rises by one priority, up to 14; items at 15 do not age. -/
def ChainItem.age (tick : Nat) (x : ChainItem) : ChainItem :=
  if x.aged + Config.ticksPerMs ≤ tick then { x with aged := x.aged + Config.ticksPerMs, prio := if x.prio < 14 then x.prio + 1 else x.prio } else x

/-- Aging of a chain. -/
def aging (q : Nat) (s : State) : State := s.upQue q fun c => { c with chain := c.chain.map (ChainItem.age s.tick) }

/-- PRIORITY_AGING (R392). -/
def execPriorityAging (q : Fin 64) (s : State) : Ans := act s (aging q.val)

/-! ### Which item leaves (R392, R402) -/

/-- Items of another drain posted earlier, in the chain or in the journal alone, go first (R402). -/
def Queue.earlierOther (c : Queue) (x : ChainItem) : Bool :=
  c.chain.any (fun y => !y.replayed && decide (y.nseq < x.nseq) && !(decide (y.drain = x.drain) && y.ring == x.ring)) ||
    c.waiting.any (fun w => decide (w.nseq < x.nseq) && !(decide (w.drain = x.drain) && w.ring == x.ring))

/-- The item that a drain takes: of highest priority, the first to have entered among equals (R392), of those that may leave now. -/
def Queue.head (c : Queue) (ok : ChainItem → Bool) : Option ChainItem :=
  (c.chain.filter (fun x => ok x && (x.replayed || !c.earlierOther x))).foldl (fun best x =>
    match best with
    | none => some x
    | some b => if b.prio < x.prio then some x else some b) none

/-- The 128 bits of an item, w0 uppermost. -/
def Item.bits (i : Item) : BitVec 128 := i.w0 ++ i.w1 ++ i.w2 ++ i.w3

/-- The item that 128 bits hold. -/
def Item.ofBits (v : BitVec 128) : Item :=
  { w0 := v.extractLsb' 96 32, w1 := v.extractLsb' 64 32, w2 := v.extractLsb' 32 32, w3 := v.extractLsb' 0 32 }

/-- What the SEC-DED bits of a stage deliver (R392, R394): the item, and whether an error in it was corrected; none for an uncorrectable one. Three or
more wrong bits are a free value (log entry 14). -/
def ChainItem.decode (x : ChainItem) : Option (Item × Bool) :=
  let n := ((List.range 137).filter (fun i => x.flips.getLsbD i)).length
  if n = 0 then some (x.item, false)
  else if n = 1 then some (x.item, true)
  else if n = 2 then none
  else
    let r := Config.manyBitItem x.item.bits.toNat x.flips.toNat
    if r.2 then some (Item.ofBits r.1, true) else none

/-- The copy of a chain item that the journal holds (R394): none where its slot has been reused or its copy is uncorrectable. -/
def State.journalCopy (s : State) (q n : Nat) : State × Option Item :=
  if (s.que q).posted ≤ n + 65536 then s.readJournal q n else (s, none)

/-- An item of the chain stands in its stage with no wrong bit. -/
def Queue.restage (c : Queue) (x : ChainItem) (i : Item) : Queue :=
  { c with chain := c.chain.map fun y => if y = x then { x with item := i, flips := 0 } else y }

/-- An item of the chain is lost (R394). -/
def Queue.loseStage (c : Queue) (x : ChainItem) : Queue := { c with chain := eraseFirst (fun y => decide (y = x)) c.chain }.lose x.nseq

/-- The chain's head as it leaves (R394): a correctable error is corrected and counted in QUE_CE, an item with an uncorrectable one is replaced by its
journal copy, and where that is uncorrectable too it is lost and the next head is taken. At most `n` items are lost. -/
def State.soundHead (ok : State → ChainItem → Bool) (q : Nat) : Nat → State → State × Option ChainItem
  | 0, s => (s, none)
  | n + 1, s =>
    match (s.que q).head (ok s) with
    | none => (s, none)
    | some x =>
      match x.decode with
      | some (i, corrected) =>
        (if corrected then s.upQue q fun c => { c.restage x i with ce := satInc c.ce } else s, some { x with item := i, flips := 0 })
      | none =>
        let r := s.journalCopy q x.nseq
        match r.2 with
        | some i => (r.1.upQue q fun c => c.restage x i, some { x with item := i, flips := 0 })
        | none => State.soundHead ok q n (r.1.upQue q fun c => c.loseStage x)

/-- The sound head of a queue's chain. -/
def State.takeHead (s : State) (q : Nat) (ok : State → ChainItem → Bool) : State × Option ChainItem :=
  State.soundHead ok q ((s.que q).chain.length + 1) s

/-- A loss of a queue may be told by the drain of `x` (R394): on the rim, a hub that does not publish sends the notices of F_TANDEM's queue alone (R358). -/
def State.mayTell (s : State) (q : Nat) (x : ChainItem) : Bool := decide (x.drain ≠ .rim) || s.publishes || decide (q = s.st.tandemQ)

/-- What leaves when `x` is the head: a loss is told first, one notice for each range (log entry 19, DESIGN CHOICE), otherwise `x` itself leaves its stage
(R394). -/
def State.leaveChain (s : State) (q : Nat) (x : ChainItem) : State × Nat × Item :=
  match s.mayTell q x, (s.que q).lost with
  | true, (first, count) :: rest => (s.upQue q fun c => { c with lost := rest }).lostNotice q first count
  | _, _ => (s.upQue q fun c => { c with chain := eraseFirst (fun y => decide (y = x)) c.chain }, x.nseq, x.item)

/-! ### SPI (R395, R403) -/

/-- What QUE_POP reads while its queue is empty. -/
def noItem : Item := { w0 := 0xFFFFFFFF, w1 := 0xFFFFFFFF, w2 := 0xFFFFFFFF, w3 := 0xFFFFFFFF }

/-- QUE_POP[q][0] is read by master `m`: the head item leaves into the master's hold. -/
def queuePop (m : Master) (q : Nat) (s : State) : State :=
  let h := s.takeHead q fun _ x => decide (x.drain = .spi)
  match h.2 with
  | none => h.1.upMst m fun r => { r with popHold := r.popHold.set noItem q noItem }
  | some x =>
    let r := h.1.leaveChain q x
    r.1.upMst m fun h => { h with popHold := h.popHold.set noItem q r.2.2 }

/-- The word that QUE_POP[q][w] reads from the hold. -/
def State.popWord (s : State) (m : Master) (q w : Nat) : Word :=
  let i := (s.mst m).popHold.get noItem q
  match w with | 0 => i.w0 | 1 => i.w1 | 2 => i.w2 | _ => i.w3

/-- QUEUE_POP (R403): the word read is that of the item now in the hold. -/
def execQueuePop (m : Master) (q : Fin 64) (s : State) : Ans :=
  act s fun s => occurs s (decide (s.glb.state ≠ .reset)) fun s =>
    let s := queuePop m q.val s
    s.emit (.readData m [s.popWord m q.val 0])

/-! ### Rings and rim (R395) -/

/-- Bytes of a ring (R400). -/
def Ring.size (r : Ring) : Nat := 2 ^ r.cfg.field 28 24
def Ring.enabled (r : Ring) : Bool := r.cfg.flag 31
def Ring.isBlock (r : Ring) : Bool := r.cfg.flag 30
/-- Bytes written and not consumed, modulo 2^32 (R401). -/
def Ring.used (r : Ring) : Nat := (r.prod + 2 ^ 32 - r.cons % 2 ^ 32) % 2 ^ 32

/-- An item may leave a hub of a tandem that does not publish (R358): completions of commands to its own address, notices of F_TANDEM's queue. -/
def State.mayLeave (s : State) (q : Nat) (x : ChainItem) : Bool :=
  s.publishes || (if x.item.isCompletion then !(s.que q).service.contains x.nseq else decide (q = s.st.tandemQ))

/-- The source address of an item's frame: the service address for a completion of a command addressed to it. -/
def State.itemSource (s : State) (q : Nat) (x : ChainItem) : Nat :=
  s.controlSource (x.item.isCompletion && (s.que q).service.contains x.nseq)

/-- The item leaves as an ALARM frame (R395): of priority 15, in `express_q`, and no loss is told first. -/
def State.asAlarm (s : State) (q : Nat) (x : ChainItem) : Bool :=
  decide (x.prio = 15) && decide (q = s.st.expressQ) && s.publishes && (s.que q).lost.isEmpty

/-- A drain may take the item now: a NOTICE ring with credit for it and what waits before it, or room in the CONTROL window (R327, R401). A priority-15
item of `express_q` leaves as an ALARM frame, which needs none (R395). -/
def State.drainReady (s : State) (q : Nat) (x : ChainItem) : Bool :=
  match x.drain with
  | .ring =>
    let r := s.ring x.ring
    r.enabled && (r.isBlock || decide (r.used + 16 * r.backlog.length + 16 ≤ r.size))
  | .rim =>
    decide (s.lnk.rim.addr ≠ 4095) && s.mayLeave q x &&
      (s.asAlarm q x || s.ctlRoom (s.itemSource q x) 0)
  | .reserved => true
  | _ => false

/-- The drain takes the head item and delivers it (R395). An item for a BLOCK ring or of a reserved drain is an undefined use (R404). -/
def drain (q : Nat) (s : State) : State :=
  let h := s.takeHead q fun s => s.drainReady q
  let s := h.1
  match h.2 with
  | none => s
  | some x =>
    match x.drain with
    | .ring =>
      let r := s.leaveChain q x
      if (s.ring x.ring).isBlock then s.undefinedUse 404
      else r.1.upRing x.ring fun g => { g with backlog := g.backlog ++ [(.notice q r.2.1 r.2.2, false)] }
    | .rim =>
      let r := s.leaveChain q x
      if s.asAlarm q x then r.1.sendExpress 0 (.alarm r.2.2)
      else if r.2.2.isCompletion then r.1.sendControl (s.itemSource q x) 0 (.completion r.2.2)
      else r.1.sendControl s.lnk.rim.addr 0 (.notice r.2.2)
    | .reserved => s.undefinedUse 404
    | _ => s

/-- CRIER_DRAIN (R395). -/
def execCrierDrain (q : Fin 64) (s : State) : Ans := act s (drain q.val)

/-! ### Replay (R412) -/

/-- QUE_REPLAY[q] is written with `go`: a replay starts, or starts again, from `from` read as the item issued − d. -/
def replayStart (q : Nat) (v : Word) (s : State) : State :=
  let s := s.upQue q fun c => { c with replayFrom := v.field 31 16 }
  let s := if v.field 13 0 = 0 then s else s.undefinedUse 12
  let c := s.que q
  if !v.flag 15 ∨ s.glb.state = .reset then s
  else if c.posted = 0 ∨ s.st.queueDrain q = .journal then s.upQue q fun c => { c with replay := none }
  else
    let issued := c.posted - 1
    let d := (issued + 65536 - v.field 31 16) % 65536
    s.upQue q fun c => { c with replay := some (issued - d, issued) }

/-- JOURNAL_REPLAY_START (R412). -/
def execJournalReplayStart (q : Fin 64) (value : Word) (s : State) : Ans := act s (replayStart q.val value)

end Sys2Proof.Machine
end

