-- ==== Sys2Proof/Machine/HostRings.lean ====
section
/-! DEFINITION. The PCIe host rings (R400, R401, R403): what is written next, entries and pads under credit, the write-back and the MSI-X vector,
enabling and disabling. -/

namespace Sys2Proof.Machine

/-- An entry to be written, with what it carries. -/
abbrev RingWrite := RingEntry × RingRef

/-- Bytes of an entry (R400): a notice takes 16, a block or record entry is padded to a multiple of 64. -/
def RingEntry.length : RingEntry → Nat
  | .notice _ => 16
  | .block bytes => ceilDiv bytes.length 64 * 64
  | .record _ bytes => ceilDiv (16 + bytes.length) 64 * 64

/-- Bytes with zeros up to a multiple of 64. -/
def padTo64 (bs : List Byte) : List Byte := bs ++ List.replicate (ceilDiv bs.length 64 * 64 - bs.length) 0

/-- An entry as it lies in host memory (R400), its words as the hub stores them (log entry 34, DEDUCED). -/
def RingEntry.bytes : RingEntry → List Byte
  | .notice i => itemBytes i
  | .block bytes => padTo64 bytes
  | .record stall bytes => padTo64 (leBytes 4 0xFFFE0000 ++ leBytes 4 stall ++ leBytes 4 bytes.length ++ leBytes 4 0 ++ bytes)

/-- The first word of a pad entry (R400). -/
def padWord : Word := 0xFFFF0000

/-! ### Writing (R400, R401) -/

/-- The pad bytes that an entry of `n` bytes needs before it: up to the end of the ring if it would cross it. -/
def Ring.padFor (r : Ring) (n : Nat) : Nat :=
  let at' := r.prod % r.size
  if at' + n ≤ r.size then 0 else r.size - at'

/-- One entry is written when the credit covers it and its pad together; none otherwise. -/
def State.ringPut (s : State) (r : Nat) (w : RingWrite) : Option State :=
  let g := s.ring r
  let n := w.1.length
  let pad := g.padFor n
  if g.size < g.used + pad + n then none
  else
    let s := if pad = 0 then s else s.emit (.ringPad r (g.prod % g.size) pad padWord)
    let s := s.emit (.ringWrite r ((g.prod + pad) % g.size) w.1 w.1.bytes)
    let stop := (g.prod + pad + n) % 2 ^ 32
    some (s.upRing r fun x => { x with prod := stop, written := x.written ++ [(stop, w.2)] })

/-- Several entries are written, or none of them. -/
def State.ringPutAll (s : State) (r : Nat) (ws : List RingWrite) : Option State :=
  ws.foldl (fun o w => o.bind fun s => s.ringPut r w) (some s)

/-- After a burst: the produced count is written back, and MSI-X vector r follows if `irq` is set and `irq_gap_us` have passed since it was last
sent; otherwise it is deferred (R401). -/
def State.ringBurst (s : State) (r : Nat) : State :=
  let g := s.ring r
  let s := s.emit (.writeBack g.wb (wordOf g.prod))
  if !g.cfg.flag 29 then s
  else if s.passedOpt g.vecTick (us (g.cfg.field 15 0)) then
    (s.sendVector r).upRing r fun x => { x with vecTick := some s.tick, vecDue := false }
  else s.upRing r fun x => { x with vecDue := true }

/-! ### What is written next -/

/-- What stall `k` handed over, as entries; `extra` is the flag set at sending. -/
def handedEntries (k extra : Nat) (hs : List Handed) : List RingWrite := hs.map (fun h => (.block h.1, .item k h.2 extra))

/-- The backlog of a ring. -/
def State.setBacklog (s : State) (r : Nat) (l : List (RingRef × Bool)) : State := s.upRing r fun g => { g with backlog := l }

/-- One N_NOTICES_LOST for each range of a queue's items, with the entries that carry them. -/
def State.tellLost (s : State) (q : Nat) (ranges : List (Nat × Nat)) : State × List RingWrite :=
  ranges.foldl (fun (a : State × List RingWrite) x =>
    let l := a.1.lostNotice q x.1 x.2
    (l.1, a.2 ++ [(.notice l.2.2, .notice q l.2.1 l.2.2)])) (s, [])

/-- An entry that had been written before the ring was disabled, read afresh (R403): a notice from the journal, and one N_NOTICES_LOST for each range of
those whose slots have been reused; a block from its stall; a descriptor, or nothing where it is no longer held or cannot be read. -/
def State.ringAgain (s : State) (r : Nat) (x : RingRef) (rest : List (RingRef × Bool)) : State × List RingWrite :=
  match x with
  | .notice q n _ =>
    let posted := (s.que q).posted
    let gone (y : RingRef × Bool) : Bool := match y.1 with | .notice q' n' _ => y.2 && q' == q && decide (n' + 65536 < posted) | _ => false
    if n + 65536 < posted then
      let run := rest.takeWhile gone
      let ns := n :: run.filterMap (fun y => match y.1 with | .notice _ n' _ => some n' | _ => none)
      (s.setBacklog r (rest.drop run.length)).tellLost q (ns.foldl (fun l k => insertLost k l) [])
    else
      let j := s.readJournal q n
      match j.2 with
      | some i => (j.1.setBacklog r rest, [(.notice i, .notice q n i)])
      | none =>
        let l := (j.1.setBacklog r rest).lostNotice q n 1
        (l.1, [(.notice l.2.2, .notice q l.2.1 l.2.2)])
  | .item k i flags =>
    let f := if bitOf flags 3 then flags else flags + flagResend
    let h := (s.setBacklog r rest).handFresh k i f false
    (h.1, handedEntries k f h.2)
  | .record k n =>
    match s.recordOf k n with
    | none => (s.setBacklog r rest, [])
    | some d =>
      let f := (s.setBacklog r rest).fetchBytes d.addr d.size
      (f.1, if f.2.2 then [] else [(.record k f.2.1, .record k n)])

/-- A READ_RECORD that has a descriptor for ring `r` to hand over. -/
def RecordRead.forRing (r : Nat) (x : RecordRead) : Bool := x.toHost && x.ring == r && decide (x.handed < x.bytes.length)

/-- What stalls have for ring `r`: 1 the next of a stream, 2 a replay, 3 a descriptor, 4 a gap record that a commit has left (R259), with the
stall. -/
def State.ringChoices (s : State) (r : Nat) : List (Nat × Nat) :=
  s.path.stalls.flatMap (fun e =>
    let k := e.1
    let w := e.2
    let stream := s.st.streamIn k
    (if w.waits && (match stream with
        | none => false
        | some i => s.st.stored i && s.st.dest i == 2 && s.st.streamRing i == r && !s.owesGap i true r) then [(1, k)] else []) ++
      (if w.replays.any (fun j => j.toHost && j.ring == r && (j.gap.isSome || !j.todo.isEmpty)) then [(2, k)] else []) ++
      (if w.reads.any (RecordRead.forRing r) then [(3, k)] else []) ++
      (if w.oldGaps.any (fun g => g.1 && g.2.1 == r && !s.olderGap g) then [(4, k)] else []))

/-- One choice carried out. -/
def State.ringChoice (s : State) (r : Nat) (c : Nat × Nat) : State × List RingWrite :=
  let k := c.2
  match c.1 with
  | 1 => let h := s.handNext k; (h.1, handedEntries k 0 h.2)
  | 2 => let h := s.handReplay k true; (h.1, handedEntries k flagReplay h.2)
  | 3 =>
    match (s.stall k).reads.find? (RecordRead.forRing r) with
    | none => (s, [])
    | some x =>
      (s.upStall k fun w => { w with reads := w.reads.map (fun q => if q = x then { q with handed := q.bytes.length, sent := q.bytes.length } else q) },
        [(.record k x.bytes, .record k (x.item.b 31 0))])
  | _ =>
    match (s.stall k).oldGaps.find? (fun g => g.1 && g.2.1 == r && !s.olderGap g) with
    | none => (s, [])
    | some g =>
      (s.upStall k fun w => { w with oldGaps := eraseFirst (fun q => decide (q = g)) w.oldGaps },
        [(.block (s.handGap g.2.2 0).1, .item k (.gap g.2.2) 0)])

/-- The next entries of a ring: its backlog, then on a BLOCK ring what the stalls have for it, whose order among streams the manual leaves open: a
free choice (log entry 21). -/
def State.ringNext (s : State) (r : Nat) : State × List RingWrite :=
  match (s.ring r).backlog with
  | (x, true) :: rest => s.ringAgain r x rest
  | (x, false) :: rest =>
    match x with
    | .notice q n i => (s.setBacklog r rest, [(.notice i, .notice q n i)])
    | _ => (s.setBacklog r rest, [])
  | [] =>
    let choices := s.ringChoices r
    if choices.isEmpty then (s, [])
    else if !(s.ring r).isBlock then (s.undefinedUse 404, [])
    else
      let c := choices.getD ((Config.unspecified s.freeCount : Nat) % choices.length) (0, 0)
      s.draw.ringChoice r c

/-- Entries are written into an enabled ring as its credit allows, with the write-back and the vector after them (R401). A stream that names a NOTICE
ring is an undefined use (R404). -/
def ringWrite (r : Nat) (s : State) : State :=
  if s.glb.state = .reset ∨ !(s.ring r).enabled then s
  else
    let n := s.ringNext r
    match n.2 with
    | [] => n.1
    | ws => match n.1.ringPutAll r ws with | none => s | some s' => s'.ringBurst r

/-- RING_ENTRY_WRITE (R401). -/
def execRingEntryWrite (r : Fin 64) (s : State) : Ans := act s (ringWrite r.val)

/-! ### The host's writes (R401, R403, R404) -/

/-- A count lies after `a` and not after `b` on the circle of 2^32. -/
def countWithin (a b x : Nat) : Bool :=
  let d := (x + 2 ^ 32 - a % 2 ^ 32) % 2 ^ 32
  decide (0 < d) && decide (d ≤ (b + 2 ^ 32 - a % 2 ^ 32) % 2 ^ 32)

/-- QUE_RING_CONS[r] is written (R401): the entries up to it are consumed. A count beyond the produced one is an undefined use (R404). -/
def ringConsume (r : Nat) (v : Word) (s : State) : State :=
  if s.glb.state = .reset then s
  else
    let g := s.ring r
    let s := if v.toNat = g.cons ∨ countWithin g.cons g.prod v.toNat then s else s.undefinedUse 404
    s.upRing r fun x => { x with cons := v.toNat, written := x.written.filter (fun e => countWithin v.toNat x.prod e.1) }

/-- RING_CREDIT_WRITE (R401). -/
def execRingCreditWrite (r : Fin 64) (value : Word) (s : State) : Ans := act s (ringConsume r.val value)

/-- A deferred vector is sent once when its gap ends (R401). -/
def msixGap (r : Nat) (s : State) : State :=
  let g := s.ring r
  if g.vecDue && g.cfg.flag 29 && s.passedOpt g.vecTick (us (g.cfg.field 15 0)) then
    (s.sendVector r).upRing r fun x => { x with vecTick := some s.tick, vecDue := false }
  else s

/-- MSIX_GAP_END (R401). -/
def execMsixGapEnd (r : Fin 64) (s : State) : Ans := act s (msixGap r.val)

/-- The size and base of a ring keep R400. -/
def Ring.sound (g : Ring) (cfg : Word) : Bool :=
  decide (12 ≤ cfg.field 28 24) && decide (cfg.field 28 24 ≤ 26) && decide (g.base % 64 = 0) && decide (g.wb % 4 = 0)

/-- The writable bits of QUE_RING_CFG (R403). -/
def ringCfgMask : Word := 0xFF00FFFF

/-- QUE_RING_CFG[r] is written with `enable` set (R403, R404): the ring starts; entries written and not consumed before are written again. A change of
another field while it is enabled, or an unsound ring, is an undefined use. -/
def ringEnable (r : Nat) (v : Word) (s : State) : State :=
  if s.glb.state = .reset ∨ !v.flag 31 then s
  else
    let g := s.ring r
    let s := if g.enabled ∧ g.cfg ≠ v &&& ringCfgMask then s.undefinedUse 404 else s
    let s := if g.sound v then s else s.undefinedUse 404
    let s := if v.field 23 16 = 0 then s else s.undefinedUse 12
    s.upRing r fun x => { x with cfg := v &&& ringCfgMask }

/-- RING_ENABLE (R403). -/
def execRingEnable (r : Fin 64) (value : Word) (s : State) : Ans := act s (ringEnable r.val value)

/-- QUE_RING_CFG[r] is written with `enable` clear (R403): both counts go to 0, and what was written and not consumed is to be written again, in its
order, ahead of every other entry. A vector deferred within its gap stays due (R401). -/
def ringDisable (r : Nat) (v : Word) (s : State) : State :=
  if s.glb.state = .reset ∨ v.flag 31 then s
  else
    let s := if v.field 23 16 = 0 then s else s.undefinedUse 12
    s.upRing r fun x =>
      if x.enabled then
        { x with cfg := v &&& ringCfgMask, prod := 0, cons := 0, written := []
                 backlog := x.written.map (fun e => (e.2, true)) ++ x.backlog }
      else { x with cfg := v &&& ringCfgMask }

/-- RING_DISABLE (R403). -/
def execRingDisable (r : Fin 64) (value : Word) (s : State) : Ans := act s (ringDisable r.val value)

end Sys2Proof.Machine
end

