-- ==== Sys2Proof/Machine/Looks.lean ====
section
/-! DEFINITION. Modulators and look sequences (06_modulators_and_looks): modulator overload (R157, R158) and the start of a look's run in a
multi-look sequence (R151). -/

namespace Sys2Proof.Machine

/-- The sequence of a modulator, as `State.modu` numbers it. -/
def modSeq : ModId → Nat
  | .spoke i => i.val
  | .aux l => 768 + l.val

/-- An open wire is present on the spoke of a sequence (R158); an auxiliary modulator has none. -/
def State.seqOpenWire (s : State) (seq : Nat) : Bool := decide (seq < 768) && (s.spoke seq).openWire

/-- A modulator's overload flag (R157): the integrators are cleared over the next 4 clocks, every sample whose kernel meets a flagged or
clearing clock carries INVALID, the reset is counted, and a fault event is counted at most once per look per 1 ms. Under an open wire
only the count and the tag happen (R158). A flag during an idle slot belongs to the look whose slot is idle (log entry 36, DESIGN CHOICE). -/
def overload (seq : Nat) (s : State) : State :=
  let stream := s.runningStream seq
  if s.live && s.glb.sampling && s.st.lookRuns stream then
    let c := s.st.clk stream
    let t := s.fine
    let s := s.upModu seq fun m =>
      { m with overloads := satInc m.overloads, clearing := some s.tick, clears := t :: m.clears.filter (fun x => decide (t < x + logSpan)) }
    let s := s.addSpan stream { tag := tagInvalid, rule := .kernel, start := t - 3 * c, stop := some (t + 2 * c), blank := false, cause := 0 }
    if s.seqOpenWire seq then s
    else
      let s := s.upLook stream fun l => { l with ovlNote := l.ovlNote + 1, ovlFirst := if l.ovlNote = 0 then s.now else l.ovlFirst }
      if mayCount s (s.look stream).ovlTick then (s.upLook stream fun l => { l with ovlTick := some s.tick }).faultEvent 7 seq else s
  else s

/-- MOD_OVERLOAD (R157). -/
def execModOverload (m : ModId) (s : State) : Ans := act s (overload (modSeq m))

/-- The queue for a look's notices: its spoke's or its lace's (R157). -/
def Struct.lookQ (st : Struct) (stream : Nat) : Nat :=
  if isAux stream then st.laceQ ((stream - 12288) / 16) else st.spokeQ (stream / 16)

/-- N_MOD_OVERLOAD at the end of a cadence epoch, with the resets since the previous notice (R157). -/
def State.noteOverloads (s : State) (stream : Nat) : State :=
  let l := s.look stream
  if l.ovlNote = 0 then s
  else (s.notify (s.st.lookQ stream) 0x23 stream l.ovlNote (argT l.ovlFirst)).upLook stream fun x => { x with ovlNote := 0 }

/-- A run of look `stream` of sequence `seq` begins at fine time `t` (R102, R110, R151): the look resumes its gear, or takes the shift deferred to this
run, which is counted here; a deferred shift waits while an open wire freezes the gear (R109). -/
def State.runGear (s : State) (seq stream t : Nat) : State :=
  match (s.look stream).startNext with
  | none => s
  | some g =>
    if seq < 768 ∧ (s.spoke seq).frozen then s
    else (s.upLook stream fun l => { l with gear := g, startNext := none, lastShift := t }).countShift stream (t / 65536)

/-- The chain of a look starts anew with a run, the rank window running on (R147, R151). -/
def Look.beginRun (l : Look) (t c : Nat) : Look :=
  let l := l.putGear l.gear t (t / (8 * max 1 c)) c
  { l with resets := l.resets ++ [(t, true)] }

/-- The first clock of a look's run (R151): gear, source, shunt and test marking are those of the look from here on (State.frontEnd), and its gear
command goes out; its chain is reset; with `discard` 0 the first sample carries UNSETTLED. -/
def State.beginRun (s : State) (seq stream t : Nat) : State :=
  let s := (s.runGear seq stream t).upLook stream fun l => l.beginRun t (s.st.clk stream)
  let s := if seq < 768 then s.emit (.gearCommand seq (s.st.gearCode stream (s.look stream).gear)) else s
  if s.st.discard stream = 0 then
    s.addSpan stream { tag := tagUnsettled, rule := .instant, start := t, stop := some (s.st.instantOf stream (s.st.indexAt stream t + 1))
                       blank := false, cause := causeRun }
  else s

/-- The run of the look whose slot has begun starts, once. -/
def runStart (seq : Nat) (s : State) : State :=
  let f := firstOf seq
  let slot := s.slotNow seq
  let stream := s.runningStream seq
  let pass := s.clocksNow seq / s.st.passClocks f
  if s.live && s.glb.sampling && s.st.multiLook f && s.st.lookRuns stream && !slot.2 && decide ((s.modu seq).run ≠ some (pass, slot.1)) then
    (s.upModu seq fun m => { m with run := some (pass, slot.1) }).beginRun seq stream
      ((pass * s.st.passClocks f + s.st.slotStart stream) * s.st.clk f)
  else s

/-- LOOK_RUN_START (R151). -/
def execLookRunStart (m : ModId) (s : State) : Ans := act s (runStart (modSeq m))

end Sys2Proof.Machine
end

