-- ==== Sys2Proof/Machine/Chain.lean ====
section
/-! DEFINITION. A look's chain from its modulator's codes to the words that leave it for scaling (R16, 07_filter_chain): stage 1, rescale and mend, the
demodulator, stage 2, the compensation FIR or the single-cycle word, REV, and the programmable FIR or the rank filter. Code m of a modulator is the one it
emits in clock m since network time 0. -/

namespace Sys2Proof.Machine

/-! ### The codes a chain holds -/

/-- The chain takes up the codes up to clock `hi`, of which it needs those from `lo` on: it holds some, and the others stand first in `codes`. -/
def Look.fetch (l : Look) (lo hi : Int) (codes : List Int) : Option (Look × List Int) :=
  let keep := if l.codeEnd ≤ lo then [] else l.codes
  let held := if l.codeEnd ≤ lo then lo else l.codeEnd
  let n := (hi - held).toNat
  if codes.length < n then none
  else
    let all := keep ++ codes.take n
    let end_ := max hi held
    some ({ l with codes := lastN (end_ - lo).toNat all, codeEnd := end_ }, codes.drop n)

/-- A look's chain after one synchronising reset (R49, R98, R147, R175): it starts empty, and the rank window too unless it runs on. -/
def Look.resetBy (l : Look) (r : Nat × Bool) : Look :=
  { l with codes := [], codeEnd := 0, chainFrom := r.1, rankHist := if r.2 then l.rankHist else [], rankNext := if r.2 then l.rankNext else none }

/-- The resets that the samples at fine instant `t` come after. With `runs`, those of runs alone, up to the next reset of another kind: the inputs of a
rank window that reach into the runs to come (R147). -/
def Look.due (l : Look) (t : Nat) (runs : Bool) : List (Nat × Bool) :=
  l.resets.takeWhile fun r => decide (r.1 ≤ t) && (r.2 || !runs)

/-- The chain as those resets leave it. -/
def Look.applyResets (l : Look) (t : Nat) (runs : Bool) : Look :=
  (l.due t runs).foldl Look.resetBy { l with resets := l.resets.drop (l.due t runs).length }

/-! ### Where an input of the chain lies (R164, R169, R171) -/

/-- B + F of a sample without its rank window, in clocks; in REV mode that of its later word. -/
def Struct.wordClocks (st : Struct) (stream : Nat) : Nat :=
  if st.single stream then 5 * st.osr stream - 3 else (34 + st.taps stream) * st.osr stream - 4

/-- The place in its run of the word that gives sample `k`, discarded words included (R151); in a one-look sequence it counts from the synchronising
reset at fine time `reset`, discard being ignored there (R146). -/
def Struct.wordInRun (st : Struct) (stream reset k : Nat) : Nat :=
  if st.multiLook stream then k % st.runSamples stream + st.discard stream else k - st.indexAt stream reset

/-- The clocks from which on, and before which, the chain of the sample at clock `m` may take codes: from its reset, and within its run. -/
def Struct.codeRange (st : Struct) (stream : Nat) (l : Look) (m : Nat) : Int × Option Int :=
  let reset : Int := (ceilDiv l.chainFrom (st.clk stream) : Nat)
  if st.multiLook stream then
    let r := st.runAt stream m
    (max reset (r.1 : Int), some (r.2 : Int))
  else (reset, none)

/-! ### The stages (R103, R104, R163 to R171) -/

/-- The 48-bit words of a run of codes that begins at clock `a`, demodulated for a SINE_V bridge (R103, R104, R165). -/
def State.wordsFrom (s : State) (st : Struct) (stream : Nat) (l : Look) (a : Int) (n : Nat) : List Int :=
  let ws := s.mendedWords st stream l a n
  if !isAux stream && st.isBridge (stream / 16) && st.drive (stream / 256) == 2 then
    ((List.range ws.length).zip ws).map fun e => s.product st stream false (a + 8 * (e.1 : Int)) e.2
  else ws

/-- A stage-2 word of a DC_V bridge divided by the sensed excitation at the end of its kernel, the clock `m` (R167). -/
def State.shared (s : State) (st : Struct) (stream : Nat) (m w : Int) : Int :=
  if !isAux stream && st.isBridge (stream / 16) && st.drive (stream / 256) == 1 then
    divided w (s.shareAt st (stream / 256) (m.toNat * st.clk stream)).1
  else w

/-- The fractional delay of a look in ps (R171): 20 ns less the skew of its spoke, whose σ of an auxiliary look is 0. -/
def State.fractional (s : State) (stream : Nat) : Int := 20000 - (if isAux stream then 0 else s.skewApplied (stream / 16))

/-- The words of the compensation FIR whose kernels lie in `n` clocks from clock `a` on (R168, R170). -/
def State.compWords (s : State) (st : Struct) (stream : Nat) (l : Look) (a : Int) (n : Nat) : List Int :=
  let two := stageTwo (st.osr stream / 8) (s.wordsFrom st stream l a n)
  let two := ((List.range two.length).zip two).map fun e =>
    s.shared st stream (a + (st.osr stream * e.1 + 5 * st.osr stream - 4 : Nat)) e.2
  compensated (st.minPhase stream) (st.entry stream 1 30 27) (st.lowPower stream) (s.fractional stream) two

/-- The single-cycle word whose kernel begins at clock `a` (R169, R171): the stage-1 words of two grids one clock apart, interpolated. -/
def State.settledWord (s : State) (st : Struct) (stream : Nat) (l : Look) (a : Int) : Int :=
  let n := 5 * st.osr stream - 4
  let c := if st.lowPower stream then 312500 else 78125
  let ws := delayed (s.fractional stream) c (s.wordsFrom st stream l a n) (s.wordsFrom st stream l (a + 1) n)
  s.shared st stream (a + (n + 1 : Nat)) ((stageTwo (st.osr stream / 8) ws).headD 0)

/-- REV (R98): half the difference of the latest POS word and the latest NEG word; `neg` tells that the later word is a NEG word. -/
def revValue (neg : Bool) (earlier later : Int) : Int :=
  Q.near { num := if neg then earlier - later else later - earlier, den := 2 }

/-- The `i`-th word of a run in REV mode is a NEG word: the source reverses after every settled word (R98). The manual does not state the polarity of
the first (log entry 17). -/
def revNeg (i : Nat) : Bool := decide (i % 2 = 1) != Config.revFirstNeg

/-- What one chain step gives: the look with the codes it holds, the codes not taken up, the word, whether a FIR saturated (R172), and whether the
word has no partner in REV mode, whose value is then `free`. -/
structure ChainStep where
  look : Look
  rest : List Int
  word : Int
  clipped : Bool
  alone : Bool

/-- The word of index `k` that a look's chain forms before a rank filter, with `codes` the modulator codes that have come since the word before. -/
def State.chainWord (s : State) (st : Struct) (stream k : Nat) (l : Look) (codes : List Int) (free : Int) : Option ChainStep :=
  let t := st.instantOf stream k
  let stop : Int := (st.kernelEnd stream t : Nat)
  let n := st.wordClocks stream
  let a := stop - n
  let pad : Int := if isAux stream then 0 else 40
  let range := st.codeRange stream l (t / st.clk stream)
  let i := st.wordInRun stream l.chainFrom k
  let before := a - 5 * st.osr stream
  let paired := st.rev stream && decide (0 < i)
  let lo := max range.1 ((if paired then before else a) - pad)
  let hi := match range.2 with | none => stop + pad | some e => min e (stop + pad)
  match l.fetch lo hi codes with
  | none => none
  | some (l, rest) =>
    if st.rev stream then
      let w := s.settledWord st stream l a
      some { look := l, rest := rest, clipped := false, alone := !paired
             word := if paired then revValue (revNeg i) (s.settledWord st stream l before) w else free }
    else if st.single stream then some { look := l, rest := rest, word := s.settledWord st stream l a, clipped := false, alone := false }
    else
      let xs := s.compWords st stream l a n
      if st.isFir stream then
        let y := firResult ((numbersFrom (st.coefBase stream) (st.taps stream)).map st.coefAt) xs.reverse
        some { look := l, rest := rest, word := y.1, clipped := y.2, alone := false }
      else some { look := l, rest := rest, word := xs.headD 0, clipped := false, alone := false }

/-! ### The rank filter (R175) -/

/-- The tags that a rank filter's inputs carry into its window (R180): those over each input's own kernel. A span that R179 counts on the outputs is
not among them. -/
def State.inputTag (s : State) (st : Struct) (stream : Nat) (l : Look) (t : Nat) : Nat :=
  let half := st.rankHalf stream * st.pOut stream
  let back := st.back stream - half
  let fwd := st.fwd stream - half
  tagOr (spanTags (l.spans.filter (fun sp => sp.cause != causeReset)) back fwd l.chainFrom t) (unlockTag s.tmb.unlocks (back + fwd) t)

/-- The tags counted on the outputs of a rank filter: the spans by represented instant, the clock's unlock over the whole kernel (R15), time state and
gear. -/
def State.outputTag (s : State) (st : Struct) (stream t : Nat) : Nat :=
  let l := s.look stream
  let tag := spanTags (l.spans.filter (fun sp => decide (sp.rule = .instant))) 0 0 l.chainFrom t
  let tag := tagOr tag (unlockTag s.tmb.unlocks (st.kernelSpan stream) t)
  let tag := if lockedAt s.tmb.lockHist t then tag else tagOr tag tagHoldover
  if isAux stream then tag
  else if st.autoranges stream then tagOr tag (gearAt l.gears (st.startGear stream) t % 4)
  else tagOr tag (st.startGear stream % 4)

/-- The inputs of a rank window from index `i` on, `n` of them, each with the codes it needs; none when they do not suffice. An input after a run's
start takes the empty chain of that run. -/
def State.rankInputs (s : State) (st : Struct) (stream : Nat) : Nat → Nat → Look → List Int → Nat → Option (Look × List Int × Nat)
  | 0, _, l, codes, free => some (l, codes, free)
  | n + 1, i, l, codes, free =>
    let t := st.instantOf stream i
    let fresh := !(l.due t true).isEmpty
    let l := l.applyResets t true
    match s.chainWord st stream i l codes (Config.unspecified free) with
    | none => none
    | some r =>
      let own := if r.alone || (st.rev stream && fresh) then tagUnsettled else 0
      let tag := tagOr (tagOr (s.inputTag st stream l t) own) (if r.clipped then tagClipped else 0)
      s.rankInputs st stream n (i + 1) { r.look with rankHist := r.look.rankHist ++ [(i, r.word, tag)], rankNext := some (i + 1) } r.rest
        (if r.alone then free + 1 else free)

end Sys2Proof.Machine
end

