-- ==== Sys2Proof/Machine/Triggers.lean ====
section
/-! DEFINITION. Trigger units (R214 to R227): source events, the combination, freewheel, captures and retriggers, the broadcast and the
TRIG_IO pulse. Instants are fine times in 2^-16 ns. -/

namespace Sys2Proof.Machine

/-- The hardware path runs (R22, R91), in FAULT too once sampling has begun (R471). -/
def State.pathRuns (s : State) : Bool := s.live || (decide (s.glb.state = .fault) && s.glb.sampling)

/-- µs and ms in 2^-16 ns. -/
def fineUs (n : Nat) : Nat := n * 1000 * 65536
def fineMs (n : Nat) : Nat := n * 1000000 * 65536

/-! ### The combination (R216) -/

/-- Held events whose instants lie in a closed interval. -/
def inInterval (held : List (Nat × Nat × Option (Nat × Nat))) (a w : Int) : List (Nat × Nat × Option (Nat × Nat)) :=
  held.filter (fun h => decide (a ≤ (h.2.1 : Int)) && decide ((h.2.1 : Int) ≤ a + w))

/-- The smallest of a list of integers. -/
def leastInt : List Int → Option Int
  | [] => none
  | x :: xs => match leastInt xs with | none => some x | some y => some (if x ≤ y then x else y)

/-- The held events in the earliest-starting closed interval of length `w` that contains `te` and at least `need` sources: an interval can
only start earliest where it ends at a held instant or at `te`. -/
def combine (held : List (Nat × Nat × Option (Nat × Nat))) (te w : Nat) (need : Nat) : Option (List (Nat × Nat × Option (Nat × Nat))) :=
  let starts : List Int := ((te : Int) - w) :: ((held.filter (fun h => decide (te ≤ h.2.1) && decide (h.2.1 ≤ te + w))).map
    (fun h => (h.2.1 : Int) - w))
  match leastInt (starts.filter (fun a => decide (need ≤ (inInterval held a w).length))) with
  | none => none
  | some a => some (inInterval held a w)

/-- The events that make a trigger when source `k` has just brought one at `te`. -/
def Struct.triggered (st : Struct) (u k te : Nat) (held : List (Nat × Nat × Option (Nat × Nat))) :
    Option (List (Nat × Nat × Option (Nat × Nat))) :=
  let w := fineUs (st.trCoincUs u)
  match st.trCombine u with
  | 0 => some (held.filter (fun h => h.1 == k))
  | 1 => combine held te w (st.trSources u)
  | _ => combine held te w (max 1 (st.trK u))

/-- The trigger point of a combination: its earliest or its latest instant (R216). -/
def pointOf (last : Bool) (hs : List (Nat × Nat × Option (Nat × Nat))) : Nat :=
  match hs with
  | [] => 0
  | h :: r => r.foldl (fun t x => if last then max t x.2.1 else min t x.2.1) h.2.1

/-! ### Freewheel (R219, R220) -/

/-- A trigger with point `t` falls in the unit's freewheel. -/
def Freewheel.holds (f : Freewheel) (t : Nat) : Bool :=
  match f with
  | .none => false
  | .time u _ => decide (t < u)
  | .count n => decide (0 < n)

/-- The freewheel that a trigger at `t` starts. -/
def Struct.freewheel (st : Struct) (u t : Nat) : Freewheel :=
  match st.trFwUnit u with
  | 0 => .time (t + fineUs (st.trFwValue u)) false
  | 1 => .time (t + fineMs (st.trFwValue u)) false
  | _ => .count (st.trFwValue u)

/-- A suppressed trigger (R220): counted, N_TRIGGER_SUPPRESSED at the first after a trigger that was not suppressed and then at most once per
100 ms; the events that formed it are cleared. Suppressions within 100 ms of the last notice are told with the next suppression after it, not when the
100 ms end (log entry 19, DESIGN CHOICE). -/
def State.suppress (s : State) (u t : Nat) (formed : List (Nat × Nat × Option (Nat × Nat))) : State :=
  let s := s.upTrig u fun x =>
    { x with held := x.held.filter (fun h => !formed.any (fun f => f.1 == h.1)), suppressed := satInc x.suppressed
             freewheel := match x.freewheel with | .count n => (if n ≤ 1 then .none else .count (n - 1)) | f => f
             supNote := x.supNote + 1, supFirst := if x.supNote = 0 then t else x.supFirst, supLast := t }
  let x := s.trig u
  if x.supFresh || s.passedOpt x.supTick (ms 100) then
    (s.notify (s.st.trQ u) 0x33 u x.supNote (x.supFirst / 65536 % 2 ^ 32 + x.supLast / 65536 % 2 ^ 32 * 2 ^ 32)).upTrig u fun y =>
      { y with supNote := 0, supTick := some s.tick, supFresh := false }
  else s

/-! ### Captures (R218, R221) -/

/-- The outcomes of a trigger. -/
inductive Outcome where
  | newRecord | extended | counted | degraded
  deriving DecidableEq, Repr, Inhabited

def Outcome.code : Outcome → Nat
  | .newRecord => 0 | .extended => 1 | .counted => 2 | .degraded => 3

/-- The unit's running record, unless it is RELEASED. -/
def State.runningRecord (s : State) (u : Nat) : Option (Nat × Record) :=
  match (s.trig u).running with
  | none => none
  | some (k, n) =>
    match s.recordOf k n with
    | none => none
    | some r => if r.state = .released then none else some (k, r)

/-- A retrigger is counted in the running record, which keeps the points of the first 32. -/
def State.countRetrigger (s : State) (k n t : Nat) : State :=
  match s.recordOf k n with
  | none => s
  | some r =>
    s.rewrite k { r with retriggers := r.retriggers + 1, retrigPoints := if r.retrigPoints.length < 32 then r.retrigPoints ++ [t] else r.retrigPoints }

/-- A new record for a trigger at `t`. -/
def State.openFor (s : State) (u t : Nat) (remote : Option (Nat × Nat)) : State × Outcome :=
  let r := s.openRecord u t (t - fineUs (s.st.trPreUs u)) (t + fineUs (s.st.trPostUs u)) remote
  match r.2 with
  | none => (r.1, .degraded)
  | some n => (r.1.upTrig u fun x => { x with running := some (s.st.trRecSet u, n) }, .newRecord)

/-- What a trigger outside freewheel does to the records (R221). -/
def State.capture (s : State) (u t : Nat) (remote : Option (Nat × Nat)) : State × Outcome :=
  match s.runningRecord u with
  | none => s.openFor u t remote
  | some (k, r) =>
    if r.winEnd < t then s.openFor u t remote
    else
      match s.st.trPolicy u with
      | 0 =>
        let x := s.openFor u t remote
        if x.2 = .degraded then (x.1.countRetrigger k r.number t, .degraded) else x
      | 1 =>
        let cap := r.point + fineUs (s.st.trExtCapUs u)
        let stop := min (t + fineUs (s.st.trPostUs u)) cap
        if cap ≤ r.winEnd then (s.countRetrigger k r.number t, .counted)
        else
          let x := s.extendRecord k r stop
          (x.1.countRetrigger k r.number t, if x.2 then .extended else .degraded)
      | _ => (s.countRetrigger k r.number t, .counted)

/-- A trigger that is not suppressed (R217, R219, R222). -/
def State.fire (s : State) (u t : Nat) (formed : List (Nat × Nat × Option (Nat × Nat))) : State :=
  let remote := (formed.filterMap (fun h => h.2.2)).head?
  let x := s.capture u t remote
  let out := x.2
  let s := x.1.upTrig u fun y =>
    { y with held := [], freewheel := s.st.freewheel u t, lastPoint := t, supFresh := true
             fired := if out = .newRecord ∨ out = .extended then satInc y.fired else y.fired
             counted := if out = .counted ∨ out = .degraded then satInc y.counted else y.counted }
  let s := s.notify (s.st.trQ u) 0x32 (out.code * 256 + u) (t % 65536) (argT (t / 65536))
  -- a standby drives no output and sends no message (R224)
  if !s.publishes then s
  else
    let s := if s.st.trIoOut u then
        s.upPath fun p => { p with trigOut := p.trigOut.set 0 (s.st.trIoPin u) (s.tick + us 10) } else s
    if s.st.trGroup u ≠ 0 ∧ remote.isNone then
      s.sendExpress 4095 (.trigger { group := s.st.trGroup u, origin := s.lnk.rim.addr, unit := u, outcome := out.code, point := t / 65536
                                     frac := t % 65536 })
    else s

/-- An event from source `k` of unit `u` with instant `te` (R216). -/
def State.sourceEvent (s : State) (u k te : Nat) (remote : Option (Nat × Nat)) : State :=
  let s := s.upTrig u fun x => { x with held := x.held.filter (fun h => h.1 != k) ++ [(k, te, remote)] }
  match s.st.triggered u k te (s.trig u).held with
  | none => s
  | some formed =>
    let t := pointOf (s.st.trPickLast u) formed
    if (s.trig u).freewheel.holds t then s.suppress u t formed else s.fire u t formed

/-- The enabled units. -/
def Struct.unitsOn (st : Struct) : List Nat := (st.trigger.map (·.1)).filter st.trEnable

/-- An event reaches every source of a type and argument, in source order (R214, R216). -/
def State.deliver (s : State) (units : List Nat) (type : Nat) (arg : Option Nat) (te : Nat) (remote : Option (Nat × Nat)) : State :=
  forEach units s fun s u =>
    forEach (List.range (min 8 (s.st.trSources u))) s fun s k =>
      if s.st.srcType u k == type && (match arg with | none => true | some a => s.st.srcArg u k == a) then s.sourceEvent u k te remote
      else s

/-! ### The commands -/

/-- A TRIG_IO pin is an output of an enabled unit (R217). -/
def Struct.isOutPin (st : Struct) (pin : Nat) : Bool := st.unitsOn.any (fun u => st.trIoOut u && st.trIoPin u == pin)

/-- An edge at an input pin, stamped to 78.125 ps (R214). -/
def ioEdge (pin : Nat) (rising : Bool) (frac : Nat) (s : State) : State :=
  if s.glb.state = .reset ∨ s.st.isOutPin pin ∨ bitOf s.path.trigIn pin = rising then s
  else
    let s := s.upPath fun p => { p with trigIn := if rising then p.trigIn + 2 ^ pin else p.trigIn - 2 ^ pin }
    if s.pathRuns then s.deliver s.st.unitsOn (if rising then 3 else 4) (some pin) (s.fine + frac * 5120) none else s

/-- TRIG_IO_EDGE (R214). -/
def execTrigIoEdge (pin : Fin 8) (rising : Bool) (frac : Fin 64) (s : State) : Ans := act s (ioEdge pin.val rising frac.val)

/-- A unit's schedule has reached a point (R214): a TIME event at the scheduled time, and the next point is scheduled. -/
def scheduleDue (u : Nat) (s : State) : State :=
  match s.tmb.sched.find? (fun e => decide (e.kind = .trigger u) && e.fired) with
  | none => s
  | some e =>
    if !s.pathRuns ∨ !s.st.trEnable u then s
    else
      let s := s.upTmb fun t => { t with sched := t.sched.filter (fun x => x.id != e.id) }
      let s := if s.st.trSchedMs u = 0 then s else s.schedule (.trigger u) (e.target + s.st.trSchedMs u * 1000000)
      s.deliver [u] 6 none (e.target * 65536) none

/-- TRIGGER_SCHEDULE (R214). -/
def execTriggerSchedule (u : Fin 64) (s : State) : Ans := act s (scheduleDue u.val)

/-- A unit armed at T takes up its schedule's points at or after T (R214, R226). -/
def State.armSchedule (s : State) (u t : Nat) : State :=
  let start := s.st.trSchedStart u
  let per := s.st.trSchedMs u * 1000000
  if !s.st.trEnable u ∨ start = 0 then s
  else if t ≤ start then s.schedule (.trigger u) start
  else if per = 0 then s
  else s.schedule (.trigger u) (start + ceilDiv (t - start) per * per)

/-- The 10 µs pulse of a TRIG_IO output ends (R217). -/
def pulseEnd (pin : Nat) (s : State) : State :=
  let stop := s.path.trigOut.get 0 pin
  if stop ≠ 0 ∧ stop ≤ s.tick then s.upPath fun p => { p with trigOut := p.trigOut.set 0 pin 0 } else s

/-- TRIG_IO_PULSE_END (R217). -/
def execTrigIoPulseEnd (pin : Fin 8) (s : State) : Ans := act s (pulseEnd pin.val)

/-- A freewheel by time ends in network time: the unit is ARMED again (R219, R233). Its points are still tested. -/
def freewheelDone (u : Nat) (s : State) : State :=
  match (s.trig u).freewheel with
  | .time t false => if t ≤ s.fine then s.upTrig u fun x => { x with freewheel := .time t true } else s
  | _ => s

/-- FREEWHEEL_END (R219). -/
def execFreewheelEnd (u : Fin 64) (s : State) : Ans := act s (freewheelDone u.val)

/-- FIRE_TRIGGER (R225): one event to each COMMAND source of the unit; an instant of 0 is the network time of execution. A unit that is not enabled
evaluates no source: NO_SOURCE, though its record holds a COMMAND source (log entry 19, DESIGN CHOICE). -/
def fireTrigger (s : State) : State :=
  s.start 0x28 fun c s =>
    let u := c.a 5 0
    let t := if c.opB = 0 then s.fine else c.opB.toNat * 65536
    if s.st.trEnable u && (List.range (min 8 (s.st.trSources u))).any (fun k => s.st.srcType u k == 7) then
      (s.deliver [u] 7 none t none).complete c 0
    else s.complete c 0x0C

/-- FIRE_TRIGGER (R225). -/
def execFireTrigger (s : State) : Ans := act s fireTrigger

/-- REARM_TRIGGER (R219, R225). -/
def rearmTrigger (s : State) : State :=
  s.start 0x29 fun c s =>
    let u := c.a 5 0
    let running := match (s.trig u).freewheel with
      | .none => false
      | .time _ ended => !ended
      | .count n => decide (0 < n)
    if running then (s.upTrig u fun x => { x with freewheel := .none }).complete c 0 else s.complete c 0x0D

/-- REARM_TRIGGER (R225). -/
def execRearmTrigger (s : State) : Ans := act s rearmTrigger

/-- A trigger broadcast reaches every REMOTE source of its group; the hub ignores what it originated itself (R223). -/
def triggerMessage (m : TriggerMsg) (s : State) : State :=
  if s.pathRuns && decide (m.origin ≠ s.lnk.rim.addr) && decide (m.group ≠ 0) then
    s.deliver s.st.unitsOn 5 (some m.group) (m.point * 65536 + m.frac) (some (m.origin, m.unit))
  else s

/-- TRIGGER_FRAME (R223). -/
def execTriggerFrame (port : Port) (msg : TriggerMsg) (s : State) : Ans :=
  actIf (Instr.wf (.triggerFrame port msg)) s (triggerMessage msg)

end Sys2Proof.Machine
end

