-- ==== Sys2Proof/Machine/Switches.lean ====
section
/-! DEFINITION. Threshold switches (R205 to R213): the evaluation of a sample, the crossing instant (R215), ambient-tracking levels (R209,
R210), the bitmap and the alarm pins. -/

namespace Sys2Proof.Machine

/-- A word in a stream's encoding as an exact value: a signed 32-bit integer on a raw stream, binary32 on an engineering one (R205). -/
def streamValue (eng : Bool) (w : Word) : Q :=
  if eng then (of32 w).getD { num := 0, den := 1 } else Q.ofInt (signedOf 32 w.toNat)

/-- |x|. -/
def Q.abs (a : Q) : Q := { num := a.num.natAbs, den := a.den }

/-- The quantity that a switch compares (R206): a sample's value is the sign-extended raw value, or the binary32 value. -/
def Struct.swQuantity (st : Struct) (i : Nat) (eng : Bool) (v : Word) : Q :=
  let x := streamValue eng v
  if st.swDir i = 2 then x.abs else x

/-- The level of a switch for a sample with fine instant `t`: the ambient level that applies by then, or the committed one. -/
def Switch.levelAt (x : Switch) (committed : Word) (t : Nat) : Word :=
  match (x.levels.filter (fun e => decide (e.1 ≤ t))).getLast? with
  | some e => e.2
  | none => x.level.getD committed

/-- The condition that a switch tests (R206), and the threshold of it. -/
def Struct.swTest (st : Struct) (i : Nat) (set : Bool) (level hyst q : Q) : Bool :=
  match st.swDir i, set with
  | 1, false => q.less level
  | 1, true => (level.add hyst).less q
  | _, false => level.less q
  | _, true => q.less (level.sub hyst)

/-- The threshold in binary64 (R215). -/
def Struct.swThreshold (st : Struct) (i : Nat) (set : Bool) (level hyst : Q) : Option Q :=
  if !set then level.to64 else if st.swDir i = 1 then add64 level.to64 hyst.to64 else sub64 level.to64 hyst.to64

/-- A time offset in ns rounded to sub-ticks of 78.125 ps, ties toward the earlier, in 2^-16 ns. -/
def subTicks (ns : Q) : Int :=
  let n := ns.num * 64
  let d := ns.den * 5
  let f := n / (d : Int)
  (if (d : Int) < 2 * (n - f * d) then f + 1 else f) * 5120

/-- The crossing instant (R215). -/
def crossing (p : Option (Nat × Q)) (t1 : Nat) (q1 : Q) (l : Option Q) : Nat :=
  match p with
  | none => t1
  | some (t0, q0) =>
    let dt := Q.to64 { num := (t1 - t0 : Nat), den := 65536 }
    match sub64 q1.to64 q0.to64 with
    | none => t1
    | some d =>
      if d.num = 0 then Config.crossingFlat t0 t1
      else
        match div64 (mul64 dt (sub64 l q0.to64)) (some d) with
        | none => t1
        | some off => ((t0 : Int) + subTicks off).toNat

/-! ### Notices and pins -/

/-- The structure with the record under which a switch stands now: the committed one, or until the look's first sample from T on the one before (R208). -/
def State.swSt (s : State) (i : Nat) : Struct :=
  let x := s.sw i
  if x.record = [] then s.st else s.st.setRecord .switch i x.record

/-- The switches whose record in force is not the reset one. -/
def State.switchKeys (s : State) : List Nat :=
  let a := s.st.switch.map (·.1)
  a ++ (s.path.switches.filter (fun e => decide (e.2.record ≠ []) && !a.contains e.1)).map (·.1)

/-- N_SWITCH at the first change and then at most once per 1 ms (R211). Changes within 1 ms of the last notice are told with the next change after it, not
when the 1 ms ends (log entry 19, DESIGN CHOICE). -/
def State.noteSwitch (s : State) (i : Nat) : State :=
  let x := s.sw i
  let st := s.swSt i
  if st.swNotify i && s.passedOpt x.noticeTick (ms 1) then
    (s.notify (st.swQ i) 0x30 i (boolBit x.set 15 + satField 15 x.sinceNotice) (argT (x.lastDecision / 65536))).upSw i fun y =>
      { y with noticeTick := some s.tick, sinceNotice := 0 }
  else s

/-- Members of an alarm pin (R212), under the records in force. -/
def State.members (s : State) (p : Nat) : List Nat :=
  s.switchKeys.filter (fun i => (s.swSt i).swEnable i && bitOf ((s.swSt i).swMask i) p)

/-- The pins follow the switches in RUN, WARM_RESTART and RECOVERY entered by a halt (R212). -/
def State.pinAsserted (s : State) (p : Nat) : Bool :=
  let ms := s.members p
  s.live && s.path.alarmCfg.flag p && !ms.isEmpty &&
    (if s.path.alarmCfg.flag (16 + p) then ms.all (fun i => (s.sw i).set) else ms.any (fun i => (s.sw i).set))

/-- SWT_ALARM_PINS (R230). -/
def State.alarmPins (s : State) : Nat := (List.range 16).foldl (fun n p => n + boolBit (s.pinAsserted p) p) 0

/-- GLB_INT_STATUS `alarm` when a pin has risen since the pins read `before` (R501). -/
def State.noteRise (s : State) (before : Nat) : State :=
  if (List.range 16).any (fun p => s.pinAsserted p && !bitOf before p) then s.intr 6 else s

/-- ALARM_CFG_WRITE (R231): not a mirror, a write takes effect at once. -/
def alarmCfg (v : Word) (s : State) : State := (s.upPath fun p => { p with alarmCfg := v }).noteRise s.alarmPins

/-- ALARM_CFG_WRITE (R231). -/
def execAlarmCfgWrite (value : Word) (s : State) : Ans := act s fun s => occurs s (s.glb.state ≠ .reset) (alarmCfg value)

/-! ### Evaluation (R205 to R209) -/

/-- An event of a switch: its source type (R214), the switch and the crossing instant. -/
abbrev SwitchEvent := Nat × Nat × Nat

/-- Events of switches that arrive at one tick reach each unit in the order of its sources (R216). -/
def State.deliverSwitches (s : State) (es : List SwitchEvent) : State :=
  if es.isEmpty then s
  else
    forEach s.st.unitsOn s fun s u =>
      forEach (List.range (min 8 (s.st.trSources u))) s fun s k =>
        match es.find? (fun e => s.st.srcType u k == e.1 && s.st.srcArg u k == e.2.1) with
        | some e => s.sourceEvent u k e.2.2 none
        | none => s

/-- A switch changes state at a decision sample at fine instant `t` (R207): counted, noted, and an event with the crossing instant. -/
def State.switchChange (s : State) (st : Struct) (i t : Nat) (eng : Bool) (level hyst : Q) : State × SwitchEvent :=
  let x := s.sw i
  let conv (e : Nat × Word) : Nat × Q := (e.1, st.swQuantity i eng e.2)
  let at_ := match x.runFirst with
    | none => t
    | some f => crossing (x.runPrev.map conv) f.1 (conv f).2 (st.swThreshold i x.set level hyst)
  let s := (s.upSw i fun y =>
    { y with set := !x.set, count := 0, changes := satInc y.changes, sinceNotice := y.sinceNotice + 1, lastDecision := t
             runPrev := none, runFirst := none }).noteRise s.alarmPins
  (s.noteSwitch i, (if x.set then 2 else 1, i, at_))

/-- The bin of a sample in a switch's histogram (R209). -/
def Struct.ambBin (st : Struct) (i : Nat) (eng : Bool) (q : Q) : Nat :=
  let lo := streamValue eng (st.word .switch i 4)
  let hi := streamValue eng (st.word .switch i 5)
  if q.less lo then 0
  else match ((q.sub lo).mul (Q.ofInt 256)).div (hi.sub lo) with
    | none => 255
    | some b => min 255 (b.num / b.den).toNat

/-- One switch evaluates a sample (R205 to R209), with the event that it gives. A sample that is not evaluated lies before no run (R215). -/
def State.switchSample (s : State) (st : Struct) (i t : Nat) (eng : Bool) (v : Word) (ok : Bool) : State × List SwitchEvent :=
  if !st.swEnable i then (if (s.sw i).prev.isNone then s else s.upSw i fun x => { x with prev := none }, [])
  else if !ok then (s.upSw i fun x => { x with count := 0, prev := none, runPrev := none, runFirst := none }, [])
  else
    let s := s.upSw i fun x =>
      { x with level := some (x.levelAt (st.swLevel i) t), levels := x.levels.filter (fun e => decide (t < e.1)) }
    let x := s.sw i
    let q := st.swQuantity i eng v
    let s := if st.swAmbient i then
        s.upSw i fun y => { y with hist := y.hist.upd 0 (t / (Config.epochNs * 65536) * 256 + st.ambBin i eng q) (· + 1) }
      else s
    let level := streamValue eng (x.level.getD 0)
    let hyst := streamValue eng (st.swHyst i)
    let r : State × List SwitchEvent :=
      if st.swTest i x.set level hyst q then
        let s := s.upSw i fun y =>
          { y with count := y.count + 1, runFirst := if x.count = 0 then some (t, v) else y.runFirst
                   runPrev := if x.count = 0 then x.prev else y.runPrev }
        if st.swDwell i ≤ x.count then let c := s.switchChange st i t eng level hyst; (c.1, [c.2]) else (s, [])
      else (s.upSw i fun y => { y with count := 0, runPrev := none, runFirst := none }, [])
    (r.1.upSw i fun y => { y with prev := some (t, v) }, r.2)

/-- A switch under a new record (R208): clear, its dwell count 0, its histogram empty and its level the committed one. -/
def Switch.cleared (x : Switch) : Switch :=
  { x with set := false, count := 0, level := none, levels := [], hist := [], prev := none, runPrev := none, runFirst := none, record := [], pending := [] }

/-- A sample of structure `st` at fine instant `t` reaches a switch: the first one from a commit that changed its record on clears it (R208). The sample before,
if it was evaluated, stays the one before the run (R215). -/
def State.switchRecord (s : State) (st : Struct) (i t : Nat) : State :=
  let x := s.sw i
  let later := x.pending.filter (fun c => decide (t < c))
  if later.length = x.pending.length then s
  else
    (s.upSw i fun x => { x.cleared with prev := x.prev, pending := later, record := if later.isEmpty then [] else st.record .switch i }).noteRise s.alarmPins

/-- A commit at fine time `t` changes a switch's record (R208): the old one stays in force until the look's first sample from T on; where the look delivers
nothing, the switch is clear at once. -/
def State.commitSwitch (s : State) (old : Struct) (i t : Nat) : State :=
  if (s.look (i / 4)).next.isNone then s.upSw i Switch.cleared
  else s.upSw i fun x => { x with record := if x.record = [] then old.record .switch i else x.record, pending := x.pending ++ [t] }

/-- Every switch of a look evaluates a sample, in the order 0 to 3 (R205), and their events reach the trigger units (R214, R216). -/
def State.switchLook (s : State) (st : Struct) (stream t : Nat) (eng : Bool) (v : Word) (tag : Nat) : State :=
  let ok := tag &&& (tagInvalid + tagUnsettled) == 0
  let r : State × List SwitchEvent := forEach (numbersFrom (stream * 4) 4) (s, []) fun a i =>
    let q := (a.1.switchRecord st i t).switchSample st i t eng v ok
    (q.1, a.2 ++ q.2)
  r.1.deliverSwitches r.2

/-- A look stops delivering: a switch that waits for its first sample under a changed record is clear at once (R208). -/
def State.switchStops (s : State) (stream : Nat) : State :=
  forEach (numbersFrom (stream * 4) 4) s fun s i => if (s.sw i).record = [] then s else s.upSw i Switch.cleared

/-! ### Ambient-tracking levels (R209, R210) -/

/-- A result that R210 computes as a word of the stream: rounded to the nearest integer on a raw stream. -/
def levelWord (eng : Bool) (q : Q) : Word :=
  if eng then (let r := q.to32; if r.2 then finite32 (Config.levelOutside q.num q.den) else r.1)
  else
    let n := q.round
    if -(2 ^ 31) ≤ n ∧ n ≤ 2 ^ 31 - 1 then wordOf (unsignedOf 32 n) else Config.levelOutside n 1

/-- The smallest bin whose cumulative count reaches `c`. -/
def binOf : List Nat → Nat → Nat → Nat → Nat
  | [], b, _, _ => b - 1
  | n :: ns, b, sum, c => if c ≤ sum + n then b else binOf ns (b + 1) (sum + n) c

/-- The new level from an epoch's histogram (R210), in binary64. The nearest integer of a raw stream's target is taken with ties to even (log entry 9, DESIGN
CHOICE: R210 names no rule for a tie). -/
def Struct.newLevel (st : Struct) (i : Nat) (eng : Bool) (bins : List Nat) (level : Word) : Word :=
  let total := bins.foldl (· + ·) 0
  let b := binOf bins 0 0 (ceilDiv (st.swAmbPct i * total) 10000)
  let lo := (streamValue eng (st.word .switch i 4)).to64
  let hi := (streamValue eng (st.word .switch i 5)).to64
  let w := div64 (sub64 hi lo) (some (Q.ofInt 256))
  let p := add64 lo (mul64 (some (Q.ofInt (b + 1))) w)
  let target := add64 (mul64 (of32 (st.word .switch i 6)) p) (streamValue eng (st.word .switch i 7)).to64
  let target := if eng then target else target.map (fun q => Q.ofInt q.round)
  let step := streamValue eng (st.word .switch i 8)
  let now := streamValue eng level
  match sub64 target now.to64 with
  | none => level
  | some d =>
    let d := if step.less d then step else if d.less step.neg then step.neg else d
    match add64 now.to64 (some d) with | none => level | some q => levelWord eng q

/-- One switch's level is recomputed when every sample of the epoch has been evaluated (R210). The level that the update starts from is the newest computed one,
also while that is not in force yet (log entry 19, DESIGN CHOICE). -/
def State.ambientSwitch (s : State) (epoch i : Nat) : State :=
  let stream := i / 4
  let st := s.swSt i
  let stop := (epoch + 1) * Config.epochNs * 65536
  let passedBy := match (s.look stream).next with | none => false | some k => decide (stop ≤ (s.eraFrom (s.look stream).era).st.instantOf stream k)
  let x := s.sw i
  if !(st.swEnable i && st.swAmbient i && st.lookRuns stream && passedBy && decide (x.ambDone ≤ epoch)) then s
  else
    let bins := (List.range 256).map (fun b => x.hist.get 0 (epoch * 256 + b))
    let s := s.upSw i fun y => { y with ambDone := epoch + 1, hist := y.hist.filter (fun e => decide ((epoch + 1) * 256 ≤ e.1)) }
    if bins.all (· == 0) then s
    else
      let level := match x.levels.getLast? with | some e => e.2 | none => x.level.getD (st.swLevel i)
      let start := (epoch + 2 + st.tau stream / (Config.epochNs * 65536)) * Config.epochNs * 65536
      s.upSw i fun y => { y with levels := y.levels ++ [(start, st.newLevel i (st.eng stream) bins level)] }

/-- Ambient levels after an epoch (R210). -/
def ambientUpdate (epoch : Nat) (s : State) : State :=
  if s.pathRuns then forEach s.switchKeys s fun s i => s.ambientSwitch epoch i else s

/-- AMBIENT_LEVEL_UPDATE (R210). The notice goes out at the epoch instant at which the levels change. -/
def execAmbientLevelUpdate (epoch : Nat) (s : State) : Ans := act s (ambientUpdate epoch)

/-- A switch's level changes at the epoch instant `t` (ns): the level computed for it differs from the one before. -/
def State.levelChanges (s : State) (t i : Nat) : Bool :=
  let x := s.sw i
  match x.levels.find? (fun e => e.1 == t * 65536) with
  | none => false
  | some e => decide (x.levelAt ((s.swSt i).swLevel i) (t * 65536 - 1) ≠ e.2)

/-- N_AMBIENT_LEVEL at an epoch instant, one to each queue concerned (R210): the lowest switch and the number of them, each an autonomous act (R410). -/
def State.noteAmbient (s : State) (t : Nat) : State :=
  let changed := s.switchKeys.filter (fun i => s.levelChanges t i)
  forEach (List.range 64) s fun s q =>
    match changed.filter (fun i => (s.swSt i).swQ i == q) with
    | [] => s
    | i :: r => s.notify q 0x31 i (r.length + 1) (argT t) (r.length + 1)

/-- SWT_LEVEL: the level in force (R210). -/
def State.levelShown (s : State) (i : Nat) : Word := (s.sw i).levelAt ((s.swSt i).swLevel i) s.fine

/-- SWT_STATE[j] (R211). -/
def State.switchWord (s : State) (j : Nat) : Nat :=
  (List.range 32).foldl (fun n b => n + boolBit (s.sw (j * 32 + b)).set b) 0

end Sys2Proof.Machine
end

