-- ==== Sys2Proof/Machine/Reducers.lean ====
section
/-! DEFINITION. Reducer engines (11_reducer_engines): live tallies (R272 to R276), the closing of inputs and the commit point (R269, R270,
R279), CSD records (R277, R278), `RESET_TALLY` and `ABORT_INTERVAL` (R280), and faults of job state (R282, R433). -/

namespace Sys2Proof.Machine

/-! ### Jobs -/

/-- The structure a job runs under: the committed one, or its own when a commit has ended it (R281). -/
def State.jobStruct (s : State) (key : Nat) : Struct := (s.job key).own.getD s.st

/-- The live jobs of a slot: the committed one and those that a commit has ended. -/
def State.jobKeys (s : State) (slot : Nat) : List Nat :=
  (s.path.jobs.filter (fun e => e.1 % 256 == slot && e.2.live)).map (·.1)

/-- The interval after `j` that yields a record (R282). -/
def Job.next (x : Job) (j : Nat) : Nat :=
  match x.skips.find? (fun r => decide (r.1 ≤ j + 1) && decide (j + 1 ≤ r.2)) with
  | none => j + 1
  | some r => r.2 + 1

def Job.tally (x : Job) (n : Nat) : Tally := x.tallies.get {} n

/-- Bytes of state of a job (R268). -/
def Struct.jobBytes (st : Struct) (k : Nat) : Nat :=
  let m := (st.inputs k).length
  match st.jobKind k with
  | 1 => 64 * m
  | 2 => 1088 * m
  | 3 => 16960 * m
  | 4 => 6 * m * st.fftN k + 8 * st.nBins k * pairs m + 8 * m * st.nBins k + 8 * st.fftN k + 256
  | 5 => 64 * m
  | _ => 0

/-- The first address of a job's state: from 0x040_0000 upward in engine order and then slot order (R427). -/
def Struct.jobBase (st : Struct) (k : Nat) : Nat := (List.range k).foldl (fun n i => n + st.jobBytes i) 0x400000

/-- The part of a job's state that belongs to input `n`: first address and length; a CSD job's state is one part. -/
def Struct.inputState (st : Struct) (k n : Nat) : Nat × Nat :=
  let m := (st.inputs k).length
  if st.jobKind k = 4 then (st.jobBase k, st.jobBytes k) else (st.jobBase k + n * (st.jobBytes k / max 1 m), st.jobBytes k / max 1 m)

/-- The 64-byte lines that an input's state under `st` lies in, numbered from the first of the region. -/
def Struct.tallyLines (st : Struct) (k n : Nat) : List Nat :=
  let r := st.inputState k n
  if r.2 = 0 then [] else numbersFrom ((r.1 - 0x400000) / 64) ((r.1 + r.2 - 1 - 0x400000) / 64 + 1 - (r.1 - 0x400000) / 64)

/-- Where line number `i` among the preserved ones lies in the area that R421 gives them (log entry 26). -/
def keptAt (i : Nat) : Nat := 0x1400000 + 64 * i

/-- A 64-byte line is copied into the preservation area (R421): what cannot be read is preserved as poisoned. Only cells that are wrong can show it, for the
layout of the tallies is not stated (log entry 26). -/
def State.keepLine (s : State) (line i : Nat) : State :=
  let from_ := 0x400000 + 64 * line
  let wrong (a : Nat) (e : Nat × MemCell) : Bool := decide (a ≤ e.1) && decide (e.1 < a + 64) && (decide (e.2.flips ≠ 0) || e.2.poison)
  let s := forEach (s.mem.pad.filter (wrong (keptAt i))) (s.contend 23) fun s e => s.putCell e.1 { data := e.2.data }
  forEach (s.mem.pad.filter (wrong from_)) s fun s e =>
    let r := s.readByte 23 e.1
    r.1.putCell (keptAt i + (e.1 - from_)) { data := r.2.1, poison := r.2.2 }

/-- Part of the state of an input changes after a snapshot tick: its 64-byte lines are preserved first, up to 65,536 in all, and no longer once the area is
full (R421). Which lines a sample changes the manual does not say where an input has more than one: a free choice (log entry 26). -/
def State.tallyTouched (s : State) (st : Struct) (key n : Nat) (whole : Bool) : State :=
  if s.snap.image.isNone ∨ 256 ≤ key then s
  else
    let all := st.tallyLines key n
    let some_ := !whole && decide (1 < all.length)
    let pick : Nat → Bool := Config.unspecified s.freeCount
    let s := if some_ then s.draw else s
    let new := (if some_ then all.filter pick else all).filter (fun l => !s.snap.kept.contains l && !s.snap.lost.contains l)
    let old := s.snap.kept.length
    let s := (forEach ((new.take (65536 - old)).zip (numbersFrom old (65536 - old))) s fun s e => s.keepLine e.1 e.2)
    s.upSnap fun x =>
      { x with kept := x.kept ++ new.take (65536 - old), lost := x.lost ++ new.drop (65536 - old)
               cowFull := x.cowFull || decide (65536 ≤ old + new.length) }

/-- The interval that input `n` is in. -/
def Job.openOf (x : Job) (n : Nat) : Nat :=
  match (x.tally n).closedThrough with
  | none => x.first
  | some j => x.next j

def State.upTally (s : State) (key n : Nat) (f : Tally → Tally) : State :=
  s.upJob key fun x => { x with tallies := x.tallies.upd {} n f }

/-! ### Turning points and rainflow (R274, R275) -/

/-- The difference of two values: binary64 on an engineering stream, exact on a raw one (R266). -/
def diff (eng : Bool) (a b : Q) : Q := if eng then (sub64 a.to64 b.to64).getD (a.sub b) else a.sub b

/-- A product and a quotient in the same way. -/
def scaleBy (eng : Bool) (a : Q) (n : Nat) : Q := if eng then (mul64 a.to64 (some (Q.ofInt n))).getD (a.mul (Q.ofInt n)) else a.mul (Q.ofInt n)
def quot (eng : Bool) (a b : Q) : Option Q := if eng then div64 a.to64 b.to64 else a.div b

/-- floor of a quotient. -/
def Q.floor (a : Q) : Int := a.num / (a.den : Int)

/-- One half-cycle count into a tally cell, and whether its mean lay outside the range. -/
def Struct.countCycle (st : Struct) (k : Nat) (eng : Bool) (p q : Word) (h : Nat) (x : Tally) : Tally :=
  let v := streamValue eng
  let r := match quot eng (scaleBy eng (diff eng (v p) (v q)).abs 64) (v (st.rangeMax k)) with
    | none => 63
    | some r => min r.floor.toNat 63
  let half : Q := if eng then (div64 (add64 (v p).to64 (v q).to64) (some (Q.ofInt 2))).getD ((v p).add (v q))
    else { num := ((v p).add (v q)).num, den := ((v p).add (v q)).den * 2 }
  let m := match quot eng (scaleBy eng (diff eng half (v (st.jobLo k))) 64) (diff eng (v (st.jobHi k)) (v (st.jobLo k))) with
    | none => (0 : Int)
    | some m => m.floor
  let out := decide (m < 0) || decide (63 < m)
  { x with bins := x.bins.upd 0 (64 * r + (clampInt m 0 63).toNat) (fun n => satAdd n h), halfCycles := satAdd x.halfCycles h
           outOfRange := if out then satTo 0xFFFFFF (x.outOfRange + 1) else x.outOfRange }

/-- The four-point loop over the residue stack, newest entry first. -/
def Struct.fourPoint (st : Struct) (k : Nat) (eng : Bool) : Nat → Tally → Tally
  | 0, x => x
  | fuel + 1, x =>
    match x.stack with
    | d :: c :: b :: a :: rest =>
      let v := streamValue eng
      let bc := (diff eng (v b) (v c)).abs
      if bc.atMost (diff eng (v a) (v b)).abs && bc.atMost (diff eng (v c) (v d)).abs then
        st.fourPoint k eng fuel { st.countCycle k eng b c 2 x with stack := d :: a :: rest }
      else x
    | _ => x

/-- push(p) of R275. The stack is kept newest first. -/
def Struct.pushPoint (st : Struct) (k : Nat) (eng : Bool) (p : Word) (x : Tally) : Tally :=
  let x := st.fourPoint k eng 129 { x with stack := p :: x.stack }
  if 128 < x.stack.length then
    match x.stack.reverse with
    | o :: q :: _ => { st.countCycle k eng o q 1 x with stack := x.stack.dropLast, overflow := satInc x.overflow }
    | _ => x
  else x

/-- A turning point is confirmed: pushed (R275), or listed (R276). -/
def Struct.confirm (st : Struct) (k : Nat) (eng : Bool) (peak : Bool) (x : Tally) : Tally :=
  match x.ext with
  | none => x
  | some e =>
    if st.jobKind k = 3 then st.pushPoint k eng e x
    else
      let x := { x with confirmed := satInc x.confirmed }
      if x.peaks.length < st.maxPeaks k then { x with peaks := x.peaks ++ [(x.extIndex, peak, e)] }
      else { x with dropped := satInc x.dropped }

/-- One value through the turning-point rule of R274, at input index `idx`. -/
def Struct.turn (st : Struct) (k : Nat) (eng : Bool) (w : Word) (idx : Nat) (x : Tally) : Tally :=
  let v := streamValue eng
  let gate := v (st.gate k)
  match x.ext with
  | none => { x with ext := some w, extIndex := idx }
  | some e =>
    let up := gate.less (diff eng (v w) (v e))
    let down := gate.less (diff eng (v e) (v w))
    let move (x : Tally) : Tally := { x with ext := some w, extIndex := idx }
    if x.dir = 0 then
      -- a point confirmed from here is a valley when the new direction is +1
      if up then { move (st.confirm k eng false x) with dir := 1 }
      else if down then { move (st.confirm k eng true x) with dir := -1 }
      else x
    else if x.dir = 1 then
      if (v e).less (v w) then move x
      else if down then { move (st.confirm k eng true x) with dir := -1 } else x
    else
      if (v w).less (v e) then move x
      else if up then { move (st.confirm k eng false x) with dir := 1 } else x

/-! ### One sample in a tally -/

/-- q of STATS (R272). -/
def Struct.statsValue (st : Struct) (k : Nat) (eng : Bool) (w : Word) : Int :=
  if !eng then signedOf 32 w.toNat
  else
    let x := streamValue true w
    let n := st.qShift k
    let y := if n < 0 then { x with den := x.den * 2 ^ n.natAbs } else { x with num := x.num * 2 ^ n.natAbs }
    clampInt y.round (-(2 ^ 31 - 1)) (2 ^ 31 - 1)

/-- A processed sample (R272 to R276). -/
def Struct.tallySample (st : Struct) (k : Nat) (eng : Bool) (w : Word) (idx tag : Nat) (x : Tally) : Tally :=
  let x := { x with processed := x.processed + 1, tags := tagOr x.tags tag }
  match st.jobKind k with
  | 1 =>
    let q := st.statsValue k eng w
    { x with low := if x.processed = 1 then q else min x.low q, high := if x.processed = 1 then q else max x.high q
             sum := x.sum + q, sumSq := x.sumSq + q.natAbs * q.natAbs }
  | 2 =>
    let v := streamValue eng w
    let lo := streamValue eng (st.jobLo k)
    let hi := streamValue eng (st.jobHi k)
    if v.less lo then { x with under := satInc x.under }
    else if !v.less hi then { x with above := satInc x.above }
    else
      let b := match quot eng (scaleBy eng (diff eng v lo) 256) (diff eng hi lo) with | none => 0 | some b => min 255 b.floor.toNat
      { x with bins := x.bins.upd 0 b satInc }
  | _ => st.turn k eng w idx x

/-! ### Records (R271 to R276) -/

/-- The low word of a number, and the one above it. -/
def low32 (n : Nat) : Word := wordOf n
def words64 (n : Nat) : List Word := [low32 n, low32 (n / 2 ^ 32)]

/-- rflags of R271. -/
def rflags (empty partialCut aborted fault missing : Bool) : Nat :=
  boolBit empty 0 + boolBit partialCut 1 + boolBit aborted 2 + boolBit fault 3 + boolBit missing 4

/-- The words of an input's part of record `j` (R271 to R276). -/
def Struct.inputRecord (st : Struct) (k stream j : Nat) (eng : Bool) (flags : Nat) (x : Tally) : List Word :=
  let head := wordOf (stream * 2 ^ 18 + x.tags * 2 ^ 8 + flags)
  match st.jobKind k with
  | 1 =>
    let shift : Int := if eng then st.qShift k else 0
    let mean : Word :=
      if x.processed = 0 then quietNan
      else
        let d := x.processed
        (if shift < 0 then Q.to32 { num := x.sum * 2 ^ shift.natAbs, den := d } else Q.to32 { num := x.sum, den := d * 2 ^ shift.natAbs }).1
    let rms : Word :=
      if x.processed = 0 then quietNan
      else
        let d := x.processed
        (Q.sqrt (if shift < 0 then { num := x.sumSq * 4 ^ shift.natAbs, den := d } else { num := x.sumSq, den := d * 4 ^ shift.natAbs })).near32
    let sum := unsignedOf 96 x.sum
    head :: words64 x.processed ++ words64 x.skipped ++ [wordOf (unsignedOf 32 x.low), wordOf (unsignedOf 32 x.high)] ++
      [low32 sum, low32 (sum / 2 ^ 32), low32 (sum / 2 ^ 64)] ++ words64 x.sumSq ++ words64 (x.sumSq / 2 ^ 64) ++ [mean, rms]
  | 2 => head :: wordOf x.under :: wordOf x.above :: (List.range 256).map (fun b => wordOf (x.bins.get 0 b))
  | 3 =>
    head :: wordOf x.halfCycles :: wordOf (satTo 0xFFFFFF x.outOfRange * 256 + x.stack.length) :: wordOf x.overflow ::
      ((List.range 4096).map (fun b => wordOf (x.bins.get 0 b)) ++ x.stack.reverse ++ List.replicate (128 - x.stack.length) 0)
  | _ =>
    -- ceil(jL / P), P being the mean period of a multi-look sequence (R18, R82)
    let base := if st.multiLook stream then ceilDiv (j * st.ivlNs k * st.w3 stream) Config.epochNs else st.indexAt stream (j * st.ivlNs k * 65536)
    head :: wordOf x.confirmed :: wordOf x.dropped :: 0 ::
      (x.peaks.flatMap (fun p => [wordOf (unsignedOf 31 ((p.1 : Int) - base) * 2 + (if p.2.1 then 1 else 0)), p.2.2]) ++
        List.replicate (2 * (st.maxPeaks k - x.peaks.length)) 0)

/-! ### Faults of job state (R268, R282, R433) -/

/-- The engine works on the state of input `n`: each wrong cell of it is read or not and written or not (R431, R432). Which cells a sample reads and
writes the manual does not say: a free choice, as is what of a CSD job's state a record reads; a copy reads `all` and, where nothing carries over, `clears`
all (log entry 26). The answer says whether an uncorrectable or poisoned cell was read. -/
def State.engineCells (s : State) (key n : Nat) (all clears : Bool) : State × Bool :=
  let k := key % 256
  let r := (s.jobStruct key).inputState k n
  if 256 ≤ key then (s, false)
  else
    let bad := s.mem.pad.filter (fun e => decide (r.1 ≤ e.1) && decide (e.1 < r.1 + r.2) && (decide (e.2.flips ≠ 0) || e.2.poison))
    forEach bad (s.contend (k / 16), false) fun a e =>
      let use : Bool × Bool := Config.unspecified a.1.freeCount
      let x := if all || use.1 then a.1.draw.readByte (k / 16) e.1 else (a.1.draw, e.2.data, false)
      (if clears || use.2 then x.1.putCell e.1 { data := x.2.1 } else x.1, a.2 || x.2.2)

/-- The record carries FAULT (R282): RED_STATUS, RED_FAULTS and N_ENGINE_FAULT. -/
def State.engineFault (s : State) (key n : Nat) : State :=
  let k := key % 256
  let csd := decide ((s.jobStruct key).jobKind k = 4)
  let j := if csd then (s.job key).interval else (s.job key).openOf n
  let s := if csd then s.upJob key fun y => { y with fault := true } else s.upTally key n fun t => { t with fault := true }
  let s := s.upEngine (k / 16) fun e => { e with fault := true, faults := satInc e.faults }
  s.notify (s.st.engineQ (k / 16)) 0x40 (k / 16 * 16 + k % 16) 0 (argT j)

/-- A sample works on the state of an input: a fault of it shows in the record (R282, R433). -/
def State.engineWork (s : State) (key n : Nat) : State :=
  let r := s.engineCells key n false false
  if r.2 then r.1.engineFault key n else r.1

/-- The state of an input is copied out and cleared (R279, R282): all of it is read, and what does not carry over is written. -/
def State.engineCopy (s : State) (key n : Nat) : State :=
  let kind := (s.jobStruct key).jobKind (key % 256)
  let r := s.engineCells key n (decide (kind ≠ 4)) (kind == 1 || kind == 2)
  if r.2 then r.1.engineFault key n else r.1

/-! ### Emission -/

/-- An input's part of an aborted record: its header with ABORTED, the other words 0 (R280). -/
def abortedWords (ws : List Word) : List Word :=
  match ws with
  | [] => []
  | h :: r => (h ||| 4) :: r.map (fun _ => 0)

/-- The tally after it has been copied out (R279): what carries over stays, and with `reset` nothing does (R280). -/
def Struct.clearTally (st : Struct) (k j : Nat) (reset : Bool) (x : Tally) : Tally :=
  if reset then { closedThrough := some j }
  else
    let keep := st.jobKind k == 3 && st.cumulative k
    { ext := x.ext, extIndex := x.extIndex, dir := x.dir, stack := x.stack, bins := if keep then x.bins else [], fault := keep && x.fault
      closedThrough := some j }

/-- The words of a record in chunks of 256 (R270). -/
def chunks256 : Nat → List Word → List (List Word)
  | 0, _ => []
  | n + 1, l => l.take 256 :: chunks256 n (l.drop 256)

/-- A record enters block assembly (R270): its blocks close at once, the first of them a key block (R299). -/
def State.emitRecord (s : State) (st : Struct) (k j : Nat) (ws : List Word) : State :=
  let w := ws.length
  let b := ceilDiv w 256
  let t := st.recInstant k j / 65536
  let blocks := ((List.range b).zip (chunks256 b ws)).map (fun e =>
    ({ seq := j * b + e.1, w3 := w, eng := false, words := true, pos := 0, tFirst := t, samples := e.2.map (fun x => (x, 0))
       split := false, keyed := decide (e.1 = 0) } : OpenBlock))
  s.upStrm (st.outStream k) fun r => { r with ready := r.ready ++ blocks }

/-- The aborts of a job's record are arbitrated at the commit point (R280); each completes with the number (R387). -/
def State.arbitrate (s : State) (key j : Nat) : State × Bool :=
  let mine := (s.job key).abort.filter (fun a => a.2.1 == j)
  let s := s.upJob key fun x => { x with abort := x.abort.filter (fun a => !(a.2.1 == j)) }
  (forEach mine s fun s a => s.finishItem a.1 (if a.2.2 then 0x03 else 0x02) j, mine.any (fun a => !a.2.2))

/-- A job that a commit has ended leaves once the interval that holds T has its record (R281); a `RESET_TALLY` that still waits has its boundary
then, and an abort came after the last commit point. -/
def State.dropEnded (s : State) (key : Nat) (stop : Bool) : State :=
  if 256 ≤ key ∧ stop then
    let x := s.job key
    let s := forEach x.resetReq s fun s r => s.finishItem r.1 0
    let s := forEach x.abort s fun s a => s.finishItem a.1 0x03 a.2.1
    s.upPath fun p => { p with jobs := p.jobs.erase key }
  else s

/-- The commit point of interval `j` (R269, R270): every input has closed for it. -/
def State.commitPoint (s : State) (key j : Nat) : State :=
  let st := s.jobStruct key
  let k := key % 256
  let r := s.arbitrate key j
  let s := r.1
  let x := s.job key
  let parts := (List.range (st.inputs k).length).map (fun n => x.record.get [] (j * 1024 + n))
  let ws := (if r.2 then parts.map abortedWords else parts).flatten
  let s := s.emitRecord st k j ws
  let s := s.upPath fun p => { p with jobLast := p.jobLast.set 0 k j }
  let s := s.upJob key fun y => { y with interval := y.next j, record := y.record.filter (fun e => e.1 / 1024 != j)
                                         cuts := y.cuts.filter (fun c => c != j) }
  s.dropEnded key (match x.stop with | none => false | some t => decide (t ≤ (x.next j) * st.ivlNs k * 65536))

/-- Input `n` closes for interval `j` (R279): its tally is copied in one step and cleared; the last input's close is the commit point. -/
def State.closeInput (s : State) (key n : Nat) : State :=
  let st := s.jobStruct key
  let k := key % 256
  let s := (s.tallyTouched st key n true).engineCopy key n
  let x := s.job key
  let stream := (st.inputs k).getD n 0
  let j := x.openOf n
  let t := x.tally n
  let stop := match x.stop with | none => false | some e => decide (e < (j + 1) * st.ivlNs k * 65536)
  let missing := !s.st.lookExists stream
  let flags := rflags (decide (t.processed = 0)) (x.cuts.contains j || stop) false (t.fault || x.fault) missing
  let eng := st.eng stream
  let ws := st.inputRecord k stream j eng flags t
  let reset := x.resetReq.any (fun r => decide (r.2 ≤ j) && (match t.closedThrough with | none => true | some c => decide (c < r.2)))
  let lost := t.overflow + t.dropped
  let s := if lost = 0 then s else s.upPath fun p => { p with jobOvf := p.jobOvf.upd 0 k (fun v => satAdd v lost) }
  let s := s.upJob key fun y =>
    { y with record := y.record.set [] (j * 1024 + n) ws, tallies := y.tallies.set {} n (st.clearTally k j reset t) }
  let all := (List.range (st.inputs k).length).all (fun m => match ((s.job key).tally m).closedThrough with
    | none => false
    | some c => decide (j ≤ c))
  if all then s.commitPoint key j else s

/-- An input closes for every interval that a sample at fine instant `t` has left behind. -/
def State.closeUpTo (s : State) (key n t : Nat) : Nat → State
  | 0 => s
  | fuel + 1 =>
    let st := s.jobStruct key
    if (s.job key).live && decide (((s.job key).openOf n + 1) * st.ivlNs (key % 256) * 65536 ≤ t) then
      (s.closeInput key n).closeUpTo key n t fuel
    else s

/-! ### Samples reach the jobs -/

/-- A sample that a job processes: neither INVALID nor UNSETTLED (R271). -/
def usable (tag : Nat) : Bool := tag &&& (tagInvalid + tagUnsettled) == 0

/-- Input index `idx` is the last of a CSD record (R277). -/
def Struct.endsRecord (st : Struct) (k idx : Nat) : Bool :=
  let base := (st.avg k - 1) * (st.fftN k / 2) + st.fftN k - 1
  decide (base ≤ idx) && decide ((idx - base) % max 1 (st.avg k * (st.fftN k / 2)) = 0)

/-- One job takes a sample of input `n`: earlier intervals close first (R269); INVALID and UNSETTLED samples are skipped (R271). A CSD job takes an index as it
is counted under its own structure. -/
def State.jobSample (s : State) (key n idx t : Nat) (eng : Bool) (w : Word) (tag : Nat) : State :=
  let st := s.jobStruct key
  let k := key % 256
  let x := s.job key
  let inside := decide (x.startAt ≤ t) && (match x.stop with | none => true | some e => decide (t < e))
  let ok := usable tag
  if st.jobKind k = 4 then
    let ends := st.endsRecord k idx && decide (st.instantOf ((st.inputs k).getD n 0) idx = t)
    ((s.tallyTouched st key n false).engineWork key n).upJob key fun y =>
      { y with seen := if ends then y.seen.upd [] n (fun l => l ++ [idx]) else y.seen
               csd := if inside then y.csd.upd [] n (fun l => l ++ [(idx, w, tag)]) else y.csd }
  else
    let s := s.closeUpTo key n t (t / (max 1 (st.ivlNs k) * 65536) + 1 - x.openOf n)
    if !inside ∨ !(s.job key).live then s
    else
      ((s.tallyTouched st key n false).engineWork key n).upTally key n fun z => if ok then st.tallySample k eng w idx tag z else { z with skipped := z.skipped + 1 }

/-- A sample of a look reaches every live job that has it as an input (R19, R266). `v` is the value in the stream's encoding. -/
def State.reduceSample (s : State) (stream idx t : Nat) (eng : Bool) (v : Word) (tag : Nat) : State :=
  forEach ((s.path.jobs.filter (fun e => e.2.live)).map (·.1)) s fun s key =>
    let ins := (s.jobStruct key).inputs (key % 256)
    forEach ((List.range ins.length).filter (fun n => ins.getD n 0 == stream)) s fun s n => s.jobSample key n idx t eng v tag

/-- One job takes a placeholder of R82 of input `n`, whose slot has fine instant `t`: it is INVALID, so skipped and counted in its interval (R19, R271). A record of
a CSD job leaves its segment out as it is. -/
def State.jobPlaceholder (s : State) (key n t : Nat) : State :=
  let st := s.jobStruct key
  let k := key % 256
  if st.jobKind k = 4 then s
  else
    let l := max 1 (st.ivlNs k * 65536)
    let s := s.closeUpTo key n t (t / l + 1 - (s.job key).openOf n)
    let x := s.job key
    if x.live && decide (x.startAt ≤ t) && (match x.stop with | none => true | some e => decide (t < e)) && decide (x.openOf n = t / l) then
      s.upTally key n fun z => { z with skipped := z.skipped + 1 }
    else s

/-- A placeholder of a look reaches every live job that has it as an input. -/
def State.reducePlaceholder (s : State) (stream t : Nat) : State :=
  forEach ((s.path.jobs.filter (fun e => e.2.live)).map (·.1)) s fun s key =>
    let ins := (s.jobStruct key).inputs (key % 256)
    forEach ((List.range ins.length).filter (fun n => ins.getD n 0 == stream)) s fun s n => s.jobPlaceholder key n t

/-- The timeout of an input: network time has reached (j + 1)L + 1.28 s + τ (R269). -/
def State.inputTimeout (s : State) (key n : Nat) : Bool :=
  let st := s.jobStruct key
  let k := key % 256
  let stream := (st.inputs k).getD n 0
  decide (((s.job key).openOf n + 1) * st.ivlNs k * 65536 + Config.epochNs * 65536 + (if s.st.lookExists stream then s.st.tau stream else 0) ≤ s.fine)

/-- An input closes by its timeout (R269); the close by a sample belongs to SAMPLE_SCALED. -/
def inputClose (slot n : Nat) (s : State) : State :=
  forEach (s.jobKeys slot) s fun s key =>
    let st := s.jobStruct key
    if st.jobKind (slot % 256) ≠ 0 ∧ st.jobKind (slot % 256) ≠ 4 ∧ n < (st.inputs (slot % 256)).length ∧ s.inputTimeout key n then s.closeInput key n
    else s

/-- REDUCER_INPUT_CLOSE (R269, R279). -/
def execReducerInputClose (e j : Fin 16) (input : Nat) (s : State) : Ans := act s (inputClose (16 * e.val + j.val) input)

/-! ### CSD (R277, R278) -/

/-- The last input index of record `j`. -/
def Struct.csdLast (st : Struct) (k j : Nat) : Nat := st.csdFirst k j + (st.avg k - 1) * (st.fftN k / 2) + st.fftN k - 1

/-- The samples of indices from `first` on, `n` of them. -/
def indexRange (l : List (Nat × Word × Nat)) (first n : Nat) : List (Nat × Word × Nat) :=
  l.filter (fun e => decide (first ≤ e.1) && decide (e.1 < first + n))

/-- The words of an input's segment when all of them are used. -/
def segment (l : List (Nat × Word × Nat)) (first n : Nat) : Option (List Word) :=
  let part := indexRange l first n
  if part.length = n && part.all (fun e => usable e.2.2) then some (part.map (fun e => e.2.1)) else none

/-- The periodic Hann window w[n] = 0.5 − 0.5 cos(2πn / N) of R277, in fixed point. -/
def hann (n len : Nat) : Int := (fixOne - fixCos n len) / 2

/-- A sample's value in units of 2^-149, in which every value of either encoding is whole. -/
def wholeValue (eng : Bool) (w : Word) : Int :=
  let v := streamValue eng w
  v.num * 2 ^ 149 / (v.den : Int)

/-- X(i) of R278: the real and the imaginary part, in units of 2^-245. -/
def dftAt (xs : List Int) (len i : Nat) : Int × Int :=
  ((List.range len).zip xs).foldl (fun a e =>
    (a.1 + e.2 * fixMul (hann e.1 len) (fixCos (i * e.1 % len : Nat) len), a.2 - e.2 * fixMul (hann e.1 len) (fixSin (i * e.1 % len : Nat) len))) (0, 0)

/-- conj(X) Y. -/
def crossTerm (x y : Int × Int) : Int × Int := (x.1 * y.1 + x.2 * y.2, x.1 * y.2 - x.2 * y.1)

/-- G of R278 from the sum over the `used` segments of conj(X) Y: 2 / (f U K), with U = 3N / 8 and f the `w3` samples of an epoch, and without
the factor 2 at bins 0 and N / 2. -/
def spectral (sum : Int) (len bin w3 used : Nat) : Q :=
  let two : Nat := if bin = 0 ∨ 2 * bin = len then 1 else 2
  { num := sum * (two * 8 * 32 : Nat), den := w3 * 25 * 3 * len * used * 2 ^ 490 }

/-- The sum of the weighted magnitudes of a segment, which |X(i)| does not exceed, in the units of X. -/
def weightAt (xs : List Int) (len : Nat) : Int := ((List.range len).zip xs).foldl (fun a e => a + (e.2.natAbs : Int) * hann e.1 len) 0

/-- A sum over the used segments as the binary32 accumulators hold it: the order of their additions is not stated, so that it is off by a free part of what
the roundings of `steps` additions can come to, 2^-24 of the magnitudes' products `weight` for each (log entry 10). -/
def accumulated (sum weight : Int) (steps : Nat) : Int :=
  sum + weight * steps * clampInt (Config.csdError sum weight.natAbs) (-(2 ^ 24)) (2 ^ 24) / 2 ^ 48

/-- A component of G as its binary32 word. -/
def spectralWord (g : Q) : Word := g.to32.1

/-- The words of a CSD record (R278). -/
def Struct.csdRecord (st : Struct) (k j : Nat) (flags tags w3 : Nat) (eng : Bool) (csd : SMap (List (Nat × Word × Nat))) : List Word :=
  let m := (st.inputs k).length
  let n := st.fftN k
  let segs := (List.range (st.avg k)).map (fun i =>
    (List.range m).map (fun a => segment (csd.get [] a) (st.csdFirst k j + i * (n / 2)) n))
  let used := segs.filter (fun g => g.all Option.isSome)
  let values := used.map (fun g => g.map (fun x => (x.getD []).map (wholeValue eng)))
  let weights := values.map (fun g => g.map (fun v => weightAt v n))
  let steps := 4 * n + 2 * used.length + 16
  let bins := numbersFrom (st.binLo k) (st.nBins k)
  let pairList := (List.range m).flatMap (fun a => (numbersFrom a (m - a)).map (fun b => (a, b)))
  [wordOf (tags * 256 + flags), wordOf used.length, wordOf (st.avg k - used.length), wordOf n, wordOf (st.binLo k), wordOf (st.nBins k),
    wordOf m, 0] ++ bins.flatMap (fun i =>
      let xs := values.map (fun g => g.map (fun v => dftAt v n i))
      pairList.flatMap (fun p =>
        let sum := xs.foldl (fun (t : Int × Int) g =>
          let c := crossTerm (g.getD p.1 (0, 0)) (g.getD p.2 (0, 0))
          (t.1 + c.1, t.2 + c.2)) (0, 0)
        let weight := weights.foldl (fun (t : Int) g => t + g.getD p.1 0 * g.getD p.2 0) 0
        if used.isEmpty then [quietNan, quietNan]
        else [spectralWord (spectral (accumulated sum.1 weight steps) n i w3 used.length),
          spectralWord (spectral (accumulated sum.2 weight steps) n i w3 used.length)]))

/-- The commit point of a CSD record has come (R277): every input has delivered its last sample, or the timeout has passed. -/
def State.csdDue (s : State) (key : Nat) : Bool :=
  let st := s.jobStruct key
  let k := key % 256
  let x := s.job key
  let last := st.csdLast k x.interval
  let ins := st.inputs k
  let first := st.leadInput k
  (List.range ins.length).all (fun n => (x.seen.get [] n).contains last) ||
    decide (st.instantOf first last + Config.epochNs * 65536 + (ins.foldl (fun t i => max t (if s.st.lookExists i then s.st.tau i else 0)) 0) ≤ s.fine)

/-- A CSD record is emitted (R277, R278). -/
def State.csdCommit (s : State) (key : Nat) : State :=
  let st := s.jobStruct key
  let k := key % 256
  let j := (s.job key).interval
  let s := (s.tallyTouched st key 0 false).engineCopy key 0
  let r := s.arbitrate key j
  let s := r.1
  let x := s.job key
  let ins := st.inputs k
  let stop := match x.stop with | none => false | some e => decide (e ≤ st.instantOf (st.leadInput k) (st.csdLast k j))
  let first := st.csdFirst k j
  let samples := (x.csd.flatMap (fun e => indexRange e.2 first (st.csdLast k j + 1 - first))).filter (fun v => usable v.2.2)
  let tags := samples.foldl (fun t v => tagOr t v.2.2) 0
  let missing := ins.any (fun i => !s.st.lookExists i)
  let ws := st.csdRecord k j (rflags samples.isEmpty (x.cuts.contains j || stop) false x.fault missing) tags (st.w3 (st.leadInput k)) (st.eng (st.leadInput k)) x.csd
  let s := s.emitRecord st k j (if r.2 then abortedWords ws else ws)
  let s := s.upPath fun p => { p with jobLast := p.jobLast.set 0 k j }
  let next := x.next j
  let s := s.upJob key fun y =>
    { y with interval := next, fault := false
             seen := (y.seen.map (fun e => (e.1, e.2.filter (fun v => decide (st.csdLast k next ≤ v))))).filter (fun e => !e.2.isEmpty)
             csd := (y.csd.map (fun e => (e.1, e.2.filter (fun v => decide (st.csdFirst k next ≤ v.1))))).filter (fun e => !e.2.isEmpty) }
  s.dropEnded key (match x.stop with | none => false | some t => decide (t ≤ st.instantOf (st.leadInput k) (st.csdFirst k next)))

/-- The CSD jobs of a slot emit the record whose commit point has come. -/
def csdPoint (slot : Nat) (s : State) : State :=
  forEach (s.jobKeys slot) s fun s key =>
    if (s.jobStruct key).jobKind (slot % 256) = 4 ∧ s.csdDue key then s.csdCommit key else s

/-- CSD_COMMIT_POINT (R277). -/
def execCsdCommitPoint (e j : Fin 16) (s : State) : Ans := act s (csdPoint (16 * e.val + j.val))

/-! ### Commands (R280) -/

/-- RESET_TALLY (R280): RAINFLOW alone; it takes effect at the end of the interval in progress. -/
def resetTally (s : State) : State :=
  s.start 0x38 fun c s =>
    let k := c.a 7 0
    match s.st.jobKind k with
    | 0 => s.complete c 0x12
    | 3 =>
      let j := s.now / max 1 (s.st.ivlNs k)
      (s.upJob k fun x => { x with resetReq := x.resetReq ++ [(c, j)] }).startLong c (.resetTally (k / 16) (k % 16))
    | _ => s.complete c 0x13

/-- RESET_TALLY (R280). -/
def execResetTally (s : State) : Ans := act s resetTally

/-- The boundary of a pending RESET_TALLY: each input is cleared as it closes for the interval; when all have, the command completes (R280). -/
def tallyDone (slot : Nat) (s : State) : State :=
  forEach (s.jobKeys slot) s fun s key =>
    let st := s.jobStruct key
    let x := s.job key
    let closed (j : Nat) : Bool := (List.range (st.inputs slot).length).all (fun n =>
      match (x.tally n).closedThrough with | none => false | some i => decide (j ≤ i))
    let done := x.resetReq.filter (fun r => closed r.2 && decide ((r.2 + 1) * st.ivlNs slot ≤ s.now))
    let s := s.upJob key fun y => { y with resetReq := y.resetReq.filter (fun r => !done.contains r) }
    forEach done s fun s r => s.finishItem r.1 0

/-- TALLY_CLEAR (R280). -/
def execTallyClear (e j : Fin 16) (s : State) : Ans := act s (tallyDone (16 * e.val + j.val))

/-- The commit point of the oldest interval has come by its timeouts though no command has brought it yet. -/
def State.pointPassed (s : State) (k : Nat) : Bool :=
  if s.st.jobKind k = 4 then s.csdDue k
  else
    let x := s.job k
    (List.range (s.st.inputs k).length).all (fun n => decide (x.interval < x.openOf n) || s.inputTimeout k n)

/-- ABORT_INTERVAL (R280): the oldest interval or record that has not reached its commit point, arbitrated there. -/
def abortInterval (s : State) : State :=
  s.start 0x39 fun c s =>
    let k := c.a 7 0
    match s.st.jobKind k with
    | 0 => s.complete c 0x12
    | 3 => s.complete c 0x13
    | _ => (s.upJob k fun x => { x with abort := x.abort ++ [(c, x.interval, s.pointPassed k)] }).startLong c (.abortInterval (k / 16) (k % 16))

/-- ABORT_INTERVAL (R280). -/
def execAbortInterval (s : State) : Ans := act s abortInterval

/-! ### Commits and realignments (R281, R282) -/

/-- A job that starts at fine instant `t` (R281). -/
def Struct.newJob (st : Struct) (k t : Nat) : Job :=
  let j := if st.jobKind k = 4 then st.recAt k t else t / max 1 (st.ivlNs k * 65536)
  { live := true, startAt := t, first := j, interval := j, cuts := if st.jobKind k = 4 then [] else [j] }

/-- The words of a job slot of an engine record. -/
def Struct.slotWords (st : Struct) (k : Nat) : List Word := ((st.record .reducer (k / 16)).drop (4 + 16 * (k % 16))).take 16

/-- A job slot is unchanged from one structure to the next (R38, R281). -/
def sameJob (old new : Struct) (k : Nat) : Bool := decide (old.jobKind k = new.jobKind k) && decide (old.slotWords k = new.slotWords k)

/-- A commit at fine instant `t` (R281): a changed or emptied slot ends its job, which stays until its record is out; a new job starts. -/
def State.jobCommitted (s : State) (old : Struct) (k t : Nat) : State :=
  if sameJob old s.st k then s
  else
    let x := s.job k
    let s := if x.live then
        let key := 256 * ((s.path.jobs.foldl (fun n e => max n (e.1 / 256)) 0) + 1) + k
        (s.upJob key fun _ => { x with stop := some t, own := some old }).upJob k fun _ => {}
      else s
    if s.st.jobKind k = 0 then s else s.upJob k fun _ => s.st.newJob k t

/-- Job `k` initialises its state (R441): every cell of it is written clean (R432). -/
def State.initJob (s : State) (k : Nat) : State :=
  let a := s.st.jobBase k
  let n := s.st.jobBytes k
  let banks := (List.range 128).filter (fun b => decide (a < (b + 1) * 0x40000) && decide (b * 0x40000 < a + n))
  let s := (s.contend (k / 16)).upMem fun m => { m with pad := m.pad.filter (fun e => !(decide (a ≤ e.1) && decide (e.1 < a + n))) }
  forEach banks s fun s b => (s.touchBank b).upBank b fun x => if x.lost then { x with clean := x.clean ++ [(a, n)] } else x

/-- The jobs whose state a commit has changed or moved initialise it. -/
def State.initJobs (s : State) (old : Struct) : State :=
  forEach ((List.range 256).filter (fun k => decide (s.st.jobKind k ≠ 0) && (!sameJob old s.st k || decide (old.jobBase k ≠ s.st.jobBase k)))) s State.initJob

/-- The CSD records that hold the fine instant `t` (R271): a record overlaps the next one by half a segment. -/
def Struct.csdHolding (st : Struct) (k t : Nat) : List Nat :=
  let i := st.leadInput k
  let q := st.indexAt i t / max 1 (st.avg k * (st.fftN k / 2))
  (numbersFrom (q - 2) 3).filter (fun j => decide (st.instantOf i (st.csdFirst k j) ≤ t) && decide (t ≤ st.instantOf i (st.csdLast k j)))

/-- The CSD records that begin at or after fine instant `a` and end before `b`. -/
def Struct.csdWithin (st : Struct) (k a b : Nat) : Nat × Nat :=
  let reach := (st.avg k - 1) * (st.fftN k / 2) + st.fftN k - 1
  (st.recAt k a, ceilDiv (st.indexAt (st.leadInput k) b - reach) (max 1 (st.avg k * (st.fftN k / 2))))

/-- A job whose next interval or record is one that a realignment skips goes on with the one after (R282): a new job may begin there. -/
def Job.pastSkips (x : Job) : Job :=
  let past (j : Nat) : Nat := match x.skips.find? (fun r => decide (r.1 ≤ j) && decide (j ≤ r.2)) with | none => j | some r => r.2 + 1
  { x with first := past x.first, interval := past x.interval }

/-- A realignment at E: intervals and records that hold no instant of either scale yield none, and those that hold E carry PARTIAL (R282). All in
ns. -/
def State.jobsRealigned (s : State) (prevEnd e : Nat) : State :=
  forEach ((s.path.jobs.filter (fun x => x.2.live)).map (·.1)) s fun s key =>
    let st := s.jobStruct key
    let k := key % 256
    if st.jobKind k = 4 then
      let r := st.csdWithin k (prevEnd * 65536) (e * 65536)
      s.upJob key fun y => { y with skips := if r.1 < r.2 then y.skips ++ [(r.1, r.2 - 1)] else y.skips
                                    cuts := y.cuts ++ st.csdHolding k (e * 65536) }.pastSkips
    else
      let l := max 1 (st.ivlNs k)
      let a := ceilDiv prevEnd l
      let b := e / l
      s.upJob key fun y => { y with cuts := y.cuts ++ [b], skips := if a < b then y.skips ++ [(a, b - 1)] else y.skips }.pastSkips

/-! ### Load and state (R267, R268, R284) -/

/-- A job's lane operations per second in units of 2^-28 (R267): an input's rate is its samples per epoch times 25 / 32 per second, and N
is at most 2^23. -/
def Struct.jobLoad28 (st : Struct) (k : Nat) : Nat :=
  let ins := st.inputs k
  let sum (c : Nat) : Nat := (ins.foldl (fun n i => n + c * (if st.lookRuns i then st.w3 i else 0)) 0) * 25 * 2 ^ 23
  match st.jobKind k with
  | 1 => sum 4
  | 2 => sum 6
  | 3 => sum 40
  | 5 => sum 6
  | 4 =>
    let m := ins.length
    let n := st.fftN k
    let f := if st.lookRuns (st.leadInput k) then st.w3 (st.leadInput k) else 0
    (m * (n + 2 * n * Nat.log2 n) + 4 * st.nBins k * pairs m) * 2 * f * 25 * (2 ^ 23 / n)
  | _ => 0

/-- RED_LOAD[e]: millions of lane operations per second, rounded up. -/
def Struct.engineLoad (st : Struct) (e : Nat) : Nat :=
  ceilDiv ((List.range 16).foldl (fun n j => n + st.jobLoad28 (16 * e + j)) 0) (2 ^ 28 * 1000000)

/-- RED_OVF (R284): since reset, the tallies still open among them. -/
def State.ovfNow (s : State) (k : Nat) : Nat :=
  (s.jobKeys k).foldl (fun n key => (s.job key).tallies.foldl (fun n e => satAdd n (e.2.overflow + e.2.dropped)) n) (s.path.jobOvf.get 0 k)

/-- RED_STATE_TOTAL: KiB, rounded up. -/
def Struct.stateTotal (st : Struct) : Nat := ceilDiv ((List.range 256).foldl (fun n k => n + st.jobBytes k) 0) 1024

end Sys2Proof.Machine
end

