-- ==== Sys2Proof/Machine/Samples.lean ====
section
/-! DEFINITION. A sample leaves scaling (R205): the programmable stages of its chain (R98, R172, R175), its tags (R180, R200), its scaling,
the switches and reducers it reaches, and block assembly (R50, R82, R190, R191). -/

namespace Sys2Proof.Machine

/-! ### Block assembly (R18, R50, R190) -/

/-- The open block of a stream closes; an empty one leaves nothing. -/
def StreamRec.closeOpen (r : StreamRec) (split : Bool) : StreamRec :=
  match r.block with
  | none => r
  | some b =>
    if b.samples.isEmpty then { r with block := none }
    else { r with block := none, ready := r.ready ++ [{ b with split := b.split || split }] }

/-- A block that begins at index `k`. -/
def Struct.openAt (st : Struct) (stream k : Nat) (keyed split : Bool) : OpenBlock :=
  { seq := k / 256, w3 := st.w3 stream, eng := st.eng stream, words := false, pos := k % 256, tFirst := st.instantOf stream k / 65536
    samples := [], split := split, keyed := keyed }

/-- A sample of index `k` enters the stream's block, which closes when it is full. -/
def StreamRec.addSample (r : StreamRec) (st : Struct) (stream k : Nat) (w : Word) (tag : Nat) : StreamRec :=
  let b := r.block.getD (st.openAt stream k false false)
  let first := b.samples.isEmpty
  let r := { r with block := some { b with samples := b.samples ++ [(w, tag)], keyed := b.keyed || (first && r.keyNext) }
                    keyNext := r.keyNext && !first }
  if (k + 1) % 256 = 0 then r.closeOpen false else r

/-! ### From one era to the next (R49, R50, R82, R191) -/

/-- The placeholders of a forward step (R82): indices `k` to `stop − 1` of one block, with the gear index of the last real sample, and HOLDOVER by the
time state at their instants (R200). -/
def placeholders (st : Struct) (stream k stop gear : Nat) (hist : List (Nat × Bool)) (r : StreamRec) : StreamRec :=
  (numbersFrom k (stop - k)).foldl (fun r i =>
    let tag := tagOr (tagOr tagInvalid gear) (if lockedAt hist (st.instantOf stream i) then 0 else tagHoldover)
    r.addSample st stream i (blankWord (st.eng stream) tag) tag) r

/-- The slots that placeholders fill where samples pass from index `k` of structure `old` to index `k'` of `new` (R82): those that a step of time skips in one
block. -/
def skippedSlots (old new : Struct) (stream k k' : Nat) (moved : Bool) : List Nat :=
  if old.w3 stream = new.w3 stream ∧ old.eng stream = new.eng stream ∧ moved = true ∧ k < k' ∧ (k - 1) / 256 = k' / 256 then numbersFrom k (k' - k) else []

/-- The stream's block where samples pass from structure `old`, next index `k`, to structure `new` with first index `k'`. -/
def StreamRec.crossEra (r : StreamRec) (old new : Struct) (stream k k' gear : Nat) (moved : Bool) (hist : List (Nat × Bool)) : StreamRec :=
  if old.w3 stream ≠ new.w3 stream then
    let r := r.closeOpen false
    { r with block := some (new.openAt stream k' true false) }
  else if old.eng stream ≠ new.eng stream then
    let inside := match r.block with | none => false | some b => decide (b.seq = k' / 256) && !b.samples.isEmpty
    let r := r.closeOpen inside
    { r with block := some (new.openAt stream k' true inside) }
  else if moved ∧ k < k' then
    if (k - 1) / 256 = k' / 256 then placeholders old stream k k' gear hist r
    else
      let r := r.closeOpen false
      { r with block := some (new.openAt stream k' true false) }
  else r

/-- The look's samples pass into the next era when the next instant of the old one lies past its end; a look that no longer runs stops, and
one that runs again in a later era starts there. -/
def State.crossEras (s : State) (stream : Nat) : Nat → State
  | 0 => s
  | fuel + 1 =>
    let l := s.look stream
    let e := s.eraFrom l.era
    match s.eraAfter l.era with
    | none => s
    | some e2 =>
      match l.next with
      | none =>
        let s := if e2.st.lookRuns stream then s.beginLook e2.st stream e2.start else s.upLook stream fun x => { x with era := e2.start }
        s.crossEras stream fuel
      | some k =>
        if e.st.instantOf stream k < e2.prevEnd * 65536 then s
        else
          let k' := e2.st.indexAt stream (e2.start * 65536)
          let s :=
            if e2.st.lookRuns stream then
              let gear := match l.last with | none => 0 | some x => x.2.2 % 4
              let moved := decide (e2.start ≠ e2.prevEnd)
              let s := (s.upStrm stream fun r => r.crossEra e.st e2.st stream k k' gear moved s.tmb.lockHist).upLook stream fun x =>
                { x with next := some k', era := e2.start }
              forEach (skippedSlots e.st e2.st stream k k' moved) s fun s i => s.reducePlaceholder stream (e.st.instantOf stream i)
            else ((s.switchStops stream).upStrm stream fun r => r.closeOpen false).upLook stream fun x => { x with next := none, era := e2.start }
          s.crossEras stream fuel

/-- The same for every era recorded. -/
def State.followEras (s : State) (stream : Nat) : State := s.crossEras stream (s.cfg.eras.length + 1)

/-! ### The end of the chain (R98, R172, R175, R180) -/

/-- What a look's chain gives for sample `k` of instant `t`, with the codes that have come since the sample before: the state with the chain's own,
the word (none where the rank filter has none) and the sample's tag; none when the codes are not those the chain takes. -/
def State.chainOut (s : State) (st : Struct) (stream k t : Nat) (codes : List Int) : Option (State × Option Int × Nat) :=
  let l0 := s.look stream
  let fresh := !(l0.due t false).isEmpty
  let l := l0.applyResets t false
  if st.isRank stream then
    let half := st.rankHalf stream
    let i := match l.rankNext with | some i => i | none => max (k - half) (st.indexAt stream l.chainFrom)
    match s.rankInputs st stream (k + half + 1 - i) i l codes s.freeCount with
    | some (l, [], free) =>
      let l := { l with rankHist := l.rankHist.filter (fun e => decide (k ≤ e.1 + half)) }
      let r := rankResult (st.rankW stream) (st.rankR stream) ((l.rankHist.filter (fun e => decide (e.1 ≤ k + half))).map (fun e => e.2))
      let s := forEach (numbersFrom 0 (free - s.freeCount)) (s.upLook stream fun _ => l) fun s _ => s.draw
      some (s, r.1, tagOr r.2 (s.outputTag st stream t))
    | _ => none
  else
    match s.chainWord st stream k l codes (Config.unspecified s.freeCount) with
    | some r =>
      if r.rest.isEmpty then
        let s := s.upLook stream fun _ => r.look
        let s := if r.alone then s.draw else s
        let s := if r.clipped then s.upPath fun p => { p with chainSats := p.chainSats.upd 0 ((st.chainOf stream).getD 0) satInc } else s
        let own := if st.rev stream && (r.alone || fresh) then tagUnsettled else 0
        some (s, some r.word, tagOr (tagOr (s.stateTag st stream t) own) (if r.clipped then tagClipped else 0))
      else none
    | none => none

/-! ### One sample -/

/-- A sample with a value, or a placeholder for one that has none (R115, R175), leaves scaling. -/
def State.emitSample (s : State) (st : Struct) (stream k t : Nat) (y : Option Int) (tag : Nat) : State :=
  let eng := st.eng stream
  let out := match y with
    | some w =>
      if spanBlank (s.look stream).spans t then (blankWord eng (tagOr tag tagInvalid), tagOr tag tagInvalid) else s.scaled st stream t w tag
    | none => (blankWord eng (tagOr tag tagInvalid), tagOr tag tagInvalid)
  let v : Word := if eng then out.1 else wordOf (unsignedOf 32 (rawOf out.1))
  let s := s.upLook stream fun l =>
    { l with last := some (t, out.1, out.2), lastWord := match y with | none => l.lastWord | some w => some (t, w), next := some (k + 1) }
  let s := s.writeBuffer.upStrm stream fun r => r.addSample st stream k out.1 out.2
  let s := s.switchLook st stream t eng v out.2
  s.reduceSample stream k t eng v out.2

/-- The instant at which a sample of the look has left its chain: τ after its represented instant, counted on the scale in force now when a
realignment has come between (R81, R177); in REV mode the half period of R178 counts from the midpoint of the two words, which lies as much earlier. -/
def State.leaves (s : State) (st : Struct) (stream t : Nat) : Bool :=
  let step : Nat := match s.eraAfter (s.look stream).era with
    | none => 0
    | some e2 => (e2.start - e2.prevEnd) * 65536
  let back : Nat := if (s.eraAfter (s.look stream).era).isSome then (-s.tmb.slip).toNat * 65536 else 0
  let half : Nat := if st.rev stream then 5 * st.ps2 stream / 2 else 0
  decide (t + st.tau stream + step ≤ s.fine + back + half)

/-- A sample leaves scaling (R205), at its time and with the codes its chain takes up for it. -/
def sampleOut (stream : Nat) (codes : List Int) (s : State) : State :=
  let s := s.followEras stream
  let l := s.look stream
  match l.next with
  | none => s
  | some k =>
    let st := (s.eraFrom l.era).st
    let t := st.instantOf stream k
    if s.pathRuns && s.glb.sampling && s.leaves st stream t then
      match s.chainOut st stream k t codes with
      | none => s
      | some r =>
        let s := if (l.due t false).isEmpty then r.1
          else forEach (numbersFrom (stream * 4) 4) r.1 fun s i => s.upSw i fun x => { x with prev := none }
        (s.emitSample st stream k t r.2.1 r.2.2).followEras stream
    else s

/-- SAMPLE_SCALED (R205). -/
def execSampleScaled (stream : Fin 13056) (codes : List Int) (s : State) : Ans :=
  actIf (Instr.wf (.sampleScaled stream codes)) s (sampleOut stream.val codes)

end Sys2Proof.Machine
end

