-- ==== Sys2Proof/Machine/Memory.lean ====
section
/-! DEFINITION. Accesses to the scratchpad (R427 to R433, R440), and the memory commands `SCRUB`, `BANK_POWER`, `STORE_READ`, `STORE_WRITE` and
`INJECT_ERROR` (R437 to R441). -/

namespace Sys2Proof.Machine

/-! ### Areas (R427, R268) -/

/-- Bytes of the central store (R235). -/
def storeBytes : Nat := 0x400000000

/-- The first address above the committed reducer state (R268, R427). -/
def Struct.reducerEnd (st : Struct) : Nat := st.jobBase 256

/-- The hub itself uses the byte at present: reducer state of the committed structure, the snapshot areas, the block-assembly buffers (R427, R448). -/
def State.hubUses (s : State) (a : Nat) : Bool :=
  (decide (0x400000 ≤ a) && decide (a < 0x1400000) && decide (a < s.st.reducerEnd)) ||
    ((s.snap.image.isSome) && ((decide (0x1400000 ≤ a) && decide (a < 0x1800000)) || (decide (0x1C00000 ≤ a) && decide (a < 0x1E00000)))) ||
    (s.glb.sampling && decide (0x1800000 ≤ a) && decide (a < 0x1C00000))

/-! ### Reads and writes through a port -/

/-- The contents of what the hub itself keeps in the scratchpad have no stated layout: a byte of it reads as a free value (log entry 26). -/
def State.hideBytes (s : State) : Nat → List Byte → State × List Byte
  | _, [] => (s, [])
  | a, b :: r =>
    let own := s.hubUses a
    let q := (if own then s.draw else s).hideBytes (a + 1) r
    (q.1, (if own then Config.unspecified s.freeCount else b) :: q.2)

/-- A read of the scratchpad through port `p` for a consumer outside (R431): bytes, and whether any of them is poisoned. -/
def State.padRead (s : State) (p a n : Nat) : State × List Byte × Bool :=
  let r := (s.contend p).readPad p a n
  let h := r.1.hideBytes a r.2.1
  (h.1, h.2, r.2.2)

/-- The scratchpad ranges that an `UPDATE_DATA` or `OTP_PROVISION` which has not completed reads (R494). -/
def State.updateSources (s : State) : List (Nat × Nat) :=
  let data (c : CmdItem) : List (Nat × Nat) := if c.opcode = 0x70 ∧ c.a 31 31 = 1 then c.updateSource.toList else []
  s.cmd.queue.flatMap (fun c => if c.opcode = 0x75 then [(c.a 24 0, 116)] else data c) ++
    s.cmd.long.flatMap (fun l => match l.op with | .updateData .. => data l.item | _ => [])

/-- Undefined writes: where the hub uses the bytes (R448), in the staging window while it is being loaded (R42), and in the source of a command that is to
read them (R494). -/
def State.writeUndefined (s : State) (a n : Nat) : Option Nat :=
  if (List.range n).any (fun i => s.hubUses (a + i)) then some 448
  else if s.cfg.stage = .loading ∧ a < 0x400000 ∧ s.cmd.long.any (fun l => match l.op with | .load false _ _ => true | _ => false) then some 42
  else if s.updateSources.any (fun r => decide (r.1 < a + n) && decide (a < r.1 + r.2)) then some 494
  else none

/-- A write of the scratchpad from a host port (R432): clean cells. -/
def State.padWrite (s : State) (p a : Nat) (bs : List Byte) : State :=
  let s := s.contend p
  (match s.writeUndefined a bs.length with | none => s | some rule => s.undefinedUse rule).writePad a bs

/-- Engine `e` has been given poisoned data of the addresses `bad` (R282, R433): the jobs in whose state they lie, or, where that is no job's state and so an
input, a job of the engine that the manual does not name, a free one (log entry 26), have their records carry FAULT. -/
def State.enginePoison (s : State) (e : Nat) (bad : List Nat) : State :=
  let jobs := s.path.jobs.filter (fun x => x.2.live && x.1 % 256 / 16 == e)
  let holds (key n : Nat) : Bool := bad.any (fun a =>
    decide ((s.st.inputState key n).1 ≤ a) && decide (a < (s.st.inputState key n).1 + (s.st.inputState key n).2))
  let mine := jobs.flatMap (fun x =>
    if 256 ≤ x.1 then [] else ((List.range (s.st.inputs x.1).length).filter (holds x.1)).map (fun n => (x.1, n)))
  match mine with
  | _ :: _ => forEach mine s fun s x => s.engineFault x.1 x.2
  | [] =>
    if jobs.isEmpty then s
    else
      let key := (jobs.map (·.1)).getD ((Config.unspecified s.freeCount : Nat) % jobs.length) 0
      let s := s.draw
      let n := (Config.unspecified s.freeCount : Nat) % max 1 ((s.jobStruct key).inputs (key % 256)).length
      s.draw.engineFault key n

/-- The compressor has been given poisoned data of a block-assembly buffer (R433): the block that it reads next for coding is written to the central
store with the poison syndrome. Where a stream's buffer lies the manual does not say, so which of the streams with a block to code it is, is a free
choice (log entry 26). -/
def State.compressorPoison (s : State) (a : Nat) : State :=
  let streams := (s.path.streams.filter (fun e => !e.2.ready.isEmpty)).map (·.1)
  if a < 0x1800000 ∨ 0x1C00000 ≤ a ∨ streams.isEmpty then s
  else
    let i := streams.getD ((Config.unspecified s.freeCount : Nat) % streams.length) 0
    s.draw.upStrm i fun r => { r with ready := match r.ready with | [] => [] | b :: rest => { b with poisoned := true } :: rest }

/-- What the consumer behind a port receives (R433): PCIe a completion, with the EP bit when poisoned; an engine a fault in its record; the
compressor a block that is stored as poisoned. -/
def State.deliverRead (s : State) (p a : Nat) (bs : List Byte) (poisoned : Bool) : State :=
  let ws := wordsOfBytes (bs ++ List.replicate ((4 - bs.length % 4) % 4) 0)
  if p = 21 then (if poisoned then s.emit (.poisonedRead .pcie) else s.emit (.readData .pcie ws))
  else if p < 16 ∧ poisoned then s.enginePoison p (((List.range bs.length).map (a + ·)).filter (fun a => (s.cellAt a).decode.2.1))
  else if p = 18 ∧ poisoned then s.compressorPoison a
  else s

/-- The words of a READ frame over SPI (R398, R431): each word that holds a poisoned byte reads as 0 and sets the status bit. -/
def State.padWords (s : State) (a n : Nat) : Nat → State × List Word
  | 0 => (s, [])
  | fuel + 1 =>
    if n = 0 then (s, [])
    else
      let r := s.padRead 22 a (min 4 n)
      let w := (wordsOfBytes (r.2.1 ++ List.replicate (4 - r.2.1.length) 0)).headD 0
      let q := (if r.2.2 then r.1.upHost fun h => { h with spiPoison := true } else r.1).padWords (a + 4) (n - 4) fuel
      (q.1, (if r.2.2 then 0 else w) :: q.2)

/-- A read through a port (R431). -/
def scratchpadRead (p a n : Nat) (s : State) : State :=
  if s.glb.state = .reset ∨ padBytes < a + n then s
  else if p = 22 then
    let r := s.padWords a n (n / 4 + 1)
    r.1.emit (.readData .spi r.2)
  else
    let r := s.padRead p a n
    r.1.deliverRead p a r.2.1 r.2.2

/-- SCRATCHPAD_READ (R431). -/
def execScratchpadRead (p : Fin 24) (addr length : Nat) (s : State) : Ans :=
  actIf (Instr.wf (.scratchpadRead p addr length)) s (scratchpadRead p.val addr length)

/-- A write through a port (R432). A host port's write is checked against R42 and R448. -/
def scratchpadWrite (p a : Nat) (bs : List Byte) (s : State) : State :=
  if s.glb.state = .reset ∨ padBytes < a + bs.length then s
  else if 20 ≤ p ∧ p ≤ 22 then s.padWrite p a bs
  else (s.contend p).writePad a bs

/-- SCRATCHPAD_WRITE (R432). -/
def execScratchpadWrite (p : Fin 24) (addr : Nat) (bytes : List Byte) (s : State) : Ans :=
  actIf (Instr.wf (.scratchpadWrite p addr bytes)) s (scratchpadWrite p.val addr bytes)

/-! ### SCRUB (R438) -/

/-- `SCRUB` (R437, R438): one at a time; the start address is taken down to its 64-byte unit (log entry 26). -/
def scrub (s : State) : State :=
  s.start 0x60 fun c s =>
    let store := decide (c.a 31 31 = 1)
    let start := c.b 33 0 / 64 * 64
    let n := c.a 30 0 * 64
    if (if store then storeBytes else padBytes) < start + n then s.complete c 0x41
    else if (s.longOf (fun o => match o with | .scrub .. => true | _ => false)).isSome then s.complete c 0x01
    else (s.upMem fun m => { m with scrubPos := start }).startLong c (.scrub store start n)

/-- SCRUB (R438). -/
def execScrub (s : State) : Ans := act s scrub

/-- One scratchpad cell of the range, as it stands now: a correctable error is rewritten corrected and counted in the result alone; two errors are handled as on a read.
The pair counts cells rewritten and uncorrectable errors. -/
def scrubCell (a : State × Nat × Nat) (e : Nat × MemCell) : State × Nat × Nat :=
  let d := (a.1.cellAt e.1).decode
  if d.2.2.1 then (a.1.putCell e.1 { data := d.1, poison := d.2.1 }, a.2.1 + 1, a.2.2)
  else if d.2.2.2 then ((a.1.putCell e.1 { data := d.1, poison := true }).countUe (bankOf e.1) e.1 23, a.2.1, a.2.2 + 1)
  else a

/-- One store codeword of the range, as it stands now, so that newer data stands (R438); two errors leave the poison syndrome. -/
def scrubWord (a : State × Nat × Nat) (e : Nat × StoreWord) : State × Nat × Nat :=
  let d := (a.1.storeAt e.1).decode
  let put (s : State) (poison : Bool) : State := s.upMem fun m => { m with store := m.store.set {} e.1 { data := d.1, poison := poison } }
  if d.2.2.1 then (put a.1 d.2.1, a.2.1 + 1, a.2.2)
  else if d.2.2.2 then ((put a.1 true).countUe (dieOf e.1) (e.1 * 8) 23, a.2.1, a.2.2 + 1)
  else a

/-- The whole of a range is scrubbed (R438). -/
def State.scrubRange (s : State) (store : Bool) (start n : Nat) : State × Nat × Nat :=
  if store then
    forEach (s.mem.store.filter (fun e => decide (e.2.flips ≠ 0) && decide (start ≤ e.1 * 8) && decide (e.1 * 8 < start + n))) (s, 0, 0) scrubWord
  else
    let s := s.contend 23
    let s := forEach ((List.range 128).filter (fun b => decide (start < (b + 1) * 0x40000) && decide (b * 0x40000 < start + n))) s fun s b => s.touchBank b
    forEach (s.mem.pad.filter (fun e => decide (e.2.flips ≠ 0) && decide (start ≤ e.1) && decide (e.1 < start + n))) (s, 0, 0) scrubCell

/-- A scrub's range is done (R438). -/
def scrubDone (s : State) : State :=
  match s.cmd.long.find? (fun l => match l.op with | .scrub .. => true | _ => false) with
  | none => s
  | some l =>
    match l.op with
    | .scrub store start n =>
      let r := s.scrubRange store start n
      (r.1.upMem fun m => { m with scrubPos := (start + n) % 2 ^ 34 }).endLong l 0 (satField 32 r.2.1 + satField 32 r.2.2 * 2 ^ 32)
    | _ => s

/-- SCRUB_DONE (R438). -/
def execScrubDone (s : State) : Ans := act s scrubDone

/-! ### BANK_POWER (R440, R441) -/

/-- The state a bank is commanded to: contents are lost in OFF. -/
def State.setBank (s : State) (b state : Nat) : State :=
  match state with
  | 0 => s.upBank b fun x => { x with power := .on, awake := true }
  | 1 => s.upBank b fun x => { x with power := .retain, awake := false }
  | _ => (s.upMem fun m => { m with pad := m.pad.filter (fun e => decide (bankOf e.1 ≠ b)) }).upBank b fun x =>
      { x with power := .off, awake := false, lost := true, clean := [] }

/-- The requests that R441 accepts. -/
def State.bankMay (s : State) (b state : Nat) : Bool :=
  decide ((s.bank b).power ≠ .failed) && decide (state ≤ 2) &&
    (decide (120 ≤ b) || (decide (b ≤ 15) && decide (state ≤ 1)) || (decide (16 ≤ b) && decide (b ≤ 79) && decide (s.st.reducerEnd ≤ b * 0x40000)))

/-- `BANK_POWER` (R441). -/
def bankPower (s : State) : State :=
  s.start 0x61 fun c s =>
    if s.bankMay (c.a 6 0) (c.a 9 8) then (s.setBank (c.a 6 0) (c.a 9 8)).complete c 0 else s.complete c 0x40

/-- BANK_POWER (R441). -/
def execBankPower (s : State) : Ans := act s bankPower

/-- A woken RETAIN bank returns to retention 100 µs after its last access (R440). -/
def bankRetain (b : Nat) (s : State) : State :=
  let x := s.bank b
  if x.power = .retain ∧ x.awake ∧ s.passed x.lastUse (us 100) then s.upBank b fun x => { x with awake := false } else s

/-- BANK_RETAIN_TIMEOUT (R440). -/
def execBankRetainTimeout (b : Fin 128) (s : State) : Ans := act s (bankRetain b.val)

/-! ### STORE_READ and STORE_WRITE (R437) -/

/-- The operands of a transfer: units, host-area address, store address. -/
def CmdItem.transfer (c : CmdItem) : Nat × Nat × Nat := (c.a 31 25 + 1, c.a 24 6 * 64, c.b 33 6 * 64)

/-- The host side lies in the host area, banks 120 to 127. -/
def inHostArea (host units : Nat) : Bool := decide (0x1E00000 ≤ host) && decide (host + units * 64 ≤ padBytes)

/-- `STORE_READ` (R437). -/
def storeRead (s : State) : State :=
  s.start 0x62 fun c s =>
    let t := c.transfer
    if inHostArea t.2.1 t.1 && decide (t.2.2 + t.1 * 64 ≤ storeBytes) then s.startLong c (.storeRead t.2.2 t.2.1 t.1) else s.complete c 0x41

/-- STORE_READ (R437). -/
def execStoreRead (s : State) : Ans := act s storeRead

/-- The store side touches a page of a stall or the notice journal (R235, R437). -/
def Struct.touchesStall (st : Struct) (a n : Nat) : Bool :=
  decide (0x3FC000000 < a + n) ||
    st.stall.any (fun e => decide (st.stallKind e.1 ≠ 0) && decide (a < (st.basePage e.1 + st.pages e.1) * 65536) && decide (st.basePage e.1 * 65536 < a + n))

/-- `STORE_WRITE` (R437). -/
def storeWrite (s : State) : State :=
  s.start 0x63 fun c s =>
    let t := c.transfer
    if inHostArea t.2.1 t.1 && !s.st.touchesStall t.2.2 (t.1 * 64) then s.startLong c (.storeWrite t.2.2 t.2.1 t.1) else s.complete c 0x41

/-- STORE_WRITE (R437). -/
def execStoreWrite (s : State) : Ans := act s storeWrite

/-- Codewords copied to the host area: the eight bytes of one that is uncorrectable or poisoned are written poisoned (R434). -/
def State.copyOut (s : State) : Nat → Nat → Nat → State
  | _, _, 0 => s
  | cw, host, n + 1 =>
    let r := s.readWord cw
    let bytes := leBytes 8 r.2.1.toNat
    let s := (r.1.contend 19).touchBank (bankOf host)
    let s := forEach ((List.range 8).zip bytes) s fun s e => s.putCell (host + e.1) { data := e.2, poison := r.2.2 }
    s.copyOut (cw + 1) (host + 8) n

/-- Host-area bytes copied to codewords: one that holds a poisoned byte takes the poison syndrome (R433). -/
def State.copyIn (s : State) : Nat → Nat → Nat → State
  | _, _, 0 => s
  | cw, host, n + 1 =>
    let r := (s.contend 19).readPad 19 host 8
    (r.1.writeWords cw [BitVec.ofNat 64 (leNat r.2.1)] r.2.2).copyIn (cw + 1) (host + 8) n

/-- The range of a transfer is done (R385, R437). -/
def transferDone (s : State) : State :=
  match s.cmd.long.find? (fun l => match l.op with | .storeRead .. => true | .storeWrite .. => true | _ => false) with
  | none => s
  | some l =>
    match l.op with
    | .storeRead store host n => (s.copyOut (store / 8) host (n * 8)).endLong l 0
    | .storeWrite store host n => (s.copyIn (store / 8) host (n * 8)).endLong l 0
    | _ => s

/-- STORE_TRANSFER_DONE (R385). -/
def execStoreTransferDone (s : State) : Ans := act s transferDone

/-! ### INJECT_ERROR (R439) -/

/-- The inverted bits: the named one, and with `double` the next one in the cell's or codeword's circle. -/
def injectMask (width pos : Nat) (double : Bool) : Nat := 2 ^ pos + (if double then 2 ^ ((pos + 1) % width) else 0)

/-- `INJECT_ERROR` (R437, R439): in the scratchpad the whole of `op_b` is the byte address. -/
def injectError (s : State) : State :=
  s.start 0x64 fun c s =>
    let double := decide (c.a 30 30 = 1)
    let pos := c.a 6 0
    if c.a 31 31 = 0 then
      let a := c.opB.toNat
      if padBytes ≤ a ∨ 14 ≤ pos then s.complete c 0x41
      else
        let s := s.touchBank (bankOf a)
        let cell := s.cellAt a
        (s.putCell a { cell with flips := cell.flips ^^^ BitVec.ofNat 14 (injectMask 14 pos double) }).complete c 0
    else if 72 ≤ pos then s.complete c 0x41
    else
      let cw := c.b 33 3
      let w := s.storeAt cw
      (s.upMem fun m => { m with store := m.store.set {} cw { w with flips := w.flips ^^^ BitVec.ofNat 72 (injectMask 72 pos double) } }).complete c 0

/-- INJECT_ERROR (R439). -/
def execInjectError (s : State) : Ans := act s injectError

end Sys2Proof.Machine
end

