-- ==== Sys2Proof/Machine/Soundness.lean ====
section
/-! DEFINITION. Which structures keep the rules whose breach is undefined behaviour: reserved fields (R12), the ranges of the payload tables, and
the cases of R89, R120, R139, R162, R185, R204, R234, R264, R286, R307, R336, R381, R404 and R470. The hub checks none of them; committing
a structure that breaks one opens the span of R2 (R54; log entry 3). -/

namespace Sys2Proof.Machine

/-! ### Reserved fields and plain ranges -/

/-- The reserved fields of a record: word, high bit, low bit (the payload tables). Fields of look entries, CURVE records and job slots are
in their own checks below. -/
def reservedFields : RecKind → List (Nat × Nat × Nat)
  | .spoke => [(0, 19, 16), (1, 11, 0)]
  | .lace => [(0, 27, 24), (0, 15, 11), (2, 31, 17), (3, 31, 21), (4, 31, 21), (5, 7, 0)]
  | .lookSeq => [(0, 25, 0)]
  | .auxSeq => [(0, 26, 0)]
  | .chain => [(0, 28, 22), (0, 15, 14), (1, 15, 10), (2, 27, 22), (2, 15, 14), (2, 7, 0), (3, 31, 9)]
  | .coef => []
  | .curve => []
  | .switch => [(0, 11, 0), (1, 6, 0), (9, 17, 0)]
  | .trigger => (6, 15, 0) :: (List.range 8).map (fun k => (12 + k, 27, 16))
  | .stall => [(0, 29, 18), (1, 23, 18), (2, 7, 0)]
  | .stream => [(0, 28, 28), (0, 7, 0), (1, 23, 0)]
  | .reducer => [(0, 26, 24), (0, 15, 0), (1, 31, 0), (2, 31, 0), (3, 31, 0)]
  | .compress => [(0, 15, 14)]
  | .queue => [(0, 31, 31), (0, 22, 22), (0, 15, 0)]
  | .window => [(0, 21, 16), (0, 7, 0), (1, 15, 8)]
  | .time => [(0, 28, 28), (0, 3, 0), (5, 25, 18), (7, 7, 0), (8, 31, 0)]
  | .rim => [(0, 20, 16)]
  | .tandem => [(0, 30, 16), (0, 7, 0), (1, 6, 0)]

/-- The unsigned fields whose range holds in every record: word, high bit, low bit, least and largest value. -/
def rangedFields : RecKind → List (Nat × Nat × Nat × Nat × Nat)
  | .spoke => [(0, 31, 28, 0, 6), (0, 23, 22, 0, 2), (1, 23, 12, 64, 4095)]
  | .lace => [(0, 31, 28, 0, 5), (0, 10, 0, 1, 1024), (1, 15, 0, 0, 25000), (2, 16, 0, 640, 128000), (3, 20, 0, 128, 1638400),
      (5, 31, 24, 1, 250), (5, 23, 16, 1, 255), (5, 15, 8, 1, 255)]
  | .lookSeq => [(0, 31, 27, 0, 16)]
  | .auxSeq => [(0, 31, 27, 0, 16)]
  | .curve => [(0, 31, 30, 0, 2)]
  | .switch => [(0, 31, 30, 0, 2)]
  | .trigger => [(0, 30, 29, 0, 2), (0, 19, 18, 0, 2), (0, 17, 16, 0, 2)]
  | .stall => [(0, 31, 30, 0, 2), (1, 17, 0, 0, 261104), (2, 31, 24, 1, 90), (2, 23, 16, 1, 100), (2, 15, 8, 1, 100), (3, 31, 0, 0, 86400)]
  | .stream => [(0, 30, 29, 0, 2), (0, 15, 8, 0, 63)]
  | .reducer => [(0, 31, 27, 0, 16)]
  | .compress => [(0, 31, 30, 0, 1), (0, 24, 16, 1, 256)]
  | .queue => [(0, 30, 28, 0, 3), (0, 27, 24, 0, 14)]
  | .window => [(1, 7, 0, 1, 255), (2, 31, 0, 1, 86400000)]
  | .time => [(0, 31, 30, 0, 2), (0, 15, 8, 0, 127), (0, 7, 4, 2, 10), (1, 15, 0, 1, 65535), (4, 31, 16, 10, 65535), (4, 15, 0, 10, 1000),
      (5, 29, 28, 0, 2), (5, 27, 26, 0, 2), (5, 17, 0, 1, 200000)]
  | .rim => [(1, 31, 16, 100, 65535), (1, 15, 8, 1, 255), (1, 7, 0, 1, 255), (2, 31, 16, 1, 65535), (2, 15, 0, 200, 10000)]
  | .tandem => [(1, 31, 16, 1, 65535), (1, 15, 8, 1, 255)]
  | .chain => []
  | .coef => []

/-- A field of an instance's record lies in [a, b]. -/
def Struct.fieldIn (st : Struct) (k : RecKind) (i w hi lo a b : Nat) : Bool := decide (a ≤ st.fld k i w hi lo) && decide (st.fld k i w hi lo ≤ b)

/-- Field [hi:lo] of word `w` is 0. -/
def Struct.zero (st : Struct) (k : RecKind) (i w hi lo : Nat) : Bool := decide (st.fld k i w hi lo = 0)

/-- One record keeps its table's reserved fields and plain ranges. -/
def Struct.recordSound (st : Struct) (k : RecKind) (i : Nat) : Bool :=
  (reservedFields k).all (fun f => st.zero k i f.1 f.2.1 f.2.2) &&
    (rangedFields k).all (fun f => st.fieldIn k i f.1 f.2.1 f.2.2.1 f.2.2.2.1 f.2.2.2.2)

/-- The listed instances of a kind. -/
def Struct.listed (st : Struct) (k : RecKind) : List Nat := (st.table k).map (·.1)

/-- Every listed record of a kind satisfies a check. -/
def Struct.every1 (st : Struct) (k : RecKind) (p : Nat → Bool) : Bool := (st.listed k).all p

/-! ### Spokes, laces and looks (R120, R139, R162) -/

/-- The gear codes of a mode's table (R93). -/
def modeGears : Nat → Nat × Nat
  | 1 => (0, 5) | 4 => (0, 3) | 6 => (2, 5) | _ => (0, 4)

/-- The gear set of a spoke look: codes of the mode's table, widest first, consecutive when the look autoranges (R100, R101). -/
def Struct.gearsSound (st : Struct) (stream : Nat) : Bool :=
  let g := (List.range (st.gearCount stream)).map (st.gearCode stream)
  let r := modeGears (st.lookMode stream)
  let steps := g.zip (g.drop 1)
  g.all (fun c => decide (r.1 ≤ c) && decide (c ≤ r.2)) && decide (st.startGear stream < st.gearCount stream) &&
    steps.all (fun p => if st.autoranges stream then p.2 == p.1 + 1 else decide (p.1 < p.2))

/-- The rate rule of R75. -/
def Struct.rateSound (st : Struct) (stream : Nat) : Bool :=
  decide (st.epochClocks stream % (st.osr stream * st.decim stream * st.settle stream) = 0)

/-- The reserved fields of an entry of a look sequence (R159). -/
def Struct.entryClear (st : Struct) (stream : Nat) : Bool := decide (st.entry stream 1 3 0 = 0) && decide (st.entry stream 3 16 0 = 0)

/-- A look that exists keeps the rules of its entry (R75, R98, R147, R149, R154, R155, R162). -/
def Struct.lookSound (st : Struct) (stream : Nat) : Bool :=
  let aux := isAux stream
  let multi := st.multiLook stream
  st.entryClear stream && decide (st.entry stream 1 30 27 ≤ if st.lowPower stream then 10 else 12) && decide (1 ≤ st.dwell stream) && decide (1 ≤ st.every stream) &&
    decide (st.isrcUa stream ≤ 1000) && decide (st.shunt stream ≤ 4) && st.rateSound stream &&
    (!multi || (st.single stream && !st.isFir stream && decide (1 ≤ st.runSamples stream) &&
      decide (st.epochClocks stream % (st.passClocks stream * st.every stream) = 0))) &&
    (if aux then
      decide (st.auxPoint stream ≤ 5) && decide (st.entry stream 1 26 22 = 0) && decide (st.entry stream 1 17 6 = 0) &&
        decide (st.entry stream 3 31 17 = 0) && (st.auxPoint stream != 1 || decide (st.drive ((stream - 12288) / 16) = 0))
    else (!st.rev stream || st.single stream) && (decide (st.lookMode stream = 0) || st.gearsSound stream))

/-- The looks of a sequence record. -/
def Struct.looksOf (st : Struct) (k : RecKind) (i : Nat) : List Nat :=
  let first := if k = .auxSeq then 12288 + i * 16 else i * 16
  numbersFrom first (min 16 (st.looks first))

def Struct.seqSound (st : Struct) (k : RecKind) : Bool := st.every1 k (fun i => (st.looksOf k i).all st.lookSound)

/-- A spoke's record beside its lace and its sequence (R92, R117, R120): a TC spoke names an auxiliary look that measures CJ_IN. -/
def Struct.spokeSound (st : Struct) (i : Nat) : Bool :=
  let cj := 12288 + i / 16 * 16 + st.cjLook i
  (!st.isBridge i || isVoltageDrive (st.drive (i / 16))) && (st.mode i != 6 || (st.lookExists cj && st.auxPoint cj == 1)) &&
    (st.looksOf .lookSeq i).all st.lookSound

/-- A lace's record (R121, R123, R135): the amplitude of a voltage drive and the pulse width. -/
def Struct.laceSound (st : Struct) (l : Nat) : Bool :=
  (match st.drive l with
    | 1 => decide (500 ≤ st.vAmp l) && decide (st.vAmp l ≤ 10000)
    | 2 => decide (100 ≤ st.vAmp l) && decide (st.vAmp l ≤ 10000)
    | _ => true) &&
    decide (16 ≤ st.fld .lace l 4 20 0) && decide (st.fld .lace l 4 20 0 + 16 ≤ st.pulsePeriod l) &&
    (laceSpokes l).all (fun i => !st.isBridge i || isVoltageDrive (st.drive l))

/-! ### Chains and curves (R185, R204) -/

/-- No two elements of a list of keys are equal. -/
def allDistinct : List Nat → Bool
  | [] => true
  | x :: r => !r.contains x && allDistinct r

/-- Samples per second × 32, exact for every permitted rate. -/
def Struct.rate32 (st : Struct) (stream : Nat) : Nat := 1000000000 * 65536 * 32 / st.pOut stream

/-- The linear-phase set is symmetric (R173). -/
def Struct.symmetric (st : Struct) (stream : Nat) : Bool :=
  let c := (numbersFrom (st.coefBase stream) (st.taps stream)).map (fun i => st.word .coef i 0)
  c == c.reverse

/-- A chain record of a type other than UNUSED. -/
def Struct.chainSound (st : Struct) (c : Nat) : Bool :=
  let stream := st.fld .chain c 0 13 0
  match st.fld .chain c 0 31 30 with
  | 0 => true
  | 1 => st.lookExists stream
  | 2 =>
    let n := st.fld .chain c 1 9 0
    st.lookExists stream && !st.single stream && !st.multiLook stream && decide (1 ≤ n) && decide (n ≤ 512) &&
      decide (st.fld .chain c 1 31 16 + n ≤ 65536) && decide (st.fld .chain c 2 31 28 ≤ 5) && st.rateSound stream &&
      (st.minPhase stream || (n % 2 == 1 && st.symmetric stream))
  | _ =>
    let w := st.fld .chain c 2 21 16
    st.lookExists stream && decide (st.fld .chain c 2 31 28 = 0) && w % 2 == 1 && decide (3 ≤ w) && decide (w ≤ 63) &&
      decide (st.fld .chain c 2 13 8 < w) && decide (st.rate32 stream ≤ 1600 * 32)

/-- The chains of a type. -/
def Struct.chainsOf (st : Struct) (type : Nat) : List Nat := (st.listed .chain).filter (fun c => st.fld .chain c 0 31 30 == type)

/-- 32 × the load of slice `x`, in MAC/s (R174). -/
def Struct.sliceLoad32 (st : Struct) (x : Nat) : Nat :=
  forEach ((st.chainsOf 2).filter (fun c => st.fld .chain c 0 21 16 == x)) 0
    (fun n c => n + st.fld .chain c 1 9 0 * st.rate32 (st.fld .chain c 0 13 0))

/-- 32 × the load of the rank unit, in window samples per second (R175). -/
def Struct.rankLoad32 (st : Struct) : Nat :=
  forEach (st.chainsOf 3) 0 (fun n c => n + st.fld .chain c 2 21 16 * st.rate32 (st.fld .chain c 0 13 0))

def Struct.chainsSound (st : Struct) : Bool :=
  let used := (st.listed .chain).filter (fun c => decide (st.fld .chain c 0 31 30 ≠ 0))
  used.all st.chainSound && allDistinct (used.map (fun c => st.fld .chain c 0 13 0)) &&
    (List.range 64).all (fun x => decide (st.sliceLoad32 x ≤ 32 * 1000000000)) && decide (st.rankLoad32 ≤ 32 * 100000000)

/-- The curve may be used on a look of the mode; 0 stands for an auxiliary look, which takes the curves of every mode (R192). -/
def curveFits (curve mode : Nat) (aux : Bool) : Bool :=
  if curve = 0 ∨ curve = 48 ∨ curve = 56 then true
  else if aux then false
  else if 1 ≤ curve ∧ curve ≤ 8 then mode == 6
  else if (16 ≤ curve ∧ curve ≤ 19) ∨ curve = 24 then mode == 5
  else if curve = 32 then mode == 2
  else if curve = 40 then mode == 3
  else false

/-- How many of p1 to p7 a curve uses (R192). -/
def curveParams (curve : Nat) : Nat :=
  if (16 ≤ curve ∧ curve ≤ 19) ∨ curve = 56 then 1
  else if curve = 24 then 4
  else if curve = 32 then 3
  else if curve = 40 ∨ curve = 48 then 2
  else 0

/-- A binary32 word below another. -/
def less32 (a b : Word) : Bool := decide (order32 a < order32 b)

/-- The reserved fields of a curve record (R201): bit 28, and of a CURVE the parameters that its curve does not use, of a SEGMENT what R201 gives no
meaning. -/
def Struct.curveClear (st : Struct) (i : Nat) : Bool :=
  let kind := st.fld .curve i 0 31 30
  if kind = 2 then st.zero .curve i 0 29 0 && decide (st.word .curve i 6 = 0) && decide (st.word .curve i 7 = 0)
  else st.zero .curve i 0 28 28 &&
    (kind != 1 || (List.range 7).all (fun p => decide (p < curveParams (st.fld .curve i 0 27 22)) || decide (st.word .curve i (p + 1) = 0)))

/-- A curve record of any kind. -/
def Struct.curveSound (st : Struct) (i : Nat) : Bool :=
  let kind := st.fld .curve i 0 31 30
  if kind = 1 then
    let stream := st.fld .curve i 0 13 0
    let curve := st.fld .curve i 0 27 22
    let n := st.fld .curve i 0 21 17
    st.curveClear i && st.lookExists stream && decide (st.fld .curve i 0 16 14 ≤ 2) && curveFits curve (st.lookMode stream) (isAux stream) &&
      (List.range 7).all (fun p => decide (curveParams curve ≤ p) || !notFinite32 (st.word .curve i (p + 1))) &&
      (if curve = 56 then
        let segs := numbersFrom (i + 1) n
        decide (1 ≤ n) && decide (n ≤ 16) && segs.all (fun j => st.fld .curve j 0 31 30 == 2) &&
          ((segs.zip (segs.drop 1)).all (fun p => less32 (st.word .curve p.1 1) (st.word .curve p.2 1)))
      else true)
  else if kind = 2 then
    st.curveClear i && (List.range 5).all (fun p => !notFinite32 (st.word .curve i (p + 1)))
  else st.curveClear i

/-- Every curve record, and the cold-junction look of every TC look (R204). -/
def Struct.curvesSound (st : Struct) : Bool :=
  st.every1 .curve st.curveSound &&
    (st.listed .spoke).all (fun i => decide (st.mode i ≠ 6) || !st.seqRuns (i * 16) ||
      st.curveNo (st.cjStream (i * 16)) == 48 || st.curveNo (st.cjStream (i * 16)) == 56) &&
    allDistinct (((st.listed .curve).filter (fun i => st.fld .curve i 0 31 30 == 1)).map (fun i => st.fld .curve i 0 13 0))

/-! ### Switches and trigger units (R234) -/

/-- A parameter in the encoding of a stream is no NaN or infinity. -/
def paramFinite (eng : Bool) (w : Word) : Bool := !eng || !notFinite32 w

/-- A parameter in the encoding of a stream is not negative. -/
def paramNonNeg (eng : Bool) (w : Word) : Bool := if eng then decide (0 ≤ order32 w) else !w.flag 31

/-- A parameter in the encoding of a stream lies above another. -/
def paramAbove (eng : Bool) (a b : Word) : Bool :=
  if eng then less32 b a else decide (signedOf 32 b.toNat < signedOf 32 a.toNat)

/-- A switch's record (R205 to R210, R228): no field holds a NaN or an infinity and none is negative that may not be, whether or not the switch is
enabled. The limits of the ambient fields hold too, but for a switch that does not track and leaves them at the reset record's 0 (R234). -/
def Struct.switchSound (st : Struct) (i : Nat) : Bool :=
  let eng := st.eng (i / 4)
  (numbersFrom 2 7).all (fun w => paramFinite (eng || decide (w = 6)) (st.word .switch i w)) && paramNonNeg eng (st.swHyst i) &&
    paramNonNeg eng (st.word .switch i 8) && decide (st.swAmbPct i ≤ 9999) &&
    ((!st.swAmbient i && decide (st.word .switch i 4 = 0) && decide (st.word .switch i 5 = 0)) || paramAbove eng (st.word .switch i 5) (st.word .switch i 4)) &&
    ((!st.swAmbient i && decide (st.swAmbPct i = 0)) || decide (1 ≤ st.swAmbPct i))

def Struct.switchesSound (st : Struct) : Bool :=
  st.every1 .switch st.switchSound && decide (((st.listed .switch).filter st.swAmbient).length ≤ 1024)

/-- The argument of a source in use (R214): codes 0 and 8 to 15 are reserved. -/
def Struct.sourceSound (st : Struct) (u k : Nat) : Bool :=
  let a := st.srcArg u k
  match st.srcType u k with
  | 1 => decide (a < 52224) && st.swEnable a
  | 2 => decide (a < 52224) && st.swEnable a
  | 3 => decide (a < 8)
  | 4 => decide (a < 8)
  | 5 => decide (1 ≤ a) && decide (a ≤ 255)
  | 6 => true
  | 7 => true
  | _ => false

/-- The ranges of an operand pair in the encoding of R229 words 7 and 8: counts up to 1,024, strides from 1. -/
def rangeSound (w : Word) : Bool := decide (w.field 17 7 ≤ 1024) && decide (1 ≤ w.field 6 0)

/-- A trigger unit's record (R214, R216, R218, R219, R229, R234), enabled or not; only what the reset record has, `n_src` 0 and `rec_set` 0, passes in the
record of a unit that is not enabled (log entry 39, DEDUCED). -/
def Struct.triggerSound (st : Struct) (u : Nat) : Bool :=
  decide (st.trSources u ≤ 8) && decide (st.trK u ≤ st.trSources u) && (st.trCombine u != 2 || decide (1 ≤ st.trK u)) &&
    (List.range 8).all (fun k => decide (st.srcType u k ≤ 7)) && st.fieldIn .trigger u 1 31 0 1 10000000 && decide (1 ≤ st.trFwValue u) &&
    (match st.trFwUnit u with | 1 => decide (st.trFwValue u ≤ 86400000) | 2 => decide (st.trFwValue u ≤ 65535) | _ => true) &&
    decide (st.trPostUs u ≤ st.trExtCapUs u) && rangeSound (st.word .trigger u 7) && rangeSound (st.word .trigger u 8) &&
    (st.trStreams u).all (fun i => decide (i ≤ 16383)) && decide ((st.trStreams u).length ≤ 1024) &&
    (List.range (st.trSources u)).all (st.sourceSound u) &&
    (!st.trEnable u || decide (1 ≤ st.trSources u)) &&
    ((!st.trEnable u && decide (st.trRecSet u = 0)) || st.stallKind (st.trRecSet u) == 2)

/-! ### The spool (R236, R237, R264), reducers (R286), compression (R307), windows (R470), rim (R336) -/

/-- The page spans of the used stalls. -/
def Struct.stallSpans (st : Struct) : List (Nat × Nat) :=
  ((st.listed .stall).filter (fun k => decide (st.stallKind k ≠ 0))).map (fun k => (st.basePage k, st.pages k))

/-- No span overlaps a later one. -/
def apart : List (Nat × Nat) → Bool
  | [] => true
  | x :: r => r.all (fun y => decide (x.1 + x.2 ≤ y.1) || decide (y.1 + y.2 ≤ x.1)) && apart r

/-- The page count of a stall's record (R260): 16 to 261,120, or the reset value of a stall that is not used. -/
def Struct.pagesSound (st : Struct) (k : Nat) : Bool :=
  (decide (st.stallKind k = 0) && decide (st.fld .stall k 0 17 0 = 0)) || st.fieldIn .stall k 0 17 0 16 261120

def Struct.spoolSound (st : Struct) : Bool :=
  st.every1 .stall st.pagesSound && st.stallSpans.all (fun x => decide (16 ≤ x.2) && decide (x.2 ≤ 261120) && decide (x.1 + x.2 ≤ 261120)) && apart st.stallSpans &&
    st.every1 .stream (fun i => !st.stored i || st.stallKind (st.stallOf i) == 1) &&
    allDistinct (((st.listed .stream).filter st.stored).map st.stallOf)

/-- The reserved fields of a job slot below `jobs`, in use or not (R12, R283). -/
def Struct.slotClear (st : Struct) (k : Nat) : Bool :=
  decide (st.jobs (k / 16) ≤ k % 16) ||
    (decide (st.jobFld k 0 21 18 = 0) && decide (st.jobFld k 0 3 0 = 0) && decide (st.jobFld k 3 7 0 = 0) &&
      (numbersFrom 10 6).all (fun w => decide (st.jobWord k w = 0)))

/-- The ranges of a job slot in use (R265, R266, R283, R286). What looks that do not exist would have as encoding and rate counts for nothing. -/
def Struct.jobSound (st : Struct) (k : Nat) : Bool :=
  let kind := st.jobKind k
  let ins := st.inputs k
  let live := ins.filter st.lookRuns
  let eng := st.eng (live.headD (ins.headD 0))
  decide (kind = 0) ||
    (decide (kind ≤ 5) && decide (13056 ≤ st.outStream k) && rangeSound (st.jobWord k 1) && rangeSound (st.jobWord k 2) &&
      decide (ins.length ≤ if kind = 4 then 64 else 1024) && ins.all (fun i => decide (i < 13056)) && live.all (fun i => st.eng i == eng) &&
      (kind == 4 || (decide (1 ≤ st.jobFld k 3 31 8) && decide (st.jobFld k 3 31 8 ≤ 8640000))) &&
      (match kind with
        | 2 => paramFinite eng (st.jobLo k) && paramFinite eng (st.jobHi k) && paramAbove eng (st.jobHi k) (st.jobLo k)
        | 3 => paramFinite eng (st.jobLo k) && paramFinite eng (st.jobHi k) && paramAbove eng (st.jobHi k) (st.jobLo k) &&
            paramFinite eng (st.rangeMax k) && paramAbove eng (st.rangeMax k) 0 && paramFinite eng (st.gate k) && paramNonNeg eng (st.gate k)
        | 4 => decide (st.jobFld k 8 31 28 ≤ 6) && decide (1 ≤ st.nBins k) && decide (st.nBins k + st.binLo k ≤ st.fftN k / 2 + 1) &&
            decide (1 ≤ st.avg k) && live.all (fun i => !st.multiLook i && st.pOut i == st.pOut (live.headD 0))
        | 5 => paramFinite eng (st.gate k) && paramNonNeg eng (st.gate k) && decide (1 ≤ st.maxPeaks k) && decide (st.maxPeaks k ≤ 4096) &&
            live.all (fun i => decide (st.w3 i * st.ivlNs k < 2 ^ 30 * Config.epochNs))
        | _ => true))

def Struct.reducersSound (st : Struct) : Bool :=
  let used := (List.range 256).filter (fun k => decide (st.jobKind k ≠ 0))
  (List.range 256).all st.slotClear && used.all st.jobSound && allDistinct (used.map st.outStream) && decide ((used.filter (fun k => st.jobKind k == 4)).length ≤ 4) &&
    (List.range 16).all (fun e => decide (st.engineLoad e ≤ 12000)) && decide (used.foldl (fun n k => n + st.jobBytes k) 0 ≤ 16777216)

/-- The instances of a fault class (R458). -/
def classInstances : Nat → Nat
  | 1 => 130 | 2 => 130 | 3 => 4 | 4 => 768 | 5 => 768 | 6 => 48 | 7 => 816 | 8 => 16384 | 9 => 16385 | 10 => 1 | 11 => 2 | _ => 0

/-- A window's record (R461, R470). -/
def Struct.windowSound (st : Struct) (w : Nat) : Bool :=
  decide (st.winAction w ≤ 5) && decide (st.winInstance w ≤ 16384) &&
    (!st.winEnable w || (decide (1 ≤ st.winClass w) && decide (st.winClass w ≤ 11) &&
      (st.winAny w || decide (st.winInstance w < classInstances (st.winClass w)))))

/-- RS-FEC is not available at 10.3125 Gb/s (R332, R336). -/
def Struct.rimSound (st : Struct) : Bool := !(st.laneRate10 0 && st.laneFec 0) && !(st.laneRate10 1 && st.laneFec 1)

/-- The signed ranges of F_TIME (R85). -/
def Struct.timeSound (st : Struct) : Bool :=
  decide (-7 ≤ st.logSync) && decide (st.logSync ≤ 0) && decide (-7 ≤ st.logDreq) && decide (st.logDreq ≤ 0) &&
    decide (-3 ≤ st.logAnn) && decide (st.logAnn ≤ 2)

/-- The structure breaks no rule whose breach is undefined. -/
def Struct.sound (st : Struct) : Bool :=
  RecKind.all.all (fun k => st.every1 k (st.recordSound k)) && st.every1 .spoke st.spokeSound && st.every1 .lace st.laceSound &&
    st.seqSound .lookSeq && st.seqSound .auxSeq && st.chainsSound && st.curvesSound && st.switchesSound && st.every1 .trigger st.triggerSound &&
    st.spoolSound && st.reducersSound && st.every1 .window st.windowSound && st.rimSound && st.timeSound

/-- The reserved fields of an instance's record beside those of its table: of look entries, curve records and job slots, whose shape its other fields
decide. -/
def Struct.detailClear (st : Struct) (k : RecKind) (i : Nat) : Bool :=
  match k with
  | .lookSeq => (st.looksOf .lookSeq i).all st.entryClear
  | .auxSeq => (st.looksOf .auxSeq i).all st.entryClear
  | .curve => st.curveClear i
  | .reducer => (numbersFrom (16 * i) 16).all st.slotClear
  | _ => true

/-- Every record that a frame carries leaves its reserved fields 0 (R12), also a record that a later frame of the image replaces. -/
def Frame.reservedClear (f : Frame) : Bool :=
  let st := applyFrame {} f
  RecKind.all.all fun k => st.every1 k fun i => (reservedFields k).all (fun r => st.zero k i r.1 r.2.1 r.2.2) && st.detailClear k i

/-- A commit must not change the rate of a CSD input without changing its job (R286). -/
def Struct.csdKept (old new : Struct) : Bool :=
  (List.range 256).all fun k =>
    decide (new.jobKind k ≠ 4) || decide (old.jobKind k ≠ 4) || (List.range 16).any (fun w => old.jobWord k w != new.jobWord k w) ||
      (new.inputs k).all (fun i => !(old.lookRuns i && new.lookRuns i) || old.pOut i == new.pOut i)

end Sys2Proof.Machine
end

