-- ==== Sys2Proof/Machine/Structure.lean ====
section
/-! DEFINITION. Staging and the structure commands (R39 to R47): `LOAD_STRUCTURE`, `STORE_STRUCTURE`, `COMMIT` and `CANCEL_COMMIT`. The commit
itself stands in Commit.lean. -/

namespace Sys2Proof.Machine

/-! ### The image a load reads (R39, R534) -/

/-- `n` words of the staging window from word `i` on; a poisoned word enters with its data bits (R534). -/
def State.windowWords (s : State) (i n : Nat) : State × List Word :=
  let r := (s.contend 16).readPad 16 (4 * i) (4 * n)
  (r.1, wordsOfBytes r.2.1)

/-- `n` words of a library slot from word `i` on; erased flash has none. -/
def State.libraryWords (s : State) (slot i n : Nat) : List Word :=
  let ws := s.ldr.flash.library.get [] slot
  (numbersFrom i n).map (fun j => ws.getD j 0)

/-- After an image's header, the words of the window up to the length that it names; none for a header that a load refuses. -/
def readBody (h : State × List Word) : State × List Word :=
  match headerCode h.2 with
  | some _ => h
  | none =>
    let b := h.1.windowWords 16 ((h.2.getD 8 0).toNat - 16)
    (b.1, h.2 ++ b.2)

/-- The words of the image in the window as the window holds them now (R534): its header, and where that names a length the words up to it. -/
def State.readWindow (s : State) : State × List Word := readBody (s.windowWords 0 16)

/-- The words of the image in a library slot. -/
def State.readLibrary (s : State) (slot : Nat) : List Word :=
  let h := s.libraryWords slot 0 16
  match headerCode h with
  | some _ => h
  | none => h ++ s.libraryWords slot 16 ((h.getD 8 0).toNat - 16)

/-- An image that passed the checks, staged on its base (R34, R36, R37): the reset structure, or a copy of the committed one. It is sound where it breaks
no rule that R54 lists; a delta for another base than the committed structure breaks one by that alone, whatever its fields make of that base (the
parenthesis of R54 and R529; log entry 39, DEDUCED). -/
def State.stagedOf (s : State) (ws : List Word) (frames : List Frame) : Staged :=
  let base : Struct := if imageParent ws = 0 then {} else s.st
  let target := frames.foldl applyFrame base
  { structId := imageId ws, parentId := imageParent ws, delta := decide (imageParent ws ≠ 0), sampling := frames.any Frame.isSampling
    words := ws, target := target, sound := headerSound ws && (decide (imageParent ws = 0) || decide (imageParent ws = s.cfg.activeId)) && frames.all Frame.sound &&
      frames.all Frame.reservedClear && target.sound }

/-- The load of an image of these words comes to its end (R40, R41): the completion code, with the staging area as the load leaves it. -/
def State.loadFrom (s : State) (ws : List Word) : State × Nat :=
  let fail (code bad : Nat) : State × Nat :=
    (s.upCfg fun c => { c with stage := .empty, staged := none, badFrame := bad, lastResult := code }, code)
  match headerCode (ws.take 16) with
  | some code => fail code 0xFFFF
  | none =>
    match bodyChecks ws with
    | .bad code bad => fail code bad
    | .ok frames =>
      (s.upCfg fun c => { c with stage := .staged, staged := some (s.stagedOf ws frames), badFrame := 0xFFFF, lastResult := 0 }, 0)

/-- A load begins (R39, R534): from the window it reads the words now. -/
def State.beginLoad (s : State) (c : CmdItem) (library : Bool) (slot : Nat) : State :=
  let r := if library then (s, []) else s.readWindow
  (r.1.upCfg fun g => { g with stage := .loading, staged := none, loadMaster := masterNum c.master }).startLong c (.load library slot r.2)

/-- `LOAD_STRUCTURE` (R39, R42): it discards a staged image, with N_STAGE_DISCARDED naming it and the master that loaded it. -/
def loadStructure (s : State) : State :=
  s.start 0x10 fun c s =>
    if s.cfg.stage = .pending ∨ s.cfg.stage = .loading then s.complete c 0x01
    else
      let s := match s.cfg.staged with
        | some i => if s.cfg.stage = StageState.staged then s.notify 0 0x12 s.cfg.loadMaster 0 (argT i.structId) else s
        | none => s
      s.beginLoad c (c.a 31 31 == 1) (c.a 3 0)

/-- LOAD_STRUCTURE (R39, R42). -/
def execLoadStructure (s : State) : Ans := act s loadStructure

/-- The load in progress completes (R40, R41, R43). -/
def loadStructureDone (s : State) : State :=
  match s.longOf (fun o => match o with | .load .. => true | _ => false) with
  | none => s
  | some l =>
    match l.op with
    | .load library slot ws =>
      if s.firmware then
        let r := s.loadFrom (if library then s.readLibrary slot else ws)
        r.1.endLong l r.2
      else s
    | _ => s

/-- LOAD_STRUCTURE_DONE (R40, R41). -/
def execLoadStructureDone (s : State) : Ans := act s loadStructureDone

/-! ### STORE_STRUCTURE (R39, R42) -/

/-- `STORE_STRUCTURE`: the slot is erased first, so that it holds no valid image until the command completes (R24). -/
def storeStructure (s : State) : State :=
  s.start 0x13 fun c s =>
    if s.cfg.stage = .loading then s.complete c 0x01
    else match s.cfg.staged with
    | none => s.complete c 0x04
    | some i =>
      (s.upLdr fun d => { d with flash := { d.flash with library := d.flash.library.set [] (c.a 3 0) [] } }).startLong c
        (.store (c.a 3 0) i.words)

/-- STORE_STRUCTURE (R39). -/
def execStoreStructure (s : State) : Ans := act s storeStructure

/-- The flash write of a store has ended (R39). -/
def storeStructureDone (s : State) : State :=
  match s.longOf (fun o => match o with | .store .. => true | _ => false) with
  | none => s
  | some l =>
    match l.op with
    | .store slot ws =>
      if s.firmware then (s.upLdr fun d => { d with flash := { d.flash with library := d.flash.library.set [] slot ws } }).endLong l 0 else s
    | _ => s

/-- STORE_STRUCTURE_DONE (R39). -/
def execStoreStructureDone (s : State) : Ans := act s storeStructureDone

/-! ### COMMIT and CANCEL_COMMIT (R44 to R47) -/

/-- The commit instant of a `COMMIT` executed now, and whether it is late in the sense of R45 (R44, R45). Modes: 0 NEXT_EPOCH, 1 AT_EPOCH,
2 AT_TIME, 3 NOW. -/
def commitInstantOf (now : Nat) (sampling : Bool) (mode named : Nat) : Nat × Bool :=
  let soon := now + Config.prepNs
  let next := epochAtOrAfter soon
  let at1 (t : Nat) : Nat × Bool := if soon ≤ t then (t, false) else (next, true)
  match mode with
  | 0 => (next, false)
  | 1 => at1 named
  | 2 => at1 (if sampling then epochAtOrAfter named else named)
  | _ => (if sampling then next else soon, false)

/-- A commit whose reducer state reaches a bank that is not ON sets that bank ON (R441). -/
def State.wakeBanks (s : State) (st : Struct) : State :=
  forEach ((numbersFrom 16 64).filter (fun b => decide (b * 0x40000 < st.reducerEnd))) s fun s b =>
    if (s.bank b).power = .retain ∨ (s.bank b).power = .off then s.setBank b 0 else s

/-- The staged image becomes PENDING for an instant (R46). -/
def State.commitPending (s : State) (p : PendingCommit) (target : Struct) : State :=
  ((s.wakeBanks target).upCfg fun g => { g with stage := .pending, pending := some p }).schedule .commit p.instant

/-- `COMMIT` (R44 to R46). -/
def commit (s : State) : State :=
  s.start 0x11 fun c s =>
    match s.cfg.stage, s.cfg.staged with
    | .pending, _ => s.complete c 0x01
    | .staged, some i =>
      let mode := c.a 1 0
      let named := c.opB.toNat
      let t := commitInstantOf s.now i.sampling mode named
      let s := if mode = 1 ∧ named % Config.epochNs ≠ 0 then s.undefinedUse 54 else s
      (s.commitPending { item := some c, named := if mode = 1 ∨ mode = 2 then some named else none, instant := t.1, late := t.2, atSamplingStart := false }
        i.target).startLong c .commit
    | _, _ => s.complete c 0x04

/-- COMMIT (R44). -/
def execCommit (s : State) : Ans := act s commit

/-- `CANCEL_COMMIT` (R47): the image remains STAGED. A command that waited at the commit point while the commit took effect completes with
LATE_ABORT (log entry 25). -/
def cancelCommit (s : State) : State :=
  s.start 0x12 fun c s =>
    match s.cfg.stage, s.cfg.pending with
    | .pending, some p =>
      let s := (s.upCfg fun g => { g with stage := .staged, pending := none }).unschedule .commit
      let s := match s.longOf (fun o => decide (o = .commit)), p.item with
        | some l, some _ => s.endLong l 0x02
        | _, _ => s
      s.complete c 0
    | _, _ => s.complete c (if c.late then 0x03 else 0x05)

/-- CANCEL_COMMIT (R47). -/
def execCancelCommit (s : State) : Ans := act s cancelCommit

end Sys2Proof.Machine
end

