-- ==== Sys2Proof/Machine/Lace.lean ====
section
/-! DEFINITION. Lace excitation (05_lace_excitation): amplitude ramps (R126, R127), the sense estimates (R124, R134), current limit, compliance
and trip (R128), the VEXC supply (R130) and the dissipation budget (R131, R132). Amplitudes are fractions of the commanded one in
1/65,536. -/

namespace Sys2Proof.Machine

/-! ### Fields of LACE_VEXC_CFG (R138) -/

/-- A write of LACE_VEXC_CFG takes effect at the next 1 ms update (R136): these are of the value in force. -/
def LaceBlock.vexcMax (b : LaceBlock) : Nat := b.vexcNow.field 31 16
def LaceBlock.budget (b : LaceBlock) : Nat := b.vexcNow.field 15 0

/-- The commanded amplitude. -/
def fullAmp : Nat := 65536

/-- 60 % of it: the floor of a budget reduction (R131). -/
def ampFloor : Nat := 39321

/-- 50 % of it (R127, R134). -/
def halfAmp : Nat := 32768

/-- `amp_scale` of an amplitude (R137): 0xFFFF stands for 1. -/
def ampScale (a : Nat) : Nat := satTo 0xFFFF a

/-- The amplitude a lace goes to. -/
def Lace.goal (p : Lace) : Nat := match p.ramp with | none => p.scale | some r => r.target

/-- The laces run in the present state and role (R133, R377). -/
def State.lacesRun (s : State) : Bool := s.live && s.tdm.role.drives && !s.tdm.leftTandem

/-- The drive phase that R127 restarts on differs: drive type, frequency or pulse timing. -/
def driveTypeChanged (a b : Struct) (l : Nat) : Bool :=
  decide (a.drive l ≠ b.drive l) ||
    ((b.drive l == 2 || b.drive l == 4) && decide (a.freqDiv l ≠ b.freqDiv l)) ||
    (b.drive l == 5 && (a.word .lace l 3 != b.word .lace l 3 || a.word .lace l 4 != b.word .lace l 4))

/-- The amplitude field of the drive: mV or 10 µA. -/
def Struct.driveAmp (st : Struct) (l : Nat) : Nat := if isVoltageDrive (st.drive l) then st.vAmp l else st.iAmp l

/-! ### VEXC (R130) -/

/-- The needs of the laces that are not OFF or tripped, in mV (R130): the commanded peak of a voltage drive, the measured peak of a current one; what a
running ramp lowers still counts until it has ended. A lace that a standby's structure drives counts too. -/
def State.needs (s : State) : List Nat :=
  (List.range 48).filterMap fun l =>
    let p := s.laceOf l
    let old := if p.ramp.isSome then p.need else 0
    if s.st.drive l = 0 ∨ p.tripped then (if p.ramp.isSome then some old else none)
    else some (max old (if isVoltageDrive (s.st.drive l) then s.st.vAmp l else p.need))

/-- The VEXC target in mV. -/
def State.vexcTarget (s : State) : Nat := min (max ((s.needs.foldl max 0) + 800) 3000) s.lace.vexcMax

/-! ### Ramps (R126) -/

/-- A ramp of a lace to an amplitude, from where it stands, over `ticks` (R126); one that raises the lace's need, or takes the place of one that
waits, waits at its start until VEXC has reached the new target (R130). -/
def State.rampTo (s : State) (l source target ticks : Nat) : State :=
  let p := s.laceOf l
  let need := if isVoltageDrive p.drive then max p.need (if target = 0 then 0 else s.st.vAmp l) else p.need
  let s := s.upLaceOf l fun x => { x with need := need, highZ := false }
  let hold := (decide (p.need < need) || (p.vexcHold && decide (target ≠ 0))) && decide (s.lace.measured < s.vexcTarget)
  s.upLaceOf l fun x => { x with ramp := some { source := source, target := target, start := s.tick, stop := s.tick + ticks }, vexcHold := hold }

/-- The R127 up-ramp of the committed drive, from zero, at the phase of R122 or R123; what the drive before it had of R128 ends. -/
def State.rampUp (s : State) (l : Nat) : State :=
  if !s.lacesRun ∨ s.st.drive l = 0 then s
  else
    ((s.endLimit l).upLaceOf l fun p =>
      { p with drive := s.st.drive l, interval := s.st.senseClocks l, scale := 0, upNext := none, need := 0, phaseOff := 0, limitSince := none
               record := [] }).rampTo l 0 fullAmp (s.st.rampTicks l)

/-- A tripped lace restarts (R128): from zero, or, while the ramp of a budget trip (R131) still runs, from its present amplitude (R126). -/
def State.restartUp (s : State) (l : Nat) : State :=
  let p := s.laceOf l
  if p.ramp.isSome ∧ s.lacesRun then s.rampTo l (p.amp s.tick) fullAmp (s.st.rampTicks l) else s.rampUp l

/-- A lace leaves the order of reductions; the wait of the one that was to be restored next is over (R132). -/
def State.dropOrder (s : State) (l : Nat) : State :=
  s.upLace fun b =>
    { b with order := b.order.filter (fun i => !(i == l)), restoreSince := if b.order.head? = some l then none else b.restoreSince }

/-- The ramp to a commanded current of 0 mA goes on: nothing that it depends on is changed (R127). -/
def Lace.goesToZero (p : Lace) (old new : Struct) (l : Nat) : Bool :=
  decide (new.driveAmp l = 0) && decide (old.driveAmp l = 0) && decide (p.goal = 0) && !p.tripped && p.reduced.isNone && p.upNext.isNone

/-- What a commit at `t` (ns) from structure `old` does to the driver of a lace that drives (R126, R127, R132): `run` is the structure under which the drive
in force runs. A ramp that still runs goes on from its present amplitude. -/
def State.redrive (s : State) (old run : Struct) (t l : Nat) (p : Lace) : State :=
  let new := s.st
  let now := p.amp s.tick
  let tagged (s : State) : State :=
    (s.openSpans (s.bridgeLooks l) tagUnsettled .instant (t * 65536) causeRamp).upLaceOf l fun x => { x with settling := true }
  if p.drive = 0 ∨ (p.tripped ∧ p.ramp = none) then
    -- enabling, and the restart of a tripped lace: no down-ramp
    let s := s.upLaceOf l fun x => { x with drive := new.drive l, scale := 0, ramp := none, upNext := none, vexcHold := false, record := [] }
    if new.drive l = 0 then s.upLaceOf l fun x => { x with highZ := true, need := 0 } else (tagged s).rampUp l
  else if driveTypeChanged run new l ∨ p.drive ≠ new.drive l then
    -- the old drive ramps to zero over its own ramp, and the new one follows
    let s := (tagged s).upLaceOf l fun x => { x with record := run.record .lace l }
    let s := if p.goal = 0 then s else s.rampTo l now 0 (run.rampTicks l)
    s.upLaceOf l fun x => { x with upNext := if new.drive l = 0 then none else some fullAmp }
  else if run.driveAmp l ≠ new.driveAmp l ∧ !p.goesToZero old new l then
    let s := (tagged s).upLaceOf l fun x => { x with upNext := none, record := [] }
    -- fractions are of the new amplitude; a ramp to a current of 0 mA is one to zero of the old
    if new.driveAmp l = 0 then (s.upLaceOf l fun x => { x with record := run.record .lace l }).rampTo l now 0 (new.rampTicks l)
    else s.rampTo l (now * run.driveAmp l / new.driveAmp l) fullAmp (new.rampTicks l)
  else if p.tripped ∨ p.reduced.isSome ∨ p.upNext.isSome ∨ (old.drive l = 0 ∧ p.goal ≠ fullAmp) then
    -- a trip or a reduction is over, or the drive that was to end stays
    ((tagged s).upLaceOf l fun x => { x with upNext := none, record := [] }).rampTo l now fullAmp (new.rampTicks l)
  else s

/-- The mean of the last `n` estimates, `sense_avg` of them (R125), or of those that there are. -/
def Lace.sensed (p : Lace) (n : Nat) : Int × Int :=
  let es := p.estimates.drop (p.estimates.length - n)
  if es = [] then (0, 0)
  else (Q.near { num := es.foldl (fun a e => a + (e.1 : Int)) 0, den := es.length }, Q.near { num := es.foldl (fun a e => a + e.2) 0, den := es.length })

/-- What the sense gives from fine time `t` on. -/
def Lace.logSensed (p : Lace) (t n : Nat) : Lace :=
  { p with sensedLog := if p.estimates = [] then p.sensedLog else (t, p.sensed n) :: trimLog (t - logSpan) p.sensedLog }

/-- What a commit at `t` (ns) from structure `old` does to a lace whose F_LACE record it changes (R127, R128, R132); the committed structure is already
the new one. The record ends a trip and a reduction. -/
def State.laceCommitted (s : State) (old : Struct) (t l : Nat) : State :=
  if old.record .lace l = s.st.record .lace l then s
  else
    let p := s.laceOf l
    let run := if p.record = [] then old else old.setRecord .lace l p.record
    let s := (s.upLaceOf l fun x => { x with tripped := false, reduced := none, restoring := false }).dropOrder l
    let s := s.upLaceOf l fun x => x.logSensed (t * 65536) (s.st.senseAvg l)
    let s := if s.lacesRun then s.redrive old run t l p else s
    let s := if s.st.drive l = 0 ∧ (s.laceOf l).drive = 0 then s.upLaceOf l fun x => { x with senseLow := false, senseLowRuns := 0, senseOkRuns := 0 } else s
    s.lowSpans l

/-- A lace's ramp to zero has ended (R126, R131): at a commanded current of 0 mA the drive goes on; any other lace goes to ≥ 10 MΩ, and what stood only
while it drove ends: current limit, `sense_low`, the tags of its reduction. -/
def State.laceStopped (s : State) (l : Nat) : State :=
  let p := s.laceOf l
  if !p.tripped && p.drive == s.st.drive l && s.st.drive l != 0 && s.st.driveAmp l == 0 then
    (s.upLaceOf l fun x => { x with scale := fullAmp, record := [] }).rampSettled l
  else
    let s := (s.endLimit l).upLaceOf l fun x =>
      { x with highZ := true, need := 0, senseLow := false, senseLowRuns := 0, senseOkRuns := 0, drive := if x.tripped then x.drive else 0, record := [] }
    ((s.endSpans (s.allLooks l) causeReduced s.fine).rampSettled l).lowSpans l

/-- A ramp ends (R126): the amplitude stands at its target; a new drive follows the old one's down-ramp; a lace ramped to zero goes to
≥ 10 MΩ; a restoration ends; the budget is tested again three updates later (R131). -/
def rampDone (l : Nat) (s : State) : State :=
  let p := s.laceOf l
  match p.ramp with
  | none => s
  | some r =>
    if p.vexcHold ∨ s.tick < r.stop ∨ !s.lacesRun then s
    else
      let reducing := (p.reduced.isSome && !p.restoring) || p.tripped
      let suspend := if r.source < halfAmp ∧ r.target ≠ 0 then some (s.tick + 2 * clockTicks p.interval) else p.senseSuspend
      let s := s.upLaceOf l fun x => { x with scale := r.target, ramp := none, senseSuspend := suspend }
      let s := if reducing then s.upLace fun b => { b with rampWait := 3, overCount := 0 } else s
      if r.target = 0 then (if p.upNext.isSome then s.rampUp l else s.laceStopped l)
      else
        let s := s.upLaceOf l fun x =>
          { x with need := if isVoltageDrive x.drive then s.st.vAmp l else x.need
                   reduced := if p.restoring then none else x.reduced, restoring := false }
        let s := if r.target = fullAmp then s.endSpans (s.allLooks l) causeReduced s.fine else s
        s.rampSettled l

/-- RAMP_END (R126). -/
def execRampEnd (l : Fin 48) (s : State) : Ans := act s (rampDone l.val)

/-! ### The sense pair (R124, R134) -/

/-- The sense check is suspended by a ramp that starts below 50 % of the commanded amplitude (R127). -/
def State.senseOff (s : State) (l : Nat) : Bool :=
  let p := s.laceOf l
  (match p.ramp with | none => false | some r => decide (r.source < halfAmp)) ||
    (match p.senseSuspend with | none => false | some k => decide (s.tick < k))

/-- The amplitude that the sense check compares with: the ramp's final amplitude (R127). -/
def State.checkedAmp (s : State) (l : Nat) : Nat :=
  match (s.laceOf l).ramp with
  | none => s.st.commandedAmp l
  | some r => if r.target = 0 then 0 else s.st.commandedAmp l

/-- The sense interval of a lace in clocks: of the drive in force, else of the committed one. -/
def State.senseNow (s : State) (l : Nat) : Nat :=
  let p := s.laceOf l
  if p.drive = 0 then s.st.senseClocks l else p.interval

/-- The drive in force, else the committed one, which a standby's sense pair follows (R133). -/
def State.driveNow (s : State) (l : Nat) : Nat :=
  let p := s.laceOf l
  if p.drive = 0 then s.st.drive l else p.drive

/-- The current limit in force, mA: 50 in CLAIMING on every lace (R133, R134, R357). -/
def State.limitNow (s : State) (l : Nat) : Nat := if s.tdm.role = .claiming then 50 else s.st.iLimit l

/-- The output's peak current, µA, stood at the limit in the sense interval that ends now, or the delivered current, whose greatest share of the commanded
one in that interval is `share` (1/65,536), stayed below 95 % of command with VEXC at its ceiling (R128). VEXC is at its ceiling when its target stands at `vexc_max` (log entry 43, DESIGN CHOICE). -/
def State.limited (s : State) (l peak share : Nat) : Bool :=
  let p := s.laceOf l
  !p.tripped && !p.highZ &&
    (if isVoltageDrive p.drive then decide (s.limitNow l * 1000 ≤ peak)
    else decide (share * 100 < 95 * 65536) && decide (s.lace.vexcMax ≤ s.lace.target))

/-- The current limit of a voltage drive, or the compliance loss of a current drive, found in the sense interval that ends now (R128). -/
def State.limitCheck (s : State) (l : Nat) (present : Bool) : State :=
  let p := s.laceOf l
  let looks := if isVoltageDrive p.drive then s.bridgeLooks l else s.allLooks l
  let ticks := clockTicks (s.senseNow l)
  let begun := s.fine - s.senseNow l * 5120000
  if present then
    let s := s.upLaceOf l fun x =>
      { x with limit := true, limitSince := match x.limitSince with | none => some (s.tick - ticks) | some k => some k }
    let s := s.openSpans looks tagSuspect .kernel begun causeLimit
    if mayCount s p.ocTick then
      (s.upLaceOf l fun x => { x with ocEvents := satInc x.ocEvents, ocTick := some s.tick }).faultEvent 6 l
    else s
  else (s.upLaceOf l fun x => { x with limit := false, limitSince := none }).endSpans looks causeLimit begun

/-- The end of a sense interval (R124): the estimate, the sense check's count, current limit and compliance (R128) from the output current, the
estimate kept for a takeover (R134) and the excitation witness (R359). The sense pair is followed in every role, and while an old drive still ramps
down; in CALIBRATE the sense measures the dummy load (R133). -/
def senseEnd (l amp : Nat) (phase : Int) (peak share : Nat) (s : State) : State :=
  let note (s : State) : State := s.upLaceOf l fun x =>
    -- `sense_avg` has eight bits
    ({ x with newest := some (amp, phase), estimates := (x.estimates ++ [(amp, phase)]).drop (x.estimates.length + 1 - 256) }).logSensed s.fine (s.st.senseAvg l)
  if s.glb.state = .calibrate then note s
  else if !s.live ∨ s.driveNow l = 0 then s
  else
    let s := note s
    let want := s.checkedAmp l
    let low := decide (2 * amp < want)
    let off := s.senseOff l
    let s := s.upLaceOf l fun x =>
      { x with senseLow := low, senseLowRuns := if low && !off then x.senseLowRuns + 1 else 0
               senseOkRuns := if low && !off then 0 else x.senseOkRuns + 1
               lowFrom := if !low || off then none else if x.senseLowRuns = 0 then some (s.fine - s.senseNow l * 5120000) else x.lowFrom }
    let s := s.lowSpans l
    let s := if s.tdm.role.drives then s.limitCheck l (s.limited l peak share)
      else if (s.tdm.role = .standby ∨ s.tdm.role = .standbyDesync) ∧ s.st.commandedAmp l ≤ 2 * amp then
        s.upLaceOf l fun x => { x with kept := some (amp, phase) }
      else s
    s.markExc.takeoverRule

/-- SENSE_ESTIMATE (R124). -/
def execSenseEstimate (l : Fin 48) (amp : Nat) (phase : Int) (peak : SensePeak) (s : State) : Ans :=
  act s (senseEnd l.val amp phase peak.current peak.share)

/-! ### Trip and restart (R128) -/

/-- A lace trips at once: its driver goes to ≥ 10 MΩ without a ramp. -/
def State.tripLace (s : State) (l : Nat) : State :=
  let s := (s.endLimit l).upLaceOf l fun x =>
    { x with tripped := true, highZ := true, scale := 0, ramp := none, upNext := none, vexcHold := false, need := 0, limitSince := none
             reduced := none, restoring := false }
  let s := s.dropOrder l
  let s := s.endSpans (s.allLooks l) causeReduced s.fine
  (s.rampSettled l).notify (s.st.laceQ l) 0x28 l 0 (argT s.now) 1

/-- Either condition of R128 has stood unbroken for `oc_trip` ms. -/
def excTrip (l : Nat) (s : State) : State :=
  let p := s.laceOf l
  match p.limitSince with
  | none => s
  | some k => if s.lacesRun && !p.tripped && s.passed k (ms (s.st.ocTrip l)) then s.tripLace l else s

/-- EXC_TRIP (R128). -/
def execExcTrip (l : Fin 48) (s : State) : Ans := act s (excTrip l.val)

/-- RESTART_LACE (R128, R391): a tripped lace starts from zero, a reduced one from where it stands; on any other NOT_TRIPPED. -/
def restartLace (s : State) : State :=
  s.start 0x21 fun c s =>
    let l := c.a 5 0
    let p := s.laceOf l
    if p.tripped ∨ p.reduced.isSome then
      let s := s.upLaceOf l fun x => { x with tripped := false, reduced := none, restoring := false }
      let s := s.dropOrder l
      let s := if p.tripped then s.restartUp l
        else if s.lacesRun then s.rampTo l (p.amp s.tick) fullAmp (s.st.rampTicks l)
        else s
      s.complete c 0
    else s.complete c 0x22

/-- RESTART_LACE (R128). -/
def execRestartLace (s : State) : Ans := act s restartLace

/-! ### VEXC updates (R130) -/

/-- A current drive's need is its measured peak, in a role that does not drive too (R130: for each lace that is not OFF); while a ramp lowers its amplitude
the need does not fall. -/
def Lace.measured (p : Lace) (drive peak : Nat) : Lace :=
  if !isCurrentDrive drive then p
  else
    let falls := match p.ramp with | none => false | some r => decide (r.target < r.source)
    { p with need := if falls then max p.need peak else peak }

/-- Every 1 ms: the needs of the current drives are taken from the measured peaks, the target is set, and up-ramps that waited start when
VEXC has reached it. A rise of the target takes 1 ms per V. -/
def vexcTick (measured : Nat) (peaks : List (Nat × Nat)) (s : State) : State :=
  if s.glb.state = .reset then s
  else
    let s := s.upLace fun b => { b with vexcNow := b.vexcCfg, gates := true }
    let s := forEach peaks s fun s e => s.upLaceOf e.1 fun p => p.measured (s.driveNow e.1) e.2
    let target := s.vexcTarget
    let s := s.upLace fun b =>
      { b with riseEnd := if b.target < target then s.tick + ms (ceilDiv (target - measured) 1000) else b.riseEnd
               target := target, measured := measured }
    let low := decide (measured + 1000 < target) && decide (s.lace.riseEnd ≤ s.tick)
    let s := s.upLace fun b =>
      { b with low := if low then (match b.low with | none => some s.tick | some k => some k) else none
               lowNoted := low && b.lowNoted }
    if measured < target then s
    else forEach (List.range 48) s fun s l =>
      let p := s.laceOf l
      match p.ramp with
      | none => s
      | some r =>
        if p.vexcHold then s.upLaceOf l fun x =>
          { x with vexcHold := false, ramp := some { r with start := s.tick, stop := s.tick + (r.stop - r.start) } }
        else s

/-- VEXC_UPDATE (R130). -/
def execVexcUpdate (measured : Nat) (peaks : List (Nat × Nat)) (s : State) : Ans :=
  actIf (Instr.wf (.vexcUpdate measured peaks)) s (vexcTick measured peaks)

/-- VEXC has stayed 1 V below its target for 1 ms outside a rise (R130); the drivers keep running. An autonomous act (R463). -/
def vexcFault (measured : Nat) (s : State) : State :=
  match s.lace.low with
  | none => s
  | some k =>
    if s.passed k Config.ticksPerMs && !s.lace.lowNoted && decide (measured + 1000 < s.lace.target) then
      (s.upLace fun b => { b with lowNoted := true }).notify 0 0x29 0 0
        (argSX s.now (s.lace.target % 65536 * 65536 + measured % 65536)) 1
    else s

/-- VEXC_FAULT (R130). -/
def execVexcFault (measured : Nat) (s : State) : Ans := act s (vexcFault measured)

/-! ### The dissipation budget (R131, R132) -/

/-- Laces that are driven and not tripped. -/
def State.activeLaces (s : State) : List Nat :=
  (List.range 48).filter fun l => decide ((s.laceOf l).drive ≠ 0) && !(s.laceOf l).tripped

/-- The lace of a list with the highest estimate, the lowest number among equals. -/
def State.hottest (s : State) (ls : List Nat) : Option Nat :=
  ls.foldl (fun best l => match best with
    | none => some l
    | some b => if (s.laceOf b).pdiss < (s.laceOf l).pdiss then some l else some b) none

/-- The amplitude of a lace at which the sum comes to 95 % of the budget, or its floor if that is higher (R131 step 2): its dissipation goes with its
amplitude, as the chapter's worked example and R132 have it (log entry 43, DEDUCED). -/
def State.budgetGoal (s : State) (l : Nat) : Nat :=
  let p := s.laceOf l
  let excess := s.lace.pdissTotal * 100 - s.lace.budget * 95
  max ampFloor (p.amp s.tick * (p.pdiss * 100 - excess) / (p.pdiss * 100))

/-- The budget acts (R131 steps 1, 2, 3 and 5). -/
def State.budgetAct (s : State) : State :=
  match s.hottest (s.activeLaces.filter (fun l => decide (ampFloor < (s.laceOf l).goal))) with
  | some l =>
    let goal := s.budgetGoal l
    let s := s.rampTo l ((s.laceOf l).amp s.tick) goal (s.st.rampTicks l)
    let s := s.upLaceOf l fun x => { x with reduced := some goal, restoring := false }
    let s := s.upLace fun b => { b with order := l :: b.order.filter (fun i => !(i == l)), restoreSince := none }
    let s := if isCurrentDrive (s.laceOf l).drive then s.openSpans (s.allLooks l) tagSuspect .kernel s.fine causeReduced else s
    s.notify (s.st.laceQ l) 0x2A l (ampScale goal) (argSX s.now s.lace.pdissTotal) 1
  | none =>
    match s.hottest s.activeLaces with
    | none => s
    | some l =>
      let s := s.rampTo l ((s.laceOf l).amp s.tick) 0 (s.st.rampTicks l)
      let s := s.upLaceOf l fun x => { x with tripped := true, reduced := none, restoring := false, upNext := none }
      (s.dropOrder l).notify (s.st.laceQ l) 0x28 l 0 (argT s.now) 1

/-- Every 1 ms (R131): the estimates and their sum; three updates in a row over budget, or the third update after a reduction's ramp, act;
and the wait for a restoration (R132) starts or breaks off. -/
def dissipation (estimates : List (Nat × Nat)) (s : State) : State :=
  if !s.live then s
  else
    let s := s.upLace fun b => { b with vexcNow := b.vexcCfg }
    let est (l : Nat) : Nat := match estimates.find? (fun e => e.1 == l) with | none => 0 | some e => e.2
    let s := forEach (List.range 48) s fun s l => s.upLaceOf l fun p => { p with pdiss := est l }
    let sum := (List.range 48).foldl (fun n l => n + est l) 0
    let tooMuch := decide (s.lace.budget < sum)
    let waiting := s.lace.rampWait
    let reducing := (List.range 48).any fun l =>
      let p := s.laceOf l
      p.ramp.isSome && ((p.reduced.isSome && !p.restoring) || p.tripped)
    let count := if tooMuch && !reducing && waiting == 0 then s.lace.overCount + 1 else 0
    let s := s.upLace fun b => { b with pdissTotal := sum, overCount := count, rampWait := waiting - 1 }
    let back : Option Nat := match s.lace.order with
      | [] => none
      | l :: _ =>
        let p := s.laceOf l
        if p.restoring ∨ p.goal = 0 then none
        else if (sum - p.pdiss + ceilDiv (p.pdiss * fullAmp) p.goal) * 100 ≤ s.lace.budget * 95 then
          (match s.lace.restoreSince with | none => some s.tick | some k => some k)
        else none
    let s := s.upLace fun b => { b with restoreSince := back }
    if tooMuch && !reducing && (decide (3 ≤ count) || decide (waiting = 1)) then
      s.budgetAct.upLace fun b => { b with overCount := 0, rampWait := 0 }
    else s

/-- DISSIPATION_UPDATE (R131). -/
def execDissipationUpdate (estimates : List (Nat × Nat)) (s : State) : Ans :=
  actIf (Instr.wf (.dissipationUpdate estimates)) s (dissipation estimates)

/-- The most recently reduced lace is restored after 1 s within 95 % of the budget (R132), along a ramp; one at a time. -/
def excRestore (s : State) : State :=
  match s.lace.order, s.lace.restoreSince with
  | l :: rest, some k =>
    if s.lacesRun && s.passed k Config.ticksPerS && !(List.range 48).any (fun i => (s.laceOf i).restoring) then
      let s := s.rampTo l ((s.laceOf l).amp s.tick) fullAmp (s.st.rampTicks l)
      let s := s.upLaceOf l fun x => { x with restoring := true }
      let s := s.upLace fun b => { b with order := rest, restoreSince := none }
      s.notify (s.st.laceQ l) 0x2B l 0 (argT s.now) 1
    else s
  | _, _ => s

/-- EXC_RESTORED (R132). -/
def execExcRestored (s : State) : Ans := act s excRestore

/-! ### The driver's output (R121 to R123, R133) -/

/-- The 12.8 MHz modulator clocks since network time 0 (R122). -/
def State.laceClock (s : State) : Nat := s.fine / 5120000

/-- The synthesiser's phase less the formula of R122, in 2^-16 degree: the difference that a realignment or a takeover left, closed at no more than 1° per
excitation cycle (R122). While a backward realignment holds network time (R81) the formula stands and the synthesiser runs on, to the difference that
holds from the hold's end. R134 does not say what becomes of the kept phase offset after CLAIMING: it is closed like that of a realignment, from the end
of CLAIMING on (log entry 43, DESIGN CHOICE). -/
def State.phaseOff (s : State) (l : Nat) : Int :=
  let p := s.laceOf l
  let n := max 1 ((s.driveSt l).freqDiv l)
  let held := (s.tmb.anchor - s.tick) * 8 / 125
  let cycles := (s.tick - p.phaseFrom) * 8 / 125 / n
  let closed := (cycles * 65536 * (Config.phaseShare p.phaseFrom % 1001) / 1000 : Nat)
  if p.limit50 ∨ 0 < held then p.phaseOff - (held * 23592960 / n : Nat)
  else if 0 ≤ p.phaseOff then max 0 (p.phaseOff - closed) else min 0 (p.phaseOff + closed)

/-- The output of a lace's driver now, as a fraction of the commanded amplitude in 1/65,536 of it: 0 at ≥ 10 MΩ. An old drive that ramps down keeps its
frequency and pulse timing (R127). While a backward realignment holds network time at E (R81) a PULSE_I output keeps the state that it has at clock E (log
entry 43, DESIGN CHOICE: R123 ties the pulse to network time and does not speak of the hold). -/
def State.excOut (s : State) (l : Nat) : Int :=
  let p := s.laceOf l
  let st := s.driveSt l
  let a : Int := p.amp s.tick
  if p.highZ ∨ !s.lacesRun then 0
  else if isSine p.drive then
    -- turns in 1/(48 n × 360 × 65,536)
    let den := 48 * st.freqDiv l * 23592960
    (Q.near { num := a * fixSin (st.sineTurn l s.laceClock * 23592960 + s.phaseOff l * (48 * st.freqDiv l)) den, den := 2 ^ 96 })
  else if p.drive = 5 then (if st.pulseTop l s.laceClock then a else 0)
  else a

end Sys2Proof.Machine
end

