-- ==== Sys2Proof/Machine/Tandem.lean ====
section
/-! DEFINITION. Tandem redundancy (15_tandem_redundancy): the witnesses (R359), the takeover rule and the ends of CLAIMING and YIELDING (R360 to
R368), election and synchronisation (R369, R370), PARTNER_HB (R371), the digest (R372) and `SWAP_ROLES` (R374). -/

namespace Sys2Proof.Machine

/-- A standby of either kind. -/
def Role.stands : Role → Bool
  | .standby => true | .standbyDesync => true | _ => false

/-- The hub is the even member of its pair (R356). -/
def State.evenMember (s : State) : Bool := s.lnk.rim.addr % 2 == 0

/-! ### Token (R359) -/

/-- TKN_OUT toggles every 50 µs in RUN, in WARM_RESTART and in RECOVERY entered by a halt, with `enable`. -/
def tokenToggle (s : State) : State :=
  if s.live && s.st.tandemOn && s.passed s.tdm.tokenTick (us 50) then
    s.upTdm fun t => { t with tokenOut := some !(t.tokenOut.getD false), tokenTick := s.tick }
  else s

/-- TOKEN_TOGGLE (R359). -/
def execTokenToggle (s : State) : Ans := act s tokenToggle

/-- An edge on TKN_IN. -/
def tokenEdge (s : State) : State :=
  if s.glb.state ≠ .reset ∧ s.st.tandemOn then (s.upTdm fun t => { t with edgeTick := some s.tick, witToken := true }).witnessSpans else s

/-- TOKEN_EDGE (R359). -/
def execTokenEdge (s : State) : Ans := act s tokenEdge

/-- The token witness is missing after 300 µs without an edge (R359). -/
def tokenMissing (s : State) : State :=
  if s.st.tandemOn && s.passedOpt s.tdm.edgeTick (us 300) then (s.upTdm fun t => { t with witToken := false }).takeoverRule else s

/-- TOKEN_WITNESS_MISSING (R359). -/
def execTokenWitnessMissing (s : State) : Ans := act s tokenMissing

/-- The link heartbeat witness is missing after 300 µs without a PARTNER_HB on a tandem lane (R359). -/
def linkMissing (s : State) : State :=
  if s.st.tandemOn && s.passedOpt s.tdm.linkTick (us 300) then (s.upTdm fun t => { t with witLink := false }).takeoverRule else s

/-- LINK_WITNESS_MISSING (R359). -/
def execLinkWitnessMissing (s : State) : Ans := act s linkMissing

/-- The rim heartbeat witness is missing when network time exceeds the newest send time by more than 1 ms (R359). -/
def State.rimStale (s : State) : Bool := match s.tdm.rimSent with | none => true | some t => decide (t + 1000000 < s.now)

def rimMissing (s : State) : State :=
  if s.st.tandemOn && s.rimStale then (s.upTdm fun t => { t with witRim := false }).takeoverRule else s

/-- RIM_WITNESS_MISSING (R359). -/
def execRimWitnessMissing (s : State) : Ans := act s rimMissing

/-! ### Sending PARTNER_HB (R371) -/

/-- The hub sends heartbeats: from CALIBRATE onward, not in FAULT, and with `enable` (R356, R359, R371). -/
def State.sendsHb (s : State) : Bool :=
  s.st.tandemOn && (s.live || (match s.hardware with | .calibrate => true | .timewait => true | _ => false))

/-- The HEARTBEAT section. `synced`: the hub is not desynchronised. -/
def State.heartbeat (s : State) : Heartbeat :=
  let a := s.serviceAddr
  { role := s.tdm.role.code, glb := s.glb.state.code, driving := s.live && s.tdm.role.drives, tokenSeen := s.tdm.witToken
    linkSeen := s.tdm.witLink, rimSeen := s.tdm.witRim, excSeen := s.tdm.witExc, synced := decide (s.tdm.role ≠ .standbyDesync)
    count := s.tdm.count, sendTime := s.now, activeSince := s.tdm.activeSince, nextBulk := (s.assoc a 0 3).next
    nextCtl := (s.assoc a 0 2).next, nextExp := (s.assoc a 0 0).next }

/-- The acknowledgement position of a sent stream as ACKPOS reports it. -/
def State.ackSection (s : State) (i : Nat) : HbSection :=
  let k := s.stall (s.st.stallOf i)
  match (if k.ackedOrd = 0 then [] else k.spans (k.ackedOrd - 1) k.ackedOrd) with
  | [] => .ackpos i 0 (s.st.streamW3 i)
  | r :: _ => .ackpos i r.first r.w3

/-- Sent streams, in rising order. -/
def State.sentStreams (s : State) : List Nat := (s.st.stream.filter (fun e => s.st.sent e.1)).map (·.1)

/-- Streams whose position has advanced since it was last reported, once 1 ms has passed. -/
def State.advanced (s : State) : List Nat :=
  if s.passed s.tdm.ackTick (ms 1) then
    s.sentStreams.filter (fun i => decide (s.tdm.ackReported.get 0 i < (s.stall (s.st.stallOf i)).ackedOrd))
  else []

/-- How many entries of a kind fit in the rest of a body: a section word and entries of `n` bytes. -/
def entriesFit (left n : Nat) : Nat := (left - 4) / n

/-- The sections that fill a tandem-lane frame of 1,484 bytes (R371), and the state with them sent. -/
def State.fillSections (s : State) : State × List HbSection :=
  let left := 1484 - 36
  let dig : List HbSection := if s.tdm.digestSend then [.digest s.cfg.activeId s.cfg.commitTime s.cfg.commits] else []
  let left := left - 24 * dig.length
  let adv := s.advanced
  let todo := s.tdm.sweep ++ adv.filter (fun i => !s.tdm.sweep.contains i)
  let acks := todo.take (entriesFit left 12)
  let left := left - (if acks.isEmpty then 0 else 4 + 12 * acks.length)
  let means := s.tdm.meansDue.take (entriesFit left 16)
  let left := left - (if means.isEmpty then 0 else 4 + 16 * means.length)
  let srcs := s.tdm.isrcDue.take (entriesFit left 8)
  let secs := dig ++ acks.map s.ackSection ++ means.map (fun m => .mean m.1 m.2.2.1 m.2.1 m.2.2.2) ++
    srcs.map (fun i => .isrc (i / 16) (i % 16) (finite32 (Config.sourceCurrent i (s.st.isrcUa i))))
  let s := s.upTdm fun t =>
    { t with digestSend := false, meansDue := t.meansDue.drop means.length, isrcDue := t.isrcDue.drop srcs.length
             sweep := t.sweep.filter (fun i => !acks.contains i), ackTick := if adv.isEmpty then t.ackTick else s.tick
             ackReported := acks.foldl (fun m i => m.set 0 i (s.stall (s.st.stallOf i)).ackedOrd) t.ackReported }
  (s, secs)

/-- A PARTNER_HB leaves by both rim ports, to the partner's own address, and on each ACTIVE tandem lane (R359, R371): every 100 µs, and at once
when a role has just begun (R361, R368). Its copies carry one sequence number (log entry 46, DESIGN CHOICE). -/
def partnerHbSend (s : State) : State :=
  if !s.sendsHb ∨ !s.passedOpt s.tdm.lastSent (us 100) then s
  else
    let s := s.upTdm fun t => { t with lastSent := some s.tick, count := t.count + 1 }
    let hb := s.heartbeat
    let src := s.lnk.rim.addr
    let dst := partnerAddr src
    let q := (s.assoc src dst 1).next
    let s := if src = 4095 then s else s.sendTimeBoth dst (.partnerHb hb)
    forEach ([2, 3].filter (fun x => decide ((s.lane x).state = .active))) s fun s x =>
      let r := s.fillSections
      r.1.emit (.tandemFrame x hb r.2 (tandemBytes src dst q hb r.2))

/-- PARTNER_HB_SEND (R371). -/
def execPartnerHbSend (s : State) : Ans := act s partnerHbSend

/-! ### Roles (R362, R367 to R370) -/

/-- STANDBY_DESYNC is entered (R370): N_TANDEM_DESYNC. Publication stops (R358), a pulse on TRIG_IO ends (R224), and the takeover rule holds from that tick on (R360). -/
def State.desync (s : State) : State :=
  ((s.stopPulses.enterRole .standbyDesync).allLowSpans.silence.notify s.st.tandemQ 0x5A 0 0 (argT s.now)).takeoverRule

/-- The hub begins to watch its partner: no witness is missing before the time that R359 gives it has passed without evidence (log entry 44,
DEDUCED). -/
def State.watchPartner (s : State) : State :=
  (s.upTdm fun t =>
    { t with edgeTick := some s.tick, linkTick := some s.tick, rimSent := some (max s.now (t.rimSent.getD 0)), witToken := true, witLink := true
             witRim := true, noActiveSince := some s.tick }).markExc

/-- A hub enters its first tandem role (R369): STANDBY_DESYNC, with its loops open. -/
def State.enterTandem (s : State) : State :=
  if s.st.tandemOn ∧ s.tdm.role = .solo then s.watchPartner.openLoops.desync else s

/-- STANDBY_DESYNC ends when a tandem lane is ACTIVE with heartbeats arriving, the digests match and a complete sweep has come (R370). A halted hub
stays in it (R485). -/
def State.trySync (s : State) : State :=
  let up := decide ((s.lane 2).state = .active) || decide ((s.lane 3).state = .active)
  if s.tdm.role = .standbyDesync ∧ !s.ldr.halted ∧ up ∧ s.tdm.witLink ∧ s.tdm.digestOk ∧ s.sentStreams.all (fun i => s.tdm.swept.contains i) then
    (s.enterRole .standby).notify s.st.tandemQ 0x5B 0 0 (argT s.now)
  else s

/-- CLAIMING ends 2 ms after C (R362). -/
def claimingEnd (s : State) : State := if s.tdm.role = .claiming ∧ s.passed s.tdm.since (ms 2) then s.endClaiming else s

/-- CLAIMING_END (R362). -/
def execClaimingEnd (s : State) : Ans := act s claimingEnd

/-- YIELDING ends 2 ms after it was entered (R368). -/
def yieldingEnd (s : State) : State := if s.tdm.role = .yielding ∧ s.passed s.tdm.since (ms 2) then s.desync else s

/-- YIELDING_END (R368). -/
def execYieldingEnd (s : State) : Ans := act s yieldingEnd

/-- Election (R369): the partner is alive, and for 10 ms, counted from when the hub began to watch it, has reported no role that drives or yields. A halted
hub claims nothing (R485). -/
def election (s : State) : State :=
  let quiet := s.passedOpt s.tdm.noActiveSince (ms 10)
  if s.live && !s.ldr.halted && s.tdm.role.stands && s.partnerAlive && quiet && (s.evenMember || (s.tdm.partner.isSome && s.tdm.partnerState ≠ 6 && s.tdm.partnerState ≠ 7)) then s.claim s.now else s

/-- ELECTION (R369). -/
def execElection (s : State) : Ans := act s election

/-- A standby that has lost every tandem lane for 300 µs while its partner lives (R370). -/
def tandemLoss (s : State) : State :=
  let up := decide ((s.lane 2).state = .active) || decide ((s.lane 3).state = .active)
  if s.tdm.role = .standby ∧ !up ∧ s.passedOpt s.tdm.lanesLost (us 300) ∧ (s.tdm.witToken || s.tdm.witRim) then s.desync else s

/-- TANDEM_LINK_LOSS (R370). -/
def execTandemLinkLoss (s : State) : Ans := act s tandemLoss

/-! ### Receiving PARTNER_HB (R360, R362, R367, R368, R371) -/

/-- A section that came over the tandem link (R371 to R373). -/
def State.takeSection (s : State) (x : HbSection) : State :=
  match x with
  | .digest id last commits => s.upTdm fun t => { t with digest := some (id, last, commits), digestTick := s.tick }
  | .ackpos i seq w3 =>
    let s := s.upTdm fun t =>
      { t with ackpos := t.ackpos.set (0, 0) i (w3, seq), swept := if t.swept.contains i then t.swept else i :: t.swept }
    (s.followAck i).checkWater (s.st.stallOf i)
  | .mean i seq w3 v =>
    if !s.st.agreeEn then s
    else
      match s.tdm.ownMeans.find? (fun m => m.1 == i && m.2.1 == w3 && m.2.2.1 == seq) with
      | some m =>
        (s.upTdm fun t => { t with ownMeans := eraseFirst (fun y => decide (y = m)) t.ownMeans }).compareMeans i seq m.2.2.2 v
      | none => s.upTdm fun t => { t with means := t.means ++ [(i, w3, seq, v)] }
  | .isrc spoke look v => s.upTdm fun t => { t with isrc := t.isrc.set 0 (spoke * 16 + look) v }
  | .reserved .. => s

/-- The records of master 3 follow the heartbeat count of the newest PARTNER_HB of the tandem lanes (R407): those missing before it are counted. The
second copy of a heartbeat, from the other lane, and an older one are not the newest: newer is what was sent later, or at the same time, while the partner's
time is held (R81), with a count that lies ahead. `stale`: no heartbeat had come for 300 µs, so that whatever comes is the newest; where it was sent earlier
than the last, the partner has begun anew, and nothing is counted missing (log entry 44, DEDUCED). -/
def State.countHb (s : State) (hb : Heartbeat) (stale : Bool) : State :=
  let m := s.cmd.tandem
  let gap := (hb.count - m.expected).toNat
  let last := s.tdm.linkSent.getD 0
  let newer := stale || s.tdm.linkSent.isNone || decide (last < hb.sendTime) || (last == hb.sendTime && decide (gap < 32768))
  if !newer then s
  else
    let anew := stale && decide (hb.sendTime < last)
    (s.upTdm fun t => { t with linkSent := some hb.sendTime, hbLost := if m.based && !anew then satAdd t.hbLost gap else t.hbLost }).upMst .tandem fun r =>
      { r with based := true, expected := hb.count + 1, accepted := hb.count, lastSeq := hb.count }

/-- What a reported role does to this hub's: one change at most. -/
def State.answerRole (s : State) (hb : Heartbeat) : State :=
  let drives := hb.role == 1 || hb.role == 4
  match s.tdm.role with
  | .standby => if hb.role = 5 ∧ s.live ∧ !s.ldr.halted then s.claim s.now else s
  | .standbyDesync => if hb.role = 5 ∧ s.live ∧ !s.ldr.halted then s.claim s.now else s.trySync
  | .yielding => if hb.role = 1 then s.desync else s
  | .active =>
    if drives && (decide (s.tdm.activeSince < hb.activeSince) || (s.tdm.activeSince == hb.activeSince && !s.evenMember)) then s.yieldRole 0 else s
  | .claiming =>
    if drives then
      if decide (s.tdm.activeSince < hb.activeSince) || (s.tdm.activeSince == hb.activeSince && !s.evenMember) then s.yieldRole 0 else s
    else if !hb.driving && (hb.role == 5 || hb.role == 2 || hb.role == 3) then s.endClaiming
    else s
  | .solo => s

/-- The span of the partner's CLAIMING that began at `c` on a look, from fine time `start` on (R366): CLAIMING ends 2 ms after C at the latest (R362). -/
def State.partnerSpan (s : State) (i start c : Nat) : State :=
  if (s.look i).spans.any (fun sp => sp.cause == causePartner && decide (sp.stop = some ((c + 2000000) * 65536))) then s
  else s.addSpan i { tag := tagSuspect, rule := .kernel, start := start, stop := some ((c + 2000000) * 65536), blank := false, cause := causePartner }

/-- The samples through the partner's CLAIMING carry SUSPECT on this hub too (R366): from its C, which its heartbeat gives as `active_since`, to the first
heartbeat that reports another role, or 2 ms after C. -/
def State.partnerClaims (s : State) (hb : Heartbeat) : State :=
  if hb.role = 4 then forEach s.st.takeoverLooks s fun s i => s.partnerSpan i (hb.activeSince * 65536) hb.activeSince
  else s.capEverywhere causePartner (hb.sendTime * 65536)

/-- A valid PARTNER_HB (R371). -/
def partnerHb (path : HbPath) (hb : Heartbeat) (secs : List HbSection) (s : State) : State :=
  let lane := match path with | .tdmA => 2 | _ => 3
  if !s.st.tandemOn ∨ s.glb.state = .reset ∨ (path ≠ .rim ∧ (s.lane lane).state ≠ .active) then s
  else
    -- after a loss of both heartbeats whatever comes is the newest
    let newest := (!s.tdm.witLink && !s.tdm.witRim) || (match s.tdm.partner with | none => true | some p => decide (p.sendTime ≤ hb.sendTime))
    let s := s.upTdm fun t =>
      { t with partner := if newest then some hb else t.partner, partnerRole := if newest then hb.role else t.partnerRole
               partnerState := if newest then hb.glb else t.partnerState
               noActiveSince := if hb.role = 1 ∨ hb.role = 4 ∨ hb.role = 5 then some s.tick else t.noActiveSince }
    let s := match path with
      | .rim =>
        let s := s.upTdm fun t => { t with rimSent := match t.rimSent with | none => some hb.sendTime | some x => some (max x hb.sendTime) }
        if s.rimStale then s else s.upTdm fun t => { t with witRim := true }
      | _ =>
        let stale := !s.tdm.witLink
        let s := (s.upTdm fun t => { t with linkTick := some s.tick, witLink := true }).countHb hb stale
        forEach secs s fun s x => s.takeSection x
    let s := s.witnessSpans
    if newest then (s.partnerClaims hb).answerRole hb else s

/-- PARTNER_HB (R371). -/
def execPartnerHb (path : HbPath) (hb : Heartbeat) (sections : List HbSection) (s : State) : Ans :=
  actIf (Instr.wf (.partnerHb path hb sections)) s (partnerHb path hb sections)

/-! ### Digest (R371, R372) -/

/-- A commit instant or a cadence-epoch instant has passed: a DIGEST is to be sent and the partner's is compared 1 ms later. -/
def State.markDigest (s : State) : State :=
  if s.st.tandemOn then s.upTdm fun t => { t with digestDue := t.digestDue ++ [s.tick], digestSend := true } else s

/-- The partner's newest digest against this hub's own state, 1 ms after the oldest instant not yet compared (R372). A digest that came more than 1 ms
before the instant says nothing of it (log entry 44, DEDUCED: the partner sends one within 1 ms of each). -/
def digestCompare (s : State) : State :=
  match s.tdm.digestDue with
  | [] => s
  | t :: rest =>
    if !s.passed t (ms 1) then s
    else
      let s := s.upTdm fun t => { t with digestDue := rest }
      match s.tdm.digest with
      | none => s
      | some d =>
        if s.tdm.digestTick + ms 1 < t then s
        else if d = (BitVec.ofNat 64 s.cfg.activeId, s.cfg.commitTime, s.cfg.commits) then (s.upTdm fun t => { t with digestOk := true }).trySync
        else
          let s := s.upTdm fun t => { t with digestOk := false }
          let s := (s.notify s.st.tandemQ 0x5C 0 (s.cfg.activeId % 65536) d.1.toNat).faultEvent 9 16384
          if s.tdm.role = .standby then s.desync else s

/-- DIGEST_COMPARE (R372). -/
def execDigestCompare (s : State) : Ans := act s digestCompare

/-! ### Planned handover (R374) -/

/-- SWAP_ROLES (R374). -/
def swapRoles (s : State) : State :=
  s.start 0x50 fun c s =>
    if !s.st.tandemOn then s.complete c 0x1C
    else
      let ok := (decide (s.tdm.role = Role.active) && s.tdm.partnerRole == 2) || decide (s.tdm.role = Role.standby)
      if !ok then s.complete c 0x1D
      else
        let e := epochAtOrAfter (s.now + 20000000)
        (s.upTdm fun t => { t with swapAt := t.swapAt ++ [e] }).startLong c (.swap e)

/-- SWAP_ROLES (R374). -/
def execSwapRoles (s : State) : Ans := act s swapRoles

/-- What a swap does at its instant E, by the role that the hub holds then (log entry 44, DEDUCED): the active yields, the standby claims. -/
def State.swapNow (s : State) (e : Nat) : State :=
  if s.tdm.role = Role.active then s.yieldRole 2
  else if s.tdm.role.stands ∧ !s.ldr.halted then s.claim e
  else s

/-- The swap instant E: the active yields, the standby claims, and the command completes (R374). Two commands for one E swap once. -/
def swapInstant (s : State) : State :=
  match s.longOf (fun o => match o with | .swap e => decide (e ≤ s.now) | _ => false) with
  | none => s
  | some l =>
    match l.op with
    | .swap e =>
      let s := if s.tdm.swapAt.contains e then (s.upTdm fun t => { t with swapAt := t.swapAt.filter (fun x => x != e) }).swapNow e else s
      s.endLong l 0
    | _ => s

/-- SWAP_INSTANT (R374). -/
def execSwapInstant (s : State) : Ans := act s swapInstant

end Sys2Proof.Machine
end

