-- ==== Sys2Proof/Machine/Commit.lean ====
section
/-! DEFINITION. What a commit does to running state at its instant (R38, R48 to R50): every changed instance takes its effect, chapter by chapter,
and COMMIT_INSTANT. The start of sampling applies a pending commit by the same operation (R52). -/

namespace Sys2Proof.Machine

/-! ### Looks, spokes and laces (R49, R115, R127, R377, R456) -/

/-- The looks that exist in a structure. -/
def Struct.allLooks (st : Struct) : List Nat :=
  (st.listed .lookSeq).flatMap (st.looksOf .lookSeq) ++ (st.listed .auxSeq).flatMap (st.looksOf .auxSeq)

/-- The looks that exist in either of two structures. -/
def looksOfBoth (a b : Struct) : List Nat := a.allLooks ++ b.allLooks.filter (fun i => !a.lookExists i)

/-- The spans that a commit at fine time `t` ends on a look (R116, R127, R128, R366): of a look that no longer runs every open one, of another those of
conditions that its spoke's mode no longer has. -/
def State.leaveSpans (s : State) (i t : Nat) : State :=
  let st := s.st
  let k := i / 16
  let ends (cause : Nat) : Bool :=
    !st.lookRuns i || (cause == causeIsolated && (isAux i || !st.isLoop k)) || (cause == causeWitness && (isAux i || st.mode k != 5)) ||
      ((cause == causeRamp || (cause == causeLimit && isVoltageDrive (s.laceOf (k / 16)).drive)) && (isAux i || !st.isBridge k)) ||
      (cause == causeTakeover && (isAux i || !st.inTakeover k))
  let s := if isAux i || !st.inTakeover k || !st.lookRuns i then s.upLook i fun l => l.capSpans causePartner t else s
  s.upLook i fun l =>
    { l with spans := l.spans.map (fun sp => if sp.stop = none ∧ ends sp.cause then { sp with stop := some t } else sp) }

/-- A look that a commit at fine time `t` brings to a lace takes the spans that the lace's looks are under (R127, R128, R131, R366). -/
def State.joinLace (s : State) (i t : Nat) : State :=
  if isAux i then s
  else
    let k := i / 16
    let p := s.laceOf (k / 16)
    let put (c : Bool) (tag : Nat) (rule : SpanRule) (cause : Nat) (s : State) : State :=
      if c && !s.hasSpan i cause then s.addSpan i { tag := tag, rule := rule, start := t, stop := none, blank := false, cause := cause } else s
    let s := put (p.reduced.isSome && isCurrentDrive p.drive) tagSuspect .kernel causeReduced s
    let s := put (p.limit && (isCurrentDrive p.drive || s.st.isBridge k)) tagSuspect .kernel causeLimit s
    let s := put (s.st.isBridge k && p.settling) tagUnsettled .instant causeRamp s
    let s := put (s.lowRole && isCurrentDrive (s.st.drive (k / 16)) && p.senseLow) tagInvalid .kernel causeSenseLow s
    let s := put (decide (s.tdm.role = .claiming) && s.st.inTakeover k) tagSuspect .kernel causeTakeover s
    match s.tdm.partner with
    | some hb => if decide (s.tdm.partnerRole = 4) && s.st.inTakeover k && decide (t < (hb.activeSince + 2000000) * 65536) then s.partnerSpan i t hb.activeSince else s
    | none => s

/-- A commit at `t` (ns) and the looks (R49, R50, R208): the changed ones are reset, all pass into the new era. -/
def State.commitLooks (s : State) (old : Struct) (t : Nat) : State :=
  let new := s.st
  let looks := looksOfBoth old new
  let s := forEach (changedOf old new .switch) s fun s i => s.commitSwitch old i (t * 65536)
  let s := forEach (looks.filter (lookChanged old new)) s fun s i => s.syncResetAt old new i (t * 65536)
  let s := forEach (changedOf old new .lookSeq) s fun s i => s.upModu i fun m => { m with run := none }
  let s := forEach (changedOf old new .auxSeq) s fun s l => s.upModu (768 + l) fun m => { m with run := none }
  let s := forEach looks s fun s i => s.leaveSpans i (t * 65536)
  let s := forEach (new.allLooks.filter new.lookRuns) s fun s i => (s.joinLook i (t * 65536)).joinLace i (t * 65536)
  let s := if s.loopsOpen then s.openLoops else s
  let s := s.witnessSpans
  forEach looks s fun s i => s.followEras i

/-- A commit at `t` (ns) that changes a spoke's F_SPOKE record ends its recalibration and its quarantine (R115, R456). -/
def State.commitSpoke (s : State) (i t : Nat) : State :=
  let s := if s.cal.recal ≠ some i then s
    else
      let s := s.upCal fun c => { c with recal := none, recalFound := none, ramps := c.ramps.filter (fun r => !(r.spoke == i)) }
      match s.longOf (fun o => decide (o = .recalibrate i)) with
      | none => s
      | some l => s.endLong l 0x02
  if (s.spoke i).quarantined then s.releaseAt i 1 (t * 65536) else s

/-- A hub that held its laces at ≥ 10 MΩ and its loops open since it left its tandem drives again (R377). -/
def State.driveAgain (s : State) : State :=
  let s := s.upTdm fun t => { t with leftTandem := false }
  forEach (s.st.driven.filter (fun l => !(s.laceOf l).tripped && decide ((s.laceOf l).drive = 0))) s.closeLoops fun s l => s.rampUp l

/-- A hub that had left its tandem without driving before a commit, `left`, drives again where that commit changes its F_LACE or F_SPOKE records
(R377). -/
def State.commitDrive (s : State) (old : Struct) (left : Bool) : State :=
  if left ∧ s.tdm.leftTandem ∧ (changedOf old s.st .lace ≠ [] ∨ changedOf old s.st .spoke ≠ []) then s.driveAgain else s

/-! ### The spool (R259) -/

/-- The unacknowledged block numbers of a stall as gap records with cause RESTRUCTURED, one for each w3, without those that a gap record yet to be
sent names. -/
def State.restructured (s : State) (i k : Nat) : List Gap :=
  let w := s.stall k
  (w.spans w.ackedOrd w.nextOrd).filterMap fun r =>
    let left := (numbersFrom r.first r.length).filter (fun q =>
      !(match w.ordOf r.stream r.w3 q with | some o => w.ackAhead.contains o | none => true) &&
        !w.gaps.any (fun g => g.w3 == r.w3 && decide (g.first ≤ q) && decide (q ≤ g.last)))
    match left, left.getLast? with
    | a :: _, some b => some (s.gapOf i r.w3 a b 5)
    | _, _ => none

/-- What an item on its way carries for a stream. -/
def SentItem.ofStream (i : Nat) : SentItem → Bool
  | .final x _ _ _ => x == i
  | .interim x _ _ _ => x == i
  | .gap g => g.stream == i
  | .record => false

/-- Blocks and gap records of a stream that were sent are not sent again: they are named in the gap records of the commit. -/
def State.forgetSent (s : State) (i k : Nat) : State :=
  let s := s.upRim fun r =>
    { r with resend := r.resend.filter (fun x => !x.ofStream i), delivered := r.delivered.filter (fun x => !x.ofStream i)
             bulkOut := r.bulkOut.map (fun f => { f with items := f.items.filter (fun x => !x.ofStream i) }) }
  s.upHost fun h => { h with rings := h.rings.map (fun e =>
    (e.1, { e.2 with backlog := e.2.backlog.filter (fun x => match x.1 with | .item j y _ => !(j == k && y.ofStream i) | _ => true) })) }

/-- A stream's F_STREAM record changes: delivery of its blocks ends, and those not acknowledged become gap records for the old destination. -/
def State.commitStream (s : State) (old : Struct) (i : Nat) : State :=
  if !old.stored i then s
  else
    let k := old.stallOf i
    let gaps := if old.sent i && s.publishes then (s.stall k).gaps ++ s.restructured i k else []
    let tagged := gaps.map (fun g => (old.dest i == 2, old.streamRing i, g))
    ((s.forgetSent i k).upStall k fun x =>
      { x with gaps := [], oldGaps := x.oldGaps ++ tagged, runs := x.endedRuns, sentTop := x.nextOrd, ackedOrd := x.nextOrd, ackAhead := []
               held := x.held.map (fun b => { b with sent := true, again := false }) }).checkWater k

/-- An entry lies in stall `k`: it was opened there, or names one of the blocks `held` in it. -/
def RecEntry.liesIn (e : RecEntry) (k : Nat) (held : List HeldBlock) : Bool := e.live && (decide (e.stall = some k) || held.any (fun b => e.names b))

/-- The entries of unreleased records in an emptied stall, which held `held`, take DISCARDED, and their records STREAM_LOST. -/
def State.discardEntries (s : State) (k : Nat) (held : List HeldBlock) : State :=
  let hit (r : Nat × Record) : Bool := decide (r.2.state ≠ .released) && r.2.entries.any (fun e => e.liesIn k held)
  forEach (s.allRecords.filter hit) s fun s r =>
    let es := r.2.entries.map (fun e => if e.liesIn k held then { e with discarded := true, done := true, reserve := 0 } else e)
    let q := { r.2 with entries := es, streamLost := true }
    ((s.rewrite r.1 q).tryComplete r.1 q)

/-- A stream stall whose record changes is emptied. -/
def State.emptyStall (s : State) (old : Struct) (k : Nat) : State :=
  let stream := old.streamIn k
  let gaps := match stream with
    | some i => if old.sent i && s.publishes then s.restructured i k else []
    | none => []
  let s := match stream with | some i => s.forgetSent i k | none => s
  let held := (s.stall k).held
  let s := s.upStall k fun x =>
    { x with page := none, offset := 0, held := [], runs := [], past := x.past ++ x.endedRuns, nextOrd := 0, sentTop := 0, ackedOrd := 0, ackAhead := []
             marks := [{}, {}, {}, {}], gaps := x.gaps ++ gaps }
  (s.discardEntries k held).checkWater k

/-- A record-set stall whose record changes loses every record; N_RECORDS_DISCARDED counts those not RELEASED. -/
def State.emptySet (s : State) (k t : Nat) : State :=
  let gone := (s.stall k).records
  let n := (gone.filter (fun r => decide (r.state ≠ .released))).length
  let s := s.upStall k fun x => { x with records := [], nextRecord := 0, page := none, offset := 0 }
  let s := s.upPath fun p => { p with units := p.units.map (fun e => (e.1, match e.2.running with
    | some (j, _) => if j = k then { e.2 with running := none } else e.2
    | none => e.2)) }
  let s := s.checkWaters (distinct (gone.flatMap (fun r => s.touched k r)))
  if n = 0 then s else s.notify (s.st.stallQ k) 0x3E k n (argT t)

/-- The entries of open records follow a change of a stream's w3 or existence (R242); where a descriptor outgrows its room and finds none, they stay
(log entry 45). -/
def State.commitRecords (s : State) (old : Struct) : State :=
  let moved (e : RecEntry) : Bool := old.streamW3 e.stream != s.st.streamW3 e.stream || old.streamRuns e.stream != s.st.streamRuns e.stream
  forEach (s.allRecords.filter (fun r => decide (r.2.state = .opened) && r.2.entries.any moved)) s fun s r =>
    let es := s.entriesAgain r.2 r.2.winEnd
    match (s.manyEntries es).refit r.1 r.2 es with
    | none => s
    | some (s, q) => (s.rewrite r.1 q).tryComplete r.1 q

/-- F_STREAM and F_STALL (R259). -/
def State.commitSpool (s : State) (old : Struct) (t : Nat) : State :=
  let s := forEach (changedOf old s.st .stream) s fun s i => s.commitStream old i
  let s := forEach (changedOf old s.st .stall) s fun s k =>
    match old.stallKind k with
    | 1 => s.emptyStall old k
    | 2 => s.emptySet k t
    | _ => s
  s.commitRecords old

/-! ### Compression, chains, reducers, triggers, windows (R174, R226, R281, R304, R462) -/

/-- The streams that have samples or records to come. -/
def Struct.allStreams (st : Struct) : List Nat := st.allLooks.filter st.streamRuns ++ ((List.range 256).filter (fun k => decide (st.jobKind k ≠ 0))).map st.outStream

/-- A stream that a commit creates, or whose F_COMPRESS record it changes, begins with a key block (R298, R304). -/
def State.commitCoding (s : State) (old : Struct) : State :=
  let new := s.st.allStreams.filter (fun i => !old.streamRuns i)
  forEach (changedOf old s.st .compress ++ new) s fun s i => s.upStrm i StreamRec.keyClosing

/-- The slice with the greatest load, the lowest number among equals. -/
def Struct.peakSlice (st : Struct) : Nat :=
  (List.range 64).foldl (fun best x => if st.sliceLoad32 best < st.sliceLoad32 x then x else best) 0

/-- CHN_MAC_TOTAL, CHN_MAC_PEAK and CHN_RANK_LOAD report the committed loads (R174, R175, R184). -/
def State.commitLoads (s : State) : State :=
  let mega (n : Nat) : Nat := ceilDiv n 32000000
  let total := (List.range 64).foldl (fun n x => n + s.st.sliceLoad32 x) 0
  s.upPath fun p =>
    { p with macTotal := mega total, macPeak := mega (s.st.sliceLoad32 s.st.peakSlice), macSlice := s.st.peakSlice
             rankLoad := ceilDiv s.st.rankLoad32 32000 }

/-- The engines that F_REDUCER frames of the image name (R26, R281). -/
def Staged.engines (i : Staged) : List Nat :=
  let fs := (walkFrames i.words.length (i.words.drop 16)).frames.filter (fun f => f.type == 0x0B)
  distinct (fs.flatMap (fun f => numbersFrom f.first f.count))

/-- Jobs (R281), and job code that was pending on the engines the image names (R26). `version` is that of the firmware image that runs. -/
def State.commitJobs (s : State) (old : Struct) (i : Staged) (t version : Nat) : State :=
  let changed := changedOf old s.st .reducer
  let s := forEach changed s fun s e =>
    forEach (numbersFrom (16 * e) 16) s fun s k =>
      if sameJob old s.st k then s
      else (forEach (List.range (old.inputs k).length) s fun s n => s.tallyTouched old k n true).jobCommitted old k (t * 65536)
  let s := if changed.isEmpty then s else s.initJobs old
  forEach (i.engines.filter (fun e => decide (e < 16) && (s.engine e).codePending)) s fun s e =>
    s.upEngine e fun x => { x with code := version, codePending := false }

/-- A changed trigger unit is armed at T with nothing held (R226). -/
def State.commitTrigger (s : State) (u t : Nat) : State :=
  let s := s.upTrig u fun x => { x with held := [], freewheel := .none, running := none }
  (s.unschedule (.trigger u)).armSchedule u t

/-- A changed window is ARMED with empty history (R462). -/
def State.commitWindow (s : State) (w : Nat) : State := s.upWindow w fun x => { x with latched := false, history := [], recent := [] }

/-- A queue whose drain becomes JOURNAL holds no item: a replay of it is over (R395, R412). -/
def State.commitQueue (s : State) (q : Nat) : State :=
  if s.st.queueDrain q = .journal then s.upQue q fun c => { c with replay := none } else s

/-! ### Rim, tandem, time (R86, R310, R332, R349, R377) -/

/-- A change of rate, FEC or fragment size takes a lane to DETECT without back-off, but not one in TEST (R349). -/
def State.commitLane (s : State) (old : Struct) (x : Nat) : State :=
  let differs := old.laneRate10 x != s.st.laneRate10 x || old.laneFec x != s.st.laneFec x || decide (old.frag ≠ s.st.frag)
  if differs ∧ (s.lane x).state ≠ .off ∧ (s.lane x).state ≠ .test then s.toDetect x 6 else s

/-- Preemption and the default grant of a port (R323, R329). -/
def State.commitPort (s : State) (old : Struct) (p : Port) : State :=
  let s := s.preemption p
  if old.grantDefault = s.st.grantDefault ∨ (s.rimPort p).granted then s
  else s.upPort p fun r => { r with credit := s.st.grantDefault - r.sentEpoch }

/-- F_RIM (R332). -/
def State.commitRim (s : State) (old : Struct) : State :=
  if old.record .rim 0 = s.st.record .rim 0 then s
  else
    let s := (s.commitLane old 0).commitLane old 1
    let s := (s.commitPort old .e).commitPort old .w
    if old.bulkW = s.st.bulkW ∨ s.lnk.rim.isolated then s else s.rimUpdate

/-- F_TANDEM `enable` (R377), in a hub that runs already: it differs from the role that the hub has. -/
def State.commitTandem (s : State) (t : Nat) : State :=
  if s.st.tandemOn = decide (s.tdm.role ≠ .solo) then s
  else if s.st.tandemOn then
    let s := s.watchPartner
    if s.evenMember then
      let s := ((s.enterRole .active).upTdm fun x => { x with activeSince := t }).keyAll
      if s.tdm.leftTandem then s.driveAgain else s
    else
      let s := forEach (List.range 48) s fun s l => s.driverOff l
      (s.upTdm fun x => { x with leftTandem := false }).openLoops.desync
  else
    let drove := s.tdm.role.drives
    let s := if s.tdm.role = .claiming then s.endClaiming else s
    let s := ((s.enterRole .solo).upTdm fun x => { x with activeSince := 0 }).witnessSpans
    let s := (s.capEverywhere causePartner s.fine).allLowSpans
    if drove then s else s.upTdm fun x => { x with leftTandem := true }

/-- A change of `pps_mode` (R72): off takes the pin low; no sentence follows unless pulses mark seconds; no pulse begins before its next instant. -/
def State.commitPulse (s : State) (old : Struct) : State :=
  if old.ppsMode = s.st.ppsMode then s
  else (s.upTmb fun t =>
    { t with ppsOut := if s.st.ppsMode = 0 then none else t.ppsOut, zdaDue := if s.st.ppsMode = 1 then t.zdaDue else none }).ppsPassed

/-- A change of F_TIME `source` (R86): the old source counts as lost, or the hub runs freely; the prediction re-bases. On a change to FREE a scheduled
realignment, whose source is given up, is dropped (log entry 42, DESIGN CHOICE). -/
def State.commitTime (s : State) (old : Struct) : State :=
  let s := s.commitPulse old
  if old.timeSource = s.st.timeSource then s
  else
    let ms := match s.tmb.holdoverFrom with | none => s.tmb.holdoverMs | some k => satTo 0xFFFFFFFF ((s.tick - k) / Config.ticksPerMs)
    let s := if s.st.timeSource = 0 then
        (s.enterTime .freeRun).upTmb fun t => { t with inRun := 0, outRun := 0, confirm := [], realign := none, holdoverFrom := none, holdoverMs := ms }
      else s.sourceLost
    let s := s.upTmb fun t => { t with tdSource := none, rebase := true }
    let s := s.selectPorts
    if s.st.timeSource = 2 ∧ s.tmb.ppsValid then s.sourceValid else s

/-- The RTD looks whose source currents an ISRC section reports at each commit (R371). -/
def State.markSources (s : State) : State :=
  if s.st.tandemOn then s.upTdm fun t => { t with isrcDue := s.st.allLooks.filter (fun i => !isAux i && decide (s.st.lookMode i = 5)) } else s

/-! ### The commit (R38, R46, R48) -/

/-- An enabled ring `g` of number `r` is of the kind that a structure uses it for: no queue drains to one of kind BLOCK, no stream goes to one of kind
NOTICE (R404). -/
def ringFits (st : Struct) (r : Nat) (g : Ring) : Bool :=
  if g.isBlock then (List.range 64).all (fun q => !(decide (st.queueDrain q = .ring) && st.queueRing q == r))
  else st.every1 .stream (fun i => !(st.stored i && st.dest i == 2 && st.streamRing i == r))

/-- The structure's uses of host rings: a queue draining to a ring of kind BLOCK, or a stream to a ring of kind NOTICE (R404). -/
def State.ringsSound (s : State) (st : Struct) : Bool :=
  (List.range 64).all fun r => !(s.ring r).enabled || ringFits st r (s.ring r)

/-- The version of the job code of the firmware image that is installed (R26, R475). -/
def State.jobVersion (s : State) : Nat := match s.ldr.image with | none => 0 | some f => (f.header.getD 5 0).field 15 0

/-- A free table in canonical form, each entry reduced to what an open span leaves of it. -/
def SMap.reduced {α : Type} [DecidableEq α] (d : α) (f : α → α) (m : SMap α) : SMap α := m.foldl (fun r e => r.set d e.1 (f e.2)) []

/-- The sample path when a span of R2 ends: no sample, block, record or interval of the span is on its way any more; event counts and ALARM_CFG keep
the values, unspecified, that they hold (log entry 3, DESIGN CHOICE). The TRIG_IO pins are at the levels that they had. -/
def Path.restored (p : Path) : Path :=
  { alarmCfg := p.alarmCfg, trigIn := p.trigIn, ctx := p.ctx, lastMismatch := p.lastMismatch, chainSats := p.chainSats, jobOvf := p.jobOvf
    mods := SMap.reduced {} (fun m => { overloads := m.overloads }) p.mods
    switches := SMap.reduced {} (fun x => { changes := x.changes }) p.switches
    units := SMap.reduced {} (fun u => { fired := u.fired, counted := u.counted, suppressed := u.suppressed }) p.units
    streams := SMap.reduced {} (fun r => { keys := r.keys, escapes := r.escapes }) p.streams
    stalls := SMap.reduced {} (fun w => { overruns := w.overruns, refused := w.refused }) p.stalls
    engines := SMap.reduced {} (fun e => { faults := e.faults }) p.engines }

/-- The crier when a span of R2 ends: no item waits, and the counts go on from the values that they hold (log entry 3). -/
def Crier.restored (c : Crier) : Crier :=
  { c with queues := SMap.reduced {} (fun q => { posted := q.posted, ce := q.ce, prevNseq := q.prevNseq }) c.queues }

/-- A long command whose stall, stream or job the span has left without its work: it completes with ABORTED when the span ends (log entry 3). -/
def LongOp.ofPath : LongOp → Bool
  | .replay .. | .readRecord .. | .resetTally .. | .abortInterval .. | .saveContext .. | .restoreContext .. => true
  | _ => false

/-- What a host ring or the rim still has to send of the span's blocks and descriptors is dropped. -/
def State.dropUnsent (s : State) : State :=
  let s := s.upRim fun r => { r with resend := [], bulkOut := r.bulkOut.map (fun f => { f with items := [] }) }
  s.upHost fun h => { h with rings := h.rings.map (fun e => (e.1, { e.2 with backlog := [] })) }

/-- A ring that a span of R2 has left enabled where `target` or its own settings forbid that is disabled, with nothing written and nothing to write
(R400, R404; log entry 3, DESIGN CHOICE). -/
def State.restoreRings (s : State) (target : Struct) : State :=
  s.upHost fun h => { h with rings := h.rings.map fun e =>
    (e.1, if e.2.enabled && !(e.2.sound e.2.cfg && ringFits target e.1 e.2) then
      { e.2 with cfg := e.2.cfg &&& 0x7FFFFFFF, prod := 0, cons := 0, written := [] } else e.2) }

/-- The end of a span of R2 restores every rule: what the span left of path and crier holds nothing that a rule forbids, the engines hold the job code of
the image that runs, every window is ARMED, and no host ring is enabled against the rules of the structure `target` that now commits. -/
def State.restoreRules (s : State) (target : Struct) : State :=
  if s.ub.isNone then s
  else
    let s := (((s.upPath Path.restored).upCrier Crier.restored).dropUnsent).restoreRings target
    let s := forEach (List.range 16) s fun s e => s.upEngine e fun x => { x with code := s.jobVersion }
    let s := forEach (List.range 64) s fun s u => s.unschedule (.trigger u)
    let s := forEach (List.range 64) s State.commitWindow
    let s := s.upCfg fun c => { c with eras := [] }
    forEach (s.cmd.long.filter (fun l => l.op.ofPath)) s.endSpan fun s l => s.endLong l 0x02

/-- A structure with which an image that ends a span agrees in no record of what the hub runs on: each instance then takes its effect as a changed one
(R2, R38). Laces have the drive that their drivers are at. -/
def State.unlike (s : State) (target : Struct) : Struct :=
  let time : List Word := [wordOf ((target.timeSource + 1) % 3 * 2 ^ 30), 0, 0, 0, 0, wordOf ((target.ppsMode + 1) % 4 * 2 ^ 26), 0, 0, 0]
  forEach (List.range 48) ((({} : Struct).setRecord .time 0 time).setRecord .rim 0 []) fun st l =>
    st.setRecord .lace l [wordOf ((s.laceOf l).drive * 2 ^ 28)]

/-- The structure that an image is compared with when it commits (R38): the committed one, unless it ends a span. -/
def State.committedBefore (s : State) (i : Staged) : Struct := if s.ub.isSome && !i.delta then s.unlike i.target else s.st

/-- The span of R2 that a full image ends, and the one that an unsound structure opens (R2, R54). -/
def State.commitSpan (s : State) (old : Struct) (i : Staged) : State :=
  let s := if i.delta then s else s.restoreRules i.target
  if i.sound && old.csdKept i.target && s.ringsSound i.target then s else s.undefinedUse 54

/-- The notices and the completion of a commit (R45, R46, R48). -/
def State.reportCommit (s : State) (p : PendingCommit) (i : Staged) (changed t : Nat) : State :=
  let s := s.notify 0 0x10 changed (i.structId % 65536) (argT t)
  let s := match p.late, p.named with
    | true, some n => s.notify 0 0x11 0 (i.structId % 65536) (argSXs t (((t : Int) - (n : Int)) / 1000))
    | _, _ => s
  match s.longOf (fun o => decide (o = .commit)), p.item with
  | some l, some _ => s.endLong l 0 t
  | _, _ => s

/-- The staged image `i` takes effect at the instant `t` (R48): `start` when sampling begins with it, and with it the hub enters its tandem (R369). -/
def State.applyCommit (s : State) (p : PendingCommit) (i : Staged) (t : Nat) (start : Bool) : State :=
  let old := s.committedBefore i
  let pins := s.alarmPins
  let changed := changedCount old i.target
  let s := s.commitSpan old i
  let s := s.upCfg fun c =>
    { c with committed := i.target, activeId := i.structId, stage := .empty, staged := none, pending := none, commitTime := t, commits := c.commits + 1 }
  let s := s.upCmd fun k => { k with queue := k.queue.map fun c => if c.opcode = 0x12 then { c with late := true } else c }
  let s := (s.unschedule .commit).newEra { start := t, prevEnd := t, st := i.target }
  let s := s.commitTime old
  let s := s.commitRim old
  let left := s.tdm.leftTandem
  let s := (if start then s.enterTandem else s.commitTandem t).markExc
  let s := s.commitLooks old t
  let s := forEach (changedOf old s.st .spoke) s fun s x => s.commitSpoke x t
  let s := forEach (changedOf old s.st .lace) s fun s l => s.laceCommitted old t l
  let s := s.commitDrive old left
  let s := (s.commitSpool old t).commitCoding old
  let s := (s.commitLoads.commitJobs old i t s.jobVersion)
  let s := forEach (changedOf old s.st .trigger) s fun s u => s.commitTrigger u t
  let s := forEach (changedOf old s.st .window) s fun s w => s.commitWindow w
  let s := forEach (changedOf old s.st .queue) s fun s q => s.commitQueue q
  let s := (s.noteRise pins).intr 2
  let s := s.upSnap fun x => { x with mirrorStale := x.mirrorStale || x.image.isSome }
  ((s.markDigest.markSources).reportCommit p i changed t).takeoverRule

/-- The commit instant of a running hub has come (R44, R48); its firmware carries the commit out, halted cores none (R22, R27). Where no tick falls on the instant that AT_TIME names, the commit executes at the first tick
after it, and N_COMMIT_DONE, the result and GLB_COMMIT_TIME carry the named instant (log entry 37, DESIGN CHOICE). -/
def commitInstant (s : State) : State :=
  match s.cfg.stage, s.cfg.pending, s.cfg.staged with
  | .pending, some p, some i =>
    if s.glb.state = .run ∧ s.firmware ∧ s.glb.sampling ∧ p.instant ≤ s.now then s.applyCommit p i p.instant false else s
  | _, _, _ => s

/-- COMMIT_INSTANT (R48). -/
def execCommitInstant (s : State) : Ans := act s commitInstant

end Sys2Proof.Machine
end

