-- ==== Sys2Proof/Machine/Realign.lean ====
section
/-! DEFINITION. The realignment of network time (R81, R82) and what it does to looks, streams and jobs. -/

namespace Sys2Proof.Machine

/-- The instant E and Δ of a realignment that is due (R81): true time has reached E when the hub is behind, network time has when it is ahead. -/
def State.realignDue (s : State) : Option (Nat × Int) :=
  match s.tmb.realign with
  | none => none
  | some (e, d) =>
    let target : Int := ((e * 65536 : Nat) : Int) - (if 0 < d then d else 0)
    if target ≤ s.nowFine then some (e, d) else none

/-- Network time steps to E, or is held at E for |Δ| (R81): the anchor then lies ahead by the ticks of |Δ|. Modulator-clock count 0 is set at E. -/
def State.moveTime (s : State) (e : Nat) (d : Int) : State :=
  let at_ : Int := ((e * 65536 : Nat) : Int)
  let s := s.upTmb fun t => { t with ncoAcc := 0, ncoFrom := if 0 < d then t.counter else t.counter + ceilDiv (d.natAbs * 2 ^ 24) t.rate }
  if 0 < d then s.stepTime (at_ - s.nowFine)
  else s.upTmb fun t => { t with offset := at_, anchor := t.counter + ceilDiv (d.natAbs * 2 ^ 24) t.rate }

/-- A look at a realignment (R81, R102, R109): the synchronising reset, with UNSETTLED for V samples before the old grid's end and U samples
from E on. -/
def State.realignLook (s : State) (stream prevEnd e : Nat) : State :=
  s.syncReset s.st s.st stream (prevEnd * 65536) (e * 65536)

/-- Placeholders that a forward step writes to a stream (R82). -/
def Struct.slipCount (st : Struct) (stream prevEnd e : Nat) : Nat :=
  let k := st.indexAt stream (prevEnd * 65536)
  let k' := st.indexAt stream (e * 65536)
  if k < k' ∧ 0 < k ∧ (k - 1) / 256 = k' / 256 then k' - k else 0

/-- The running look with the shortest period, the lowest stream among equals. -/
def Struct.fastest (st : Struct) : Option Nat :=
  (st.allLooks.filter st.lookRuns).foldl (fun best i => match best with
    | none => some i
    | some b => if st.w3 b < st.w3 i then some i else best) none

/-- The phase of R122 at a clock, in 2^-16 degree. -/
def Struct.sinePhase (st : Struct) (l m : Nat) : Int := st.sineTurn l m * 491520 / max 1 (st.freqDiv l)

/-- At a realignment the sine synthesisers do not jump (R122): each keeps the phase it had, whose difference to the formula from E on, or from the end of
a hold on, is then closed. The old phase runs on while network time is held. -/
def State.keepPhases (s : State) (e : Nat) (d : Int) : State :=
  let half : Int := 11796480
  let hold := if 0 < d then 0 else ceilDiv (d.natAbs * 2 ^ 24) s.tmb.rate
  forEach ((List.range 48).filter (fun l => isSine (s.driveNow l))) s fun s l =>
    let st := s.driveSt l
    let off := st.sinePhase l (s.laceClock + hold * 8 / 125) + s.phaseOff l - st.sinePhase l (e * 65536 / 5120000)
    s.upLaceOf l fun p => { p with phaseOff := (off + half) % (2 * half) - half, phaseFrom := s.tick + hold }

/-- The realignment at E (R81, R82, R282). -/
def State.realignAt (s : State) (e : Nat) (d : Int) : State :=
  let prevEnd := if 0 < d then ((((e * 65536 : Nat) : Int) - d + 65535) / 65536).toNat else e
  let s := ((s.keepPhases e d).moveTime e d).upTmb fun t => { t with realign := none }
  let looks := s.st.allLooks.filter s.st.lookRuns
  let s := s.newEra { start := e, prevEnd := prevEnd, st := s.st }
  let s := forEach looks s fun s i => s.realignLook i prevEnd e
  let s := s.jobsRealigned prevEnd e
  let s := forEach looks s fun s i => s.followEras i
  let ns := d / 65536
  let n := match s.st.fastest with | none => 0 | some i => s.st.slipCount i prevEnd e
  (s.notify 0 0x06 n 0 (argSXs e ns) 1).upTmb fun t => { t with slip := ns, slipCount := satInc t.slipCount }

/-- A realignment takes place when its instant has come; the hardware path carries it out (R22). -/
def realignment (s : State) : State :=
  match s.realignDue with
  | none => s
  | some (e, d) => if s.live ∧ s.glb.sampling then s.realignAt e d else s

/-- REALIGNMENT (R81). -/
def execRealignment (s : State) : Ans := act s realignment

end Sys2Proof.Machine
end

