-- ==== Sys2Proof/Machine/Epoch.lean ====
section
/-! DEFINITION. What happens at every cadence-epoch instant (R56, R63, R74, R76, R108, R157, R210, R306, R329, R371, R372, R411), and the ledger words
of masters and queues (R410) that its checkpoint takes. -/

namespace Sys2Proof.Machine

/-! ### Ledger words (R408, R410, R423) -/

/-- `issued`: the `nseq` of the newest item, 0xFFFF before the first. -/
def Queue.issued (q : Queue) : Nat := (q.posted + 65535) % 65536

/-- `pending_from`: the lowest item still waiting in the chain or in the journal alone, else `issued` + 1 (R410). -/
def Queue.pendingFrom (q : Queue) : Nat :=
  let waits := (q.chain.filter (fun c => !c.replayed)).map (·.nseq) ++ q.waiting.map (·.nseq)
  (waits.foldl min q.posted) % 65536

/-- QUE_LED_NSEQ[q]. -/
def State.ledNseq (s : State) (q : Nat) : Word := wordOf ((s.que q).issued * 65536 + (s.que q).pendingFrom)

/-- QUE_LED_CMD[m]. -/
def State.ledCmd (s : State) (m : Nat) : Word :=
  let r := s.mst (masterOf m)
  wordOf (r.accepted.toNat * 65536 + r.doneThrough.toNat)

/-- The checkpoint of the master and queue records in flash (R411); queues at their reset value are not listed. -/
def State.checkpoint (s : State) (e : Nat) : State :=
  let qs := (List.range 64).foldl (fun (m : SMap Word) q => m.set 0xFFFF0000 q (s.ledNseq q)) []
  s.upLdr fun d => { d with flash := { d.flash with checkpoint := some (s.lnk.rim.session, e, (List.range 4).map s.ledCmd, qs) } }

/-! ### The beacon (R76, R88) -/

/-- `steps_removed` of TMB_STATUS: the value that the selected grandmaster's Announce carries as it is received; R88 does not say whether the hub counts
itself (log entry 42, DESIGN CHOICE). A hub with `source` GNSS is grandmaster (R71). -/
def State.stepsRemoved (s : State) : Nat :=
  if s.st.timeSource = 2 then 0
  else match s.slavePort with
  | some p => match (s.ptpPort p).best with | some (_, a) => a.steps % 256 | none => 0xFF
  | none => 0xFF

/-- The code of `time_state`. -/
def TimeState.code : TimeState → Nat
  | .freeRun => 0 | .acquiring => 1 | .locked => 2 | .holdover => 3

/-- The detail of a beacon: `time_state` [2:0], `upstream` [4:3], `steps_removed` [15:8]. -/
def State.beaconDetail (s : State) : Nat := s.tmb.timeState.code + s.upstream * 8 + s.stepsRemoved * 256

/-! ### The epoch instant -/

/-- CMP_RATIO of every stream over the epoch that ends (R306). -/
def State.closeRatios (s : State) : State :=
  forEach (s.path.streams.map (·.1)) s fun s i => s.upStrm i fun r =>
    { r with ratio := if r.storedBytes = 0 then 0 else satTo 0xFFFF (r.plainBytes * 256 / r.storedBytes), plainBytes := 0, storedBytes := 0 }

/-- What a tandem member sends once per epoch (R371): its digest, a full sweep of positions, its source currents. -/
def State.epochSections (s : State) : State :=
  if s.st.tandemOn then (s.markDigest.markSources).upTdm fun t => { t with sweep := s.sentStreams } else s

/-- The instant E of the epoch in progress has been reached (R76). The anchor moves in every time state (R56), in FREE_RUN too, whose offset and anchor
R58 gives as 0: no reading moves by it (log entry 42, DESIGN CHOICE). The trim of the sample NCO comes from a measurement of the phase: a free value
(R74). -/
def State.epochAt (s : State) (e : Nat) : State :=
  let s := s.reanchor.upTmb fun t => { t with lastEpoch := some e, ncoTrim := Config.unspecified s.freeCount }
  let s := (s.setNco s.tmb.rate).draw
  let s := s.creditEpoch e
  let detail := s.beaconDetail
  let s := (s.notify s.st.beaconQ 0x01 0 detail (argT e)).sendBeacon e detail
  let s := forEach (s.path.looks.map (·.1)) s fun s i => (s.noteShifts i).noteOverloads i
  let s := (s.noteAmbient e).closeRatios
  let s := s.epochSections
  if e / Config.epochNs % 64 = 0 then s.checkpoint e else s

/-- EPOCH_INSTANT: once for each cadence epoch, in every state but RESET. -/
def epochInstant (s : State) : State :=
  let e := s.now / Config.epochNs * Config.epochNs
  if s.glb.state = .reset ∨ s.tmb.lastEpoch = some e then s else s.epochAt e

/-- EPOCH_INSTANT (R76). -/
def execEpochInstant (s : State) : Ans := act s epochInstant

end Sys2Proof.Machine
end

