-- ==== Sys2Proof/Machine/Firmware.lean ====
section
/-! DEFINITION. Firmware images and their checks (R474 to R477), the settings slots (R488, R489), probation (R483) and what a start of an image does
(R26, R482). Cryptographic functions of other standards are uninterpreted (log entry 13). -/

namespace Sys2Proof.Machine

/-! ### Images (R475, R476) -/

/-- The words of 512 header bytes. -/
def headerWords (bs : List Byte) : List Word := (List.range 128).map (fun i => wordOf (leNat ((bs.drop (4 * i)).take 4)))

/-- Word `i` of a header. -/
def FwImage.word (f : FwImage) (i : Nat) : Word := f.header.getD i 0
/-- Header words `i` to `i + n - 1` as bytes. -/
def FwImage.bytes (f : FwImage) (i n : Nat) : List Byte := ((f.header.drop i).take n).flatMap Word.bytes
def FwImage.version (f : FwImage) : Nat := (f.word 3).toNat
def FwImage.epoch (f : FwImage) : Nat := (f.word 2).field 21 16
def FwImage.kind (f : FwImage) : Nat := (f.word 2).field 31 24
def FwImage.bodyLen (f : FwImage) : Nat := (f.word 4).toNat
def FwImage.setFmt (f : FwImage) : Nat := (f.word 5).field 31 16
/-- The magic of a legacy image, "QH96" (R476). -/
def FwImage.legacy (f : FwImage) : Bool := f.word 0 == 0x36394851
/-- The magic of a native image, "QHFW" (R475). -/
def FwImage.native (f : FwImage) : Bool := f.word 0 == 0x57464851

/-- Check 1 of R477. -/
def FwImage.headerOk (f : FwImage) : Bool :=
  (f.native || f.legacy) && (f.word 1).field 31 16 == 1 && (f.word 1).field 15 0 == 0x0768 && (f.word 2).field 15 0 == 512 &&
    decide (f.bodyLen ≤ 16776704) && f.bodyLen % 16 == 0

/-- Check 3: the hash of the public key against the OTP hash of its kind. -/
def FwImage.keyOk (f : FwImage) (fl : Flash) : Bool :=
  if f.legacy then fl.otpLegacy == some (Config.sha256 (f.bytes 25 16)) else fl.otpNative == some (Config.sha384 (f.bytes 25 24))

/-- Check 4: the signature over the hash of header bytes 0 to 195. -/
def FwImage.signatureOk (f : FwImage) : Bool :=
  if f.legacy then Config.ecdsaP256 (f.bytes 25 16) (Config.sha256 (f.bytes 0 49)) (f.bytes 49 16)
  else Config.ecdsaP384 (f.bytes 25 24) (Config.sha384 (f.bytes 0 49)) (f.bytes 49 24)

/-- Checks 1 to 5 of R477: the completion code of the first that fails (R480). -/
def FwImage.headerCheck (f : FwImage) (legacyEn : Bool) (fl : Flash) : Option Nat :=
  if !f.headerOk then some 0x60
  else if f.legacy && !legacyEn then some 0x65
  else if !f.keyOk fl then some 0x62
  else if !f.signatureOk then some 0x61
  else if !f.legacy && decide (f.epoch < fl.otpCounter) then some 0x63
  else if f.legacy && decide (f.version < fl.legacyFloor) then some 0x64
  else none

/-- A text under the key stream of AES-256-GCM: encryption and decryption are the same (log entry 13). -/
def gcmCrypt (key nonce text : List Byte) : List Byte :=
  ((List.range text.length).zip text).map fun e => e.2 ^^^ Config.gcmStream key nonce e.1

/-- A byte string of exactly `n` bytes. -/
def exactly (n : Nat) (bs : List Byte) : List Byte := (List.range n).map fun i => bs.getD i 0

/-- Where an image as it is stored keeps nonce and tag (R475, R476): first words. -/
def FwImage.nonceAt (f : FwImage) : Nat := if f.legacy then 73 else 6
def FwImage.tagAt (f : FwImage) : Nat := if f.legacy then 76 else 9

/-- Check 6 on an image as it is stored: the digest of the ciphertext, of a legacy image of its plaintext (R475, R476). -/
def FwImage.digestOk (f : FwImage) (fl : Flash) : Bool :=
  if f.legacy then Config.sha256 (gcmCrypt (fl.otpKey.getD []) (f.bytes f.nonceAt 3) f.body) == f.bytes 13 8
  else Config.sha384 f.body == f.bytes 13 12

/-- Check 7 on an image as it is stored: the GCM tag under the image key, with header bytes 0 to 23 as additional data (R475); R476 does not say which
data a legacy image's tag takes, the model takes the same (log entry 13). -/
def FwImage.tagOk (f : FwImage) (fl : Flash) : Bool :=
  match fl.otpKey with
  | none => false
  | some k => exactly 16 (Config.gcmTag k (f.bytes f.nonceAt 3) (f.bytes 0 6) f.body) == f.bytes f.tagAt 4

/-- Checks 6 and 7: the completion code of the first that fails. -/
def FwImage.bodyCheck (f : FwImage) (fl : Flash) : Option Nat :=
  if !f.digestOk fl then some 0x68 else if !f.tagOk fl then some 0x69 else none

/-- An image as the loader stores it: a legacy one with its body encrypted under the image key with a nonce of the loader's own, and that nonce and the tag
in header words 73 to 79 (R476). -/
def FwImage.stored (f : FwImage) (fl : Flash) (nonce : List Byte) : FwImage :=
  if !f.legacy then f
  else
    let key := fl.otpKey.getD []
    let n := exactly 12 nonce
    let body := gcmCrypt key n f.body
    let own := headerWords (n ++ exactly 16 (Config.gcmTag key n (f.bytes 0 6) body))
    { header := (List.range 128).map (fun i => if 73 ≤ i ∧ i < 80 then own.getD (i - 73) 0 else f.word i), body := body }

/-! ### Settings (R488, R489) -/

def settingsAddr (w : Word) : Nat := w.field 31 20
def settingsLegacy (w : Word) : Bool := w.flag 19
def settingsBootEn (w : Word) : Bool := w.flag 18
def settingsBootSlot (w : Word) : Nat := w.field 17 14
def settingsProbation (w : Word) : Nat := w.field 10 0

/-- Of the slots that qualify, the one with the highest write count; A of two equal ones. -/
def Flash.bestSetting (f : Flash) (ok : SettingsSlot → Bool) : Option Bool :=
  match ok f.setA, ok f.setB with
  | false, false => none
  | true, false => some false
  | false, true => some true
  | true, true => some (decide (f.setA.writes < f.setB.writes))

/-- The valid slot with the highest write count. -/
def Flash.newestSetting (f : Flash) : Option Bool := f.bestSetting (fun x => x.valid)

/-- The settings word of the newest header, or the defaults. -/
def State.headerSettings (s : State) : Word :=
  match s.ldr.flash.newestSetting with | none => 0xFFF0003C | some b => (s.ldr.flash.setting b).settings

/-- Firmware initialisation selects its settings (R488): the newest valid slot of its own format, or defaults written into the slot other than
the newest valid one, with N_SETTINGS_DEFAULTED. -/
def State.selectSettings (s : State) (fmt : Nat) : State :=
  let f := s.ldr.flash
  match f.bestSetting (fun x => x.valid && x.format == fmt) with
  | some b => s.upLdr fun l => { l with settings := (f.setting b).settings, setSlotB := b, defaulted := false }
  | none =>
    let old := f.newestSetting
    let b := match old with | none => false | some o => !o
    let session := match old with | none => s.lnk.rim.session | some o => ((f.setting o).session + 1) % 65536
    let writes := match old with | none => 1 | some o => (f.setting o).writes + 1
    let s := (s.upFlash fun f => f.putSetting b (settingsSlot fmt session writes 0xFFF0003C)).upLdr fun l => { l with settings := 0xFFF0003C, setSlotB := b, defaulted := true }
    (s.upRim fun r => { r with session := session }).notify 0 0x97 0 (boolBit b 0) (argSX s.now fmt)

/-! ### A start of an image (R26, R482, R483) -/

/-- Probation of the running image begins, unless the image is committed or was not activated by `UPDATE_END` (R483). -/
def State.beginProbation (s : State) : State :=
  let f := s.ldr.flash
  let on := f.onProbation && !f.committedImage
  s.upLdr fun l =>
    { l with probationFrom := if on then some s.tick else none, probationRan := 0, probationS := if on then settingsProbation l.settings * 60 else 0
             probationFailed := false, watchdogEvents := 0, committed := f.committedImage }

/-- The time of the probation in RUN, in ticks: what has passed of the present RUN from tick `t` on, and the RUNs before it. -/
def State.probationRun (s : State) (t : Nat) : Nat := s.ldr.probationRan + (if s.glb.state = .run then s.tick - t else 0)

/-- The image in the slot becomes the running one. -/
def State.takeImage (s : State) : State :=
  s.upLdr fun l => { l with image := l.flash.slot, activating := true, fresh := l.fresh || l.flash.imageNew }

/-- RUN is entered (R79, R471, R482): the probation counts from here, and a new image's first entry posts N_IMAGE_ACTIVE. -/
def State.enterRun (s : State) : State :=
  let s := (s.enter .run).upLdr fun l => { l with probationFrom := l.probationFrom.map (fun _ => s.tick) }
  if s.ldr.fresh then
    let f := s.ldr.image.getD { header := [], body := [] }
    (s.upLdr fun l => { l with fresh := false, flash := { l.flash with imageNew := l.flash.imageNew && decide (l.image ≠ l.flash.slot) } }).notify
      0 0x93 0 f.epoch (argSX s.now f.version)
  else s

end Sys2Proof.Machine
end

