-- ==== Sys2Proof/Machine/Regs.lean ====
section
/-! DEFINITION. What every register reads (R495 to R501 and the register tables of the chapters), by its offset in the 64 MiB space: mirrors of the
committed structure (R53), 32-bit registers with their reserved bits, and 64-bit registers. -/

namespace Sys2Proof.Machine

/-! ### Mirrors (R53, R497) -/

/-- Element of an array at an offset from its first byte: the index, if below `n`, and the byte within the stride. -/
def elem (o stride n : Nat) : Option (Nat × Nat) := if o / stride < n then some (o / stride, o % stride) else none

/-- The word of a record of `len` words from byte `first` of an array element on. -/
def mirrorWords (k : RecKind) (e : Option (Nat × Nat)) (first len base : Nat) : Option (RecKind × Nat × Nat) :=
  match e with
  | none => none
  | some (i, b) => if first ≤ b ∧ b < first + 4 * len then some (k, i, base + (b - first) / 4) else none

/-- The words of a look sequence: word 0, and the three words of each entry from 0x10 on. -/
def mirrorSeq (k : RecKind) (e : Option (Nat × Nat)) : Option (RecKind × Nat × Nat) :=
  (mirrorWords k e 0 1 0).orElse fun _ => mirrorWords k e 0x10 48 1

/-- Engine words and job words of F_REDUCER. -/
def mirrorEngine (e : Option (Nat × Nat)) : Option (RecKind × Nat × Nat) :=
  match e with
  | none => none
  | some (i, b) =>
    if b < 0x10 then some (.reducer, i, b / 4)
    else if 0x100 ≤ b ∧ b < 0x900 ∧ (b - 0x100) % 0x80 < 0x40 then some (.reducer, i, 4 + 16 * ((b - 0x100) / 0x80) + (b - 0x100) % 0x80 / 4)
    else none

/-- The record and the word that a register mirrors. -/
def mirrorAt (o : Nat) : Option (RecKind × Nat × Nat) :=
  if o < 0x30000 then none
  else if o < 0x30008 then some (.tandem, 0, (o - 0x30000) / 4)
  else if 0x40000 ≤ o ∧ o < 0x40800 then mirrorWords .window (elem (o - 0x40000) 0x20 64) 0 3 0
  else if 0x61000 ≤ o ∧ o < 0x61010 then some (.rim, 0, (o - 0x61000) / 4)
  else if 0x70000 ≤ o ∧ o < 0x71000 then mirrorWords .queue (elem (o - 0x70000) 0x40 64) 0 1 0
  else if 0x80000 ≤ o ∧ o < 0x81000 then mirrorWords .lace (elem (o - 0x80000) 0x40 48) 0 6 0
  else if 0x90000 ≤ o ∧ o < 0x92000 then mirrorWords .trigger (elem (o - 0x90000) 0x80 64) 0 20 0
  else if 0xA0000 ≤ o ∧ o < 0xB0000 then mirrorEngine (elem (o - 0xA0000) 0x1000 16)
  else if 0xC0000 ≤ o ∧ o < 0xD0000 then mirrorWords .spoke (elem (o - 0xC0000) 0x20 768) 0 2 0
  else if 0x100000 ≤ o ∧ o < 0x140000 then mirrorSeq .lookSeq (elem (o - 0x100000) 0x100 768)
  else if 0x140000 ≤ o ∧ o < 0x200000 then mirrorSeq .auxSeq (elem (o - 0x140000) 0x100 48)
  else if 0x200000 ≤ o ∧ o < 0x210000 then mirrorWords .chain (elem (o - 0x200000) 0x10 4096) 0 4 0
  else if 0x240000 ≤ o ∧ o < 0x280000 then mirrorWords .coef (elem (o - 0x240000) 4 65536) 0 1 0
  else if 0x300000 ≤ o ∧ o < 0x380000 then mirrorWords .stall (elem (o - 0x300000) 0x80 4096) 0 4 0
  else if 0x380000 ≤ o ∧ o < 0x3A0000 then mirrorWords .stream (elem (o - 0x380000) 8 16384) 0 2 0
  else if 0x400000 ≤ o ∧ o < 0x440000 then mirrorWords .compress (elem (o - 0x400000) 0x10 16384) 0 1 0
  else if 0x800000 ≤ o ∧ o < 0xB40000 then mirrorWords .switch (elem (o - 0x800000) 0x40 52224) 0 10 0
  else none

/-! ### Words of the register tables -/

/-- What a 32-bit register reads, with its reserved bits. -/
structure RegView where
  value : Nat
  rsv : Nat := 0
  deriving DecidableEq, Repr, Inhabited

/-- A 32-bit register without reserved bits. -/
def view (v : Nat) : Option RegView := some { value := v }
/-- A 32-bit register with reserved bits. -/
def viewR (v rsv : Nat) : Option RegView := some { value := v, rsv := rsv }
/-- A signed field. -/
def sgn (w : Nat) (i : Int) : Nat := unsignedOf w i

/-- The code of `stage_state` (R43). -/
def StageState.code : StageState → Nat
  | .empty => 0 | .loading => 1 | .staged => 2 | .pending => 3

/-- GLB_STAGE_STATUS (R43). -/
def Cfg.stageStatus (c : Cfg) : Nat :=
  c.badFrame % 65536 * 2 ^ 16 + c.lastResult % 256 * 2 ^ 8 + c.loadMaster % 4 * 2 ^ 4
    + (match c.staged with | none => 0 | some i => boolBit i.delta 3 + boolBit i.sampling 2) + c.stage.code

/-- GLB_COMMIT_TIME (R43): the full time of the pending commit, or of the last one. Before sampling begins a commit takes effect no earlier than
that (R52); the boot structure's instant reads 0 while it is not chosen (log entry 41). -/
def State.commitTimeReg (s : State) : Nat :=
  match s.cfg.stage, s.cfg.pending with
  | .pending, some p =>
    if s.glb.sampling then p.instant
    else match s.tmb.startAt with
      | some e => if p.atSamplingStart ∨ p.instant < e then e else p.instant
      | none => if p.atSamplingStart then 0 else p.instant
  | _, _ => s.cfg.commitTime

/-- GLB_STATE (R499). -/
def Glb.word (g : Glb) : Nat :=
  boolBit g.sampling 17 + boolBit g.safeBoot 16 + g.warmRestarts % 256 * 2 ^ 8 + g.prev.code * 2 ^ 4 + g.state.code

/-- `gm_class` of TMB_STATUS (R88). -/
def State.gmClass (s : State) : Nat :=
  match s.slavePort with
  | some p => match (s.ptpPort p).best with | some (_, a) => a.gmClass | none => s.ownClass
  | none => s.ownClass

/-- TMB_STATUS (R88). -/
def State.tmbStatus (s : State) : Nat :=
  s.stepsRemoved % 256 * 2 ^ 24 + s.gmClass % 256 * 2 ^ 16 + boolBit s.tmb.todValid 11 + boolBit s.tmb.ppsValid 10 + s.upstream * 2 ^ 8
    + boolBit s.tmb.slew.isSome 7 + boolBit s.tmb.realign.isSome 6 + boolBit s.tmb.pllLock 5 + s.tmb.timeState.code

/-- TMB_HOLDOVER_MS (R87). -/
def State.holdoverTime (s : State) : Nat :=
  match s.tmb.holdoverFrom with | none => s.tmb.holdoverMs | some k => satTo 0xFFFFFFFF ((s.tick - k) / Config.ticksPerMs)

/-- A signed time in 2^-16 ns as signed ns, saturating at ±(2^31 − 1). -/
def nsWord (d : Int) : Nat := sgn 32 (clampInt (d / 65536) (-(2 ^ 31 - 1)) (2 ^ 31 - 1))

/-- LDR_STATUS (R493). The checks of `UPDATE_END` and its end are one step of the model, so that `session` never reads 2. -/
def Ldr.status (l : Ldr) : Nat :=
  (match l.session with | none => 0 | some x => 2 ^ 30 + x.owner % 4 * 2 ^ 28 + boolBit x.legacy 27)
    + boolBit l.flash.slotValid 26 + boolBit (l.probationFrom.isSome && !l.probationFailed) 25 + boolBit l.probationFailed 24 + boolBit l.committed 23
    + boolBit l.defaulted 22 + boolBit l.setSlotB 21 + l.recoveryCause % 16 * 2 ^ 16 + l.lastResult % 256 * 2 ^ 8

/-- LDR_RECEIVED (R492). -/
def Ldr.received (l : Ldr) : Nat :=
  match l.session with | none => (l.buffers.get [] l.filler).length | some x => x.header.length + x.body.length

/-- LDR_PROBATION_LEFT (R492), in s. -/
def State.probationLeft (s : State) : Nat :=
  match s.ldr.probationFrom with
  | none => 0
  | some t => if s.ldr.probationFailed then 0 else ceilDiv (s.ldr.probationS * Config.ticksPerS - s.probationRun t) Config.ticksPerS

/-- LDR_OTP (R492). -/
def Flash.otpWord (f : Flash) : Nat :=
  f.otpCounter % 64 * 2 ^ 26 + boolBit f.otpKey.isSome 25 + boolBit f.otpNative.isSome 24 + boolBit f.otpLegacy.isSome 23

/-- TDM_STATUS (R380). -/
def State.tdmStatus (s : State) : Nat :=
  let t := s.tdm
  t.role.code * 2 ^ 28 + t.partnerRole % 16 * 2 ^ 24 + t.partnerState % 16 * 2 ^ 20 + boolBit t.witToken 19 + boolBit t.witLink 18
    + boolBit t.witRim 17 + boolBit t.witExc 16 + boolBit t.digestOk 15 + boolBit (decide ((s.lane 2).state = .active)) 14
    + boolBit (decide ((s.lane 3).state = .active)) 13

/-- HLT_STATUS[w] (R469). -/
def State.windowStatus (s : State) (w : Nat) : Nat :=
  let x := s.window w
  (if !s.st.winEnable w then 0 else if x.latched then 2 else 1) * 2 ^ 30
    + satTo 255 (x.history.filter (fun t => decide (s.tick < t + ms (s.st.winMs w)))).length * 2 ^ 16 + x.lastings % 65536

/-- Code of a bank's commanded state (R445). -/
def BankState.code : BankState → Nat
  | .on => 0 | .retain => 1 | .off => 2 | .failed => 3

/-- MEM_BANK_PWR[j] and MEM_BANK_AWAKE[j] (R445). -/
def State.bankPowers (s : State) (j : Nat) : Nat := (List.range 16).foldl (fun n k => n + (s.bank (16 * j + k)).power.code * 4 ^ k) 0
def State.banksAwake (s : State) (j : Nat) : Nat :=
  (List.range 32).foldl (fun n k => n + boolBit ((s.bank (32 * j + k)).awake && decide ((s.bank (32 * j + k)).power ≠ .failed)) k) 0

/-- The scrub in progress: whether it is of the central store (R446). -/
def State.scrubbing (s : State) : Option Bool :=
  (s.longOf (fun o => match o with | .scrub .. => true | _ => false)).map (fun l => match l.op with | .scrub store _ _ => store | _ => false)

/-- MEM_SCRUB_POS (R445): the next address of the running scrub, which has gone some way through its range. -/
def State.scrubNext (s : State) : Nat :=
  match s.longOf (fun o => match o with | .scrub .. => true | _ => false) with
  | some l => match l.op with | .scrub _ start n => (start + min n (64 * Config.scrubAt l.since s.tick)) % 2 ^ 34 | _ => s.mem.scrubPos
  | none => s.mem.scrubPos

/-- MEM_SELFTEST (R447). -/
def Mem.selftestWord (m : Mem) : Nat :=
  boolBit m.stDone 31 + boolBit m.stPass 30 + m.stStep % 8 * 2 ^ 27 + m.stUnit % 256 * 2 ^ 16 + m.stFailed % 256 * 2 ^ 8 + m.stWeak % 256

/-- LNK_STATE[x] (R352). -/
def State.laneWord (s : State) (x : Nat) : Nat :=
  let l := s.lane x
  l.state.code * 2 ^ 28 + boolBit l.rate10 27 + boolBit l.fec 26 + boolBit l.fixed 25 + boolBit l.rxReady 24 + boolBit l.partnerReady 23
    + boolBit l.blockLock 22 + boolBit l.fecLock 21 + boolBit l.hiBer 20 + l.module % 4 * 2 ^ 18
    + (match l.backoffUntil with | none => 0 | some k => satTo 2047 (ceilDiv (k - s.tick) Config.ticksPerMs))

/-- LNK_PRBS_ERR[x] (R350, R351): in loop 1 the checker has the hub's own bits, otherwise those of the partner, which are free (log entry 47). -/
def State.prbsWord (s : State) (x : Nat) : Nat :=
  let l := s.lane x
  if l.state = .test ∧ l.test.field 27 26 ≠ 0 ∧ l.test.field 31 30 ≠ 1 then
    let r := Config.linePrbs x l.prbsFrom s.tick
    boolBit r.1 31 + satTo 0x7FFFFFFF (l.prbsErr + r.2)
  else boolBit l.prbsLock 31 + l.prbsErr

/-- LNK_ADDR (R334) and LNK_RIM_STATUS (R335). -/
def Rim.addrWord (r : Rim) : Nat := r.addr % 4096 * 2 ^ 20 + r.addrSrc % 4 * 2 ^ 18 + boolBit r.conflict 17 + r.session % 65536
def Rim.statusWord (r : Rim) : Nat :=
  boolBit r.e.reach 31 + boolBit r.w.reach 30 + boolBit r.bulkWest 29 + boolBit r.isolated 28 + boolBit r.e.preOn 27 + boolBit r.w.preOn 26
    + boolBit r.miswired 25 + r.e.hops % 256 * 2 ^ 8 + r.w.hops % 256

/-- QUE_STATUS[q] (R403). -/
def Queue.status (c : Queue) : Nat :=
  c.chain.length % 64 * 2 ^ 26 + boolBit (!c.waiting.isEmpty) 25 + (if c.posted = 0 then 0 else c.issued)

/-- QUE_REPLAY[q] (R425): `go` clears when the replay ends. -/
def Queue.replayWord (c : Queue) : Nat := c.replayFrom % 65536 * 2 ^ 16 + boolBit c.replay.isSome 15 + boolBit c.replay.isSome 14

/-- QUE_LED_MST[m] (R424). -/
def MasterRec.ledgerWord (r : MasterRec) : Nat :=
  r.expected.toNat * 2 ^ 16 + boolBit r.based 15 + boolBit r.lapsed 14 + boolBit r.tornRead 13 + boolBit r.tornWrite 12

/-- QUE_SNAP_STATUS (R425). -/
def Snap.status (x : Snap) : Nat :=
  x.snaps % 65536 * 2 ^ 16 + boolBit (x.request.isSome || x.taking.isSome) 15 + boolBit x.valid 14 + boolBit x.cowFull 13 + x.master % 4 * 2 ^ 11
    + ceilDiv x.kept.length 64 % 2048

/-- LACE_STATUS[l] (R137). In a role that does not drive, `drive`, the drive code in force, is OFF (log entry 43, DESIGN CHOICE): no drive is in force. -/
def State.laceStatus (s : State) (l : Nat) : Nat :=
  let p := s.laceOf l
  p.drive % 16 * 2 ^ 28 + boolBit p.ramp.isSome 27 + boolBit p.reduced.isSome 26 + boolBit p.limit 25 + boolBit p.tripped 24 + boolBit (p.highZ || !s.lacesRun) 23
    + boolBit p.senseLow 22 + boolBit p.vexcHold 21 + ampScale (p.amp s.tick)

/-- The window end of a record of the unit lies ahead (R233). -/
def State.capturing (s : State) (u : Nat) : Bool :=
  s.allRecords.any (fun r => r.2.unit == u && decide (r.2.state ≠ .released) && decide (s.fine < r.2.winEnd))

/-- The window end of the unit's running record stands at the cap of EXTEND (R221, R233). -/
def State.atCap (s : State) (u : Nat) : Bool :=
  decide (s.st.trPolicy u = 1) && (match s.runningRecord u with
    | none => false
    | some r => decide (r.2.point + fineUs (s.st.trExtCapUs u) ≤ r.2.winEnd))

/-- TRG_STATUS[u] (R233). -/
def State.unitStatus (s : State) (u : Nat) : Nat :=
  let x := s.trig u
  (if !s.st.trEnable u then 0 else match x.freewheel with | .none => 1 | .time _ true => 1 | _ => 2) * 2 ^ 30 + boolBit (s.capturing u) 29
    + boolBit (s.atCap u) 28 + (List.range 8).foldl (fun n k => n + boolBit (x.held.any (fun h => h.1 == k)) (8 + k)) 0

/-- TRG_IO_STATUS (R232). -/
def State.ioStatus (s : State) : Nat :=
  (List.range 8).foldl (fun n p =>
    let out := s.st.isOutPin p
    n + boolBit out (8 + p) + boolBit (if out then decide (s.path.trigOut.get 0 p ≠ 0) else bitOf s.path.trigIn p) p) 0

/-- RED_STATUS[e] (R285). -/
def State.engineStatus (s : State) (e : Nat) : Nat :=
  s.st.jobs e * 2 ^ 27 + boolBit (s.engine e).codePending 26
    + boolBit (s.engine e).fault 25

/-- Watermark `i` of a stall: whether the level stands at or above it. -/
def State.waterLive (s : State) (k i : Nat) : Bool :=
  (decide (s.st.stallKind k = 1) || decide (s.st.stallKind k = 2)) && decide (s.st.mark k i ≤ s.level k)

/-- STL_STATUS[k] (R263). -/
def State.stallStatus (s : State) (k : Nat) : Nat :=
  let w := s.stall k
  s.st.stallKind k * 2 ^ 30 + boolBit (s.waterLive k 0) 29 + boolBit (s.waterLive k 1) 28 + boolBit w.warn.latched 27 + boolBit w.crit.latched 26
    + boolBit w.overrun 25 + (List.range 4).foldl (fun n i => n + boolBit (w.marks.getD i {}).valid (21 + i)) 0

/-- STL_RECORDS[k] (R262). -/
def Stall.recordsWord (w : Stall) : Nat :=
  satTo 65535 (w.records.filter (fun r => decide (r.state ≠ .released))).length * 2 ^ 16
    + satTo 65535 (w.records.filter (fun r => decide (r.state = .opened))).length

/-- STL_FREE_PAGES (R236, R262): pages in no stall. -/
def Struct.freePages (st : Struct) : Nat :=
  261120 - ((List.range 4096).filter (fun k => decide (st.stallKind k = 1) || decide (st.stallKind k = 2))).foldl (fun n k => n + st.pages k) 0

/-- CAL_SPOKE_FLAGS[s] (R466). -/
def State.calFlags (s : State) (i : Nat) : Nat :=
  boolBit (s.cal.skewFail.contains i) 31 + boolBit (s.cal.refFailSpoke.contains i) 30 + (s.failedSlots i).foldl (fun n g => n + 2 ^ g) 0

/-- CAL_STATUS (R467). -/
def Cal.status (c : Cal) : Nat :=
  boolBit c.done 31 + boolBit c.recal.isSome 30 + c.failDies % 64 * 2 ^ 24 + c.failSpokes % 1024 * 2 ^ 14 + c.failLaces % 64 * 2 ^ 8

/-! ### 32-bit registers by block -/

def State.glbReg (s : State) (o : Nat) : Option RegView :=
  match o with
  | 0x00 => viewR (if Config.gradeA1E then 0x0768A110 else 0x0768A100) 0xF
  | 0x04 => viewR s.glb.word 0xFFFC0000
  | 0x08 => view 0x300C2040
  | 0x0C => view 0x84001010
  | 0x18 => viewR s.glb.intStatus.toNat 0xFFFFF000
  | 0x1C => viewR s.glb.intEnable.toNat 0xFFFFF000
  | 0x20 => viewR s.cfg.stageStatus 0xC0
  | 0x40 => view s.glb.scratch.toNat
  | _ => none

def State.tmbReg (s : State) (o : Nat) : Option RegView :=
  match o with
  | 0x10 => viewR (s.nowFine % 65536).toNat 0xFFFF0000
  | 0x20 => viewR (s.tmb.offset % 65536).toNat 0xFFFF0000
  | 0x40 => viewR s.tmbStatus 0xF018
  | 0x44 => view (nsWord s.tmb.offsetEst)
  | 0x48 => view (sgn 32 (clampInt (s.tmb.portE.mpd / 256) (-(2 ^ 31)) (2 ^ 31 - 1)))
  | 0x4C => view (sgn 32 (clampInt (s.tmb.portW.mpd / 256) (-(2 ^ 31)) (2 ^ 31 - 1)))
  | 0x50 => view s.holdoverTime
  | 0x68 => view s.tmb.slipCount
  | 0x6C => view s.tmb.outliers
  | _ => none

def State.ldrReg (s : State) (o : Nat) : Option RegView :=
  match o with
  | 0x00 => viewR s.ldr.status 0x1000FF
  | 0x04 => viewR s.ldr.settings.toNat 0x3800
  | 0x08 => view (match s.ldr.image with | none => 0 | some f => f.version)
  | 0x0C => view (if s.ldr.flash.slotValid then (match s.ldr.flash.slot with | none => 0 | some f => f.version) else 0)
  | 0x10 => view s.ldr.received
  | 0x14 => view s.probationLeft
  | 0x18 => viewR s.ldr.flash.otpWord 0x7FFFFF
  | 0x1C => view s.ldr.flash.legacyFloor
  | _ => none

def State.tdmReg (s : State) (o : Nat) : Option RegView :=
  match o with
  | 0x08 => viewR s.tdmStatus 0x1FFF
  | 0x0C => view s.tdm.takeovers
  | 0x20 => view s.tdm.disagree
  | 0x24 => view s.tdm.hbLost
  | _ => none

def State.hltReg (s : State) (o : Nat) : Option RegView :=
  if o < 0x800 then
    let w := o / 0x20
    match o % 0x20 with
    | 0x0C => viewR (s.windowStatus w) 0x3F000000
    | 0x10 => view (s.window w).events
    | 0x14 => viewR (s.window w).lastInst 0xFFFF0000
    | _ => none
  else if 0x804 ≤ o ∧ o < 0x830 ∧ o % 4 = 0 then view (s.hlt.classes.get 0 ((o - 0x800) / 4))
  else none

def State.memReg (s : State) (o : Nat) : Option RegView :=
  if o < 0x800 then
    let u := s.memUnit (o / 0x10)
    match o % 0x10 with
    | 0x0 => view u.ce
    | 0x4 => viewR u.ceAddr 0xFE000000
    | 0x8 => view u.ue
    | 0xC => viewR u.ueAddr 0xFE000000
    | _ => none
  else if o < 0x840 then
    let u := s.memUnit (128 + (o - 0x800) / 0x20)
    match o % 0x20 with | 0x0 => view u.ce | 0x4 => view u.ue | _ => none
  else if 0x900 ≤ o ∧ o < 0x960 ∧ o % 4 = 0 then view (s.mem.conflicts.get 0 ((o - 0x900) / 4))
  else if 0x980 ≤ o ∧ o < 0x9A0 ∧ o % 4 = 0 then view (s.bankPowers ((o - 0x980) / 4))
  else if 0x9A0 ≤ o ∧ o < 0x9B0 ∧ o % 4 = 0 then view (s.banksAwake ((o - 0x9A0) / 4))
  else
    match o with
    | 0x9C0 => viewR (boolBit s.scrubbing.isSome 31 + boolBit (s.scrubbing == some true) 30) 0x3FFFFFFF
    | 0x9D0 => viewR s.mem.selftestWord 0x7000000
    | _ => none

def State.lnkReg (s : State) (o : Nat) : Option RegView :=
  if o < 0x100 then
    let x := o / 0x40
    let l := s.lane x
    let r := s.rimPort (portOfLane x)
    match o % 0x40 with
    | 0x00 => viewR (s.laneWord x) 0x3F800
    | 0x04 => viewR (tapsWord l.taps) 0xFF000000
    | 0x08 => if x < 2 then viewR (tapsWord l.fixedTaps) 0xFF000000 else none
    | 0x0C => viewR l.partner 0xFF000000
    | 0x10 => view l.retries
    | 0x14 => view l.symErr
    | 0x18 => view l.fecCorr
    | 0x1C => viewR l.test.toNat 0xFFFFFF
    | 0x20 => view (s.prbsWord x)
    | 0x24 => if x < 2 then view l.optStatus.toNat else none
    | 0x28 => if x < 2 then view r.credit else none
    | 0x2C => if x < 2 then view r.badFrames else none
    | 0x30 => if x < 2 then view r.cut else none
    | 0x34 => if x < 2 then view r.fwdDrop else none
    | _ => none
  else
    match o with
    | 0x1010 => viewR s.lnk.rim.addrWord 0x10000
    | 0x1014 => viewR s.lnk.rim.statusWord 0x1FF0000
    | 0x1018 => view s.lnk.rim.resent
    | 0x101C => view s.lnk.rim.dupDrop
    | 0x1020 => view s.lnk.rim.ctlLost
    | _ => none

/-- QUE_CMD_ registers of a master (R403, R423). -/
def State.masterReg (s : State) (m b : Nat) : Option RegView :=
  let r := s.mst (masterOf m)
  match b with
  | 0x10 => viewR (r.credit % 256 * 2 ^ 24 + r.cplQ % 64 * 2 ^ 16) 0xC0FFFF
  | 0x14 => view (r.inFlight % 256 * 2 ^ 24 + r.refusals % 2 ^ 24)
  | 0x18 => view (s.ledCmd m).toNat
  | 0x1C => viewR r.ledgerWord 0xFFF
  | 0x20 => view r.gaps
  | 0x24 => view (r.leaseMs % 65536 * 2 ^ 16 + r.lapses % 65536)
  | 0x28 => view r.prevCmd.toNat
  | _ => if m < 2 ∧ b < 0x10 ∧ b % 4 = 0 then view 0 else none

/-- The QUE_ block, without QUE_POP, whose reads act (R403). -/
def State.queReg (s : State) (o : Nat) : Option RegView :=
  if o < 0x1000 then
    let q := o / 0x40
    match o % 0x40 with
    | 0x04 => viewR (s.que q).status 0x1FF0000
    | 0x18 => view (s.que q).ce
    | 0x1C => view (s.ledNseq q).toNat
    | 0x20 => viewR (s.que q).replayWord 0x3FFF
    | 0x24 => view (s.que q).prevNseq.toNat
    | _ => none
  else if o < 0x1100 then s.masterReg ((o - 0x1000) / 0x40) (o % 0x40)
  else if 0x2000 ≤ o ∧ o < 0x2800 then
    let g := s.ring ((o - 0x2000) / 0x20)
    match o % 0x20 with
    | 0x10 => viewR g.cfg.toNat 0xFF0000
    | 0x14 => view (g.cons % 2 ^ 32)
    | 0x18 => view (g.prod % 2 ^ 32)
    | _ => none
  else
    match o with
    | 0x3000 => view s.crier.acts
    | 0x3004 => viewR s.crier.lastAct 0xFFC00000
    | 0x3010 => view s.snap.status
    | _ => none

def State.laceReg (s : State) (o : Nat) : Option RegView :=
  if o < 0xC00 then
    let l := o / 0x40
    let p := s.laceOf l
    match o % 0x40 with
    | 0x18 => viewR (s.laceStatus l) 0x1F0000
    | 0x1C => view (sgn 32 (p.sensed (s.st.senseAvg l)).1)
    | 0x20 => view (sgn 32 (p.sensed (s.st.senseAvg l)).2)
    | 0x24 => view p.pdiss
    | 0x28 => view p.ocEvents
    | _ => none
  else
    match o with
    | 0x1000 => view s.lace.vexcCfg.toNat
    | 0x1004 => view (s.lace.target % 65536 * 65536 + s.lace.measured % 65536)
    | 0x1008 => view s.lace.pdissTotal
    | _ => none

def State.trgReg (s : State) (o : Nat) : Option RegView :=
  if o < 0x2000 then
    let u := o / 0x80
    let x := s.trig u
    match o % 0x80 with
    | 0x50 => viewR (s.unitStatus u) 0xFFF00FF
    | 0x54 => view x.fired
    | 0x58 => view x.counted
    | 0x5C => view x.suppressed
    | 0x68 => viewR (x.lastPoint % 65536) 0xFFFF0000
    | _ => none
  else if o = 0x2000 then viewR s.ioStatus 0xFFFF0000
  else none

def State.redReg (s : State) (o : Nat) : Option RegView :=
  if o < 0x10000 then
    let e := o / 0x1000
    let b := o % 0x1000
    match b with
    | 0x10 => viewR (s.engineStatus e) 0x1FFFFFF
    | 0x14 => view (s.st.engineLoad e)
    | 0x18 => view (s.engine e).faults
    | 0x1C => view (s.engine e).code
    | _ => if 0x100 ≤ b ∧ b < 0x900 ∧ b % 0x80 = 0x48 then view (s.ovfNow (16 * e + (b - 0x100) / 0x80)) else none
  else if o = 0x10000 then view s.st.stateTotal
  else none

def State.spkReg (s : State) (o : Nat) : Option RegView :=
  if o < 0x6000 then
    let i := o / 0x20
    let p := s.spoke i
    match o % 0x20 with
    | 0x08 => viewR (s.spkStatus i) 0xF00000FF
    | 0x0C => view p.shifts
    | 0x10 => view p.owEvents
    | 0x14 => view p.clips
    | _ => none
  else none

/-- LOOK_STATUS and LOOK_OVERLOADS of a sequence, spokes first. -/
def State.lookReg (s : State) (o : Nat) : Option RegView :=
  let seq := if o < 0x40000 then o / 0x100 else 768 + (o - 0x40000) / 0x100
  let there := decide (if o < 0x40000 then seq < 768 else seq < 816)
  match o % 0x100 with
  | 0x04 => if there then viewR (s.lookStatus seq) 0x1F0F0000 else none
  | 0x08 => if there then view (s.modu seq).overloads else none
  | _ => none

def State.chnReg (s : State) (o : Nat) : Option RegView :=
  if 0x10000 ≤ o ∧ o < 0x14000 ∧ o % 4 = 0 then view (s.path.chainSats.get 0 ((o - 0x10000) / 4))
  else if 0x14000 ≤ o ∧ o < 0x14C00 ∧ o % 4 = 0 then viewR (sgn 16 (s.skewApplied ((o - 0x14000) / 4))) 0xFFFF0000
  else
    match o with
    | 0x15000 => view s.path.macTotal
    | 0x15004 => viewR (s.path.macPeak % 65536 * 65536 + s.path.macSlice % 64) 0xFFC0
    | 0x15008 => view s.path.rankLoad
    | _ => none

def State.stlReg (s : State) (o : Nat) : Option RegView :=
  if o < 0x80000 then
    let k := o / 0x80
    let w := s.stall k
    match o % 0x80 with
    | 0x10 => viewR (s.stallStatus k) 0x1FFFFF
    | 0x14 => viewR (s.level k) 0xFFFC0000
    | 0x18 => viewR (s.pinLoad k) 0xFFFC0000
    | 0x1C => view w.recordsWord
    | 0x68 => viewR w.warn.peak 0xFFFC0000
    | 0x6C => viewR w.crit.peak 0xFFFC0000
    | 0x70 => view w.overruns
    | 0x74 => view w.refused
    | _ => none
  else if o = 0xA0000 then view s.st.freePages
  else none

def State.cmpReg (s : State) (o : Nat) : Option RegView :=
  if o < 0x40000 then
    let i := o / 0x10
    let r := s.strm i
    match o % 0x10 with
    | 0x4 => viewR r.ratio 0xFFFF0000
    | 0x8 => view r.keys
    | 0xC => view r.escapes
    | _ => none
  else if o = 0x40000 then viewR s.path.lastMismatch 0x3FFFF
  else if 0x100000 ≤ o ∧ o % 4 = 0 then
    let w := o % 0x40 / 4
    viewR (s.ctxWord ((o - 0x100000) / 0x40) w).toNat (if w = 0 then 0xE0FE else if 7 ≤ w then 0xFFFFFFFF else 0)
  else none

def State.calReg (s : State) (o : Nat) : Option RegView :=
  if o < 0xC0000 then
    let i := o / 0x400
    let b := o % 0x400
    let g := b % 0x80 / 4
    let x := s.calSlot i g
    if b % 4 ≠ 0 then none
    else if b < 0x200 ∧ g < 25 then
      match b / 0x80 with
      | 0 => viewR (codesWord (s.trimNow i g)) 0xF000FC00
      | 1 => view x.ratio.toNat
      | 2 => view x.offsetRes.toNat
      | _ => view x.gainRes.toNat
    else if 0x200 ≤ b ∧ b < 0x214 then
      let k := s.cal.skew.get (0, 0) (skewKey i ((b - 0x200) / 4))
      view (sgn 16 k.2 * 65536 + sgn 16 k.1)
    else if b = 0x220 then viewR (s.calFlags i) 0x3E000000
    else none
  else if o < 0xC0180 then
    let l := (o - 0xC0000) / 8
    let pair (x : Int × Int) : Nat := sgn 16 x.1 * 65536 + sgn 16 x.2
    match o % 8 with
    | 0 => view (pair (s.cal.laceAmp.get (0, 0) l))
    | 4 => view (pair (s.cal.laceAux.get (0, 0) l))
    | _ => none
  else if 0xC0200 ≤ o ∧ o < 0xC0218 ∧ o % 4 = 0 then
    let r := s.cal.refs.get (0, false) ((o - 0xC0200) / 4)
    viewR (boolBit r.2 31 + sgn 16 r.1) 0x7FFF0000
  else
    match o with
    | 0xC0300 => viewR s.cal.status 0xFF
    | 0xC0304 => viewR (match s.cal.recal with | none => 0 | some i => 2 ^ 31 + i % 1024) 0x7FFFFC00
    | _ => none

def State.swtReg (s : State) (o : Nat) : Option RegView :=
  if o < 0x330000 then
    match o % 0x40 with
    | 0x28 => view (s.levelShown (o / 0x40)).toNat
    | 0x2C => view (s.sw (o / 0x40)).changes
    | _ => none
  else if 0x340000 ≤ o ∧ o < 0x341980 ∧ o % 4 = 0 then view (s.switchWord ((o - 0x340000) / 4))
  else
    match o with
    | 0x350000 => view s.path.alarmCfg.toNat
    | 0x350004 => viewR s.alarmPins 0xFFFF0000
    | _ => none

/-- A 32-bit register that is no mirror, at its offset (R495, R497); none at an offset that no such register occupies. -/
def State.reg32 (s : State) (o : Nat) : Option RegView :=
  if o < 0x10000 then s.glbReg o
  else if o < 0x20000 then s.tmbReg (o - 0x10000)
  else if o < 0x30000 then s.ldrReg (o - 0x20000)
  else if o < 0x40000 then s.tdmReg (o - 0x30000)
  else if o < 0x50000 then s.hltReg (o - 0x40000)
  else if o < 0x60000 then s.memReg (o - 0x50000)
  else if o < 0x70000 then s.lnkReg (o - 0x60000)
  else if o < 0x80000 then s.queReg (o - 0x70000)
  else if o < 0x90000 then s.laceReg (o - 0x80000)
  else if o < 0xA0000 then s.trgReg (o - 0x90000)
  else if o < 0xC0000 then s.redReg (o - 0xA0000)
  else if o < 0xD0000 then s.spkReg (o - 0xC0000)
  else if 0x100000 ≤ o ∧ o < 0x200000 then s.lookReg (o - 0x100000)
  else if 0x200000 ≤ o ∧ o < 0x300000 then s.chnReg (o - 0x200000)
  else if 0x300000 ≤ o ∧ o < 0x400000 then s.stlReg (o - 0x300000)
  else if 0x400000 ≤ o ∧ o < 0x600000 then s.cmpReg (o - 0x400000)
  else if 0x600000 ≤ o ∧ o < 0x700000 then s.calReg (o - 0x600000)
  else if 0x800000 ≤ o ∧ o < 0xC00000 then s.swtReg (o - 0x800000)
  else none

/-! ### 64-bit registers -/

/-- A 64-bit register: its value and its reserved bits. -/
def wide (v : Nat) : Option RegView := some { value := v % 2 ^ 64 }
def wideR (v rsv : Nat) : Option RegView := some { value := v % 2 ^ 64, rsv := rsv }

/-- The block number that a stall's newest, oldest or acknowledged position names. -/
def seqOfBlock (b : Option HeldBlock) : Nat := match b with | none => 0 | some x => x.seq

/-- A 64-bit register by the offset of its low half. -/
def State.reg64 (s : State) (o : Nat) : Option RegView :=
  if o < 0x10000 then
    match o with
    | 0x10 => wide Config.chipId.toNat
    | 0x28 => wide s.cfg.activeId
    | 0x30 => wide (match s.cfg.staged with | none => 0 | some i => i.structId)
    | 0x38 => wide s.commitTimeReg
    | _ => none
  else if o < 0x20000 then
    match o - 0x10000 with
    | 0x00 => wide s.tmb.counter
    | 0x08 => wide s.now
    | 0x18 => wide (sgn 64 (s.tmb.offset / 65536))
    | 0x28 => wide s.tmb.anchor
    | 0x30 => wideR (s.tmb.rate % 2 ^ 48) 0xFFFF000000000000
    | 0x38 => wide (s.now / Config.epochNs)
    | 0x58 => wide s.tmb.ppsTime
    | 0x60 => wide (sgn 64 s.tmb.slip)
    | _ => none
  else if 0x30000 ≤ o ∧ o < 0x40000 then
    match o - 0x30000 with
    | 0x10 => wide s.tdm.lastTakeover
    | 0x18 => wide s.tdm.activeSince
    | _ => none
  else if 0x40000 ≤ o ∧ o < 0x40800 then if o % 0x20 = 0x18 then wide (s.window ((o - 0x40000) / 0x20)).last else none
  else if 0x50800 ≤ o ∧ o < 0x50840 then
    let u := s.memUnit (128 + (o - 0x50800) / 0x20)
    match o % 0x20 with | 0x08 => wideR u.ceAddr 0xFFFFFFFC00000007 | 0x10 => wideR u.ueAddr 0xFFFFFFFC00000007 | _ => none
  else if o = 0x509C8 then wideR s.scrubNext 0xFFFFFFFC00000000
  else if 0x72000 ≤ o ∧ o < 0x72800 then
    let g := s.ring ((o - 0x72000) / 0x20)
    match o % 0x20 with | 0x00 => wide g.base | 0x08 => wide g.wb | _ => none
  else if o = 0x73008 then wide s.crier.prevTime
  else if o = 0x73018 then wide s.snap.tick
  else if o = 0x73020 then wide s.snap.time
  else if 0x90000 ≤ o ∧ o < 0x92000 then if o % 0x80 = 0x60 then wide ((s.trig ((o - 0x90000) / 0x80)).lastPoint / 65536) else none
  else if 0xA0000 ≤ o ∧ o < 0xB0000 then
    let b := o % 0x1000
    if 0x100 ≤ b ∧ b < 0x900 ∧ b % 0x80 = 0x40 then wide (s.path.jobLast.get 0 (16 * ((o - 0xA0000) / 0x1000) + (b - 0x100) / 0x80)) else none
  else if 0x300000 ≤ o ∧ o < 0x380000 then
    let w := s.stall ((o - 0x300000) / 0x80)
    match o % 0x80 with
    | 0x20 => wideR w.newestSeq 0xFFFF000000000000
    | 0x28 => wideR (seqOfBlock w.oldestHeld) 0xFFFF000000000000
    | 0x30 => wideR w.ackedSeq 0xFFFF000000000000
    | 0x38 => wideR (w.marks.getD 0 {}).seq 0xFFFF000000000000
    | 0x40 => wideR (w.marks.getD 1 {}).seq 0xFFFF000000000000
    | 0x48 => wideR (w.marks.getD 2 {}).seq 0xFFFF000000000000
    | 0x50 => wideR (w.marks.getD 3 {}).seq 0xFFFF000000000000
    | 0x58 => wide w.warn.time
    | 0x60 => wide w.crit.time
    | _ => none
  else if o = 0x6C0308 then wide s.cal.doneTick
  else none

/-- The 64-bit register that one of whose halves lies at a word offset: the offset of its low half. -/
def State.wideAt (s : State) (o : Nat) : Option Nat :=
  if (s.reg64 o).isSome then some o
  else if 4 ≤ o ∧ (s.reg64 (o - 4)).isSome then some (o - 4)
  else none

end Sys2Proof.Machine
end

