-- ==== Sys2Proof/Machine/Access.lean ====
section
/-! DEFINITION. Reads and writes of the register space (R11, R495, R496): the 64-bit hold rule (R416, R417), the scratchpad aliases, the snapshot
aliases (R420, R421), SPI frames (R398), refused PCIe accesses (R496), `READ_REG` and `WRITE_REG` (R389). -/

namespace Sys2Proof.Machine

/-! ### Masters and torn accesses -/

/-- The port of the scratchpad through which a master's host reaches it (R428). -/
def portOfMaster : Master → Nat
  | .spi => 22 | .pcie => 21 | .rim => 20 | .tandem => 20

/-- A hold lasts 10 µs (R416). -/
def State.holdLive (s : State) (t : Nat) : Bool := decide (s.tick ≤ t + us 10)

/-- `torn_read` and `torn_write` of a master (R416), with the interrupt bit `torn` (R501). -/
def State.tornRead (s : State) (m : Master) : State := (s.upMst m fun r => { r with tornRead := true }).intr 9
def State.tornWrite (s : State) (m : Master) : State := (s.upMst m fun r => { r with tornWrite := true }).intr 9

/-! ### 64-bit registers (R416) -/

/-- The value of the 64-bit register whose low half lies at an offset. -/
def State.wideValue (s : State) (lo : Nat) : Nat := match s.reg64 lo with | none => 0 | some v => v.value

/-- A low-half read captures the whole value, and for TMB_NOW its fraction (R87). -/
def lowRead (m : Master) (lo : Nat) (s : State) : State × Word :=
  let v := s.wideValue lo
  (s.upMst m fun r =>
    { r with readHold := some (lo, v, s.tick), fracHold := if lo = 0x10008 then some (s.nowFine % 65536).toNat else r.fracHold }, wordOf v)

/-- A high-half read: the held half, which releases the hold, or the live half with `torn_read`. -/
def highRead (m : Master) (lo : Nat) (s : State) : State × Word :=
  match (s.mst m).readHold with
  | some (o, v, t) =>
    if o = lo ∧ s.holdLive t then (s.upMst m fun r => { r with readHold := none }, wordOf (v / 2 ^ 32))
    else (s.tornRead m, wordOf (s.wideValue lo / 2 ^ 32))
  | none => (s.tornRead m, wordOf (s.wideValue lo / 2 ^ 32))

/-- A written value sets reserved bits of a 64-bit register (R12). -/
def State.rsvWide (s : State) (lo v : Nat) : State :=
  match s.reg64 lo with
  | none => s
  | some x => if v &&& x.rsv = 0 then s else s.undefinedUse 12

/-- Another value is written to a register of an enabled ring (R404). -/
def State.ringRewrite (s : State) (r lo v : Nat) : State :=
  if (s.ring r).enabled ∧ v ≠ s.wideValue lo then s.undefinedUse 404 else s

/-- A master's place in the order in which writes to one register at one tick take effect: SPI, PCIe, rim (R496). -/
def writeOrder : Master → Nat
  | .spi => 0 | .pcie => 1 | .rim => 2 | .tandem => 3

/-- A write that takes effect later has already reached this register at this tick (R496). -/
def State.writeBehind (s : State) (m : Master) (o : Nat) : Bool :=
  decide (s.glb.wrote.1 = s.tick) && s.glb.wrote.2.any (fun e => e.1 == o && decide (writeOrder m < e.2))

/-- A register has been written at this tick. -/
def State.noteWrite (s : State) (m : Master) (o : Nat) : State :=
  s.upGlb fun g => { g with wrote := (s.tick, (o, writeOrder m) :: (if g.wrote.1 = s.tick then g.wrote.2 else [])) }

/-- A 64-bit register takes a value at one tick: QUE_RING_BASE and QUE_RING_WB, whose change while the ring is enabled is undefined (R404); every
other one is read-only. -/
def writeWide (m : Master) (lo v : Nat) (s : State) : State :=
  let s := s.rsvWide lo v
  if 0x72000 ≤ lo ∧ lo < 0x72800 ∧ s.writeBehind m lo = false then
    let r := (lo - 0x72000) / 0x20
    ((s.noteWrite m lo).ringRewrite r lo v).upRing r fun g => if lo % 0x20 = 0 then { g with base := v } else { g with wb := v }
  else s

/-- A low-half write is held. A half held before it is not followed by its high half: it is discarded, torn. -/
def lowWrite (m : Master) (lo : Nat) (v : Word) (s : State) : State :=
  let s := if (s.mst m).writeHold.isSome then s.tornWrite m else s
  s.upMst m fun r => { r with writeHold := some (lo, v, s.tick) }

/-- A high-half write takes effect with the held low half, or alone with `torn_write`. -/
def highWrite (m : Master) (lo : Nat) (v : Word) (s : State) : State :=
  match (s.mst m).writeHold with
  | some (o, low, t) =>
    if o = lo ∧ s.holdLive t then writeWide m lo (v.toNat * 2 ^ 32 + low.toNat) (s.upMst m fun r => { r with writeHold := none })
    else (writeWide m lo (v.toNat * 2 ^ 32 + s.wideValue lo % 2 ^ 32) s).tornWrite m
  | none => (writeWide m lo (v.toNat * 2 ^ 32 + s.wideValue lo % 2 ^ 32) s).tornWrite m

/-- A half of a 64-bit register is addressed: the row of R416 acts on it, else nothing (log entry 2). -/
def onHalf (o : Nat) (low : Bool) (s : State) (f : Nat → State → State) : State :=
  match s.wideAt o with
  | none => s
  | some lo => if s.glb.state ≠ .reset ∧ (decide (o = lo) == low) then f lo s else s

/-- A low-half read, or with `both` the single PCIe access that covers both halves (R417): both at one tick, past the holds. The fraction of TMB_NOW is
captured by either (R87; log entry 34, DEDUCED). -/
def halfRead (m : Master) (both : Bool) (lo : Nat) (s : State) : State :=
  let r := lowRead m lo s
  if both then
    let v := s.wideValue lo
    (s.upMst m fun x => { x with fracHold := (r.1.mst m).fracHold }).emit (.readData m [wordOf v, wordOf (v / 2 ^ 32)])
  else r.1.emit (.readData m [r.2])

/-- HOLD_HIGH_READ (R416). -/
def execHoldHighRead (m : Fin 3) (offset : Nat) (s : State) : Ans :=
  act s fun s => onHalf offset false s fun lo s =>
    let r := highRead (masterOf m.val) lo s
    r.1.emit (.readData (masterOf m.val) [r.2])

/-- HOLD_LOW_WRITE (R416). -/
def execHoldLowWrite (m : Fin 3) (offset : Nat) (value : Word) (s : State) : Ans :=
  act s fun s => onHalf offset true s (lowWrite (masterOf m.val) · value)

/-- HOLD_HIGH_WRITE (R416). -/
def execHoldHighWrite (m : Fin 3) (offset : Nat) (value : Word) (s : State) : Ans :=
  act s fun s => onHalf offset false s (highWrite (masterOf m.val) · value)

/-- 10 µs have passed: a read hold is released, a held low half is discarded with `torn_write` (R416). -/
def holdExpiry (m : Master) (write : Bool) (s : State) : State :=
  if write then
    match (s.mst m).writeHold with
    | none => s
    | some (_, _, t) => if s.holdLive t then s else (s.upMst m fun r => { r with writeHold := none }).tornWrite m
  else
    match (s.mst m).readHold with
    | none => s
    | some (_, _, t) => if s.holdLive t then s else s.upMst m fun r => { r with readHold := none }

/-- HOLD_EXPIRY (R416). -/
def execHoldExpiry (m : Fin 3) (write : Bool) (s : State) : Ans := act s (holdExpiry (masterOf m.val) write)

/-! ### The snapshot aliases (R420, R421) -/

/-- The state whose registers an alias reads: the copied blocks. -/
def State.asOf (s : State) (i : SnapImage) : State :=
  { s with glb := i.glb, tmb := i.tmb, cfg := i.cfg, path := i.path, lace := i.lace, crier := i.crier, cmd := i.cmd, host := i.host, mem := i.mem
           cal := i.cal, hlt := i.hlt, lnk := i.lnk, tdm := i.tdm, ldr := i.ldr
           snap := { s.snap with request := none, taking := some default, kept := [], lost := [], cowFull := false } }

/-- The register word of a word of a wide or 32-bit register, without side effects. -/
def State.plainWord (s : State) (o : Nat) : Word :=
  match s.wideAt o with
  | some lo => wordOf (if o = lo then s.wideValue lo else s.wideValue lo / 2 ^ 32)
  | none => match s.reg32 o with | none => 0 | some v => wordOf v.value

/-- QUE_POP[q][w] as an offset of the register space. -/
def popAt (o : Nat) : Option (Nat × Nat) :=
  if 0x70000 ≤ o ∧ o < 0x71000 ∧ 8 ≤ o % 0x40 ∧ o % 0x40 < 0x18 then some ((o - 0x70000) / 0x40, (o % 0x40 - 8) / 4) else none

/-- The words of an item. -/
def Item.word (i : Item) (w : Nat) : Word := match w with | 0 => i.w0 | 1 => i.w1 | 2 => i.w2 | _ => i.w3

/-- A free word, and whether it is poisoned (log entry 4). -/
def freeRead (s : State) (poisoned : Bool) : State × Word × Bool :=
  (s.draw, if poisoned then 0 else Config.unspecified s.freeCount, poisoned)

/-- The copy of a register is read from banks 112 to 119 (R421, R431). Where in them a register lies the manual does not say, so which of their wrong cells
the read covers, if any, is a free choice (log entry 26). -/
def imageRead (v : Word) (s : State) : State × Word × Bool :=
  let bad := (s.mem.pad.filter (fun e => decide (0x1C00000 ≤ e.1) && decide (e.1 < 0x1E00000) && (decide (e.2.flips ≠ 0) || e.2.poison))).map (·.1)
  let s := s.contend 23
  if bad.isEmpty then (s, v, false)
  else
    match bad[(Config.unspecified s.freeCount : Nat) % (bad.length + 1)]? with
    | none => (s.draw, v, false)
    | some a =>
      let r := s.draw.readByte 23 a
      (r.1, if r.2.2 then 0 else v, r.2.2)

/-- A read of the register alias: mirrors live, poisoned from the next commit on; CMP_CTX live, poisoned where written since; the rest from the
copy, without side effects. Between the tick and the completion, and before the first image, the data is unspecified. -/
def aliasRead (m : Master) (o : Nat) (s : State) : State × Word × Bool :=
  match s.snap.image with
  | none => freeRead s false
  | some i =>
    if s.snap.taking.isSome then freeRead s false
    else
      match mirrorAt o with
      | some (k, n, w) => if s.snap.mirrorStale then (s, 0, true) else (s, s.st.word k n w, false)
      | none =>
        if 0x500000 ≤ o ∧ o < 0x600000 then
          if s.snap.ctxStale.contains ((o - 0x500000) / 0x40) then (s, 0, true) else (s, s.plainWord o, false)
        else
          match popAt o with
          | some (q, w) =>
            let old := s.asOf i
            let first := match (old.que q).head (fun x => decide (x.drain = .spi)) with | none => 0xFFFFFFFF | some x => x.item.w0
            imageRead (if w = 0 then first else old.popWord m q w) s
          | none => imageRead ((s.asOf i).plainWord o) s

/-- A read of the tally alias at offset `o` of the region (R420, R421): a line that changed after the preservation area was full is poisoned, a preserved one
is read from there, any other live; a poisoned cell makes the read poisoned (R433). What a job's state holds at an address has no stated layout. -/
def tallyRead (o : Nat) (s : State) : State × Word × Bool :=
  match s.snap.image with
  | none => freeRead s false
  | some i =>
    if s.snap.taking.isSome then freeRead s false
    else if s.snap.lost.contains (o / 64) then (s, 0, true)
    else
      let n := s.snap.kept.idxOf (o / 64)
      let a := 0x400000 + o
      let r := (s.contend 23).readPad 23 (if n < s.snap.kept.length then keptAt n + o % 64 else a) 4
      let live := (wordsOfBytes r.2.1).headD 0
      (r.1, if r.2.2 then 0 else if a < (s.asOf i).st.reducerEnd then Config.tallyWord s.snap.tick a else live, r.2.2)

/-! ### A word of the register space -/

/-- The scratchpad address that an offset of BAR0 reaches (R495). -/
def padAlias (o : Nat) : Option Nat :=
  if 0x1000000 ≤ o ∧ o < 0x1400000 then some (o - 0x1000000)
  else if 0x1400000 ≤ o ∧ o < 0x1600000 then some (o - 0x1400000 + 0x1E00000)
  else none

/-- A read of one word of the scratchpad by a master's host (R431). -/
def padWordRead (m : Master) (a : Nat) (s : State) : State × Word × Bool :=
  let r := s.padRead (portOfMaster m) a 4
  (r.1, if r.2.2 then 0 else (wordsOfBytes r.2.1).headD 0, r.2.2)

/-- A read of a word of the register blocks, with its side effects. -/
def regRead (m : Master) (o : Nat) (s : State) : State × Word :=
  match s.wideAt o with
  | some lo => if o = lo then lowRead m lo s else highRead m lo s
  | none =>
    match mirrorAt o with
    | some (k, i, w) => (s, s.st.word k i w)
    | none =>
      match popAt o with
      | some (q, w) =>
        let s := if w = 0 then queuePop m q s else s
        (s, s.popWord m q w)
      | none => if o = 0x10010 then (s, wordOf ((s.mst m).fracHold.getD 0)) else (s, s.plainWord o)

/-- A read of one word of the register space (R495, R496): the word, and whether it is poisoned. -/
def wordRead (m : Master) (o : Nat) (s : State) : State × Word × Bool :=
  if o < 0x1000000 then
    let r := regRead m o s
    (r.1, r.2, false)
  else
    match padAlias o with
    | some a => padWordRead m a s
    | none =>
      if 0x2000000 ≤ o ∧ o < 0x3000000 then aliasRead m (o - 0x2000000) s
      else if 0x3000000 ≤ o ∧ o < 0x4000000 then tallyRead (o - 0x3000000) s
      else (s, 0, false)

/-- A word of the MSI-X table and pending-bit array of BAR4 (R399; log entry 34): the array begins at 0x8000. -/
def Glb.vectorByte (g : Glb) (b : Nat) : Word :=
  if b < 0x410 then g.vectorWord (b / 4)
  else if 0x8000 ≤ b ∧ b < 0x8010 then wordOf (g.msixPending.foldl (fun n v => n + (if v / 32 = (b - 0x8000) / 4 then 2 ^ (v % 32) else 0)) 0)
  else 0

/-- A word of the MSI-X table is written; a vector that is pending goes out when its mask is cleared. -/
def vectorWrite (b : Nat) (v : Word) (s : State) : State :=
  if 0x410 ≤ b then s
  else
    let s := s.upGlb fun g => { g with msixTable := g.msixTable.set (if b / 4 % 4 = 3 then 1 else 0) (b / 4) (if b / 4 % 4 = 3 then v &&& 1 else v) }
    if b / 4 % 4 = 3 ∧ v.flag 0 = false ∧ s.glb.msixPending.contains (b / 16) = true then
      (s.upGlb fun g => { g with msixPending := eraseFirst (fun k => k == b / 16) g.msixPending }).sendVector (b / 16)
    else s

/-- Where BAR4 begins behind the register space in the offsets of the rows (log entry 34, DESIGN CHOICE), and its end (R399). -/
def bar4 : Nat := 2 ^ 26
def bar4End : Nat := 2 ^ 26 + 2 ^ 16

/-- A PCIe read that covers two 32-bit words: both at one tick, the lower first (R496, R399). -/
def pairRead (m : Master) (o : Nat) (s : State) : State :=
  if bar4 ≤ o then s.emit (.readData m [s.glb.vectorByte (o - bar4), s.glb.vectorByte (o - bar4 + 4)])
  else
    let a := wordRead m o s
    let b := wordRead m (o + 4) a.1
    b.1.emit (if a.2.2 || b.2.2 then .poisonedRead m else .readData m [a.2.1, b.2.1])

/-- HOLD_LOW_READ (R416, R417). With `both` at a place where no 64-bit register lies it is the 8-byte access of R496. -/
def execHoldLowRead (m : Fin 3) (offset : Nat) (both : Bool) (s : State) : Ans :=
  actIf (Instr.wf (.holdLowRead m offset both)) s fun s =>
    if both ∧ s.wideAt offset = none then
      occurs s (decide (s.glb.state ≠ .reset) && decide (offset % 8 = 0) && decide (offset < bar4End)) (pairRead (masterOf m.val) offset)
    else onHalf offset true s (halfRead (masterOf m.val) both)

/-- Reserved bits of a 32-bit register written non-zero (R12). -/
def State.reservedWrite (s : State) (o : Nat) (v : Word) : State :=
  match s.reg32 o with | none => s | some x => if v.toNat &&& x.rsv = 0 then s else s.undefinedUse 12

/-- LDR_SETTINGS is written (R489): a length of probation or an address out of its range is an undefined use (R494). -/
def settingsWrite (v : Word) (s : State) : State :=
  let s := if settingsProbation v = 0 ∨ 1440 < settingsProbation v ∨ settingsAddr v = 0 then s.undefinedUse 494 else s
  s.upLdr fun l => { l with settings := v &&& 0xFFFFC7FF }

/-- LACE_VEXC_CFG is written (R138): a field out of its range is an undefined use (R139). -/
def vexcWrite (v : Word) (s : State) : State :=
  let s := if v.field 31 16 < 3000 ∨ 24000 < v.field 31 16 ∨ v.field 15 0 < 500 ∨ 4000 < v.field 15 0 then s.undefinedUse 139 else s
  s.upLace fun b => { b with vexcCfg := v }

/-- A write of the QUE_ block by a master (R383, R384, R401, R403, R412, R416, R423). -/
def queWrite (m : Master) (o : Nat) (v : Word) (s : State) : State :=
  if o < 0x1000 then if o % 0x40 = 0x20 then replayStart (o / 0x40) v s else s
  else if o < 0x1100 then
    let t := (o - 0x1000) / 0x40
    match o % 0x40 with
    | 0x00 => if t < 2 then cmdInWord m t 0 v s else s
    | 0x04 => if t < 2 then cmdInWord m t 1 v s else s
    | 0x08 => if t < 2 then cmdInWord m t 2 v s else s
    | 0x0C => if t < 2 then cmdItemWrite m t v s else s
    | 0x10 => cmdCfgWrite t v s
    | 0x1C => s.upMst (masterOf t) fun r => { r with tornRead := r.tornRead && !v.flag 13, tornWrite := r.tornWrite && !v.flag 12 }
    | 0x24 => leaseWrite t v s
    | _ => s
  else if 0x2000 ≤ o ∧ o < 0x2800 then
    let r := (o - 0x2000) / 0x20
    match o % 0x20 with
    | 0x10 => if v.flag 31 then ringEnable r v s else ringDisable r v s
    | 0x14 => ringConsume r v s
    | _ => s
  else s

/-- A write of a lane register (R348, R349). -/
def laneWrite (x r : Nat) (v : Word) (s : State) : State :=
  if r = 0x08 then (if x < 2 then fixedTaps x v s else s)
  else if r = 0x1C then testWrite x v s
  else s

/-- What a write of a 32-bit register does, by its offset. -/
def regEffect (m : Master) (o : Nat) (v : Word) (s : State) : State :=
  if o = 0x18 then intStatusWrite v s
  else if o = 0x1C then intEnableWrite v s
  else if o = 0x40 then s.upGlb fun g => { g with scratch := v }
  else if o = 0x20004 then settingsWrite v s
  else if 0x60000 ≤ o ∧ o < 0x60100 then laneWrite ((o - 0x60000) / 0x40) (o % 0x40) v s
  else if o = 0x61010 then s.upRim fun r => { r with conflict := r.conflict && !v.flag 17 }
  else if 0x70000 ≤ o ∧ o < 0x80000 then queWrite m (o - 0x70000) v s
  else if o = 0x81000 then vexcWrite v s
  else if 0xA0000 ≤ o ∧ o < 0xB0000 ∧ o % 0x1000 = 0x10 then
    s.upEngine ((o - 0xA0000) / 0x1000) fun e => { e with fault := e.fault && !v.flag 25 }
  else if 0x300000 ≤ o ∧ o < 0x380000 ∧ o % 0x80 = 0x10 then rearmWater ((o - 0x300000) / 0x80) v s
  else if 0x500000 ≤ o ∧ o < 0x600000 ∧ o % 4 = 0 then s.setCtx ((o - 0x500000) / 0x40) (o % 0x40 / 4) v
  else if o = 0xB50000 then alarmCfg v s
  else s

/-- The 32-bit registers that keep the value written to them and act on it alone. -/
def keepsValue (o : Nat) : Bool :=
  o == 0x1C || o == 0x40 || o == 0x20004 || o == 0x60008 || o == 0x60048 || (decide (0x60000 ≤ o ∧ o < 0x60100) && o % 0x40 == 0x1C)
    || (decide (0x71000 ≤ o ∧ o < 0x71100) && (o % 0x40 == 0x10 || o % 0x40 == 0x24)) || (decide (0x72000 ≤ o ∧ o < 0x72800) && o % 0x20 == 0x10)
    || o == 0x81000 || (decide (0x500000 ≤ o ∧ o < 0x600000) && o % 4 == 0) || o == 0xB50000

/-- A write of a 32-bit register that is no mirror (R11): read-only registers and unoccupied offsets ignore it (R496). A value that a later master's write of
the same tick has replaced does not stand. -/
def regWrite (m : Master) (o : Nat) (v : Word) (s : State) : State :=
  let s := s.reservedWrite o v
  if !keepsValue o then regEffect m o v s
  else if s.writeBehind m o then s
  else regEffect m o v (s.noteWrite m o)

/-- A write of one word of the register space (R495, R496). A mirror outside a commit is an undefined use (R53); the snapshot aliases ignore writes
(R420). -/
def wordWrite (m : Master) (o : Nat) (v : Word) (s : State) : State :=
  if o < 0x1000000 then
    match s.wideAt o with
    | some lo => if o = lo then lowWrite m lo v s else highWrite m lo v s
    | none => if (mirrorAt o).isSome then s.undefinedUse 53 else regWrite m o v s
  else
    match padAlias o with
    | some a => s.padWrite (portOfMaster m) a (leBytes 4 v.toNat)
    | none => if bar4 ≤ o then vectorWrite (o - bar4) v s else s

/-! ### PCIe and the register rows -/

/-- An 8-byte access (R417, R496): both halves of a 64-bit register at one tick, or two words, the lower first. -/
def pairWrite (m : Master) (o : Nat) (low high : Word) (s : State) : State :=
  if o < 0x1000000 ∧ s.wideAt o = some o then writeWide m o (high.toNat * 2 ^ 32 + low.toNat) s
  else wordWrite m (o + 4) high (wordWrite m o low s)

/-- REGISTER_WRITE (R11): with `high` the access is 8 bytes long. -/
def registerWrite (m : Master) (o : Nat) (v : Word) (high : Option Word) (s : State) : State :=
  match high with
  | none => wordWrite m o v s
  | some h => pairWrite m o v h s

/-- REGISTER_WRITE (R11, R417, R496). Master 3 is the partner, which writes no register. -/
def execRegisterWrite (m : Master) (offset : Nat) (value : Word) (high : Option Word) (s : State) : Ans :=
  actIf (Instr.wf (.registerWrite m offset value high)) s fun s =>
    occurs s (decide (s.glb.state ≠ .reset) && decide (m ≠ .tandem)) (registerWrite m offset value high)

/-- A BAR0 access that is not 4 or 8 bytes long and naturally aligned (R496). -/
def malformed (offset length : Nat) : Bool := !((length == 4 || length == 8) && offset % length == 0)

/-- PCIE_MALFORMED_ACCESS (R496): Unsupported Request, nothing changes. -/
def execPcieMalformedAccess (offset length : Nat) (write : Bool) (s : State) : Ans :=
  actIf (Instr.wf (.pcieMalformedAccess offset length write)) s fun s =>
    occurs s (malformed offset length && decide (s.glb.state ≠ .reset)) fun s => s.emit .unsupportedRequest

/-! ### SPI frames (R398) -/

/-- One word written over SPI: the register space, the scratchpad, or an address outside both. -/
def spiWriteWord (a : Nat) (v : Word) (s : State) : State :=
  if a < 0x4000000 then wordWrite .spi a v s
  else if a < 0x6000000 then s.padWrite 22 (a - 0x4000000) (leBytes 4 v.toNat)
  else s.upHost fun h => { h with spiUnmapped := true }

/-- The words of a WRITE frame, the address rising by 4. -/
def spiWriteWords : List Word → Nat → State → State
  | [], _, s => s
  | v :: r, a, s => spiWriteWords r (a + 4) (spiWriteWord a v s)

/-- A WRITE frame: a misaligned address is refused with ALIGN (R398, R404); a word cut short is discarded. -/
def spiWrite (addr : Word) (words : List Word) (cutShort : Bool) (s : State) : State :=
  let s := if cutShort ∨ addr.toNat % 4 ≠ 0 then s.upHost fun h => { h with spiAlign := true } else s
  if addr.toNat % 4 ≠ 0 then s else spiWriteWords words addr.toNat s

/-- SPI_WRITE (R398). -/
def execSpiWrite (addr : Word) (words : List Word) (cutShort : Bool) (s : State) : Ans :=
  act s fun s => occurs s (s.glb.state ≠ .reset) (spiWrite addr words cutShort)

/-- One word read over SPI. -/
def spiReadWord (a : Nat) (s : State) : State × Word :=
  if a < 0x6000000 then
    let r := if a < 0x4000000 then wordRead .spi a s else padWordRead .spi (a - 0x4000000) s
    if r.2.2 then (r.1.upHost fun h => { h with spiPoison := true }, 0) else (r.1, r.2.1)
  else (s.upHost fun h => { h with spiUnmapped := true }, 0)

/-- `n` words of a READ frame. -/
def spiReadWords : Nat → Nat → State → State × List Word
  | 0, _, s => (s, [])
  | n + 1, a, s =>
    let r := spiReadWord a s
    let q := spiReadWords n (a + 4) r.1
    (q.1, r.2 :: q.2)

/-- A READ frame: a misaligned address is refused with ALIGN, and reads 0. -/
def spiRead (addr : Word) (count : Nat) (s : State) : State :=
  if addr.toNat % 4 ≠ 0 then (s.upHost fun h => { h with spiAlign := true }).emit (.readData .spi (List.replicate count 0))
  else
    let r := spiReadWords count addr.toNat s
    r.1.emit (.readData .spi r.2)

/-- SPI_READ (R398). -/
def execSpiRead (addr : Word) (count : Nat) (s : State) : Ans :=
  actIf (Instr.wf (.spiRead addr count)) s fun s => occurs s (s.glb.state ≠ .reset) (spiRead addr count)

/-- The status byte. -/
def State.spiStatusByte (s : State) : Nat :=
  boolBit s.host.spiPoison 7 + boolBit s.host.spiAlign 6 + boolBit s.host.spiUnmapped 5 + boolBit (decide (s.glb.state ≠ .reset)) 0

/-- A STATUS frame returns the byte and clears bits 7 to 5 at its end. -/
def spiStatusFrame (s : State) : State :=
  (s.emit (.spiStatus (BitVec.ofNat 8 s.spiStatusByte))).upHost fun h => { h with spiPoison := false, spiAlign := false, spiUnmapped := false }

/-- SPI_STATUS (R398). -/
def execSpiStatus (s : State) : Ans := act s spiStatusFrame

/-! ### READ_REG and WRITE_REG (R389) -/

/-- The register space ends at 64 MiB; a command's address must be word-aligned (R387, R389). -/
def badOffset (o : Nat) : Bool := decide (2 ^ 26 ≤ o) || decide (o % 4 ≠ 0)

/-- `READ_REG` (R389, R496): the word, with bit 32 of `result` for a poisoned one. -/
def readReg (s : State) : State :=
  s.start 0x5A fun c s =>
    let o := c.opA.toNat
    if badOffset o then s.complete c 0x18
    else
      let r := wordRead .rim o s
      r.1.complete c 0 (if r.2.2 then 2 ^ 32 else r.2.1.toNat)

/-- READ_REG (R389). -/
def execReadReg (s : State) : Ans := act s readReg

/-- `WRITE_REG` (R389). -/
def writeReg (s : State) : State :=
  s.start 0x5B fun c s =>
    let o := c.opA.toNat
    if badOffset o then s.complete c 0x18 else (wordWrite .rim o (wordOf (c.b 31 0)) s).complete c 0

/-- WRITE_REG (R389). -/
def execWriteReg (s : State) : Ans := act s writeReg

end Sys2Proof.Machine
end

