-- ==== Sys2Proof/Machine/Boot.lean ====
section
/-! DEFINITION. Reset, the start from power-up (R471 to R473, R508), the self-test and the calibration at start-up (R443, R444, R449 to R454), TIMEWAIT and
the start of sampling (R52, R79), and the end of a warm restart (R22 to R24, R482) and of probation (R483). -/

namespace Sys2Proof.Machine

/-! ### RESET_ASSERT and RESET_RELEASE (R471, R472, R508) -/

/-- A cause of reset is effective (R508): a low pulse on RESET_N only from 10 µs. -/
def resets : ResetCause → Bool
  | .resetN w => decide (10000 ≤ w)
  | _ => true

/-- The hub goes to RESET: every register is at its reset value; flash and OTP keep what they hold; a span of R2 ends. -/
def resetAssert (c : ResetCause) (s : State) : State :=
  if resets c then
    { State.reset with pending := s.pending, freeCount := s.freeCount, out := s.out, ldr := { flash := s.ldr.flash } }
  else s

/-- RESET_ASSERT (R508). -/
def execResetAssert (cause : ResetCause) (s : State) : Ans := act s (resetAssert cause)

/-- The loader enters RECOVERY and records why (R473): 1 SAFE_BOOT, 2 NOT_PROVISIONED, 3 IMAGE. -/
def State.recover (s : State) (cause : Nat) : State :=
  let a := settingsAddr s.headerSettings
  let s := if 1 ≤ a ∧ a ≤ 4094 then s.changeAddr a 0 else s
  ((s.enter .recovery).upLdr fun l => { l with recoveryCause := cause }).notify 0 0x98 0 cause (argT s.now)

/-- The session count of the newest settings header is incremented (R472); a hub without a valid header counts from 1. -/
def State.nextSession (s : State) : State :=
  match s.ldr.flash.newestSetting with
  | none => s.upRim fun r => { r with session := 1 }
  | some b =>
    let n := ((s.ldr.flash.setting b).session + 1) % 65536
    ((s.upFlash fun f => f.putSetting b (settingsSlot (f.setting b).format n (f.setting b).writes (f.setting b).settings)).upRim fun r => { r with session := n }).upLdr fun l => { l with setSlotB := b }

/-- The last checkpoint of the previous session can be read from now on (R411). -/
def State.loadCheckpoint (s : State) : State :=
  match s.ldr.flash.checkpoint with
  | some (n, t, cmds, seqs) =>
    if (n + 1) % 65536 = s.lnk.rim.session then
      let s := s.upCrier fun c => { c with prevTime := t }
      let s := forEach (List.range 4) s fun s m => s.upMst (masterOf m) fun r => { r with prevCmd := cmds.getD m 0 }
      forEach (List.range 64) s fun s q => s.upQue q fun x => { x with prevNseq := seqs.get 0xFFFF0000 q }
    else s
  | none => s

/-- The last reset condition clears (R472): the loader starts, samples SAFE_BOOT, puts lanes 0 to 3 in DETECT with F_RIM's reset values (R339), no port
having reach yet (R335), reads the OTP and the settings
headers, and goes to RECOVERY in the first two cases of R473. -/
def resetRelease (safeBoot : Bool) (s : State) : State :=
  if s.glb.state ≠ .reset then s
  else
    let s := ((s.enter .loader).upGlb fun g => { g with safeBoot := safeBoot }).upTdm fun t => { t with tokenOut := some false }
    let s := (forEach (List.range 4) s fun s x => s.toDetect x 4).upRim fun r => { r with isolated := true }
    let s := s.nextSession.loadCheckpoint
    if safeBoot then s.recover 1
    else if s.ldr.flash.otpNative = none ∨ s.ldr.flash.otpKey = none then s.recover 2
    else s

/-- RESET_RELEASE (R472). TKN_OUT, high-impedance in RESET (R509), is driven low from here on (log entry 44, DESIGN CHOICE). -/
def execResetRelease (safeBoot : Bool) (s : State) : Ans := act s (resetRelease safeBoot)

/-! ### The image and the firmware (R473, R477, R488) -/

/-- The loader has finished its checks of the slot image (R477). -/
def imageAuthenticated (s : State) : State :=
  if s.glb.state ≠ .loader ∨ s.ldr.image.isSome then s
  else match s.ldr.flash.slot with
  | none => s.recover 3
  | some f =>
    match f.headerCheck (settingsLegacy s.headerSettings) s.ldr.flash, f.bodyCheck s.ldr.flash with
    | none, none => s.upLdr fun l => { l with image := some f, fresh := l.flash.imageNew }
    | _, _ => s.recover 3

/-- IMAGE_AUTHENTICATED (R477). -/
def execImageAuthenticated (s : State) : Ans := act s imageAuthenticated

/-- What firmware initialisation does in every start of an image: settings (R488), the address of a defaulted hub (R311), probation. -/
def State.initFirmware (s : State) (f : FwImage) : State :=
  let s := s.selectSettings f.setFmt
  let s := if s.ldr.defaulted then s.changeAddr 4095 3 else s
  s.beginProbation

/-- Firmware initialisation ends (R472, R488): the address of the settings is taken (R311), the engines hold the image's job code (R26), and the hub
enters SELFTEST. -/
def firmwareInit (s : State) : State :=
  match s.ldr.image with
  | none => s
  | some f =>
    if s.glb.state = .loader ∨ (s.glb.state = .recovery ∧ !s.ldr.halted ∧ s.ldr.activating) then
      let s := s.initFirmware f
      let a := settingsAddr s.ldr.settings
      let s := if !s.ldr.defaulted ∧ 1 ≤ a ∧ a ≤ 4094 then s.changeAddr a 0 else s
      let s := s.upLdr fun l => { l with activating := false, recoveryCause := 0 }
      (forEach (List.range 16) s fun s e => s.upEngine e fun x => { x with code := s.jobVersion, codePending := false }).enter .selftest
    else s

/-- FIRMWARE_INIT_DONE (R488). -/
def execFirmwareInitDone (s : State) : Ans := act s firmwareInit

/-! ### Self-test (R443, R444, R447) -/

/-- A finding that sends the hub to FAULT: any of step 1, and two or more bits of a cell outside banks 120 to 127. -/
def testFatal (f : SelfTestFail) : Bool := f.step == 1 || (f.multi && !(decide (120 ≤ f.unit) && decide (f.unit ≤ 127)))
/-- A finding that marks a bank FAILED. -/
def testMarks (f : SelfTestFail) : Bool := !testFatal f && f.multi

/-- The findings that are noted: every FAULT cause, and the first of each FAILED bank. -/
def notedFails (l : List SelfTestFail) (seen : List Nat) : List SelfTestFail :=
  match l with
  | [] => []
  | f :: r =>
    if testFatal f then f :: notedFails r seen
    else if testMarks f && !seen.contains f.unit then f :: notedFails r (f.unit :: seen)
    else notedFails r seen

/-- The self-test ends (R444): both memories are cleared, banks are marked, up to 16 findings are noted, and the hub enters CALIBRATE or FAULT. -/
def selftestEnd (fails : List SelfTestFail) (s : State) : State :=
  if s.glb.state ≠ .selftest then s
  else
    let fatal := fails.filter testFatal
    let failed := distinct ((fails.filter testMarks).map (·.unit))
    let weak := (fails.filter (fun f => !testFatal f && !f.multi)).length
    let s := s.upMem fun m =>
      { m with pad := [], store := [], stDone := true, stPass := fatal.isEmpty, stFailed := failed.length, stWeak := satTo 255 weak
               stStep := match fatal with | [] => 0 | f :: _ => f.step
               stUnit := match fatal with | [] => 0 | f :: _ => f.unit }
    let s := forEach (List.range 128) s fun s b =>
      s.upBank b fun x => { x with lost := false, power := if failed.contains b then .failed else .on }
    let s := forEach ((notedFails fails []).take 16) s fun s f => s.notify 0 0x6A f.step f.unit (argT f.addr)
    if fatal.isEmpty then (s.enter .calibrate).upCal fun c => { c with startTick := s.tick } else s.enter .fault

/-- SELFTEST_END (R444). -/
def execSelftestEnd (fails : List SelfTestFail) (s : State) : Ans := actIf (Instr.wf (.selftestEnd fails)) s (selftestEnd fails)

/-! ### Calibration at start-up (R449 to R454) -/

/-- A lace beyond 1,000 ppm in amplitude or 100 m° in phase (R454). -/
def laceFails (l : LaceCal) : Bool := decide (1000 < l.ampPpm.natAbs) || decide (100 < l.phaseMdeg.natAbs)
/-- A reference beyond 0.2 % (R454). -/
def refFails (r : RefCal) : Bool := decide (2000 < r.ppm.natAbs)

/-- The figures of laces and references stand (R454, R466). -/
def State.putLaces (s : State) (laces : List LaceCal) (refs : List RefCal) : State :=
  let bad := refs.filter refFails
  s.upCal fun c =>
    { c with laceAmp := laces.foldl (fun m l => m.set (0, 0) l.lace (l.ampPpm, l.phaseMdeg)) c.laceAmp
             laceAux := laces.foldl (fun m l => m.set (0, 0) l.lace (l.auxOffset, l.auxGain)) c.laceAux
             refs := refs.foldl (fun m r => m.set (0, false) r.die (r.ppm, refFails r)) c.refs
             refFailSpoke := (List.range 768).filter (fun i => bad.any (fun r => r.die == i / 128)) }

/-- The calibration at start-up ends after 2,400 ms (R449): the results stand and are kept in flash, N_CAL_DONE and N_CAL_FAIL are posted, the hub enters
TIMEWAIT, where the boot structure's load begins (R52). -/
def calibrationEnd (spokes : List SpokeCal) (laces : List LaceCal) (refs : List RefCal) (s : State) : State :=
  if s.glb.state ≠ .calibrate ∨ !s.passed s.cal.startTick (ms 2400) then s
  else
    let s := ((forEach spokes s State.putCal).putLaces laces refs).countFails
    let badLaces := laces.filter laceFails
    let dies := distinct ((refs.filter refFails).map (·.die))
    let mask := dies.foldl (fun n d => n + 2 ^ d) 0
    let s := s.upCal fun c => { c with done := true, doneTick := s.tick, failLaces := badLaces.length, failDies := mask }
    let s := s.upFlash fun f => { f with calRecords := { spokes := spokes, laces := laces, refs := refs } }
    let s := s.notify 0 0x76 s.cal.failSpokes (badLaces.length * 256 + mask) (argT s.tick)
    let s := forEach (List.range 768) s State.noteCalFail
    let s := forEach badLaces s fun s l => s.notify 0 0x77 (768 + l.lace) 0 (argT s.tick)
    let s := forEach dies s fun s d => s.notify 0 0x77 (816 + d) 0xFF (argT s.tick)
    let s := (s.enter .timewait).upTmb fun t => { t with timewaitTick := t.counter }
    if settingsBootEn s.ldr.settings then s.upCfg fun c => { c with stage := .loading, staged := none } else s

/-- CALIBRATION_END (R449). -/
def execCalibrationEnd (spokes : List SpokeCal) (laces : List LaceCal) (refs : List RefCal) (s : State) : Ans :=
  actIf (Instr.wf (.calibrationEnd spokes laces refs)) s (calibrationEnd spokes laces refs)

/-- The trims are in, 100 ms after the entry to TIMEWAIT (R451): sampling begins no earlier (R79). -/
def State.trimsEnd (s : State) : State :=
  if s.glb.state = .timewait ∧ s.tmb.trimsIn = none ∧ s.passed s.tmb.timewaitTick (ms 100) then
    let s := s.upTmb fun t =>
      { t with trimsIn := some t.counter
               startAt := t.startAt.map (fun e => if e < s.now then epochAtOrAfter s.now else e) }
    s.freeStart
  else s

/-- TRIM_RAMP_END (R451, R457): of all trims in TIMEWAIT, or of the slot of a spoke that a command set. -/
def execTrimRampEnd (which : Option (Fin 768 × Fin 25)) (s : State) : Ans :=
  act s fun s => match which with | none => s.trimsEnd | some (i, g) => s.endRamp i.val g.val

/-! ### TIMEWAIT and the start of sampling (R52, R79) -/

/-- The F_TIME record of a structure breaks no range (R89). -/
def Struct.timeUsable (st : Struct) : Bool := st.timeSound && st.every1 .time (st.recordSound .time)

/-- The F_TIME record of the boot structure takes effect ahead of the rest (R79); one outside the ranges of R85 is an undefined use from then on (R89).
It stays in force when a host cancels the boot commit (log entry 41). -/
def State.bootTime (s : State) (target : Struct) : State :=
  let old := s.st
  let s := if target.timeUsable then s else s.undefinedUse 89
  let s := s.upCfg fun c => { c with committed := old.setRecord .time 0 (target.record .time 0) }
  (s.commitTime old).freeStart

/-- The load of the boot structure completes (R52). No master issued it, so `load_master` and a later N_STAGE_DISCARDED name the one of the last
`LOAD_STRUCTURE` (log entry 41). -/
def bootLoaded (s : State) : State :=
  if s.glb.state ≠ .timewait ∨ s.cfg.stage ≠ .loading ∨ (s.longOf (fun o => match o with | .load .. => true | _ => false)).isSome then s
  else
    let slot := settingsBootSlot s.ldr.settings
    let r := s.loadFrom (s.readLibrary slot)
    match r.1.cfg.staged with
    | some i =>
      let p : PendingCommit := { item := none, named := none, instant := s.tmb.startAt.getD 0, late := false, atSamplingStart := true }
      ((r.1.wakeBanks i.target).upCfg fun c => { c with stage := .pending, pending := some p }).bootTime i.target
    | none => r.1.notify 0 0x13 slot r.2 (argT (r.1.timeAtTick s.tmb.timewaitTick))

/-- BOOT_STRUCT_LOADED (R52). -/
def execBootStructLoaded (s : State) : Ans := act s bootLoaded

/-- With `free_run` set, `fr_wait` × 100 ms after the entry to TIMEWAIT without a lock (R79). -/
def freeRunWait (s : State) : State :=
  if s.glb.state = .timewait ∧ s.st.freeRun ∧ s.st.timeSource ≠ 0 ∧ s.tmb.startAt = none ∧ !s.tmb.everLocked ∧
      s.passed s.tmb.timewaitTick (ms (s.st.frWait * 100)) then
    s.upTmb fun t => { t with startAt := some (epochAtOrAfter (s.now + 1)), startFrom := some (t.counter, 1) }
  else s

/-- FREE_RUN_WAIT_EXPIRY (R79). -/
def execFreeRunWaitExpiry (s : State) : Ans := act s freeRunWait

/-- Sampling begins at the instant `t` (R52, R79): RUN is entered, and with it a pending commit of the boot structure, or one whose instant would fall
before `t`, takes effect. A `COMMIT` that R45 finds late keeps its epoch of R45 where that lies after `t`, and posts N_COMMIT_LATE though R52 moves it to
`t`: R52 names the instant of R44 alone (log entry 41, DESIGN CHOICE). -/
def State.beginSampling (s : State) (t : Nat) : State :=
  let s := (s.enterRun.upGlb fun g => { g with sampling := true }).upHlt fun h => { h with serviced := s.tick }
  match s.cfg.stage, s.cfg.pending, s.cfg.staged with
  | .pending, some p, some i =>
    if p.atSamplingStart ∨ p.instant < t then s.applyCommit p i t true else s.newEra { start := t, prevEnd := t, st := s.st }
  | _, _, _ => s.newEra { start := t, prevEnd := t, st := s.st }

/-- SAMPLING_START: the chosen cadence-epoch instant has come, the trims being in. -/
def samplingStart (s : State) : State :=
  match s.tmb.startAt with
  | none => s
  | some t => if s.glb.state = .timewait ∧ s.tmb.trimsIn.isSome ∧ t ≤ s.now then s.beginSampling t else s

/-- SAMPLING_START (R79). -/
def execSamplingStart (s : State) : Ans := act s samplingStart

/-! ### The end of a warm restart (R22 to R24, R482) and of probation (R483) -/

/-- The named instant of a pending commit, the one it takes effect at where none was named (log entry 37), passed during the restart or lies less than
20 ms ahead (R23). -/
def State.overtaken (s : State) (p : PendingCommit) : Bool :=
  let n := p.named.getD p.instant
  decide (s.ldr.restartTime ≤ n) && decide (n < s.now + Config.prepNs)

/-- A pending commit whose named instant passed during the restart, or lies less than 20 ms ahead, is moved with N_COMMIT_LATE (R23, R45), as is one
whose preparation begins less than 20 ms before the instant at which it would take effect (R44). -/
def State.moveCommit (s : State) : State :=
  match s.cfg.stage, s.cfg.pending with
  | .pending, some p =>
    if s.glb.sampling ∧ (s.overtaken p ∨ p.instant < s.now + Config.prepNs) then
      let t := s.nextStart
      let q := { p with instant := t, late := true, named := some (p.named.getD p.instant) }
      ((s.unschedule .commit).upCfg fun c => { c with pending := some q }).schedule .commit t
    else s
  | _, _ => s

/-- An activated image runs (R482): its firmware is initialised, its job code waits for the next commit of each engine (R26), a halt ends (R485). -/
def State.activated (s : State) : State :=
  if !s.ldr.activating then s
  else match s.ldr.image with
  | none => s
  | some f =>
    let halted := s.ldr.halted
    let s := s.initFirmware f
    let s := s.upLdr fun l => { l with activating := false, halted := false, recoveryCause := 0 }
    let s := forEach (List.range 16) s fun s e =>
      s.upEngine e fun x => { x with codePending := decide (x.code ≠ s.jobVersion) }
    if halted ∧ s.tmb.timeState = .holdover ∧ (s.tmb.tdSource.isSome ∨ (s.st.timeSource = 2 ∧ s.tmb.ppsValid)) then s.sourceValid else s

/-- Where a restart that began before sampling ends: the state it began in, TIMEWAIT where a halted hub was activated (R482; log entry 30). -/
def State.restartsInto (s : State) : GlbState :=
  match s.ldr.restartFrom with
  | .loader => .loader
  | .selftest => .selftest
  | .calibrate => .calibrate
  | .recovery => if s.ldr.halted then .timewait else .recovery
  | _ => .timewait

/-- WARM_RESTART_END: the firmware is ready. Its clocks stood during the restart (R458, R481, R483); abandoned commands complete with ABORTED (R24);
a restart that began before sampling returns to the state it began in (log entry 30). -/
def warmRestartEnd (s : State) : State :=
  if s.glb.state ≠ .warmRestart then s
  else
    let d := s.tick - s.ldr.restartSince
    let s := s.upLdr fun l => { l with session := l.session.map (fun x => { x with lastTick := x.lastTick + d }) }
    let s := s.upHlt fun h => { h with serviced := if s.ldr.restartFrom = .run then h.serviced + d else s.tick }
    let into := s.restartsInto
    let s := s.activated
    let s := if s.glb.sampling then s.enterRun else s.enter into
    let s := s.consumeBuffered.moveCommit
    let s := forEach (s.cmd.long.filter (fun l => decide (l.op = .aborted))) s fun s l =>
      (if l.item.opcode = 0x10 then s.upCfg fun c => { c with lastResult := 0x02 } else s).endLong l 0x02
    s.skipUnknown

/-- WARM_RESTART_END (R23). -/
def execWarmRestartEnd (s : State) : Ans := act s warmRestartEnd

/-- Probation has run its time (R483): without a WATCHDOG event it has passed. -/
def probationEnd (s : State) : State :=
  match s.ldr.probationFrom with
  | none => s
  | some t =>
    if s.glb.state = .run ∧ s.ldr.probationS * Config.ticksPerS ≤ s.probationRun t then
      let s := s.upLdr fun l => { l with probationFrom := none }
      if s.ldr.watchdogEvents = 0 then
        s.notify 0 0x94 0 0 (argSX s.now (match s.ldr.image with | none => 0 | some f => f.version))
      else s
    else s

/-- PROBATION_END (R483). -/
def execProbationEnd (s : State) : Ans := act s probationEnd

end Sys2Proof.Machine
end

