-- ==== Sys2Proof/Machine/RimRx.lean ====
section
/-! DEFINITION. The reception of an IRP frame (R313 to R320, R324 to R327): its checks, whether it is consumed, forwarded or both, its
association, and the body of each type handed to the meaning of its own row. -/

namespace Sys2Proof

open Sys2Proof.Machine

/-! ### Checks (R317, R318) -/

/-- The class of a frame type; none for a reserved type (R317). -/
def typeClass (type : Nat) : Option Nat :=
  match type with
  | 0x01 => some 3 | 0x02 => some 3
  | 0x03 => some 2 | 0x04 => some 2 | 0x05 => some 2 | 0x06 => some 2 | 0x07 => some 2 | 0x08 => some 2 | 0x09 => some 2 | 0x0A => some 2
  | 0x10 => some 0 | 0x11 => some 0
  | 0x18 => some 1 | 0x19 => some 1 | 0x1A => some 1
  | _ => none

/-- The header of a received frame keeps R318, with `hop` incremented. -/
def RimFrame.headerOk (f : RimFrame) : Bool :=
  decide (f.etherType = 0x88B5) && decide (30 ≤ f.bytes.length) && f.ver == 1 && decide (typeClass f.type = some f.cls) && decide (f.length ≤ f.body.length) &&
    decide (f.length ≤ 1484) && decide (f.hop + 1 ≤ 129)

/-! ### Body fields (R314: big-endian, except items) -/

/-- Big-endian word `i` of a body. -/
def RimFrame.word (f : RimFrame) (i : Nat) : Nat := beNat ((f.body.drop (4 * i)).take 4)

/-- Little-endian word `i` of a body: crier and command items travel as they are stored. -/
def RimFrame.leWord (f : RimFrame) (i : Nat) : Word := wordOf (leNat ((f.body.drop (4 * i)).take 4))

/-- The items of a COMMAND frame (R382, R383). -/
def RimFrame.items (f : RimFrame) : List ItemWords :=
  (List.range (min 92 (f.length / 16))).map fun i =>
    { w0 := f.leWord (4 * i), w1 := f.leWord (4 * i + 1), w2 := f.leWord (4 * i + 2), w3 := f.leWord (4 * i + 3) }

/-- The ranges of a NAK. -/
def RimFrame.ranges (f : RimFrame) : List (Word × Nat) :=
  (List.range (f.word 0 % 65536)).map fun i => (wordOf (f.word (2 * i + 1)), f.word (2 * i + 2))

/-- A heartbeat read from the word after its section word (R371). -/
def RimFrame.heartbeatAt (f : RimFrame) (i : Nat) : Heartbeat :=
  let w := f.word i
  { role := bitsOf w 31 28, glb := bitsOf w 27 24, driving := bitOf w 23, tokenSeen := bitOf w 22, linkSeen := bitOf w 21, rimSeen := bitOf w 20
    excSeen := bitOf w 19, synced := bitOf w 18, count := BitVec.ofNat 16 w
    sendTime := f.word (i + 1) * 2 ^ 32 + f.word (i + 2), activeSince := f.word (i + 3) * 2 ^ 32 + f.word (i + 4)
    nextBulk := wordOf (f.word (i + 5)), nextCtl := wordOf (f.word (i + 6)), nextExp := wordOf (f.word (i + 7)) }

/-- The HEARTBEAT section of a body, sections of other kinds being skipped by their length (R371). -/
def RimFrame.heartbeat (f : RimFrame) (fuel i : Nat) : Option Heartbeat :=
  match fuel with
  | 0 => none
  | fuel + 1 =>
    if f.length < 4 * i + 4 then none
    else
      let w := f.word i
      if bitsOf w 31 24 = 1 then some (f.heartbeatAt (i + 1)) else f.heartbeat fuel (i + max 1 (w % 65536 / 4))

/-- The trigger broadcast of a TRIGGER frame (R317). -/
def RimFrame.trigger (f : RimFrame) : TriggerMsg :=
  let w := f.word 0
  { group := bitsOf w 31 24, origin := bitsOf w 23 12, unit := bitsOf w 11 6, outcome := bitsOf w 5 4
    point := f.word 1 * 2 ^ 32 + f.word 2, frac := bitsOf (f.word 3) 31 16 }

end Sys2Proof

namespace Sys2Proof.Machine

/-! ### Addressing (R313, R319) -/

/-- The frame is addressed to the hub alone (R319). -/
def State.alone (s : State) (f : RimFrame) : Bool :=
  let a := s.lnk.rim.addr
  decide (a ≠ 4095) &&
    (if s.st.tandemOn && a % 2 == 0 then f.dst == a && f.memberOnly else f.dst == a)

/-- The frame goes to the tandem's service address and to both members (R313). -/
def State.toService (s : State) (f : RimFrame) : Bool :=
  s.st.tandemOn && decide (s.lnk.rim.addr ≠ 4095) && f.dst == s.serviceAddr && !f.memberOnly

/-- The hub accepts the frame (R319); an unassigned one accepts CONTROL frames to 4,095 (R312). -/
def State.takes (s : State) (f : RimFrame) : Bool :=
  if s.lnk.rim.addr = 4095 then f.dst == 4095 && f.cls == 2 else s.alone f || s.toService f || f.dst == 4095

/-! ### Associations (R324, R325, R327) -/

/-- A CONTROL frame of an association that had not arrived before: the association moves on. `none` for a duplicate. -/
def Assoc.arrive (a : Assoc) (q : Word) : Option Assoc :=
  if seqBefore q a.expected ∨ a.early.contains q then none
  else
    let early := if q = a.expected then a.early else a.early ++ [q]
    let next := if q = a.expected then a.expected + 1 else a.expected
    -- frames that came early follow on
    let run := early.foldl (fun n _ => if early.contains n then n + 1 else n) next
    some { a with expected := run, early := early.filter (fun e => !seqBefore e run) }

/-- The bookkeeping of an accepted CONTROL frame, and whether it is new. An ACK frame is due within 100 µs (R327), unless the service address is another
member's to speak for (R358). -/
def State.controlArrived (s : State) (f : RimFrame) : State × Bool :=
  if f.type = 0x09 ∨ f.type = 0x0A then (s, true)
  else
    let a := s.assoc f.dst f.src 2
    let silent := decide (f.dst = 4095) || (s.toService f && !s.publishes)
    let due (a : Assoc) : Assoc := if silent then a else { a with ackDue := some s.tick }
    match a.arrive f.seq with
    | none => (s.putAssoc (due a), false)
    | some b => (s.putAssoc (due b), true)

/-- An EXPRESS frame: only the first copy of each number from each source is delivered, within the last 1,024 (R324). -/
def State.expressArrived (s : State) (f : RimFrame) : State × Bool :=
  let seen := s.lnk.rim.expressSeen.get [] f.src
  if seen.contains f.seq then (s.upRim fun r => { r with dupDrop := satInc r.dupDrop }, false)
  else (s.upRim fun r => { r with expressSeen := r.expressSeen.set [] f.src ((f.seq :: seen).take 1024) }, true)

/-- Whether the frame is delivered, after the bookkeeping of its class. -/
def State.arrived (s : State) (f : RimFrame) : State × Bool :=
  match f.cls with
  | 0 => s.expressArrived f
  | 2 => s.controlArrived f
  | _ => (s, true)

/-! ### Delivery -/

/-- What the header's `ack` acknowledges: frames of the reverse association of the same class, or of the class that an ACK frame names (R315,
R317). -/
def State.headerAck (s : State) (f : RimFrame) : State :=
  if f.ackValid then s.ackFrom f.dst f.src (if f.type = 0x04 then bitsOf (f.word 0) 31 30 else f.cls) f.ack else s

/-- The body of an accepted frame takes its effect. Frames of the types that a hub only sends have none. -/
def State.deliverBody (s : State) (p : Port) (f : RimFrame) : State :=
  match f.type with
  | 0x03 => s.nakFrom f.dst f.src (bitsOf (f.word 0) 31 30) f.ranges
  | 0x05 => credit (f.word 0 * 2 ^ 32 + f.word 1) (f.word 2) (f.word 3) s
  | 0x06 => commandFrameIn (s.toService f) f.items s
  | 0x09 => s.enumerated f.hop (bitsOf (f.word 0) 31 20)
  | 0x0A => helloIn f.src (BitVec.ofNat 64 (f.word 0 * 2 ^ 32 + f.word 1)) (bitsOf (f.word 2) 31 16) s
  | 0x10 => triggerMessage f.trigger s
  | 0x19 => linkHbIn p (bitOf (f.word 0) 31) (bitOf (f.word 0) 30) (f.word 0 % 256) s
  | 0x1A =>
    match f.heartbeat (f.length / 4) 0 with
    | none => s
    | some hb => if f.src = partnerAddr s.lnk.rim.addr then partnerHb .rim hb [] s else s
  | _ => s

/-- A frame that the hub accepts: bookkeeping, acknowledgement (R327: a duplicate's too), then the body, once. -/
def State.accept (s : State) (p : Port) (f : RimFrame) : State :=
  let r := s.arrived f
  let s := r.1.headerAck f
  if r.2 then s.deliverBody p f else s

/-- A frame with a good header: LINK_HB goes one hop; what is addressed to the hub alone is consumed; every other frame is forwarded (R319). A frame
whose reception broke off leaves as a cut frame where it is being forwarded, and is not delivered (R320). -/
def State.route (s : State) (p : Port) (f : RimFrame) (cut : Bool) : State :=
  if f.type = 0x19 then (if cut then s else s.deliverBody p f)
  else
    let s := if s.alone f then s else s.forward (otherPort p) f cut
    if cut then s
    else
      let s := if f.src = 0 ∧ f.cls = 2 then s.upRim fun r => { r with headPort := some p } else s
      if s.takes f then s.accept p f else s

/-- A frame discarded and counted (R318). -/
def State.badFrame (s : State) (p : Port) : State := s.upPort p fun r => { r with badFrames := satInc r.badFrames }

/-- A frame has been received (R316, R318, R319, R320). PTP messages with a good FCS go to the boundary clock, by their own rows. -/
def frameRx (p : Port) (g : RimFrame) (s : State) : State :=
  if !s.portActive p ∨ (g.etherType = 0x88F7 ∧ g.fcs = .good) then s
  else
    let f := g.hopped
    if !g.headerOk then
      if f.fcs = .inverted then s.upPort p fun r => { r with cut := satInc r.cut } else s.badFrame p
    else
      match f.fcs with
      | .good => s.route p f false
      | .bad => (s.badFrame p).route p f true
      | .inverted => (s.upPort p fun r => { r with cut := satInc r.cut }).route p f true

/-- IRP_FRAME_RX (R319). -/
def execIrpFrameRx (port : Port) (frame : RimFrame) (s : State) : Ans :=
  actIf (Instr.wf (.irpFrameRx port frame)) s (frameRx port frame)

end Sys2Proof.Machine
end

