-- ==== Sys2Proof/Machine/Snapshot.lean ====
section
/-! DEFINITION. Snapshots (R419 to R422): the command, the tick and the completion. -/

namespace Sys2Proof.Machine

/-- `SNAPSHOT` (R419): one at a time; the instant 0 stands for the tick of execution. -/
def snapshot (s : State) : State :=
  s.start 0x58 fun c s =>
    if s.snap.request.isSome ∨ s.snap.taking.isSome then s.complete c 0x01
    else
      let t := if c.opB = 0 then s.now else c.opB.toNat
      ((s.upSnap fun x => { x with request := some (c, t) }).schedule .snapshot t).startLong c .snapshot

/-- SNAPSHOT (R419). -/
def execSnapshot (s : State) : Ans := act s snapshot

/-- The register part of the image as the registers stand now. -/
def State.image (s : State) : SnapImage :=
  { glb := s.glb, tmb := s.tmb, cfg := s.cfg, path := s.path, lace := s.lace, crier := s.crier, cmd := s.cmd, host := s.host, mem := s.mem
    cal := s.cal, hlt := s.hlt, lnk := s.lnk, tdm := s.tdm, ldr := s.ldr }

/-- A commit instant has come and its commit is to be done at this tick: a hub in RUN that samples carries it out, one in another state does not (R23,
R52). -/
def State.commitDue (s : State) : Bool :=
  s.tmb.sched.any (fun e => decide (e.kind = .commit) && e.fired) && decide (s.glb.state = .run) && s.firmware && s.glb.sampling &&
    (match s.cfg.stage, s.cfg.pending with | .pending, some p => decide (p.instant ≤ s.now) | _, _ => false)

/-- The copy engine writes the registers into banks 112 to 119 through port 23 (R421, R428): clean cells (R432). It fills the banks (log entry 26, DESIGN
CHOICE). -/
def State.copyRegisters (s : State) : State :=
  (s.contend 23).upMem fun m => { m with pad := m.pad.filter (fun e => !(decide (0x1C00000 ≤ e.1) && decide (e.1 < 0x1E00000))) }

/-- The snapshot tick (R419, R421): the registers are copied, and the preservation of tallies begins. At the tick of a commit instant the commit
goes first. -/
def snapshotTick (s : State) : State :=
  match s.snap.request with
  | none => s
  | some (c, _) =>
    if !s.tmb.sched.any (fun e => decide (e.kind = .snapshot) && e.fired) || s.commitDue then s
    else
      let s := s.unschedule .snapshot
      let x := { s.snap with
        request := none, taking := some c, snaps := (s.snap.snaps + 1) % 65536, valid := true, cowFull := false, master := masterNum c.master
        kept := [], lost := [], mirrorStale := false, ctxStale := [], tick := s.tick, time := s.now }
      (s.copyRegisters).upSnap fun _ => { x with image := some s.image }

/-- SNAPSHOT_TICK (R419, R421). -/
def execSnapshotTick (s : State) : Ans := act s snapshotTick

/-- The image is complete: OK with the tick's TMB_COUNTER (R419), and GLB_INT_STATUS `snapshot` (R501). -/
def snapshotEnd (s : State) : State :=
  match s.snap.taking with
  | none => s
  | some c =>
    let s := (s.upSnap fun x => { x with taking := none }).intr 11
    match s.cmd.long.find? (fun l => decide (l.op = .snapshot) && decide (l.item = c)) with
    | none => s
    | some l => s.endLong l 0 s.snap.tick

/-- SNAPSHOT_DONE (R419). -/
def execSnapshotDone (s : State) : Ans := act s snapshotEnd

end Sys2Proof.Machine
end

