-- ==== Sys2Proof/Machine/Update.lean ====
section
/-! DEFINITION. The update commands and sessions (R479 to R487) and the writes of settings (R488, R489). -/

namespace Sys2Proof.Machine

/-! ### What every update command shares (R479 to R481) -/

/-- The completion code of the last update command stands in LDR_STATUS (R493). -/
def State.updateResult (s : State) (code : Nat) : State := s.upLdr fun l => { l with lastResult := code }

/-- An update command completes as it starts. -/
def State.updateComplete (s : State) (c : CmdItem) (code : Nat) (result : Nat := 0) : State := (s.updateResult code).complete c code result

/-- A long update command completes. -/
def State.updateEndLong (s : State) (l : LongCmd) (code : Nat) (result : Nat := 0) : State := (s.updateResult code).endLong l code result

/-- Where the command of opcode `op` at the front of the hub's queue is refused for the hub's state (R386), that is the completion code of the last update
command too (R493); `t` is the state in which it has completed. -/
def State.noteRefused (s : State) (op : Nat) (t : State) : State :=
  match s.skipUnknown.cmd.queue with
  | [] => t
  | c :: _ => if c.opcode.toNat = op ∧ !s.skipUnknown.holds ∧ !s.skipUnknown.accepts op then t.updateResult 0x20 else t

/-- An update command of opcode `op` starts: not by a service address (R479), and not while another master owns the session (R481); the owner's command
restarts the 30 s of its session. -/
def State.updateStart (s : State) (op : Nat) (f : CmdItem → State → State) : State :=
  s.noteRefused op <| s.start op fun c s =>
    if c.service then s.updateComplete c 0x18
    else match s.ldr.session with
    | some x =>
      if x.owner ≠ masterNum c.master then s.updateComplete c 0x01
      else f c (s.upLdr fun l => { l with session := some { x with lastTick := s.tick } })
    | none => f c s

/-- The session's image as received. -/
def Session.image (x : Session) : FwImage := { header := headerWords x.header, body := x.body }

/-- Bytes received in a session. -/
def Session.received (x : Session) : Nat := x.header.length + x.body.length

/-- The update commands in flight are broken off. -/
def State.breakUpdates (s : State) : State :=
  forEach (s.cmd.long.filter (fun l => match l.op with | .updateData .. => true | .updateEnd _ => true | _ => false)) s fun s l => s.updateEndLong l 0x02

/-- A session ends without success: N_UPDATE_ENDED (0 ABORT, 1 TIMEOUT, 2 DIGEST, 3 TAG, 4 FLASH), and GLB_INT_STATUS `update`. -/
def State.endSession (s : State) (x : Session) (cause : Nat) : State :=
  ((s.upLdr fun l => { l with session := none }).notify 0 0x92 x.owner cause (argSX s.now x.received)).intr 10

/-! ### UPDATE_DATA (R479, R481) -/

/-- How many bytes an `UPDATE_DATA` delivers, and none for a source that is not legal. -/
def CmdItem.updateLength (c : CmdItem) : Option Nat := if c.a 31 31 = 0 then some 8 else c.updateSource.map (·.2)

/-- The bytes it delivers, read from the scratchpad where that is the source. -/
def State.updateBytes (s : State) (c : CmdItem) : State × List Byte :=
  match c.updateSource with
  | some (a, n) => if c.a 31 31 = 0 then (s, leBytes 8 c.opB.toNat) else let r := (s.contend 16).readPad 16 a n; (r.1, r.2.1)
  | none => (s, leBytes 8 c.opB.toNat)

/-- Header bytes of a master without a session; the command that completes a header runs checks 1 to 5 of R477 and claims the session. -/
def State.headerData (s : State) (c : CmdItem) (bs : List Byte) : State :=
  let m := masterNum c.master
  let buf := s.ldr.buffers.get [] m ++ bs
  let s := s.upLdr fun l => { l with filler := m }
  if buf.length < 512 then (s.upLdr fun l => { l with buffers := l.buffers.set [] m buf }).updateComplete c 0 buf.length
  else
    let s := s.upLdr fun l => { l with buffers := l.buffers.set [] m [] }
    let f : FwImage := { header := headerWords buf, body := [] }
    match f.headerCheck (settingsLegacy s.ldr.settings) s.ldr.flash with
    | some code => s.updateComplete c code
    | none =>
      let x : Session := { owner := m, legacy := f.legacy, header := buf, body := [], wroteBody := false, flashBad := false, lastTick := s.tick }
      ((s.upLdr fun l => { l with session := some x }).notify 0 0x90 m f.kind (argSX s.now f.version)).updateComplete c 0 buf.length

/-- Body bytes of the session's owner: with the first of them the slot's header is erased. -/
def State.bodyData (s : State) (c : CmdItem) (x : Session) (offset : Nat) (bs : List Byte) : State :=
  let s := if x.wroteBody then s else s.upFlash fun f => { f with slot := none, slotValid := false }
  (s.upLdr fun l => { l with session := some { x with body := x.body ++ bs, wroteBody := true, lastTick := s.tick } }).startLong c (.updateData offset bs)

/-- `UPDATE_DATA` (R481): data must follow on at the offset its master has reached, within the header or the body; otherwise nothing changes. -/
def updateData (s : State) : State :=
  s.updateStart 0x70 fun c s =>
    let offset := c.a 23 0
    match c.updateLength with
    | none => s.updateComplete c 0x18
    | some n =>
      match s.ldr.session with
      | none =>
        if offset = (s.ldr.buffers.get [] (masterNum c.master)).length ∧ offset + n ≤ 512 then
          let r := s.updateBytes c
          r.1.headerData c r.2
        else s.updateComplete c 0x67
      | some x =>
        if offset = x.received ∧ offset + n ≤ 512 + x.image.bodyLen then
          let r := s.updateBytes c
          r.1.bodyData c x offset r.2
        else s.updateComplete c 0x67

/-- UPDATE_DATA (R481). -/
def execUpdateData (s : State) : Ans := act s updateData

/-- A chunk has been programmed, and its command completes with the bytes received. -/
def chunkProgrammed (ok : Bool) (s : State) : State :=
  match s.longOf (fun o => match o with | .updateData .. => true | _ => false) with
  | none => s
  | some l =>
    match l.op with
    | .updateData offset bs =>
      if s.glb.state = .reset then s
      else if ok then s.updateEndLong l 0 (offset + bs.length)
      else (s.upLdr fun d => { d with session := d.session.map (fun x => { x with flashBad := true }) }).updateEndLong l 0x6C (offset + bs.length)
    | _ => s

/-- UPDATE_CHUNK_PROGRAMMED (R481). -/
def execUpdateChunkProgrammed (flashOk : Bool) (s : State) : Ans := act s (chunkProgrammed flashOk)

/-! ### UPDATE_END (R481, R482) -/

/-- `UPDATE_END` requires all body bytes. -/
def updateEnd (s : State) : State :=
  s.updateStart 0x71 fun c s =>
    match s.ldr.session with
    | none => s.updateComplete c 0x66
    | some x => if x.body.length = x.image.bodyLen then s.startLong c (.updateEnd (c.a 0 0 == 1)) else s.updateComplete c 0x67

/-- UPDATE_END (R481). -/
def execUpdateEnd (s : State) : Ans := act s updateEnd

/-- The image in the slot is activated (R482): a warm restart in RUN, TIMEWAIT and a halt; in RECOVERY from boot its initialisation follows; in FAULT
nothing; during a warm restart the restart ends with it. -/
def State.activate (s : State) : State :=
  match s.glb.state with
  | .run => s.takeImage.beginRestart
  | .timewait => s.takeImage.beginRestart
  | .recovery => if s.ldr.halted then s.takeImage.beginRestart else s.takeImage
  | .warmRestart => s.takeImage
  | _ => s

/-- The session's image as the slot holds it; the nonce of a legacy image's encryption is the loader's choice, a free value (R476; log entry 13). -/
def State.slotImage (s : State) (x : Session) : FwImage := x.image.stored s.ldr.flash (Config.unspecified s.freeCount)

/-- Why `UPDATE_END` fails, with the cause of N_UPDATE_ENDED; `ok` tells that the header was programmed. -/
def State.updateFailure (s : State) (x : Session) (ok : Bool) : Option (Nat × Nat) :=
  if x.flashBad then some (0x6C, 4)
  else match (s.slotImage x).bodyCheck s.ldr.flash with
  | some code => some (code, if code = 0x68 then 2 else 3)
  | none => if ok then none else some (0x6C, 4)

/-- The slot holds the session's image (R476, R482, R483). -/
def State.installImage (s : State) (x : Session) (activate : Bool) : State :=
  s.draw.upFlash fun f =>
    { f.putLoader { f.loaderA with committedImage := false } with
      slot := some (s.slotImage x), slotValid := true, imageNew := true, onProbation := activate && decide (s.glb.state ≠ .fault) }

/-- The session has ended: another `UPDATE_END` of it that is still in flight completes with NO_SESSION. -/
def State.dropEnds (s : State) : State :=
  forEach (s.cmd.long.filter (fun l => match l.op with | .updateEnd _ => true | _ => false)) s fun s l => s.updateEndLong l 0x66

/-- The read-back and the checks of `UPDATE_END` have ended. One whose session has ended meanwhile completes with NO_SESSION. -/
def updateEndDone (ok : Bool) (s : State) : State :=
  match s.longOf (fun o => match o with | .updateEnd _ => true | _ => false), s.ldr.session with
  | some l, some x =>
    let busy := (s.longOf (fun o => match o with | .updateData .. => true | _ => false)).isSome
    if s.glb.state = .reset ∨ busy then s
    else
      let activate := match l.op with | .updateEnd a => a | _ => false
      match s.updateFailure x ok with
      | some (code, cause) =>
        let s := s.upFlash fun f => { f with slot := none, slotValid := false }
        ((s.updateEndLong l code).endSession x cause).dropEnds
      | none =>
        let s := (s.installImage x activate).updateEndLong l 0 x.image.version
        let s := s.notify 0 0x91 x.owner 0 (argSX s.now x.image.version)
        let s := ((s.upLdr fun d => { d with session := none }).intr 10).dropEnds
        if activate then s.activate else s
  | some l, none => if s.glb.state = .reset then s else s.updateEndLong l 0x66
  | _, _ => s

/-- UPDATE_END_DONE (R481, R482). -/
def execUpdateEndDone (flashOk : Bool) (s : State) : Ans := act s (updateEndDone flashOk)

/-! ### UPDATE_ABORT and the end of an idle session (R481) -/

/-- `UPDATE_ABORT`. -/
def updateAbort (s : State) : State :=
  s.updateStart 0x72 fun c s =>
    match s.ldr.session with
    | none => s.updateComplete c 0x66
    | some x => (s.breakUpdates.endSession x 0).updateComplete c 0

/-- UPDATE_ABORT (R481). -/
def execUpdateAbort (s : State) : Ans := act s updateAbort

/-- The owner has issued no update command for 30 s; the time stands in WARM_RESTART. -/
def sessionTimeout (s : State) : State :=
  match s.ldr.session with
  | none => s
  | some x =>
    if s.glb.state ≠ .reset ∧ s.glb.state ≠ .warmRestart ∧ s.passed x.lastTick (30 * Config.ticksPerS) then s.breakUpdates.endSession x 1 else s

/-- UPDATE_SESSION_TIMEOUT (R481). -/
def execUpdateSessionTimeout (s : State) : Ans := act s sessionTimeout

/-! ### COMMIT_IMAGE (R484) -/

/-- Probation is running (R483): it ends at its first WATCHDOG event, though a second one within its time halts the firmware (R485). -/
def Ldr.onTrial (l : Ldr) : Bool := l.probationFrom.isSome && !l.probationFailed

/-- The counter or the legacy floor rises, and the image is committed. -/
def State.imageCommitted (s : State) (f : FwImage) : State :=
  let s := s.upFlash fun x =>
    if f.legacy then x.putLoader { x.loaderA with legacyFloor := max x.legacyFloor f.version } else { x with otpCounter := max x.otpCounter f.epoch }
  let s := s.upLdr fun l =>
    { l with committed := true
             flash := l.flash.putLoader { l.flash.loaderA with committedImage := l.flash.committedImage || decide (l.image = l.flash.slot) } }
  s.notify 0 0x96 0 s.ldr.flash.otpCounter (argSX s.now f.version)

/-- `COMMIT_IMAGE`: whether an OTP write that is needed fails is not a choice of the hub's, so it is a free value (log entry 4). -/
def commitImage (s : State) : State :=
  s.updateStart 0x73 fun c s =>
    if s.ldr.onTrial then s.updateComplete c 0x6A s.ldr.flash.otpCounter
    else if s.ldr.probationFailed then s.updateComplete c 0x6B s.ldr.flash.otpCounter
    else if s.ldr.committed then s.updateComplete c 0 s.ldr.flash.otpCounter
    else
      let f := s.ldr.image.getD { header := [], body := [] }
      let fails : Bool := Config.unspecified s.freeCount
      let s := s.draw
      if !f.legacy && decide (s.ldr.flash.otpCounter < f.epoch) && fails then s.updateComplete c 0x6C s.ldr.flash.otpCounter
      else
        let s := s.imageCommitted f
        s.updateComplete c 0 s.ldr.flash.otpCounter

/-- COMMIT_IMAGE (R484). -/
def execCommitImage (s : State) : Ans := act s commitImage

/-! ### OTP_PROVISION (R487) -/

/-- The flagged items of a provisioning block, none where one of their fields is not blank. -/
def Flash.provision (f : Flash) (flags : Nat) (key native legacy : List Byte) : Option Flash :=
  if (bitOf flags 0 && f.otpKey.isSome) || (bitOf flags 1 && f.otpNative.isSome) || (bitOf flags 2 && f.otpLegacy.isSome) then none
  else some { f with otpKey := if bitOf flags 0 then some key else f.otpKey
                     otpNative := if bitOf flags 1 then some native else f.otpNative
                     otpLegacy := if bitOf flags 2 then some legacy else f.otpLegacy }

/-- `OTP_PROVISION`: over SPI alone and in RECOVERY alone. -/
def otpProvision (s : State) : State :=
  s.noteRefused 0x75 <| s.start 0x75 fun c s =>
    let a := c.a 24 0
    if c.service then s.updateComplete c 0x18
    else if c.master ≠ .spi then s.updateComplete c 0x19
    else if s.glb.state ≠ .recovery then s.updateComplete c 0x20
    else if s.ldr.session.any (fun x => x.owner != 0) then s.updateComplete c 0x01
    else if a < 0x1E00000 ∨ padBytes < a + 116 then s.updateComplete c 0x18
    else
      let s := s.upLdr fun l => { l with session := l.session.map (fun x => { x with lastTick := s.tick }) }
      let r := (s.contend 16).readPad 16 a 116
      let b := r.2.1
      match r.1.ldr.flash.provision (leNat (b.take 4)) ((b.drop 4).take 32) ((b.drop 36).take 48) ((b.drop 84).take 32) with
      | none => r.1.updateComplete c 0x6E
      | some f => (r.1.upFlash fun _ => f).updateComplete c 0

/-- OTP_PROVISION (R487). -/
def execOtpProvision (s : State) : Ans := act s otpProvision

/-! ### Settings (R488, R489) -/

/-- `SAVE_SETTINGS`: it completes when the flash is written. -/
def saveSettings (s : State) : State := s.updateStart 0x74 fun c s => s.startLong c .saveSettings

/-- SAVE_SETTINGS (R489). -/
def execSaveSettings (s : State) : Ans := act s saveSettings

/-- A flash write of settings has ended (R488, R489): of `SAVE_SETTINGS` the register's word, of `SET_ADDRESS` with persist the word in the slot with
the new address. -/
def settingsWritten (s : State) : State :=
  match s.longOf (fun o => decide (o = .saveSettings) || decide (o = .setAddress)) with
  | none => s
  | some l =>
    if s.glb.state = .reset then s
    else match l.op with
    | .saveSettings => (s.writeSettings s.ldr.settings).updateEndLong l 0
    | .setAddress => (s.saveAddr (l.item.a 11 0)).endLong l 0
    | _ => s

/-- SETTINGS_WRITE_DONE (R489). -/
def execSettingsWriteDone (s : State) : Ans := act s settingsWritten

end Sys2Proof.Machine
end

