-- ==== Sys2Proof/Machine/Dispatch.lean ====
section
/-! DEFINITION. The meaning of every command: one arm per constructor of `Instr`, each a direct call of its meaning. -/

namespace Sys2Proof.Machine

/-- What a command does to everything but the queue of commands. -/
def exec (i : Instr) (s : State) : Host.Outcome State Fault Refusal :=
  match i with
  | .resetAssert cause => Sys2Proof.Machine.execResetAssert cause s
  | .resetRelease safeBoot => Sys2Proof.Machine.execResetRelease safeBoot s
  | .imageAuthenticated => Sys2Proof.Machine.execImageAuthenticated s
  | .firmwareInitDone => Sys2Proof.Machine.execFirmwareInitDone s
  | .selftestEnd fails => Sys2Proof.Machine.execSelftestEnd fails s
  | .calibrationEnd spokes laces refs => Sys2Proof.Machine.execCalibrationEnd spokes laces refs s
  | .trimRampEnd which => Sys2Proof.Machine.execTrimRampEnd which s
  | .bootStructLoaded => Sys2Proof.Machine.execBootStructLoaded s
  | .freeRunWaitExpiry => Sys2Proof.Machine.execFreeRunWaitExpiry s
  | .samplingStart => Sys2Proof.Machine.execSamplingStart s
  | .lockstepMismatch => Sys2Proof.Machine.execLockstepMismatch s
  | .watchdogExpiry => Sys2Proof.Machine.execWatchdogExpiry s
  | .warmRestartEnd => Sys2Proof.Machine.execWarmRestartEnd s
  | .probationEnd => Sys2Proof.Machine.execProbationEnd s
  | .epochInstant => Sys2Proof.Machine.execEpochInstant s
  | .finePhaseMeasurement port rate => Sys2Proof.Machine.execFinePhaseMeasurement port rate s
  | .ptpSync port hdr frac twoStep origin => Sys2Proof.Machine.execPtpSync port hdr frac twoStep origin s
  | .ptpFollowUp port hdr origin => Sys2Proof.Machine.execPtpFollowUp port hdr origin s
  | .ptpDelayReq port hdr frac => Sys2Proof.Machine.execPtpDelayReq port hdr frac s
  | .ptpDelayResp port hdr requester received => Sys2Proof.Machine.execPtpDelayResp port hdr requester received s
  | .ptpAnnounce port hdr data => Sys2Proof.Machine.execPtpAnnounce port hdr data s
  | .ptpSyncTx port frac => Sys2Proof.Machine.execPtpSyncTx port frac s
  | .ptpAnnounceTx port => Sys2Proof.Machine.execPtpAnnounceTx port s
  | .ptpDelayReqTx port frac => Sys2Proof.Machine.execPtpDelayReqTx port frac s
  | .announceTimeout port => Sys2Proof.Machine.execAnnounceTimeout port s
  | .syncTimeout => Sys2Proof.Machine.execSyncTimeout s
  | .ppsInEdge rising frac => Sys2Proof.Machine.execPpsInEdge rising frac s
  | .zdaSentence bytes => Sys2Proof.Machine.execZdaSentence bytes s
  | .ppsInTimeout => Sys2Proof.Machine.execPpsInTimeout s
  | .ppsOutPulse => Sys2Proof.Machine.execPpsOutPulse s
  | .ppsOutPulseEnd => Sys2Proof.Machine.execPpsOutPulseEnd s
  | .todTxSentence => Sys2Proof.Machine.execTodTxSentence s
  | .realignment => Sys2Proof.Machine.execRealignment s
  | .scheduledEvent id => Sys2Proof.Machine.execScheduledEvent id s
  | .eventArm id => Sys2Proof.Machine.execEventArm id s
  | .setTime => Sys2Proof.Machine.execSetTime s
  | .sampleClockUnlock => Sys2Proof.Machine.execSampleClockUnlock s
  | .sampleClockRelock => Sys2Proof.Machine.execSampleClockRelock s
  | .loadStructure => Sys2Proof.Machine.execLoadStructure s
  | .loadStructureDone => Sys2Proof.Machine.execLoadStructureDone s
  | .commit => Sys2Proof.Machine.execCommit s
  | .commitInstant => Sys2Proof.Machine.execCommitInstant s
  | .cancelCommit => Sys2Proof.Machine.execCancelCommit s
  | .storeStructure => Sys2Proof.Machine.execStoreStructure s
  | .storeStructureDone => Sys2Proof.Machine.execStoreStructureDone s
  | .gearShiftUp sp before word overload => Sys2Proof.Machine.execGearShiftUp sp before word overload s
  | .gearShiftDown sp before word peak => Sys2Proof.Machine.execGearShiftDown sp before word peak s
  | .mendComplete sp w5 w6 => Sys2Proof.Machine.execMendComplete sp w5 w6 s
  | .openWireDetect sp method instant codes => Sys2Proof.Machine.execOpenWireDetect sp method instant codes s
  | .wireRestored sp quietCodes quietCycles => Sys2Proof.Machine.execWireRestored sp quietCodes quietCycles s
  | .releaseSpoke => Sys2Proof.Machine.execReleaseSpoke s
  | .releaseSyncReset sp n => Sys2Proof.Machine.execReleaseSyncReset sp n s
  | .senseEstimate l amp phase peak => Sys2Proof.Machine.execSenseEstimate l amp phase peak s
  | .rampEnd l => Sys2Proof.Machine.execRampEnd l s
  | .excTrip l => Sys2Proof.Machine.execExcTrip l s
  | .restartLace => Sys2Proof.Machine.execRestartLace s
  | .vexcUpdate measured peaks => Sys2Proof.Machine.execVexcUpdate measured peaks s
  | .vexcFault measured => Sys2Proof.Machine.execVexcFault measured s
  | .dissipationUpdate estimates => Sys2Proof.Machine.execDissipationUpdate estimates s
  | .excRestored => Sys2Proof.Machine.execExcRestored s
  | .modOverload m => Sys2Proof.Machine.execModOverload m s
  | .lookRunStart m => Sys2Proof.Machine.execLookRunStart m s
  | .sampleScaled stream codes => Sys2Proof.Machine.execSampleScaled stream codes s
  | .ambientLevelUpdate epoch => Sys2Proof.Machine.execAmbientLevelUpdate epoch s
  | .trigIoEdge pin rising frac => Sys2Proof.Machine.execTrigIoEdge pin rising frac s
  | .triggerSchedule u => Sys2Proof.Machine.execTriggerSchedule u s
  | .trigIoPulseEnd pin => Sys2Proof.Machine.execTrigIoPulseEnd pin s
  | .freewheelEnd u => Sys2Proof.Machine.execFreewheelEnd u s
  | .fireTrigger => Sys2Proof.Machine.execFireTrigger s
  | .rearmTrigger => Sys2Proof.Machine.execRearmTrigger s
  | .triggerFrame port msg => Sys2Proof.Machine.execTriggerFrame port msg s
  | .blockClose stream => Sys2Proof.Machine.execBlockClose stream s
  | .blockPlace stream => Sys2Proof.Machine.execBlockPlace stream s
  | .recordExpiry k record => Sys2Proof.Machine.execRecordExpiry k record s
  | .watermarkRearm k value => Sys2Proof.Machine.execWatermarkRearm k value s
  | .setMark => Sys2Proof.Machine.execSetMark s
  | .clearMark => Sys2Proof.Machine.execClearMark s
  | .replay => Sys2Proof.Machine.execReplay s
  | .replayDone k => Sys2Proof.Machine.execReplayDone k s
  | .releaseRecord => Sys2Proof.Machine.execReleaseRecord s
  | .ackBlocks => Sys2Proof.Machine.execAckBlocks s
  | .readRecord => Sys2Proof.Machine.execReadRecord s
  | .readRecordDone k => Sys2Proof.Machine.execReadRecordDone k s
  | .reducerInputClose e j input => Sys2Proof.Machine.execReducerInputClose e j input s
  | .csdCommitPoint e j => Sys2Proof.Machine.execCsdCommitPoint e j s
  | .resetTally => Sys2Proof.Machine.execResetTally s
  | .tallyClear e j => Sys2Proof.Machine.execTallyClear e j s
  | .abortInterval => Sys2Proof.Machine.execAbortInterval s
  | .flush => Sys2Proof.Machine.execFlush s
  | .saveContext => Sys2Proof.Machine.execSaveContext s
  | .restoreContext => Sys2Proof.Machine.execRestoreContext s
  | .linkHbSend port => Sys2Proof.Machine.execLinkHbSend port s
  | .linkHb port heFar fromE hops => Sys2Proof.Machine.execLinkHb port heFar fromE hops s
  | .reachTimeout port => Sys2Proof.Machine.execReachTimeout port s
  | .helloSend => Sys2Proof.Machine.execHelloSend s
  | .hello port src chipId session => Sys2Proof.Machine.execHello port src chipId session s
  | .enumerate port hop base => Sys2Proof.Machine.execEnumerate port hop base s
  | .setAddress => Sys2Proof.Machine.execSetAddress s
  | .irpFrameRx port frame => Sys2Proof.Machine.execIrpFrameRx port frame s
  | .cutFrame port => Sys2Proof.Machine.execCutFrame port s
  | .nak port peer cls ranges => Sys2Proof.Machine.execNak port peer cls ranges s
  | .ack port peer cls next => Sys2Proof.Machine.execAck port peer cls next s
  | .credit port epochTime east west => Sys2Proof.Machine.execCredit port epochTime east west s
  | .commandFrame port service items => Sys2Proof.Machine.execCommandFrame port service items s
  | .bulkSend => Sys2Proof.Machine.execBulkSend s
  | .bulkRto seq => Sys2Proof.Machine.execBulkRto seq s
  | .ctlRto dst seq => Sys2Proof.Machine.execCtlRto dst seq s
  | .ackSend peer => Sys2Proof.Machine.execAckSend peer s
  | .portTransmit port => Sys2Proof.Machine.execPortTransmit port s
  | .partnerDetect x module => Sys2Proof.Machine.execPartnerDetect x module s
  | .trainRequest x tap req => Sys2Proof.Machine.execTrainRequest x tap req s
  | .rxReady x own => Sys2Proof.Machine.execRxReady x own s
  | .trainTimeout x => Sys2Proof.Machine.execTrainTimeout x s
  | .lossOfSignal x => Sys2Proof.Machine.execLossOfSignal x s
  | .lockAcquired x => Sys2Proof.Machine.execLockAcquired x s
  | .lockTimeout x => Sys2Proof.Machine.execLockTimeout x s
  | .capabilityWord x word => Sys2Proof.Machine.execCapabilityWord x word s
  | .exchangeTimeout x => Sys2Proof.Machine.execExchangeTimeout x s
  | .lockLoss x cause => Sys2Proof.Machine.execLockLoss x cause s
  | .backoffEnd x => Sys2Proof.Machine.execBackoffEnd x s
  | .failureCountReset x => Sys2Proof.Machine.execFailureCountReset x s
  | .opticsPoll x byte0 status power => Sys2Proof.Machine.execOpticsPoll x byte0 status power s
  | .lnkTestWrite x value => Sys2Proof.Machine.execLnkTestWrite x value s
  | .prbsInject x value => Sys2Proof.Machine.execPrbsInject x value s
  | .fixedTapsWrite x value => Sys2Proof.Machine.execFixedTapsWrite x value s
  | .retrainLane => Sys2Proof.Machine.execRetrainLane s
  | .opticsRead => Sys2Proof.Machine.execOpticsRead s
  | .opticsWrite => Sys2Proof.Machine.execOpticsWrite s
  | .opticsDone x result => Sys2Proof.Machine.execOpticsDone x result s
  | .tokenToggle => Sys2Proof.Machine.execTokenToggle s
  | .tokenEdge => Sys2Proof.Machine.execTokenEdge s
  | .partnerHbSend => Sys2Proof.Machine.execPartnerHbSend s
  | .partnerHb path hb sections => Sys2Proof.Machine.execPartnerHb path hb sections s
  | .tokenWitnessMissing => Sys2Proof.Machine.execTokenWitnessMissing s
  | .linkWitnessMissing => Sys2Proof.Machine.execLinkWitnessMissing s
  | .rimWitnessMissing => Sys2Proof.Machine.execRimWitnessMissing s
  | .claimingEnd => Sys2Proof.Machine.execClaimingEnd s
  | .yieldingEnd => Sys2Proof.Machine.execYieldingEnd s
  | .election => Sys2Proof.Machine.execElection s
  | .tandemLinkLoss => Sys2Proof.Machine.execTandemLinkLoss s
  | .digestCompare => Sys2Proof.Machine.execDigestCompare s
  | .swapRoles => Sys2Proof.Machine.execSwapRoles s
  | .swapInstant => Sys2Proof.Machine.execSwapInstant s
  | .cmdItemWrite writer target word3 => Sys2Proof.Machine.execCmdItemWrite writer target word3 s
  | .nop => Sys2Proof.Machine.execNop s
  | .cmdCreditWrite m value => Sys2Proof.Machine.execCmdCreditWrite m value s
  | .queuePop m q => Sys2Proof.Machine.execQueuePop m q s
  | .crierChainEntry q => Sys2Proof.Machine.execCrierChainEntry q s
  | .crierDrain q => Sys2Proof.Machine.execCrierDrain q s
  | .priorityAging q => Sys2Proof.Machine.execPriorityAging q s
  | .ringEntryWrite r => Sys2Proof.Machine.execRingEntryWrite r s
  | .ringCreditWrite r value => Sys2Proof.Machine.execRingCreditWrite r value s
  | .msixGapEnd r => Sys2Proof.Machine.execMsixGapEnd r s
  | .ringEnable r value => Sys2Proof.Machine.execRingEnable r value s
  | .ringDisable r value => Sys2Proof.Machine.execRingDisable r value s
  | .spiWrite addr words cutShort => Sys2Proof.Machine.execSpiWrite addr words cutShort s
  | .spiRead addr count => Sys2Proof.Machine.execSpiRead addr count s
  | .spiStatus => Sys2Proof.Machine.execSpiStatus s
  | .pcieMalformedAccess offset length write => Sys2Proof.Machine.execPcieMalformedAccess offset length write s
  | .readReg => Sys2Proof.Machine.execReadReg s
  | .writeReg => Sys2Proof.Machine.execWriteReg s
  | .registerWrite m offset value high => Sys2Proof.Machine.execRegisterWrite m offset value high s
  | .intEnableWrite value => Sys2Proof.Machine.execIntEnableWrite value s
  | .alarmCfgWrite value => Sys2Proof.Machine.execAlarmCfgWrite value s
  | .leaseLapse m => Sys2Proof.Machine.execLeaseLapse m s
  | .journalReplayStart q value => Sys2Proof.Machine.execJournalReplayStart q value s
  | .resync => Sys2Proof.Machine.execResync s
  | .holdLowRead m offset both => Sys2Proof.Machine.execHoldLowRead m offset both s
  | .holdHighRead m offset => Sys2Proof.Machine.execHoldHighRead m offset s
  | .holdLowWrite m offset value => Sys2Proof.Machine.execHoldLowWrite m offset value s
  | .holdHighWrite m offset value => Sys2Proof.Machine.execHoldHighWrite m offset value s
  | .holdExpiry m write => Sys2Proof.Machine.execHoldExpiry m write s
  | .snapshot => Sys2Proof.Machine.execSnapshot s
  | .snapshotTick => Sys2Proof.Machine.execSnapshotTick s
  | .snapshotDone => Sys2Proof.Machine.execSnapshotDone s
  | .scratchpadRead p addr length => Sys2Proof.Machine.execScratchpadRead p addr length s
  | .scratchpadWrite p addr bytes => Sys2Proof.Machine.execScratchpadWrite p addr bytes s
  | .scrub => Sys2Proof.Machine.execScrub s
  | .scrubDone => Sys2Proof.Machine.execScrubDone s
  | .bankPower => Sys2Proof.Machine.execBankPower s
  | .bankRetainTimeout b => Sys2Proof.Machine.execBankRetainTimeout b s
  | .storeRead => Sys2Proof.Machine.execStoreRead s
  | .storeWrite => Sys2Proof.Machine.execStoreWrite s
  | .storeTransferDone => Sys2Proof.Machine.execStoreTransferDone s
  | .injectError => Sys2Proof.Machine.execInjectError s
  | .recalibrate => Sys2Proof.Machine.execRecalibrate s
  | .recalibrateDone result => Sys2Proof.Machine.execRecalibrateDone result s
  | .setTrim => Sys2Proof.Machine.execSetTrim s
  | .clearWindow => Sys2Proof.Machine.execClearWindow s
  | .windowRearm w => Sys2Proof.Machine.execWindowRearm w s
  | .updateData => Sys2Proof.Machine.execUpdateData s
  | .updateChunkProgrammed flashOk => Sys2Proof.Machine.execUpdateChunkProgrammed flashOk s
  | .updateEnd => Sys2Proof.Machine.execUpdateEnd s
  | .updateEndDone flashOk => Sys2Proof.Machine.execUpdateEndDone flashOk s
  | .updateAbort => Sys2Proof.Machine.execUpdateAbort s
  | .updateSessionTimeout => Sys2Proof.Machine.execUpdateSessionTimeout s
  | .commitImage => Sys2Proof.Machine.execCommitImage s
  | .saveSettings => Sys2Proof.Machine.execSaveSettings s
  | .settingsWriteDone => Sys2Proof.Machine.execSettingsWriteDone s
  | .otpProvision => Sys2Proof.Machine.execOtpProvision s
  | .overRange sp word => Sys2Proof.Machine.execOverRange sp word s
  | .laneSymbolError x kind => Sys2Proof.Machine.execLaneSymbolError x kind s
  | .preemptionVerify port => Sys2Proof.Machine.execPreemptionVerify port s

end Sys2Proof.Machine
end

