-- ==== Sys2Proof/Machine/Step.lean ====
section
/-! DEFINITION. One step of the block: the command at the front of the queue, or one tick of the timebase. -/

namespace Sys2Proof.Machine

/-- The next state: the command at the front of the queue acts on the state with the rest of the queue; with no command waiting the
present tick's fault events are settled (R459, R462) and one 5 ns period of the timebase passes (R21, R55; log entry 1). -/
def step (s : State) : Host.Outcome State Fault Refusal :=
  match s.pending with
  | c :: rest => exec c { s with pending := rest }
  | [] => .next s.passTick

/-- The command that a table word spells put at the front of the queue; the table's rows give no bits, so none is put there. -/
def State.withFetchWord (s : State) (nbits w : Nat) : State :=
  match decodeTableWord nbits w with
  | some i => { s with pending := i :: s.pending }
  | none => s

end Sys2Proof.Machine
end

