-- ==== Sys2Proof/Safety.lean ====
section
/-! DEFINITION. The terms of the statements: what a safe run is, the parts of the state that a frame names, the items that a command leaves in
the journal, and the invariants. -/

namespace Sys2Proof.Safety

open Sys2Proof.Machine

/-! ### Runs -/

/-- The step answers a next state. -/
def StepOk (s : State) : Prop := ∃ t, step s = .next t

/-- No span of undefined behaviour is open (R2). -/
def Defined (s : State) : Prop := s.ub = none

/-- `n` steps all answer next states and leave no span of undefined behaviour open. -/
def SafeRun : Nat → State → Prop
  | 0, s => Defined s
  | n + 1, s => Defined s ∧ ∃ t, step s = .next t ∧ SafeRun n t

/-! ### Frames -/

/-- A part of the state, as the frame of a statement names it: `ub` the span of undefined behaviour of R2; `freeCount` the counter of free values; `out` what has been handed outside; `mode` GLB_STATE `state` and `prev`; `intStatus` GLB_INT_STATUS, the marks of what set and sent it at this tick and the MSI-X pending bits; `glb` the other fields of the GLB registers; `counter` TMB_COUNTER; `tmb` the rest of the timebase; `committed` the structure in force; `cfg` the rest of the structure store; `spokes` front ends; `looks` looks; `mods` modulators; `switches` switches; `units` trigger units; `streams` streams; `stalls` stalls and their records; `jobs` reducer jobs; `path` the rest of the sample path; `lace` excitation; `crier` the crier queues; `queue` commands waiting and in progress; `credit` command credits; `cmd` the rest of the masters' records; `host` host rings and SPI flags; `pad` scratchpad contents; `store` central-store contents; `mem` the rest of the memories; `cal` calibration; `hlt` fault windows; `lanes` lanes; `rim` the rim; `tdm` tandem; `ldr` loader, flash, OTP and images; `snap` the snapshot. -/
inductive Part where
  | ub | freeCount | out | mode | intStatus | glb | counter | tmb | committed | cfg | spokes | looks | mods | switches
  | units | streams | stalls | jobs | path | lace | crier | queue | credit | cmd | host | pad | store | mem | cal | hlt
  | lanes | rim | tdm | ldr | snap
  deriving DecidableEq, Repr

/-- Two states agree in a part. -/
def Part.same (s t : State) : Part → Prop
  | .ub => t.ub = s.ub
  | .freeCount => t.freeCount = s.freeCount
  | .out => t.out = s.out
  | .mode => t.glb.state = s.glb.state ∧ t.glb.prev = s.glb.prev
  | .intStatus => t.glb.intStatus = s.glb.intStatus ∧ t.glb.fresh = s.glb.fresh ∧ t.glb.vecTick = s.glb.vecTick ∧
      t.glb.msixPending = s.glb.msixPending
  | .glb => { t.glb with
        state := s.glb.state, prev := s.glb.prev, intStatus := s.glb.intStatus, fresh := s.glb.fresh, vecTick := s.glb.vecTick
        msixPending := s.glb.msixPending } = s.glb
  | .counter => t.tmb.counter = s.tmb.counter
  | .tmb => { t.tmb with counter := s.tmb.counter } = s.tmb
  | .committed => t.cfg.committed = s.cfg.committed
  | .cfg => { t.cfg with committed := s.cfg.committed } = s.cfg
  | .spokes => t.path.spokes = s.path.spokes
  | .looks => t.path.looks = s.path.looks
  | .mods => t.path.mods = s.path.mods
  | .switches => t.path.switches = s.path.switches
  | .units => t.path.units = s.path.units
  | .streams => t.path.streams = s.path.streams
  | .stalls => t.path.stalls = s.path.stalls
  | .jobs => t.path.jobs = s.path.jobs
  | .path => { t.path with
        spokes := s.path.spokes, looks := s.path.looks, mods := s.path.mods, switches := s.path.switches, units := s.path.units
        streams := s.path.streams, stalls := s.path.stalls, jobs := s.path.jobs } = s.path
  | .lace => t.lace = s.lace
  | .crier => t.crier = s.crier
  | .queue => t.cmd.queue = s.cmd.queue ∧ t.cmd.long = s.cmd.long
  | .credit => ∀ m, (t.mst m).credit = (s.mst m).credit
  | .cmd => ∀ m, { t.mst m with credit := (s.mst m).credit } = s.mst m
  | .host => t.host = s.host
  | .pad => t.mem.pad = s.mem.pad
  | .store => t.mem.store = s.mem.store
  | .mem => { t.mem with pad := s.mem.pad, store := s.mem.store } = s.mem
  | .cal => t.cal = s.cal
  | .hlt => t.hlt = s.hlt
  | .lanes => t.lnk.lanes = s.lnk.lanes
  | .rim => t.lnk.rim = s.lnk.rim
  | .tdm => t.tdm = s.tdm
  | .ldr => t.ldr = s.ldr
  | .snap => t.snap = s.snap

/-- The parts that a fault event may change where windows watch it: its counters, and what the actions of R461 reach (spokes, drivers, roles, lanes,
commands in progress, loads). -/
def windowParts : List Part :=
  [.out, .mode, .intStatus, .glb, .cfg, .spokes, .looks, .streams, .stalls, .path, .lace, .crier, .queue, .cmd, .store, .cal, .hlt, .lanes
  , .rim, .tdm, .ldr]

/-- The parts that the close of a reducer interval may change. -/
def reducerParts : List Part :=
  [.freeCount, .out, .intStatus, .streams, .jobs, .path, .crier, .queue, .cmd, .pad, .store, .mem, .hlt, .snap]

/-- The parts that a register write that opens no span of R2 may change (R12, R53, R495 to R497). -/
def writeParts : List Part :=
  [.freeCount, .out, .intStatus, .glb, .stalls, .path, .lace, .crier, .queue, .credit, .cmd, .host, .pad, .store, .mem, .lanes, .rim, .tdm
  , .ldr, .snap]

/-- From `s` to `t` nothing has changed outside the parts listed; the queue of waiting commands (`pending`) never changes. -/
def UnchangedBut (ps : List Part) (s t : State) : Prop := t.pending = s.pending ∧ ∀ p, p ∉ ps → p.same s t

/-- From `s` to `t` none of the parts listed has changed, nor the queue of waiting commands. -/
def Keeps (ps : List Part) (s t : State) : Prop := t.pending = s.pending ∧ ∀ p ∈ ps, p.same s t

/-! ### Items in the journal (R390, R393, R396) -/

/-- The item in the journal slot of item `n` of queue `q`. -/
def itemAt (s : State) (q n : Nat) : Item :=
  let a := (s.mem.store.get {} (journalSlot q n)).data
  let b := (s.mem.store.get {} (journalSlot q n + 1)).data
  { w0 := a.setWidth 32, w1 := (a >>> 32).setWidth 32, w2 := b.setWidth 32, w3 := (b >>> 32).setWidth 32 }

/-- The words of a notice (R396): item `n` of queue `q`. -/
def noticeItem (q code id detail arg n : Nat) : Item :=
  { w0 := wordOf (n % 65536 * 65536 + (code * 256 + q)), w1 := wordOf (satField 16 detail * 65536 + satField 16 id)
    w2 := wordOf (arg % 2 ^ 32), w3 := wordOf (arg / 2 ^ 32) }

/-- The words of a completion (R390): item `n` of queue `q`. -/
def completionItem (q : Nat) (c : CmdItem) (status result n : Nat) : Item :=
  { w0 := wordOf (n % 65536 * 65536 + (masterNum c.master * 64 + q)), w1 := wordOf (c.cseq.toNat * 65536 + c.tag.toNat * 256 + status)
    w2 := wordOf (result % 2 ^ 32), w3 := wordOf (result / 2 ^ 32) }

/-- Between `s` and `t` an item was posted to queue `q` that still stands in its journal slot. -/
def Posts (s t : State) (q : Nat) (i : Nat → Item) : Prop :=
  ∃ n, (s.que q).posted ≤ n ∧ n < (t.que q).posted ∧ itemAt t q n = i n

/-- Between `s` and `t` this notice was posted. -/
def Notices (s t : State) (q code id detail arg : Nat) : Prop := Posts s t q (noticeItem q code id detail arg)

/-- The queue that the completions of a master go to (R390). -/
def cplQueue (s : State) (m : Master) : Nat := (s.mst m).cplQ % 64

/-- Command `c` has completed between `s` and `t`: its completion stands in the journal of its master's queue, and its credit is free again
(R384, R390). -/
def Completes (s t : State) (c : CmdItem) (status result : Nat) : Prop :=
  Posts s t (cplQueue s c.master) (completionItem (cplQueue s c.master) c status result) ∧
    (t.mst c.master).inFlight = (s.mst c.master).inFlight - 1

/-- Command `c` is the one that starts next (R385), it has opcode `op`, sets no reserved operand bit (R12), and the hub carries out commands of
that opcode in its present state (R386); no undefined use has been seen. -/
def Starts (s : State) (op : Nat) (c : CmdItem) : Prop :=
  s.cmd.queue.head? = some c ∧ c.opcode.toNat = op ∧ c.reservedClear = true ∧ s.accepts op = true ∧ s.ub = none

/-! ### The command set (R387, R437, R455, R479) -/

/-- The opcode of a row that is a command of the command set; none for an event, an access or a frame. -/
def opcodeOf : Instr → Option Nat
  | .nop => some 0x01 | .loadStructure => some 0x10 | .commit => some 0x11 | .cancelCommit => some 0x12
  | .storeStructure => some 0x13 | .setTime => some 0x18 | .releaseSpoke => some 0x20 | .restartLace => some 0x21
  | .fireTrigger => some 0x28 | .rearmTrigger => some 0x29 | .setMark => some 0x30 | .clearMark => some 0x31
  | .replay => some 0x32 | .releaseRecord => some 0x33 | .ackBlocks => some 0x34 | .readRecord => some 0x35
  | .resetTally => some 0x38 | .abortInterval => some 0x39 | .flush => some 0x40 | .saveContext => some 0x41
  | .restoreContext => some 0x42 | .setAddress => some 0x48 | .retrainLane => some 0x49 | .opticsRead => some 0x4A
  | .opticsWrite => some 0x4B | .swapRoles => some 0x50 | .snapshot => some 0x58 | .resync => some 0x59
  | .readReg => some 0x5A | .writeReg => some 0x5B | .scrub => some 0x60 | .bankPower => some 0x61
  | .storeRead => some 0x62 | .storeWrite => some 0x63 | .injectError => some 0x64 | .recalibrate => some 0x68
  | .setTrim => some 0x69 | .clearWindow => some 0x6A | .updateData => some 0x70 | .updateEnd => some 0x71
  | .updateAbort => some 0x72 | .commitImage => some 0x73 | .saveSettings => some 0x74 | .otpProvision => some 0x75
  | _ => none

/-- The row `i` completes command `c` with a code at once, and does nothing else: the command leaves the queue, its completion is posted. -/
def CompletesOnly (i : Instr) (s : State) (c : CmdItem) (status : Nat) : Prop :=
  ∃ t, exec i s = .next t ∧ Completes s t c status 0 ∧ UnchangedBut [.crier, .queue, .cmd, .store] s t

/-- The state in which the command at the front of the hub's queue has left it. -/
def taken (s : State) : State := s.upCmd fun k => { k with queue := k.queue.tail }

/-- Command `c` has started as a long command with this operation (R385); nothing has completed. -/
def Begins (s t : State) (c : CmdItem) (op : LongOp) : Prop :=
  t.cmd.queue = s.cmd.queue.tail ∧ t.cmd.long = s.cmd.long ++ [{ item := c, op := op, since := s.tick }]

/-- Where command `c` is in progress as a long command, it completes between `s` and `t` and is no longer in progress (R385). -/
def Ends (s t : State) (c : CmdItem) (status result : Nat) : Prop :=
  ∀ l, s.cmd.long.find? (fun l => decide (l.item = c)) = some l →
    Completes s t c status result ∧ t.cmd.long = eraseFirst (fun x => decide (x = l)) s.cmd.long

/-- From `s` to `t` no stall but those listed has changed. -/
def StallsKept (ks : List Nat) (s t : State) : Prop := ∀ k, k ∉ ks → t.stall k = s.stall k

/-- From `s` to `t` no stream's record but those listed has changed. -/
def StreamsKept (is : List Nat) (s t : State) : Prop := ∀ i, i ∉ is → t.strm i = s.strm i

/-! ### Terms of the sample path -/

/-- From `s` to `t` no look but those listed has changed. -/
def LooksKept (xs : List Nat) (s t : State) : Prop := ∀ x, x ∉ xs → t.look x = s.look x

/-- The gear of a look is shifted to `g` by the newest word of spoke `i` (R102, R103, R105, R106): the command goes out, the mend of that word is in
progress, and a MENDED span opens. -/
def Shifts (s t : State) (i stream g : Nat) : Prop :=
  t.out = s.out ++ [.gearCommand i (s.st.gearCode stream g)] ∧ (t.look stream).gear = g ∧
    (t.look stream).lastShift = (8 * s.wordNow i + 38) * s.st.clk stream ∧
    (∃ m ∈ (t.look stream).mends, m.word = s.wordNow i ∧ m.gear = g ∧ m.time = s.st.wordTime stream (s.wordNow i) ∧ m.done = false) ∧
    ∃ sp ∈ (t.look stream).spans, sp.tag = tagMended ∧ sp.start = (8 * s.wordNow i + 44) * s.st.clk stream + 1 ∧
      sp.stop = some ((8 * s.wordNow i + 34) * s.st.clk stream + 1)

/-- A fault event of a class and instance (R458, R459): it is counted in its class, and where a window watches it, it waits for the end of its tick. -/
def Raised (s t : State) (cls inst : Nat) : Prop :=
  t.hlt.classes.get 0 cls = satInc (s.hlt.classes.get 0 cls) ∧
    t.hlt.due = s.hlt.due ++ if s.st.watching cls inst = [] then [] else [(cls, inst)]

/-- No cell of the scratchpad is wrong or poisoned (R431). -/
def PadClean (s : State) : Prop := ∀ e ∈ s.mem.pad, e.2.flips = 0 ∧ e.2.poison = false

/-! ### Terms of the rim -/

/-- From `s` to `t` the port's record is unchanged. -/
def PortKept (p : Port) (s t : State) : Prop := t.rimPort p = s.rimPort p

/-- Every association has started again (R311, R325): nothing waits for an acknowledgement, and of the frames at the ports those that take part in no
association stay (log entry 20, DESIGN CHOICE). -/
def AssocsReset (s t : State) : Prop :=
  t.lnk.rim.assocs = [] ∧ t.lnk.rim.ctl = [] ∧ t.lnk.rim.bulkOut = [] ∧ ∀ p, (t.rimPort p).bulk = [] ∧
    (t.rimPort p).express = (s.rimPort p).express.filter OutFrame.unnumbered ∧ (t.rimPort p).time = (s.rimPort p).time.filter OutFrame.unnumbered

/-- A CONTROL frame in the retransmit buffer is sent again with the acknowledgement of now, or abandoned after `ctl_tries` sendings (R327). -/
def SentAgain (s t : State) (c : CtlFrame) : Prop :=
  (s.st.ctlTries ≤ c.tries → t.lnk.rim.ctl = s.lnk.rim.ctl.filter (fun x => decide (x ≠ c)) ∧ t.lnk.rim.ctlLost = satInc s.lnk.rim.ctlLost ∧
      Notices s t s.st.rimQ 0x4C c.frame.dst 2 (argSX s.now c.frame.seq.toNat)) ∧
    (c.tries < s.st.ctlTries →
      t.lnk.rim.ctl = s.lnk.rim.ctl.map (fun x => if x = c then { x with tries := x.tries + 1, tick := s.tick } else x) ∧
      (s.portActive s.toHead = true → c.frame.cls = 2 → (t.rimPort s.toHead).control =
        (s.rimPort s.toHead).control ++ [{ c.frame with ack := some (s.assoc c.frame.src c.frame.dst 2).expected }]) ∧
      UnchangedBut [.rim] s t)

/-- A received command item is taken (R384, R385, R405, R408): it holds a credit and is the last of the hub's queue. -/
def Takes (s t : State) (c : CmdItem) : Prop :=
  t.cmd.queue = s.cmd.queue ++ [c] ∧ (t.mst c.master).inFlight = (s.mst c.master).inFlight + 1 ∧ (t.mst c.master).accepted = c.cseq ∧
    (t.mst c.master).itemTick = s.tick ∧ (c.opcode.toNat ≠ 0x59 → (t.mst c.master).expected = c.cseq + 1 ∧ (t.mst c.master).based = true) ∧
    (c.opcode.toNat ≠ 0x59 → (s.mst c.master).based = true → c.cseq ≠ (s.mst c.master).expected →
      (t.mst c.master).gaps = satInc (s.mst c.master).gaps ∧ Notices s t (cplQueue s c.master) 0x60 (masterNum c.master)
        (s.mst c.master).expected.toNat (argSX s.now c.cseq.toNat))

/-! ### Terms of the lanes -/

/-- From `s` to `t` no lane but `x` has changed. -/
def LanesKept (x : Nat) (s t : State) : Prop := ∀ y, y ≠ x → t.lane y = s.lane y

/-- A bring-up of lane `x` has failed (R346): it waits in DETECT for min(2^(n−1), 1000) ms, n counting the failures in a row. -/
def BacksOff (s t : State) (x : Nat) : Prop :=
  (t.lane x).state = .detect ∧ (t.lane x).since = s.tick ∧ (t.lane x).failures = (s.lane x).failures + 1 ∧
    (t.lane x).lastFail = (s.lane x).state.code ∧
    (t.lane x).backoffUntil = some (s.tick + ms (min (2 ^ min (s.lane x).failures 10) 1000)) ∧ LanesKept x s t

/-- Lane `x` is in DETECT from now on without back-off (R339, R347); left from ACTIVE, N_LANE_DOWN carries the cause, and a rim port's reach and
waiting frames are gone. -/
def Detects (s t : State) (x cause : Nat) : Prop :=
  (t.lane x).state = .detect ∧ (t.lane x).since = s.tick ∧ (t.lane x).backoffUntil = none ∧ (t.lane x).blockLock = false ∧ LanesKept x s t ∧
    ((s.lane x).state = .active → Notices s t s.st.rimQ 0x51 x cause (argT s.now) ∧ t.glb.intStatus.flag 5 = true ∧
      (x < 2 → (t.rimPort (portOfLane x)).reach = false ∧ (t.rimPort (portOfLane x)).control = [] ∧ (t.rimPort (portOfLane x)).bulk = []))

/-! ### Terms of the tandem -/

/-- The hub has begun to claim at instant `c` (R361, R362): its role, counters and N_TANDEM_TAKEOVER, and its drivers started at 50 mA. -/
def Claims (s t : State) (c : Nat) : Prop :=
  t.tdm.role = .claiming ∧ t.tdm.since = s.tick ∧ t.tdm.takeovers = satInc s.tdm.takeovers ∧ t.tdm.lastTakeover = c ∧ t.tdm.activeSince = c ∧
    t.crier.acts = satAdd s.crier.acts 1 ∧ t.glb.intStatus.flag 4 = true ∧
    Notices s t s.st.tandemQ 0x58 (t.tdm.partnerRole * 16 + t.tdm.missing) 0
      (argSX c (c - (match t.tdm.partner with | none => c | some hb => hb.sendTime))) ∧
    ∀ l ∈ s.st.driven, (s.laceOf l).tripped = false → (t.laceOf l).limit50 = true ∧ (t.laceOf l).highZ = false ∧
      (t.laceOf l).drive = s.st.drive l ∧ (t.laceOf l).ramp.isSome = true

/-- The hub has begun to yield (R133, R224, R368): every driver off, no pulse driven, N_TANDEM_YIELDED. -/
def Yields (s t : State) (cause : Nat) : Prop :=
  t.tdm.role = .yielding ∧ t.tdm.since = s.tick ∧ t.tdm.activeSince = 0 ∧ t.path.trigOut = [] ∧
    t.crier.acts = satAdd s.crier.acts 1 ∧ t.glb.intStatus.flag 4 = true ∧ Notices s t s.st.tandemQ 0x59 0 cause (argT s.now) ∧
    ∀ l, l < 48 → (t.laceOf l).highZ = true ∧ (t.laceOf l).drive = 0 ∧ (t.laceOf l).scale = 0 ∧ (t.laceOf l).ramp = none

/-- The takeover rule of R360 would have a standby that is not halted (R485) claim: no token, no link heartbeat, and no rim heartbeat or no excitation. -/
def partnerSilent (t : State) : Bool := t.live && !t.ldr.halted && !t.tdm.witToken && !t.tdm.witLink && (!t.tdm.witRim || !t.tdm.witExc)

/-- The hub has entered STANDBY_DESYNC, with no pulse driven (R224, R370); where the takeover rule of R360 holds, it has gone on to claim. -/
def Desyncs (s t : State) : Prop :=
  t.path.trigOut = [] ∧ t.tdm.since = s.tick ∧ t.glb.intStatus.flag 4 = true ∧ Notices s t s.st.tandemQ 0x5A 0 0 (argT s.now) ∧
    (partnerSilent t = false → t.tdm.role = .standbyDesync) ∧ (partnerSilent t = true → t.tdm.role = .claiming)

/-- What follows when a witness is found missing (R360), with the witnesses as they are then: a standby claims without token and link heartbeat where
the rim heartbeat or the excitation is missing too, unless its firmware is halted (R485), and otherwise keeps its role. -/
def TakeoverFollows (s t : State) (token link rim : Bool) : Prop :=
  ((s.live && !s.ldr.halted && s.tdm.role.stands && !token && !link && (!rim || !s.tdm.witExc)) = true → Claims s t s.now) ∧
    ((s.live && !s.ldr.halted && s.tdm.role.stands && !token && !link && (!rim || !s.tdm.witExc)) = false →
      t.tdm.role = s.tdm.role ∧ UnchangedBut [.looks, .tdm] s t)

/-! ### Terms of the crier and the rings -/

/-- From `s` to `t` no crier queue but `q` has changed. -/
def QueuesKept (q : Nat) (s t : State) : Prop := ∀ p, p ≠ q → t.que p = s.que p

/-- From `s` to `t` no host ring but `r` has changed. -/
def RingsKept (r : Nat) (s t : State) : Prop := ∀ p, p ≠ r → t.ring p = s.ring p

/-- The journal slot of item `n` of queue `q` holds two clean codewords (R434). -/
def SlotClean (s : State) (q n : Nat) : Prop :=
  ∀ k, k = journalSlot q n ∨ k = journalSlot q n + 1 → (s.storeAt k).flips = 0 ∧ (s.storeAt k).poison = false

/-- N_NOTICES_LOST is posted to queue `q` for `count` items from number `first` on (R394). -/
def TellsLoss (s t : State) (q first count : Nat) : Prop := Notices s t q 0x61 q count (argSX s.now (first % 65536))

/-- MSI-X vector `v` has gone out with the address and data of its table entry, or, where it is masked, its pending bit is set (R399, R501). -/
def SendsVector (s t : State) (v : Nat) : Prop :=
  (s.glb.vectorMasked v = false → s.glb.vectorOut v ∈ t.out) ∧ (s.glb.vectorMasked v = true → v ∈ t.glb.msixPending)

/-! ### Terms of the triggers -/

/-- Unit `u` is enabled and has one source of a type, and of an argument where one is given; any event from it makes a trigger (R214, R216). -/
def OneSource (st : Struct) (u type : Nat) (arg : Option Nat) : Prop :=
  st.trEnable u = true ∧ st.trSources u = 1 ∧ st.srcType u 0 = type ∧ (∀ a, arg = some a → st.srcArg u 0 = a) ∧ st.trCombine u = 0

/-- The unit has fired at a point (R217, R219, R222): held events are cleared, its freewheel begins, N_TRIGGER carries the outcome, and the trigger is
counted by it. -/
def Fires (s t : State) (u point : Nat) : Prop :=
  (t.trig u).held = [] ∧ (t.trig u).lastPoint = point ∧ (t.trig u).freewheel = s.st.freewheel u point ∧
    (s.publishes = true → s.st.trIoOut u = true → t.path.trigOut.get 0 (s.st.trIoPin u) = s.tick + us 10) ∧
    ∃ o : Outcome, Notices s t (s.st.trQ u) 0x32 (o.code * 256 + u) (point % 65536) (argT (point / 65536)) ∧
      ((o = .newRecord ∨ o = .extended) ∧ (t.trig u).fired = satInc (s.trig u).fired ∧ (t.trig u).counted = (s.trig u).counted ∨
        (o = .counted ∨ o = .degraded) ∧ (t.trig u).counted = satInc (s.trig u).counted ∧ (t.trig u).fired = (s.trig u).fired)

/-- A trigger at a point falls in the unit's freewheel (R220): it is counted as suppressed, and no record opens. -/
def Suppressed (s t : State) (u : Nat) : Prop :=
  (t.trig u).suppressed = satInc (s.trig u).suppressed ∧ (t.trig u).fired = (s.trig u).fired ∧ (t.trig u).counted = (s.trig u).counted

/-- An event at an instant on the only source of unit `u` fires it, or is suppressed. -/
def FiresOrSuppresses (s t : State) (u point : Nat) : Prop :=
  ((s.trig u).freewheel.holds point = false → Fires s t u point) ∧ ((s.trig u).freewheel.holds point = true → Suppressed s t u)

/-! ### Terms of the update -/

/-- The loader's registers after an update command of the session's owner: its 30 s begin again (R481). -/
def refreshed (s : State) : Ldr := { s.ldr with session := s.ldr.session.map fun x => { x with lastTick := s.tick } }

/-- The update command `c` may be carried out: on the hub's own address, and by the session's owner where there is a session (R479, R481). -/
def MayUpdate (s : State) (c : CmdItem) : Prop := c.service = false ∧ ∀ x, s.ldr.session = some x → x.owner = masterNum c.master

/-- The row `i` completes the update command `c` at once with a code and a result; the loader's registers are then `l` with that code as the last
result (R493). -/
def AnswersUpdate (i : Instr) (s : State) (c : CmdItem) (code result : Nat) (l : Ldr) : Prop :=
  ∃ t, exec i s = .next t ∧ Completes s t c code result ∧ t.ldr = { l with lastResult := code } ∧
    UnchangedBut [.crier, .queue, .cmd, .store, .ldr] s t

/-- The session `x` has ended without success (R481): N_UPDATE_ENDED carries the cause. -/
def EndsSession (s t : State) (x : Session) (cause : Nat) : Prop :=
  t.ldr.session = none ∧ t.glb.intStatus.flag 10 = true ∧ Notices s t 0 0x92 x.owner cause (argSX s.now x.received)

/-! ### Invariants -/

/-- The credits of the four masters never exceed 256 slots (R384). -/
def CreditsFit (s : State) : Prop := s.cmd.creditSum ≤ 256

/-- Both memories are in canonical form: addresses strictly rising and no entry equal to what an unlisted address reads as (log entries 6
and 7); a bank that is OFF has lost its contents (R440). -/
def Canonical (s : State) : Prop :=
  s.mem.store.wf {} = true ∧ s.mem.pad.rising 0 = true ∧ (∀ e ∈ s.mem.pad, e.2 ≠ s.unlistedCell e.1) ∧
    ∀ b, (s.bank b).power = .off → (s.bank b).lost = true

end Sys2Proof.Safety
end

