-- ==== Sys2Proof/Certificates/Slice0/Obligations.lean ====
section
/-! DEFINITION. The statements for the provers. -/

open Sys2Proof Sys2Proof.Machine Sys2Proof.Safety

/-- A step takes the command at the front of the queue and runs it with the queue's rest; with no command waiting the fault events of the present tick are
settled and one period of the timebase passes (log entry 1: the model's choice). -/
def Obligations.StepRunsFrontCommand : Prop :=
  (∀ (s : State) (c : Instr) (rest : List Instr), s.pending = c :: rest → step s = exec c { s with pending := rest }) ∧
    ∀ s : State, s.pending = [] → step s = .next s.settleFaults.idle ∧ s.settleFaults.idle.pending = [] ∧
      (s.glb.state ≠ .reset → s.settleFaults.idle.tmb.counter = s.tmb.counter + 1) ∧
      (s.hlt.due = [] → s.settleFaults = s ∧ (s.glb.state = .reset → s.idle = s) ∧
        (s.glb.state ≠ .reset → UnchangedBut [.counter, .tmb] s s.idle))

/-- RESET_ASSERT (R508, R471): every effective cause leads to the state of reset, in which flash keeps what it holds; a low pulse on RESET_N shorter than
10 µs does nothing. Of the state of reset: the hub is in RESET, the credits are R384's, no ring is enabled, no command waits, the lanes are OFF, and
TKN_OUT and the gates of the excitation supplies are not driven (R509). What has been handed outside, the commands still to come and the counter of free
values are the model's own and stay. -/
def Obligations.ResetLeavesResetValues : Prop :=
  (∀ (s : State) (c : ResetCause), (∀ w, c = .resetN w → 10000 ≤ w) →
      exec (.resetAssert c) s =
        .next { State.reset with pending := s.pending, freeCount := s.freeCount, out := s.out, ldr := { State.reset.ldr with flash := s.ldr.flash } }) ∧
    (∀ (s : State) (w : Nat), s.ub = none → w < 10000 → exec (.resetAssert (.resetN w)) s = .next s) ∧
    State.reset.glb.state = .reset ∧ State.reset.glb.intEnable = 0 ∧ State.reset.tmb.counter = 0 ∧ State.reset.cfg.committed = {} ∧
      State.reset.cfg.stage = .empty ∧ (State.reset.mst .spi).credit = 64 ∧ (State.reset.mst .pcie).credit = 64 ∧
      (State.reset.mst .rim).credit = 64 ∧ (State.reset.mst .tandem).credit = 0 ∧ cplQueue State.reset .spi = 0 ∧
      cplQueue State.reset .pcie = 1 ∧ cplQueue State.reset .rim = 2 ∧ (∀ q, (State.reset.que q).posted = 0) ∧
      (∀ r, (State.reset.ring r).enabled = false) ∧ State.reset.cmd.queue = [] ∧ State.reset.cmd.long = [] ∧
      State.reset.tdm.tokenOut = none ∧ State.reset.lace.gates = false ∧ State.reset.hlt.due = [] ∧ ∀ x, (State.reset.lane x).state = .off

/-- The loader's steps (R471 to R473, R477, R488, R444, R449): from the release of reset through authentication, firmware initialisation, self-test
and calibration, each event in the state that it belongs to leads to the next state, or to RECOVERY or FAULT. The outcomes of the checks are functions
that the model leaves open (log entry 13); how settings and sessions are read at boot is log entry 32, the answers to the checks 33, what cleared memory reads
as 6, and what the readings of a calibration give 27. TKN_OUT's level after reset is 44. -/
def Obligations.BootLeadsFromResetToTimewait : Prop :=
  (∀ (s : State) (safe : Bool), s.ub = none → s.glb.state = .reset → ∃ t, exec (.resetRelease safe) s = .next t ∧
      (t.glb.state = if safe ∨ s.ldr.flash.otpNative = none ∨ s.ldr.flash.otpKey = none then .recovery else .loader) ∧
      t.glb.safeBoot = safe ∧ (safe = true → t.ldr.recoveryCause = 1) ∧
      (safe = false → (s.ldr.flash.otpNative = none ∨ s.ldr.flash.otpKey = none) → t.ldr.recoveryCause = 2) ∧
      (∀ x, x < 4 → (t.lane x).state = .detect) ∧
      (t.lnk.rim.session = match s.ldr.flash.newestSetting with
        | none => 1
        | some b => ((s.ldr.flash.setting b).session + 1) % 65536) ∧
      UnchangedBut [.out, .mode, .intStatus, .glb, .stalls, .crier, .cmd, .store, .lanes, .rim, .tdm, .ldr] s t) ∧
  (∀ (s : State) (f : FwImage), s.ub = none → s.glb.state = .loader → s.ldr.image = none → s.ldr.flash.slot = some f →
      ((f.headerCheck (settingsLegacy s.headerSettings) s.ldr.flash = none ∧ f.bodyCheck s.ldr.flash = none →
          ∃ t, exec .imageAuthenticated s = .next t ∧ t.ldr = { s.ldr with image := some f, fresh := s.ldr.flash.imageNew } ∧
            UnchangedBut [.ldr] s t) ∧
        (f.headerCheck (settingsLegacy s.headerSettings) s.ldr.flash ≠ none ∨ f.bodyCheck s.ldr.flash ≠ none →
          ∃ t, exec .imageAuthenticated s = .next t ∧ t.glb.state = .recovery ∧ t.ldr.recoveryCause = 3 ∧ t.ldr.image = none ∧
            Notices s t 0 0x98 0 3 (argT s.now) ∧ UnchangedBut [.out, .mode, .intStatus, .stalls, .crier, .store, .rim, .ldr] s t))) ∧
  (∀ s : State, s.ub = none → s.glb.state = .loader → s.ldr.image = none → s.ldr.flash.slot = none →
      ∃ t, exec .imageAuthenticated s = .next t ∧ t.glb.state = .recovery ∧ t.ldr.recoveryCause = 3 ∧ Notices s t 0 0x98 0 3 (argT s.now) ∧
        UnchangedBut [.out, .mode, .intStatus, .stalls, .crier, .store, .rim, .ldr] s t) ∧
  (∀ (s : State) (f : FwImage), s.ub = none → s.glb.state = .loader → s.ldr.image = some f → ∃ t, exec .firmwareInitDone s = .next t ∧
      t.glb.state = .selftest ∧ t.ldr.recoveryCause = 0 ∧ t.ldr.image = some f ∧ (∀ e, e < 16 → (t.engine e).code = s.jobVersion) ∧
      UnchangedBut [.out, .mode, .intStatus, .stalls, .path, .crier, .store, .rim, .ldr] s t) ∧
  (∀ (s : State) (l : List SelfTestFail), s.ub = none → s.glb.state = .selftest → Instr.wf (.selftestEnd l) = true →
      ∃ t, exec (.selftestEnd l) s = .next t ∧ (t.glb.state = if l.any testFatal then .fault else .calibrate) ∧
        (t.mem.stDone, t.mem.stPass) = (true, !l.any testFatal) ∧ t.mem.pad = [] ∧
        (∀ b, b < 128 → (t.bank b).power = if l.any (fun f => testMarks f && f.unit == b) then .failed else .on) ∧
        (∀ f, l = [f] → (testFatal f || testMarks f) = true → Notices s t 0 0x6A f.step f.unit (argT f.addr)) ∧
        UnchangedBut [.out, .mode, .intStatus, .crier, .pad, .store, .mem, .cal] s t) ∧
  (∀ (s : State) (a : List SpokeCal) (b : List LaceCal) (c : List RefCal), s.ub = none → s.glb.state = .calibrate →
      s.passed s.cal.startTick (ms 2400) = true → Instr.wf (.calibrationEnd a b c) = true →
      ∃ t, exec (.calibrationEnd a b c) s = .next t ∧ t.glb.state = .timewait ∧ t.tmb.timewaitTick = s.tick ∧ t.cal.done = true ∧
        t.cal.doneTick = s.tick ∧ t.cal.failLaces = (b.filter laceFails).length ∧ 
        t.ldr = { s.ldr with flash := { s.ldr.flash with calRecords := { spokes := a, laces := b, refs := c } } } ∧
        (settingsBootEn s.ldr.settings = true → t.cfg = { s.cfg with stage := .loading, staged := none }) ∧
        (settingsBootEn s.ldr.settings = false → t.cfg = s.cfg) ∧
        UnchangedBut [.out, .mode, .intStatus, .tmb, .cfg, .crier, .store, .cal, .ldr] s t)

/-- From TIMEWAIT to RUN (R79, R52, R451, R457). What the boot image keeps, and when N_COMMIT_LATE goes out for it, is log entry 41; trims of unused
slots are 27. -/
def Obligations.SamplingStartsAtItsInstant : Prop :=
  (∀ s : State, s.ub = none → s.glb.state = .timewait → s.tmb.trimsIn = none → s.passed s.tmb.timewaitTick (ms 100) = true →
      ∃ t, exec (.trimRampEnd none) s = .next t ∧ t.tmb.trimsIn = some s.tick ∧
        (∀ e, s.tmb.startAt = some e → s.st.timeSource ≠ 0 → t.tmb.startAt = some (if e < s.now then epochAtOrAfter s.now else e)) ∧
        UnchangedBut [.tmb] s t) ∧
  (∀ (s : State) (i : Fin 768) (g : Fin 25) (r : TrimRamp), s.ub = none →
      s.cal.ramps.find? (fun r => r.spoke == i.val && r.slot == g.val) = some r → s.passed r.start (ms 100) = true →
      (s.cal.recal = some i.val → exec (.trimRampEnd (some (i, g))) s = .next s) ∧
      (s.cal.recal ≠ some i.val → ∃ t, exec (.trimRampEnd (some (i, g))) s = .next t ∧ (t.calSlot i g).offsetCode = r.offsetCode ∧ (t.calSlot i g).gainCode = r.gainCode ∧
        r ∉ t.cal.ramps ∧ Notices s t 0 0x78 i g (argT s.now) ∧ UnchangedBut [.crier, .store, .cal] s t)) ∧
  (∀ s : State, s.ub = none → s.glb.state = .timewait → s.cfg.stage = .loading →
      s.longOf (fun o => match o with | .load .. => true | _ => false) = none →
      ∃ t, exec .bootStructLoaded s = .next t ∧
        (∀ i, (s.loadFrom (s.readLibrary (settingsBootSlot s.ldr.settings))).1.cfg.staged = some i →
          (i.target.timeUsable = true → t.cfg.stage = .pending ∧ t.cfg.staged = some i ∧
            (∃ p, t.cfg.pending = some p ∧ p.atSamplingStart = true ∧ p.item = none) ∧
            t.cfg.committed = s.st.setRecord .time 0 (i.target.record .time 0) ∧
            UnchangedBut [.out, .intStatus, .tmb, .committed, .cfg, .crier, .pad, .store, .mem] s t) ∧
          (i.target.timeUsable = false → t.ub = some 89)) ∧
        ((s.loadFrom (s.readLibrary (settingsBootSlot s.ldr.settings))).1.cfg.staged = none → t.cfg.stage = .empty ∧
          Notices s t 0 0x13 (settingsBootSlot s.ldr.settings) (s.loadFrom (s.readLibrary (settingsBootSlot s.ldr.settings))).2
            (argT (s.timeAtTick s.tmb.timewaitTick)) ∧
          UnchangedBut [.out, .intStatus, .cfg, .crier, .store] s t)) ∧
  (∀ s : State, s.ub = none → s.glb.state = .timewait → s.st.freeRun = true → s.st.timeSource ≠ 0 → s.tmb.startAt = none →
      s.tmb.everLocked = false → s.passed s.tmb.timewaitTick (ms (s.st.frWait * 100)) = true →
      ∃ t, exec .freeRunWaitExpiry s = .next t ∧ t.tmb.startAt = some (epochAtOrAfter (s.now + 1)) ∧ UnchangedBut [.tmb] s t) ∧
  (∀ (s : State) (e : Nat), s.ub = none → s.glb.state = .timewait → s.tmb.trimsIn.isSome = true → s.tmb.startAt = some e → e ≤ s.now →
      ((∀ p i, s.cfg.stage = .pending → s.cfg.pending = some p → s.cfg.staged = some i →
          i.sound = true ∧ s.st.csdKept i.target = true ∧ s.ringsSound i.target = true) →
        ∃ t, exec .samplingStart s = .next t ∧ t.glb.state = .run ∧ t.glb.sampling = true ∧
          (∀ p i, s.cfg.stage = .pending → s.cfg.pending = some p → s.cfg.staged = some i → p.atSamplingStart = true →
            t.cfg.stage = .empty ∧ t.cfg.commitTime = e ∧ (t.ub = none → t.cfg.committed = i.target)) ∧
          ((∀ x ∈ s.path.stalls, ∀ r ∈ x.2.records, r.state ≠ .opened) → t.ub = none) ∧ Keeps [.counter] s t))

/-- The supervisor's faults, the warm restart and probation (R22 to R24, R27, R458, R483): a WATCHDOG event that a window watches waits for the end of its
tick (R459), where the windows take it before what it leads to. Where a restart that began before sampling ends is log entry 30's (DEDUCED). -/
def Obligations.SupervisorFaultsRestartTheFirmware : Prop :=
  (∀ s : State, s.ub = none → s.glb.state ≠ .reset → s.ldr.halted = false →
      ∃ t, exec .lockstepMismatch s = .next t ∧ t.hlt.classes.get 0 11 = satInc (s.hlt.classes.get 0 11) ∧
        (s.st.watching 11 0 ≠ [] → t.hlt.due = s.hlt.due ++ [(11, 0)] ∧ UnchangedBut [.hlt] s t) ∧
        (s.st.watching 11 0 = [] → t.hlt.due = s.hlt.due ∧
          (s.ldr.probationFrom = none → s.glb.state ≠ .fault → s.glb.state ≠ .warmRestart → s.cmd.long.length ≤ 256 →
            t.glb.state = .warmRestart ∧ t.glb.warmRestarts = satTo 255 (s.glb.warmRestarts + 1) ∧ Notices s t 0 0x74 0 0 (argT s.now))) ∧
        UnchangedBut (.tmb :: windowParts.filter (· ≠ .lanes)) s t) ∧
  (∀ s : State, s.ub = none → s.glb.state = .run → s.ldr.halted = false → s.passed s.hlt.serviced (ms 250) = true →
      ∃ t, exec .watchdogExpiry s = .next t ∧ t.hlt.classes.get 0 11 = satInc (s.hlt.classes.get 0 11) ∧ t.hlt.serviced = s.tick ∧
        (s.st.watching 11 1 ≠ [] → t.hlt.due = s.hlt.due ++ [(11, 1)] ∧ UnchangedBut [.hlt] s t) ∧
        (s.st.watching 11 1 = [] → s.ldr.probationFrom = none → s.cmd.long.length ≤ 256 →
          t.glb.state = .warmRestart ∧ t.glb.warmRestarts = satTo 255 (s.glb.warmRestarts + 1) ∧ Notices s t 0 0x74 0 1 (argT s.now)) ∧
        UnchangedBut (.tmb :: windowParts.filter (· ≠ .lanes)) s t) ∧
  (∀ s : State, s.ub = none → s.glb.state = .warmRestart →
      ∃ t, exec .warmRestartEnd s = .next t ∧ (t.glb.state = if s.glb.sampling then .run else s.restartsInto) ∧
        (∀ l ∈ t.cmd.long, l.op ≠ .aborted) ∧ (∀ l ∈ s.cmd.long, l.op ≠ .aborted → l ∈ t.cmd.long) ∧
        UnchangedBut [.out, .mode, .intStatus, .tmb, .cfg, .stalls, .path, .crier, .queue, .cmd, .store, .hlt, .rim, .ldr] s t) ∧
  (∀ (s : State) (k : Nat), s.ub = none → s.glb.state = .run → s.ldr.probationFrom = some k →
      s.ldr.probationS * Config.ticksPerS ≤ s.probationRun k →
      ∃ t, exec .probationEnd s = .next t ∧ t.ldr = { s.ldr with probationFrom := none } ∧
        (s.ldr.watchdogEvents = 0 → Notices s t 0 0x94 0 0 (argSX s.now (match s.ldr.image with | none => 0 | some f => f.version))) ∧
        UnchangedBut [.crier, .store, .ldr] s t)

/-- Every well-formed command answers a next state in every state, with the queue of waiting commands as it was; any other term is stopped by name
(the model's choice: it is no command of the hub). -/
def Obligations.EveryCommandAnswersNext : Prop :=
  ∀ (c : Instr) (s : State), (c.wf = true → ∃ t, exec c s = .next t ∧ t.pending = s.pending) ∧ (c.wf = false → exec c s = .fault .illFormed)

/-- TMB_COUNTER (R55): 0 at reset, raised by every tick outside RESET, changed by no command. -/
def Obligations.CounterMovesOnlyByTicks : Prop :=
  (∀ (s t : State) (c : ResetCause), resets c = true → exec (.resetAssert c) s = .next t → t.tmb.counter = 0) ∧
  (∀ (c : Instr) (s t : State), (∀ r, c = .resetAssert r → resets r = false) → exec c s = .next t → t.tmb.counter = s.tmb.counter) ∧
  ∀ s : State, s.pending = [] → s.glb.state ≠ .reset → ∃ t, step s = .next t ∧ t.tmb.counter = s.tmb.counter + 1

/-- FAULT is left only by reset (R461, R471): every step from a state in FAULT that is no effective reset leads to a state in FAULT. -/
def Obligations.FaultIsLeftOnlyByReset : Prop :=
  ∀ s t : State, s.glb.state = .fault → step s = .next t → (∀ c, s.pending.head? = some (.resetAssert c) → resets c = false) → t.glb.state = .fault

/-- The structure in force is changed only by COMMIT_INSTANT, by SAMPLING_START and BOOT_STRUCT_LOADED (R52, R79) and by reset, as long as no span of
undefined behaviour is open. -/
def Obligations.StructureChangesOnlyAtItsInstants : Prop :=
  ∀ (c : Instr) (s t : State), exec c s = .next t → t.ub = none → c ≠ .commitInstant → c ≠ .samplingStart → c ≠ .bootStructLoaded →
    (∀ r, c ≠ .resetAssert r) → t.cfg.committed = s.cfg.committed

/-- The credits fit at reset (R384). -/
def Obligations.CreditsFitAtReset : Prop := CreditsFit State.reset

/-- Every step keeps the sum of the four credits at or below 256 (R384). -/
def Obligations.CreditsStayWithin256 : Prop := ∀ s t : State, CreditsFit s → step s = .next t → CreditsFit t

/-- The memories are in canonical form at reset (log entries 6 and 7). -/
def Obligations.MemoriesCanonicalAtReset : Prop := Canonical State.reset

/-- Every step keeps both memories in canonical form: no read, write, correction, scrub, injection, power change, journal write or self-test breaks
it. -/
def Obligations.MemoriesStayCanonical : Prop := ∀ s t : State, Canonical s → step s = .next t → Canonical t

/-- Commands wait (R23, R27, R385; log entry 2): a command row changes nothing in WARM_RESTART, in RESET, while both cores stand halted, and where the
command at the front of the hub's queue is another one of the command set. -/
def Obligations.WarmRestartHoldsCommands : Prop :=
  ∀ (i : Instr) (op : Nat) (s : State), opcodeOf i = some op → s.ub = none →
    (s.glb.state = .warmRestart ∨ s.glb.state = .reset ∨ s.ldr.coresHalted = true ∨
      ∀ c, s.cmd.queue.head? = some c → c.opcode.toNat ≠ op ∧ knownOpcode c.opcode.toNat = true) → exec i s = .next s

/-- WRONG_STATE and BAD_OPCODE (R386): a command that the present state does not accept; which opcodes the states outside RUN and TIMEWAIT accept; an
item of an unlisted opcode, which completes at once where nothing is ahead of it, and otherwise waits its turn (R385; log entry 2). -/
def Obligations.WrongStateIsRefused : Prop :=
  (∀ (i : Instr) (op : Nat) (s : State) (c : CmdItem), opcodeOf i = some op → s.ub = none → s.cmd.queue.head? = some c → c.opcode.toNat = op →
      s.glb.state ≠ .warmRestart → s.glb.state ≠ .reset → s.ldr.coresHalted = false → s.accepts op = false →
      ∃ t, exec i s = .next t ∧ Completes s t c 0x20 0 ∧ t.cmd.queue = s.cmd.queue.tail ∧
        t.ldr = (if 0x70 ≤ op ∧ op ≤ 0x75 then { s.ldr with lastResult := 0x20 } else s.ldr) ∧
        UnchangedBut [.out, .intStatus, .crier, .queue, .cmd, .store, .ldr] s t) ∧
  (∀ (op : Nat) (s : State), s.glb.state ≠ .run → s.glb.state ≠ .timewait → s.accepts op = true →
      op ∈ [0x01, 0x5A, 0x5B, 0x48, 0x70, 0x71, 0x72, 0x75]) ∧
  (∀ (w : Master) (m : Master) (tgt : Fin 2) (w3 : Word) (s : State), s.ub = none → s.glb.state ≠ .reset → cmdInMaster w tgt.val = some m →
    let c := { itemOfWords m { w0 := (s.mst m).cmdIn.1, w1 := (s.mst m).cmdIn.2.1, w2 := (s.mst m).cmdIn.2.2, w3 := w3 } false with
      base := (s.mst m).base }
    knownOpcode c.opcode.toNat = false → (s.mst m).lapsed = false → (s.mst m).inFlight < (s.mst m).credit →
    ∃ t, exec (.cmdItemWrite w tgt w3) s = .next t ∧
      (s.holds = false → s.cmd.queue = [] → Posts s t (cplQueue s m) (completionItem (cplQueue s m) c 0x1F 0) ∧ t.cmd.queue = [] ∧
        (t.mst m).inFlight = (s.mst m).inFlight) ∧
      (s.holds = true ∨ s.cmd.queue ≠ [] → t.cmd.queue = s.cmd.queue ++ [c] ∧ (t.mst m).inFlight = (s.mst m).inFlight + 1) ∧
      UnchangedBut [.out, .intStatus, .crier, .queue, .cmd, .store] s t) ∧
  ∀ (i : Instr) (op : Nat) (s : State) (c : CmdItem) (rest : List CmdItem), opcodeOf i = some op → s.ub = none → s.holds = false →
    s.cmd.queue = c :: rest → knownOpcode c.opcode.toNat = false → (∀ d, rest.head? = some d → knownOpcode d.opcode.toNat = true) →
    ∃ u, Completes s u c 0x1F 0 ∧ u.cmd.queue = rest ∧ UnchangedBut [.crier, .queue, .cmd, .store] s u ∧
      ((∀ d, rest.head? = some d → d.opcode.toNat ≠ op) → exec i s = .next u) ∧
      (∀ d, rest.head? = some d → d.opcode.toNat = op → exec i s = exec i u)

/-- Received PTP messages (R64, R66, R68, R70, R78, R533): the mean path delay is half the sum of the two paths, to a unit of 2^-16 ns on either side
of an odd sum (log entry 15), and no measurement moves the rate that HOLDOVER holds. The port numbers of the hub's own messages are log entry 42's
choice. The fields that name a master are log entry 16 (PRESUMED), the servo's filter 8. -/
def Obligations.PtpMessagesMeasureTheMaster : Prop :=
  (∀ (s : State) (p : Port) (rate : Nat), s.ub = none → s.portActive p = true → 0 < rate → ∃ t, exec (.finePhaseMeasurement p rate) s = .next t ∧
      (t.ptpPort p).recovered = (s.tick, rate) :: (s.ptpPort p).recovered.filter (fun e => decide (s.tick ≤ e.1 + 10 * Config.ticksPerMs)) ∧
      t.ptpPort (otherPort p) = s.ptpPort (otherPort p) ∧ UnchangedBut [.tmb] s t) ∧
  (∀ (s : State) (p : Port) (h : PtpHdr) (frac : Fin 64) (two : Bool) (origin : Int), s.ub = none → s.fromMaster p h = true → h.wf = true → 0 ≤
      origin →
      ∃ t, exec (.ptpSync p h frac two origin) s = .next t ∧ (t.ptpPort p).syncTick = s.tick ∧
        (two = true → (t.ptpPort p).syncWait = some (h.seqId, origin, s.rxStamp p frac - h.correction - s.st.asym p) ∧ UnchangedBut [.tmb] s t) ∧
        (two = false → (t.ptpPort p).lastSync = some (origin, s.rxStamp p frac - h.correction - s.st.asym p)) ∧
        UnchangedBut [.out, .intStatus, .tmb, .crier, .store, .hlt] s t) ∧
  (∀ (s : State) (p : Port) (h : PtpHdr) (origin was t2 : Int), s.ub = none → s.fromMaster p h = true → h.wf = true → 0 ≤ origin →
      (s.ptpPort p).syncWait = some (h.seqId, was, t2) →
      ∃ t, exec (.ptpFollowUp p h origin) s = .next t ∧ (t.ptpPort p).lastSync = some (origin, t2 - h.correction) ∧
        (t.ptpPort p).syncWait = none ∧ UnchangedBut [.out, .intStatus, .tmb, .crier, .store, .hlt] s t) ∧
  (∀ (s : State) (p : Port) (h : PtpHdr) (received t1 t2 t3 : Int), s.ub = none → s.fromMaster p h = true → h.wf = true → 0 ≤ received →
      (s.ptpPort p).delaySent = some (h.seqId, t3) → (s.ptpPort p).lastSync = some (t1, t2) →
      let sum := (t2 - t3) + (received - h.correction - t1)
      ∃ t, exec (.ptpDelayResp p h s.clockIdentity received) s = .next t ∧ (t.ptpPort p).mpdKnown = true ∧
        2 * (t.ptpPort p).mpd ≤ sum + 1 ∧ sum ≤ 2 * (t.ptpPort p).mpd + 1 ∧ (t.ptpPort p).delaySent = none ∧
        ((s.ptpPort p).mpdKnown = true → UnchangedBut [.freeCount, .tmb] s t) ∧
        (s.tmb.timeState = .holdover ∨ s.tmb.timeState = .freeRun → t.tmb.rate = s.tmb.rate ∧ t.tmb.timeState = s.tmb.timeState) ∧
        UnchangedBut [.freeCount, .out, .intStatus, .tmb, .crier, .store, .hlt] s t) ∧
  (∀ (s : State) (p : Port) (h : PtpHdr) (frac : Fin 64), s.ub = none → s.ptpOn p = true → (s.ptpPort p).role = .master → h.wf = true →
      h.domain = s.st.ptpDomain →
      let answer : Out := .ptpDelayResp p
        { domain := s.st.ptpDomain, srcClock := s.clockIdentity, srcPort := (match p with | .e => 1 | .w => 2), seqId := h.seqId
          correction := h.correction } h.srcClock h.srcPort (s.rxStamp p frac)
      (s.ptpMayStart p = true → ∃ t, exec (.ptpDelayReq p h frac) s = .next t ∧ t.out = s.out ++ [answer] ∧ UnchangedBut [.out] s t) ∧
      (s.ptpMayStart p = false → ∃ t, exec (.ptpDelayReq p h frac) s = .next t ∧
        t.rimPort p = { s.rimPort p with ptp := (s.rimPort p).ptp ++ [answer] } ∧ PortKept (otherPort p) s t ∧ UnchangedBut [.rim] s t))

/-- Announce, the hub's own messages and their time-outs (R66, R78). The rules of the best master clock are IEEE 1588-2019's (log entry 16, PRESUMED);
the classes, the port numbers and the start of the time-out are log entry 42, a message that waits at its port 38. -/
def Obligations.PtpPortsAnnounceAndTimeOut : Prop :=
  (∀ (s : State) (p : Port) (h : PtpHdr) (a : PtpAnnounce), s.ub = none → s.ptpOn p = true → h.domain = s.st.ptpDomain → h.srcClock ≠ s.clockIdentity
      →
      a.steps < 255 → h.wf = true → a.wf = true → ∃ t, exec (.ptpAnnounce p h a) s = .next t ∧
        (t.ptpPort p).heard = some (h.srcClock, h.srcPort, s.tick) ∧
        (∀ k, (s.ptpPort p).heard = some (h.srcClock, h.srcPort, k) → s.tick ≤ k + 4 * logInterval s.st.logAnn → (t.ptpPort p).best = some (h, a)) ∧
        UnchangedBut [.out, .intStatus, .tmb, .crier, .store] s t) ∧
  (∀ (s : State) (p : Port) (frac : Fin 64), s.ub = none → s.ptpOn p = true → (s.ptpPort p).role = .master → s.ptpMayStart p = true →
      s.due (s.ptpPort p).syncTx s.st.logSync = true →
      ∃ t, exec (.ptpSyncTx p frac) s = .next t ∧ t.out = s.out ++ [.ptpSync p (s.ptpHdr p (s.ptpPort p).seqSync 0) (s.txStamp p frac)] ∧
        (t.ptpPort p).seqSync = (s.ptpPort p).seqSync + 1 ∧ (t.ptpPort p).syncTx = some s.tick ∧ UnchangedBut [.out, .tmb] s t) ∧
  (∀ (s : State) (p : Port), s.ub = none → s.ptpOn p = true → (s.ptpPort p).role = .master → s.ptpMayStart p = true →
      s.due (s.ptpPort p).announceTx s.st.logAnn = true →
      ∃ t, exec (.ptpAnnounceTx p) s = .next t ∧ t.out = s.out ++ [.ptpAnnounce p (s.ptpHdr p (s.ptpPort p).seqAnnounce 0) s.announced] ∧
        (∀ q g a, s.tmb.tdSource = some q → (s.ptpPort q).best = some (g, a) → s.announced = { a with steps := a.steps + 1 }) ∧
        (t.ptpPort p).seqAnnounce = (s.ptpPort p).seqAnnounce + 1 ∧ UnchangedBut [.out, .tmb] s t) ∧
  (∀ (s : State) (p : Port) (frac : Fin 64), s.ub = none → s.ptpOn p = true → s.tmb.tdSource = some p → s.ptpMayStart p = true →
      s.due (s.ptpPort p).delayTx s.st.logDreq = true →
      ∃ t, exec (.ptpDelayReqTx p frac) s = .next t ∧ 
        t.out = s.out ++ [.ptpDelayReq p (s.ptpHdr p (s.ptpPort p).seqDelay (-(s.st.asym p))) (s.txStamp p frac)] ∧
        (t.ptpPort p).delaySent = some ((s.ptpPort p).seqDelay, s.txStamp p frac) ∧ UnchangedBut [.out, .tmb] s t) ∧
  (∀ (s : State) (p : Port), s.ub = none → (s.ptpPort p).best.isSome = true →
      s.passed (s.ptpPort p).announceTick (s.st.annTimeout * logInterval s.st.logAnn) = true →
      ∃ t, exec (.announceTimeout p) s = .next t ∧ (t.ptpPort p).best = none ∧ t.tmb.tdSource ≠ some p ∧ UnchangedBut [.out, .intStatus, .tmb, .crier, .store] s t) ∧
  (∀ (s : State) (p : Port), s.ub = none → s.tmb.tdSource = some p → s.passed (s.ptpPort p).syncTick (3 * logInterval s.st.logSync) = true →
      ∃ t, exec .syncTimeout s = .next t ∧ (s.tmb.timeState = .locked → t.tmb.timeState = .holdover ∧ t.tmb.holdoverFrom = some s.tick ∧
        Notices s t 0 0x03 0 0 (argT s.now)) ∧ (s.tmb.timeState = .freeRun → t.tmb.timeState = .freeRun) ∧ UnchangedBut [.out, .intStatus, .tmb, .crier, .store] s t)

/-- GNSS inputs and pulse outputs (R57, R71, R72, R78; the layout of the sentence is log entry 29). When a pulse may begin is log entry 42. -/
def Obligations.GnssPulsesNameTheSecond : Prop :=
  (∀ (s : State) (frac : Fin 64), s.ub = none → s.glb.state ≠ .reset → ∃ t, exec (.ppsInEdge s.st.ppsFalling frac) s = .next t ∧
      t.tmb.ppsActive = none ∧ (∀ k, s.tmb.ppsActive = some k → s.tick * 64 + frac < k + 1280 → t.ub = some 89) ∧
      ((∀ k, s.tmb.ppsActive = some k → k + 1280 ≤ s.tick * 64 + frac) → UnchangedBut [.tmb] s t)) ∧
  (∀ (s : State) (rising : Bool) (frac : Fin 64), s.ub = none → s.st.timeSource = 2 → rising = !s.st.ppsFalling → s.glb.state ≠ .reset →
      ∃ t, exec (.ppsInEdge rising frac) s = .next t ∧ t.tmb.ppsActive = some (s.tick * 64 + frac) ∧
        t.tmb.ppsLast = some (s.tick * 64 + frac, s.nowFine + ((frac * 5120 : Nat) : Int) - s.st.ppsDelay) ∧
        (s.tmb.ppsValid = false → UnchangedBut [.tmb] s t) ∧ UnchangedBut [.out, .intStatus, .tmb, .crier, .store, .hlt] s t) ∧
  (∀ (s : State) (bytes : List Byte) (utc stamp : Int) (k : Nat), s.ub = none → bytes.length ≤ 82 → s.st.timeSource = 2 → s.glb.state ≠ .reset →
      parseZda bytes = some utc → s.tmb.ppsLast = some (k, stamp) →
      ∃ t, exec (.zdaSentence bytes) s = .next t ∧
        (if 100 * ppsMs ≤ s.tick * 64 - k ∧ s.tick * 64 - k ≤ 900 * ppsMs then
          t.tmb.todValid = true ∧
            t.tmb.ppsNamed = some (stamp, if s.st.todNamesNext then utc + s.st.taiUtc - 1 else utc + s.st.taiUtc)
        else t.tmb.todValid = false ∧ t.tmb.ppsNamed = s.tmb.ppsNamed) ∧ UnchangedBut [.out, .intStatus, .tmb, .crier, .store] s t) ∧
  (∀ (s : State) (k : Nat) (x : Int), s.ub = none → s.tmb.ppsLast = some (k, x) → s.tmb.ppsValid = true → k + 3 * ppsSecond / 2 ≤ s.tick * 64 →
      ∃ t, exec .ppsInTimeout s = .next t ∧ t.tmb.ppsValid = false ∧ t.tmb.ppsNamed = none ∧
        (s.st.timeSource = 2 → s.tmb.timeState = .locked → t.tmb.timeState = .holdover) ∧ UnchangedBut [.out, .intStatus, .tmb, .crier, .store] s t) ∧
  (∀ (s : State) (e : Nat), s.ub = none → s.glb.state ≠ .reset → s.tmb.ppsPulsed ≠ some e →
      (s.st.ppsMode = 1 ∧ e = s.now / 1000000000 * 1000000000 ∨ s.st.ppsMode = 2 ∧ e = s.now / Config.epochNs * Config.epochNs) →
      ∃ t, exec .ppsOutPulse s = .next t ∧ t.tmb.ppsOut = some s.tick ∧ t.tmb.ppsPulsed = some e ∧
        (s.st.ppsMode = 1 → t.tmb.zdaDue = some (s.tick, e / 1000000000)) ∧ UnchangedBut [.tmb] s t) ∧
  (∀ (s : State) (k : Nat), s.ub = none → s.tmb.ppsOut = some k → s.passed k (us s.st.ppsWidthUs) = true →
      ∃ t, exec .ppsOutPulseEnd s = .next t ∧ t.tmb.ppsOut = none ∧ UnchangedBut [.tmb] s t) ∧
  (∀ (s : State) (k sec : Nat), s.ub = none → s.tmb.zdaDue = some (k, sec) → s.passed k (ms 10) = true →
      ∃ t, exec .todTxSentence s = .next t ∧ t.out = s.out ++ [.zda ((sec : Int) - s.st.taiUtc)] ∧ t.tmb.zdaDue = none ∧
        UnchangedBut [.out, .tmb] s t)

/-- Scheduled events (R60 to R62), the realignment (R81) and the sample clock's lock (R15). Which E a realignment takes and what becomes of its delta
is log entry 42. -/
def Obligations.EventsFireOnceAtTheirInstant : Prop :=
  (∀ (s : State) (id : Nat) (e : SchedEvent), s.ub = none → s.schedOf id = some e → e.armed = true → e.fired = false → e.target ≤ s.now →
      s.now < e.target + 2000000000 → ∃ t, exec (.scheduledEvent id) s = .next t ∧ t.schedOf id = some { e with fired := true } ∧ UnchangedBut [.tmb] s t) ∧
  (∀ (s : State) (id : Nat) (e : SchedEvent), s.ub = none → s.schedOf id = some e → e.fired = true → exec (.scheduledEvent id) s = .next s) ∧
  (∀ (s : State) (id : Nat) (e : SchedEvent), s.ub = none → s.schedOf id = some e → e.armed = false → s.firmware = true →
      e.target ≤ s.now + 2000000000 → ∃ t, exec (.eventArm id) s = .next t ∧
        (s.now ≤ e.target → t.schedOf id = some { e with armed := true } ∧ UnchangedBut [.tmb] s t) ∧
        (e.target < s.now → t.schedOf id = some { e with armed := true, fired := true, late := true } ∧
          (e.kind ≠ .commit → Notices s t 0 0x07 0 0 (argSXs s.now (((s.now : Int) - e.target) / 1000)))) ∧
        UnchangedBut [.tmb, .crier, .store] s t) ∧
  (∀ (s : State) (e : Nat) (d : Int), s.ub = none → s.realignDue = some (e, d) → s.live = true → s.glb.sampling = true →
      ∃ t, exec .realignment s = .next t ∧ t.tmb.realign = none ∧ t.tmb.slip = d / 65536 ∧ t.tmb.slipCount = satInc s.tmb.slipCount ∧
        t.tmb.offset = ((e * 65536 : Nat) : Int) ∧ (0 < d → t.tmb.anchor = s.tick) ∧
        (d ≤ 0 → t.tmb.anchor = s.tick + ceilDiv (d.natAbs * 2 ^ 24) s.tmb.rate) ∧ t.cfg.committed = s.cfg.committed ∧
        UnchangedBut [.freeCount, .out, .intStatus, .tmb, .cfg, .spokes, .looks, .switches, .streams, .jobs, .path, .lace, .crier, .queue, .cmd, .pad
          , .store, .mem, .hlt, .snap] s t) ∧
  (∀ s : State, s.ub = none → s.tmb.pllLock = true → ∃ t, exec .sampleClockUnlock s = .next t ∧ t.tmb.pllLock = false ∧
      t.tmb.unlocks = (s.fine, none) :: s.tmb.unlocks ∧ Notices s t 0 0x08 0 0 (argT s.now) ∧ UnchangedBut [.tmb, .crier, .store] s t) ∧
  (∀ s : State, s.ub = none → s.tmb.pllLock = false → s.glb.state ≠ .reset → ∃ t, exec .sampleClockRelock s = .next t ∧ t.tmb.pllLock = true ∧
      (∀ u ∈ t.tmb.unlocks, u.2 ≠ none) ∧ UnchangedBut [.tmb] s t)

/-- SET_TIME (R83). The E of the realignment is log entry 42. -/
def Obligations.SetTimeStepsOrRealigns : Prop :=
  ∀ (s : State) (c : CmdItem), Starts s 0x18 c →
    (s.tmb.timeState ≠ .freeRun → ∃ t, exec .setTime s = .next t ∧ Completes s t c 0x20 0 ∧ UnchangedBut [.crier, .queue, .cmd, .store] s t) ∧
    (s.tmb.timeState = .freeRun → s.glb.sampling = false → ∃ t, exec .setTime s = .next t ∧ t.nowFine = ((c.opB.toNat * 65536 : Nat) : Int) ∧
      Posts s t (cplQueue s c.master) (completionItem (cplQueue s c.master) c 0 0) ∧ UnchangedBut [.tmb, .crier, .queue, .cmd, .store] s t) ∧
    (s.tmb.timeState = .freeRun → s.glb.sampling = true → ∃ t e, exec .setTime s = .next t ∧
      t.tmb.realign = some (e, ((c.opB.toNat * 65536 : Nat) : Int) - s.nowFine) ∧ t.nowFine = s.nowFine ∧
      Posts s t (cplQueue s c.master) (completionItem (cplQueue s c.master) c 0 0) ∧ UnchangedBut [.tmb, .crier, .queue, .cmd, .store] s t)

/-- EPOCH_INSTANT (R76, R306, R411): the beacon with its detail of R76, as a notice and, from a hub that publishes, as a TIME frame on each active port;
the ratios of the epoch that ends; every 64th epoch the checkpoint. The steps_removed of the beacon is the value received (log entry 42, the model's
choice), the queue is `beacon_q` modulo 64 (log entry 43, the model's choice). -/
def Obligations.EpochInstantPostsTheBeacon : Prop :=
  (∀ s : State, s.ub = none → s.glb.state ≠ .reset → s.tmb.lastEpoch ≠ some (s.now / Config.epochNs * Config.epochNs) →
      let e := s.now / Config.epochNs * Config.epochNs
      let up := if s.tmb.timeState = .holdover then 0 else match s.tmb.tdSource with
        | some .e => 1
        | some .w => 2
        | none => if s.st.timeSource = 2 ∧ s.tmb.ppsValid = true then 3 else 0
      let steps := if s.st.timeSource = 2 then 0 else if s.tmb.timeState = .holdover then 0xFF else match s.tmb.tdSource with
        | none => 0xFF
        | some p => match (s.ptpPort p).best with | none => 0xFF | some (_, a) => a.steps % 256
      let detail := s.tmb.timeState.code + up * 8 + steps * 256
      ∃ t, exec .epochInstant s = .next t ∧ t.tmb.lastEpoch = some e ∧
        ((t.que s.st.beaconQ).posted ≤ (s.que s.st.beaconQ).posted + 65536 → Notices s t s.st.beaconQ 0x01 0 detail (argT e)) ∧
        (∀ p, s.portActive p = true → s.publishes = true → ∃ f : OutFrame, f.cls = 1 ∧ f.src = s.lnk.rim.addr ∧ f.dst = 0 ∧
          f.body = .beacon e detail ∧ (t.rimPort p).time = (s.rimPort p).time ++ [f]) ∧
        (∀ p, s.publishes = false → (t.rimPort p).time = (s.rimPort p).time) ∧
        (s.tmb.anchor ≤ s.tick → t.tmb.offset = s.nowFine ∧ t.tmb.anchor = s.tick) ∧ t.tmb.rate = s.tmb.rate ∧
        (∀ i ∈ s.path.streams.map (·.1), (t.strm i).plainBytes = 0 ∧ (t.strm i).storedBytes = 0) ∧
        (e / Config.epochNs % 64 = 0 → ∃ qs, t.ldr.flash.checkpoint = some (s.lnk.rim.session, e, (List.range 4).map s.ledCmd, qs) ∧
          ∀ q, q < 64 → qs.get 0xFFFF0000 q = t.ledNseq q) ∧
        (e / Config.epochNs % 64 ≠ 0 → t.ldr = s.ldr) ∧
        UnchangedBut [.freeCount, .tmb, .looks, .streams, .crier, .store, .rim, .tdm, .ldr] s t) ∧
  ∀ s : State, s.ub = none → s.tmb.lastEpoch = some (s.now / Config.epochNs * Config.epochNs) → exec .epochInstant s = .next s

/-- Staging (R39 to R43, R534): a load of the window keeps all words of the image as they stand when it begins; its end is decided by the checks of
R40 in their order. A load that a restart breaks is log entry 37, an image's master 41. -/
def Obligations.LoadStagesOneImage : Prop :=
  (∀ (s : State) (c : CmdItem), Starts s 0x10 c →
      ((s.cfg.stage = .pending ∨ s.cfg.stage = .loading) → ∃ t, exec .loadStructure s = .next t ∧ Completes s t c 0x01 0 ∧
        UnchangedBut [.out, .intStatus, .crier, .queue, .cmd, .store] s t) ∧
      (s.cfg.stage ≠ .pending → s.cfg.stage ≠ .loading → c.a 31 31 = 1 → ∃ t, exec .loadStructure s = .next t ∧ t.cfg.stage = .loading ∧
        t.cfg.staged = none ∧ t.cfg.loadMaster = masterNum c.master ∧ t.cfg.committed = s.cfg.committed ∧
        t.cmd.long = s.cmd.long ++ [{ item := c, op := .load true (c.a 3 0) [], since := s.tick }] ∧
        (∀ i, s.cfg.stage = .staged → s.cfg.staged = some i → Notices s t 0 0x12 s.cfg.loadMaster 0 (argT i.structId)) ∧
        UnchangedBut [.cfg, .crier, .queue, .store] s t) ∧
      (s.cfg.stage ≠ .pending → s.cfg.stage ≠ .loading → c.a 31 31 = 0 → (∀ a, a < 4194304 → (s.cellAt a).flips = 0) →
        let word (k : Nat) : Word := wordOf (leNat ((List.range 4).map fun j => (s.cellAt (4 * k + j)).data))
        ∃ t ws, exec .loadStructure s = .next t ∧ t.cfg.stage = .loading ∧ t.cfg.staged = none ∧ t.cfg.loadMaster = masterNum c.master ∧
          t.cmd.long = s.cmd.long ++ [{ item := c, op := .load false (c.a 3 0) ws, since := s.tick }] ∧
          (∀ k, k < 16 → ws.getD k 0 = word k) ∧
          ((word 0).toNat = 0x49534851 → (word 2).field 15 0 = 0x768 → (word 8).toNat ≤ 1048576 →
            ∀ k, k < (word 8).toNat → ws.getD k 0 = word k) ∧
          (∀ i, s.cfg.stage = .staged → s.cfg.staged = some i → Notices s t 0 0x12 s.cfg.loadMaster 0 (argT i.structId)) ∧
          UnchangedBut [.freeCount, .cfg, .crier, .queue, .store, .mem] s t) ∧
      (s.cfg.stage ≠ .pending → s.cfg.stage ≠ .loading → ∃ t, exec .loadStructure s = .next t ∧ t.cfg.stage = .loading ∧ t.cfg.staged = none ∧
        t.cfg.committed = s.cfg.committed ∧ UnchangedBut [.freeCount, .out, .intStatus, .cfg, .crier, .queue, .cmd, .pad, .store, .mem, .hlt] s t)) ∧
  (∀ (s : State) (l : LongCmd) (library : Bool) (slot : Nat) (ws : List Word), s.ub = none →
      s.longOf (fun o => match o with | .load .. => true | _ => false) = some l → l.op = .load library slot ws → s.firmware = true →
      let image := if library then s.readLibrary slot else ws
      let walk := walkFrames (image.drop 16).length (image.drop 16)
      let code := if (image.getD 0 0).toNat ≠ 0x49534851 then 0x06
        else if (image.getD 2 0).field 15 0 ≠ 0x768 then 0x07
        else if 1048576 < (image.getD 8 0).toNat then 0x08
        else if crcWords (image.drop 16) ≠ (image.getD 15 0).toNat then 0x09
        else if walk.failed = true then 0x0A else 0
      ∃ t, exec .loadStructureDone s = .next t ∧ Completes s t l.item code 0 ∧ t.cfg.committed = s.cfg.committed ∧ t.cfg.lastResult = code ∧
        t.cmd.long = eraseFirst (fun x => decide (x = l)) s.cmd.long ∧
        (code ≠ 0 → t.cfg.stage = .empty ∧ t.cfg.staged = none ∧
          t.cfg.badFrame = if code = 0x0A then min 0xFFFE walk.frames.length else 0xFFFF) ∧
        (code = 0 → t.cfg.stage = .staged ∧ ∃ i, t.cfg.staged = some i ∧ i.structId = (image.getD 3 0).toNat + (image.getD 4 0).toNat * 2 ^ 32 ∧
          i.words = image ∧ i.target = walk.frames.foldl applyFrame
            (if (image.getD 5 0).toNat + (image.getD 6 0).toNat * 2 ^ 32 = 0 then {} else s.st)) ∧
        UnchangedBut [.out, .intStatus, .cfg, .crier, .queue, .cmd, .store] s t) ∧
  (∀ (s : State) (c : CmdItem), Starts s 0x13 c →
      (s.cfg.stage = .loading → ∃ t, exec .storeStructure s = .next t ∧ Completes s t c 0x01 0 ∧ UnchangedBut [.crier, .queue, .cmd, .store] s t) ∧
      (s.cfg.stage ≠ .loading → s.cfg.staged = none → ∃ t, exec .storeStructure s = .next t ∧ Completes s t c 0x04 0 ∧
        UnchangedBut [.crier, .queue, .cmd, .store] s t) ∧
      (∀ i, s.cfg.stage ≠ .loading → s.cfg.staged = some i → ∃ t, exec .storeStructure s = .next t ∧
        t.ldr.flash.library.get [] (c.a 3 0) = [] ∧ t.cmd.long = s.cmd.long ++ [{ item := c, op := .store (c.a 3 0) i.words, since := s.tick }] ∧
        UnchangedBut [.queue, .ldr] s t)) ∧
  (∀ (s : State) (l : LongCmd) (slot : Nat) (ws : List Word), s.ub = none → s.longOf (fun o => match o with | .store .. => true | _ => false) = some
      l →
      l.op = .store slot ws → s.firmware = true → ∃ t, exec .storeStructureDone s = .next t ∧ t.ldr.flash.library.get [] slot = ws ∧
        Completes s t l.item 0 0 ∧ UnchangedBut [.out, .intStatus, .crier, .queue, .cmd, .store, .ldr] s t)

/-- COMMIT, its instant and CANCEL_COMMIT (R44 to R48). A CANCEL_COMMIT that waits is log entry 25, an AT_EPOCH instant that is no epoch 39, what a
commit between ticks does 37, an unsound image 3. -/
def Obligations.CommitsTakeEffectAtTheirInstant : Prop :=
  (∀ (s : State) (c : CmdItem), Starts s 0x11 c →
      (s.cfg.stage = .pending → ∃ t, exec .commit s = .next t ∧ Completes s t c 0x01 0 ∧ UnchangedBut [.crier, .queue, .cmd, .store] s t) ∧
      (s.cfg.stage = .empty ∨ s.cfg.stage = .loading ∨ s.cfg.stage = .staged ∧ s.cfg.staged = none →
        ∃ t, exec .commit s = .next t ∧ Completes s t c 0x04 0 ∧ UnchangedBut [.crier, .queue, .cmd, .store] s t) ∧
      (∀ i, s.cfg.stage = .staged → s.cfg.staged = some i → c.a 1 0 = 1 → c.opB.toNat % Config.epochNs ≠ 0 →
        ∃ t, exec .commit s = .next t ∧ t.ub = some 54) ∧
      (∀ i, s.cfg.stage = .staged → s.cfg.staged = some i → (c.a 1 0 = 1 → c.opB.toNat % Config.epochNs = 0) →
        let up (x : Nat) : Nat := (x + (Config.epochNs - 1)) / Config.epochNs * Config.epochNs
        let soon := s.now + 20000000
        let named := if c.a 1 0 = 2 ∧ i.sampling = true then up c.opB.toNat else c.opB.toNat
        ∃ t p, exec .commit s = .next t ∧ t.cfg.stage = .pending ∧ t.cfg.staged = some i ∧ t.cfg.pending = some p ∧ p.item = some c ∧
          (c.a 1 0 = 0 → p.instant = up soon ∧ p.late = false) ∧
          (c.a 1 0 = 3 → p.instant = (if i.sampling then up soon else soon) ∧ p.late = false) ∧
          (c.a 1 0 = 1 ∨ c.a 1 0 = 2 → soon ≤ named → p.instant = named ∧ p.late = false) ∧
          (c.a 1 0 = 1 ∨ c.a 1 0 = 2 → named < soon → p.instant = up soon ∧ p.late = true) ∧
          (s.glb.sampling = true → t.commitTimeReg = p.instant) ∧
          t.cfg.committed = s.cfg.committed ∧ t.cmd.long = s.cmd.long ++ [{ item := c, op := .commit, since := s.tick }] ∧
          UnchangedBut [.tmb, .cfg, .queue, .pad, .mem] s t)) ∧
  (∀ (s : State) (p : PendingCommit) (i : Staged), s.ub = none → s.cfg.stage = .pending → s.cfg.pending = some p → s.cfg.staged = some i →
      s.glb.state = .run → s.ldr.coresHalted = false → s.glb.sampling = true → p.instant ≤ s.now → i.sound = true → s.st.csdKept i.target = true → s.ringsSound i.target = true →
      ∃ t, exec .commitInstant s = .next t ∧ t.cfg.stage = .empty ∧ t.cfg.staged = none ∧ t.cfg.pending = none ∧ t.cfg.commitTime = p.instant ∧
        t.cfg.commits = s.cfg.commits + 1 ∧ t.glb.intStatus.flag 2 = true ∧
        ((∀ x ∈ s.path.stalls, ∀ r ∈ x.2.records, r.state ≠ .opened) → t.ub = none) ∧
        (t.ub = none → t.cfg.committed = i.target ∧ t.cfg.activeId = i.structId ∧
          Notices s t 0 0x10 (changedCount s.st i.target) (i.structId % 65536) (argT p.instant) ∧
          (∀ l x, s.longOf (fun o => decide (o = .commit)) = some l → p.item = some x →
            Posts s t (cplQueue s l.item.master) (completionItem (cplQueue s l.item.master) l.item 0 p.instant))) ∧
        (∀ l x, s.longOf (fun o => decide (o = .commit)) = some l → p.item = some x → l ∉ t.cmd.long ∨ l ∈ eraseFirst (fun y => decide (y = l))
            s.cmd.long) ∧
        Keeps [.counter] s t) ∧
  (∀ (s : State) (c : CmdItem), Starts s 0x12 c →
      (s.cfg.stage ≠ .pending ∨ s.cfg.pending = none → CompletesOnly .cancelCommit s c (if c.late then 0x03 else 0x05)) ∧
      (∀ p, s.cfg.stage = .pending → s.cfg.pending = some p → ∃ t, exec .cancelCommit s = .next t ∧ t.cfg.stage = .staged ∧ t.cfg.pending = none ∧
        t.cfg.staged = s.cfg.staged ∧ t.cfg.committed = s.cfg.committed ∧
        Posts s t (cplQueue s c.master) (completionItem (cplQueue s c.master) c 0 0) ∧
        (∀ l x, s.longOf (fun o => decide (o = .commit)) = some l → p.item = some x →
          Posts s t (cplQueue s l.item.master) (completionItem (cplQueue s l.item.master) l.item 0x02 0)) ∧
        UnchangedBut [.out, .intStatus, .tmb, .cfg, .crier, .queue, .cmd, .store] s t))

/-- GEAR_SHIFT_UP, GEAR_SHIFT_DOWN, MEND_COMPLETE and OVER_RANGE (R100 to R110). The words are operands (log entry 11), their spans are 36 and 43, and
the count and time of a shift 43. -/
def Obligations.GearsFollowTheWords : Prop :=
  (∀ (s : State) (i : Fin 768) (before word : Int) (overload : Bool), s.ub = none → s.canShift i (s.wordStream i) (s.wordNow i) = true →
      0 < (s.look (s.wordStream i)).gear → (overload = true ∨ 9 * fullScale < 10 * (word.natAbs : Int)) →
      ∃ t, exec (.gearShiftUp i before word overload) s = .next t ∧
        (s.st.multiLook (s.wordStream i) = false ∨
            6 ≤ (s.st.wordsLeft (s.wordStream i) (s.wordNow i)).2 ∧ (s.st.wordsLeft (s.wordStream i) (s.wordNow i)).1 = true →
          Shifts s t i (s.wordStream i) ((s.look (s.wordStream i)).gear - 1)) ∧
        (s.st.multiLook (s.wordStream i) = true → (s.st.wordsLeft (s.wordStream i) (s.wordNow i)).2 < 6 → t.out = s.out ∧
          t.look (s.wordStream i) = { s.look (s.wordStream i) with startNext := some ((s.look (s.wordStream i)).gear - 1) }) ∧
        LooksKept [s.wordStream i] s t ∧ UnchangedBut [.out, .looks] s t) ∧
  (∀ (s : State) (i : Fin 768) (before word : Int) (peak : Nat), s.ub = none → s.canShift i (s.wordStream i) (s.wordNow i) = true →
      (s.look (s.wordStream i)).gear + 1 < s.st.gearCount (s.wordStream i) →
      s.st.endsStageTwo (s.wordStream i) (s.wordNow i) = true →
      s.st.runClocksTo (s.wordStream i) ((s.look (s.wordStream i)).lastShift / s.st.clk (s.wordStream i)) +
        s.st.gearDwell i * s.st.osr (s.wordStream i) ≤ s.st.runClocksTo (s.wordStream i) (8 * s.wordNow i + 38) →
      100 * (peak : Int) < 8 * fullScale →
      ∃ t, exec (.gearShiftDown i before word peak) s = .next t ∧
        (s.st.multiLook (s.wordStream i) = false ∨
            6 ≤ (s.st.wordsLeft (s.wordStream i) (s.wordNow i)).2 ∧ (s.st.wordsLeft (s.wordStream i) (s.wordNow i)).1 = true →
          Shifts s t i (s.wordStream i) ((s.look (s.wordStream i)).gear + 1)) ∧
        (s.st.multiLook (s.wordStream i) = true → (s.st.wordsLeft (s.wordStream i) (s.wordNow i)).2 < 6 → t.out = s.out ∧
          t.look (s.wordStream i) = { s.look (s.wordStream i) with startNext := some ((s.look (s.wordStream i)).gear + 1) }) ∧
        LooksKept [s.wordStream i] s t ∧ UnchangedBut [.out, .looks] s t) ∧
  (∀ (s : State) (i : Fin 768) (w5 w6 : Int) (x : Nat) (m : Mend), s.ub = none → s.live = true → s.mendDue i = some (x, m) →
      ∃ t, exec (.mendComplete i w5 w6) s = .next t ∧
        t.out = s.out ++ [match mendWords m.before m.last (rescaled (s.gearRatio s.st x m.gear) w5) (rescaled (s.gearRatio s.st x m.gear) w6) with
          | ws => .mended i (ws.getD 0 0) (ws.getD 1 0) (ws.getD 2 0) (ws.getD 3 0)] ∧
        { m with done := true } ∈ (t.look x).mends ∧ (t.look x).gear = (s.look x).gear ∧ (t.look x).shiftNote = (s.look x).shiftNote + 1 ∧
        (t.spoke (x / 16)).shifts = satInc (s.spoke (x / 16)).shifts ∧ LooksKept [x] s t ∧ UnchangedBut [.out, .spokes, .looks] s t) ∧
  (∀ (s : State) (i : Fin 768) (word : Int), s.ub = none → s.live = true → s.glb.sampling = true → s.st.lookRuns (s.wordStream i) = true →
      s.wordIdle i = false → fullScale ≤ (word.natAbs : Int) → s.cannotShift i (s.wordStream i) (s.wordNow i) = true →
      ∃ t, exec (.overRange i word) s = .next t ∧ (t.spoke i).clips = satInc (s.spoke i).clips ∧ (t.spoke i).clipAt = some s.tick ∧
        (∃ sp ∈ (t.look (s.wordStream i)).spans, sp.tag = tagClipped ∧
          sp.start = (8 * s.wordNow i + 36) * s.st.clk (s.wordStream i) + 1 ∧
          sp.stop = some ((8 * s.wordNow i + 2) * s.st.clk (s.wordStream i) + 1)) ∧
        (mayCount s (s.look (s.wordStream i)).clipTick = false → UnchangedBut [.spokes, .looks] s t) ∧
        (mayCount s (s.look (s.wordStream i)).clipTick = true → Raised s t 5 i ∧ (t.look (s.wordStream i)).clipTick = some s.tick) ∧
        (∀ j, j ≠ i.val → t.spoke j = s.spoke j) ∧ LooksKept [s.wordStream i] s t ∧ UnchangedBut [.spokes, .looks, .hlt] s t)

/-- OPEN_WIRE_DETECT, WIRE_RESTORED, RELEASE_SPOKE and RELEASE_SYNC_RESET (R111 to R115, R456). The codes are operands (log entry 11), the spans of
tags are 36, and a second detection is 43. -/
def Obligations.OpenWiresAndReleases : Prop :=
  (∀ (s : State) (i : Fin 768) (m : OwMethod) (d k : Nat) (codes : List Int), s.ub = none → codesWf codes = true → s.live = true →
      s.glb.sampling = true → s.st.owApplies i m = true → (s.spoke i).openWire = false → m ≠ .sense →
      (m = .extreme → s.extremeRun i d codes = true ∧ k = d) → (m = .quadrature → s.quadratureHigh i d codes = true ∧ k = d) →
      (m = .testLook → s.testFound i = some k) →
      ∃ t, exec (.openWireDetect i m d codes) s = .next t ∧ (t.spoke i).openWire = true ∧ (t.spoke i).owMethod = owCode m ∧
        (t.spoke i).frozen = true ∧ (t.spoke i).owEvents = satInc (s.spoke i).owEvents ∧
        Notices s t (s.st.spokeQ i) 0x21 i (owCode m) (argT (k / 65536)) ∧
        (∀ x ∈ s.st.spokeLooks i, ∃ sp ∈ (t.look x).spans, sp.tag = tagInvalid ∧ sp.start = k ∧ sp.stop = none) ∧
        (∀ j, j ≠ i.val → t.spoke j = s.spoke j) ∧ Raised s t 4 i ∧ UnchangedBut [.spokes, .looks, .crier, .store, .hlt] s t) ∧
  (∀ (s : State) (i : Fin 768) (d k : Nat) (codes : List Int), s.ub = none → codesWf codes = true → s.live = true → s.glb.sampling = true →
      s.st.owApplies i .sense = true → (s.laceOf (i.val / 16)).lowFrom = some k → 2 ≤ (s.laceOf (i.val / 16)).senseLowRuns →
      ∃ t, exec (.openWireDetect i .sense d codes) s = .next t ∧
        (∀ j ∈ laceSpokes (i.val / 16), s.st.isBridge j = true → s.st.owApplies j .sense = true → (t.spoke j).openWire = true) ∧
        (∀ j, j ∉ laceSpokes (i.val / 16) → t.spoke j = s.spoke j) ∧ UnchangedBut [.spokes, .looks, .crier, .store, .hlt] s t) ∧
  (∀ (s : State) (i : Fin 768) (codes cycles : Nat), s.ub = none → (s.spoke i).openWire = true → 1024 ≤ codes → 8 ≤ cycles →
      (s.st.owApplies i .sense = true → 8 ≤ (s.laceOf (i.val / 16)).senseOkRuns) → s.testsPassed i = true →
      ∃ t, exec (.wireRestored i codes cycles) s = .next t ∧ (t.spoke i).openWire = false ∧ (t.spoke i).owMethod = 0 ∧
        (t.spoke i).frozen = false ∧ (∀ x ∈ s.st.spokeLooks i, t.hasSpan x causeOpenWire = false) ∧
        (∀ j, j ≠ i.val → t.spoke j = s.spoke j) ∧ Notices s t (s.st.spokeQ i) 0x22 i 0 (argT s.now) ∧
        UnchangedBut [.spokes, .looks, .crier, .store] s t) ∧
  (∀ (s : State) (c : CmdItem), Starts s 0x20 c →
      (s.cal.recal = some (c.a 9 0) → CompletesOnly .releaseSpoke s c 0x51) ∧
      (s.cal.recal ≠ some (c.a 9 0) → (s.spoke (c.a 9 0)).quarantined = false → CompletesOnly .releaseSpoke s c 0x21) ∧
      (s.cal.recal ≠ some (c.a 9 0) → (s.spoke (c.a 9 0)).quarantined = true → ∃ t, exec .releaseSpoke s = .next t ∧
        (t.spoke (c.a 9 0)).quarantined = false ∧ (t.spoke (c.a 9 0)).released = s.fine ∧ (∀ j, j ≠ c.a 9 0 → t.spoke j = s.spoke j) ∧
        Notices s t 0 0x73 (c.a 9 0) 0 (argT s.now) ∧
        Posts s t (cplQueue s c.master) (completionItem (cplQueue s c.master) c 0 0) ∧ UnchangedBut [.spokes, .crier, .queue, .cmd, .store] s t)) ∧
  (∀ (s : State) (i : Fin 768) (n : Fin 16), s.ub = none → s.hasSpan (i.val * 16 + n.val) causeQuarantine = true →
      (s.spoke i).quarantined = false →
      s.st.instantOf (i.val * 16 + n.val) (s.st.indexAt (i.val * 16 + n.val) (s.spoke i).released) ≤ s.fine →
      ∃ t, exec (.releaseSyncReset i n) s = .next t ∧ t.hasSpan (i.val * 16 + n.val) causeQuarantine = false ∧
        (t.look (i.val * 16 + n.val)).gear = s.st.startGear (i.val * 16 + n.val) ∧
        (s.st.instantOf (i.val * 16 + n.val) (s.st.indexAt (i.val * 16 + n.val) (s.spoke i).released), false) ∈
          (t.look (i.val * 16 + n.val)).resets ∧
        LooksKept [i.val * 16 + n.val] s t ∧ UnchangedBut [.spokes, .looks] s t)

/-- SENSE_ESTIMATE, RAMP_END, EXC_TRIP and RESTART_LACE (R124 to R128, R133, R134). Amplitudes are in 1/65,536 (log entry 15); the readings of the
chapter are 35, the ceiling, the offset that is kept and the ramp after CLAIMING 43. -/
def Obligations.LacesAreSensedRampedAndTripped : Prop :=
  (∀ (s : State) (l : Fin 48) (amp peak share : Nat) (phase : Int), s.ub = none → s.live = true → s.driveNow l ≠ 0 →
      (s.tdm.role.drives = true ∨ s.tdm.witToken = true) →
      ∃ t, exec (.senseEstimate l amp phase ⟨peak, share⟩) s = .next t ∧ (t.laceOf l).newest = some (amp, phase) ∧
        (t.laceOf l).estimates.getLast? = some (amp, phase) ∧ (t.laceOf l).sensedAt s.fine = (t.laceOf l).sensed (s.st.senseAvg l) ∧
        (t.laceOf l).senseLow = decide (2 * amp < s.checkedAmp l) ∧
        (s.tdm.role.drives = true → s.limited l peak share = false → (t.laceOf l).limit = false ∧ (t.laceOf l).limitSince = none ∧
          UnchangedBut [.looks, .lace, .tdm] s t) ∧
        (s.tdm.role.drives = true → s.limited l peak share = true → (t.laceOf l).limit = true ∧ (t.laceOf l).limitSince.isSome = true ∧
          (mayCount s (s.laceOf l).ocTick = true → (t.laceOf l).ocEvents = satInc (s.laceOf l).ocEvents ∧ Raised s t 6 l) ∧
          (mayCount s (s.laceOf l).ocTick = false → (t.laceOf l).ocEvents = (s.laceOf l).ocEvents ∧ t.hlt = s.hlt)) ∧
        (s.tdm.role = .standby ∨ s.tdm.role = .standbyDesync →
          (t.laceOf l).kept = if s.st.commandedAmp l ≤ 2 * amp then some (amp, phase) else (s.laceOf l).kept) ∧
        (∀ j, j ≠ l.val → t.laceOf j = s.laceOf j) ∧ UnchangedBut [.looks, .lace, .hlt, .tdm] s t) ∧
  (∀ (s : State) (l : Fin 48) (amp peak share : Nat) (phase : Int), s.ub = none →
      ∃ t, exec (.senseEstimate l amp phase ⟨peak, share⟩) s = .next t ∧
        (s.glb.state = .calibrate → (t.laceOf l).newest = some (amp, phase) ∧ UnchangedBut [.lace] s t) ∧
        (s.glb.state ≠ .calibrate → s.live = false ∨ s.driveNow l = 0 → t = s) ∧
        UnchangedBut [.out, .intStatus, .looks, .streams, .stalls, .lace, .crier, .store, .hlt, .rim, .tdm] s t) ∧
  (∀ (s : State) (l : Fin 48) (r : Ramp), s.ub = none → (s.laceOf l).ramp = some r → (s.laceOf l).vexcHold = false → r.stop ≤ s.tick →
      s.lacesRun = true → ∃ t, exec (.rampEnd l) s = .next t ∧
        (r.target ≠ 0 → (t.laceOf l).ramp = none ∧ (t.laceOf l).scale = r.target ∧ (t.laceOf l).restoring = false) ∧
        (r.target = 0 → (s.laceOf l).upNext.isSome = true → s.st.drive l ≠ 0 → (t.laceOf l).drive = s.st.drive l ∧
          (t.laceOf l).ramp = some { source := 0, target := fullAmp, start := s.tick, stop := s.tick + s.st.rampTicks l }) ∧
        (r.target = 0 → (s.laceOf l).upNext = none →
          (s.laceOf l).tripped = true ∨ (s.laceOf l).drive ≠ s.st.drive l ∨ s.st.drive l = 0 ∨ s.st.driveAmp l ≠ 0 →
          (t.laceOf l).ramp = none ∧ (t.laceOf l).scale = 0 ∧ (t.laceOf l).highZ = true ∧ (t.laceOf l).limit = false) ∧
        (∀ j, j ≠ l.val → t.laceOf j = s.laceOf j) ∧ UnchangedBut [.looks, .lace] s t) ∧
  (∀ (s : State) (l : Fin 48) (k : Nat), s.ub = none → (s.laceOf l).limitSince = some k → s.lacesRun = true → (s.laceOf l).tripped = false →
      s.passed k (ms (s.st.ocTrip l)) = true → ∃ t, exec (.excTrip l) s = .next t ∧ (t.laceOf l).tripped = true ∧ (t.laceOf l).highZ = true ∧
        (t.laceOf l).scale = 0 ∧ (t.laceOf l).ramp = none ∧ l.val ∉ t.lace.order ∧ Notices s t (s.st.laceQ l) 0x28 l 0 (argT s.now) ∧
        (∀ j, j ≠ l.val → t.laceOf j = s.laceOf j) ∧ UnchangedBut [.looks, .lace, .crier, .store] s t) ∧
  (∀ (s : State) (c : CmdItem), Starts s 0x21 c →
      ((s.laceOf (c.a 5 0)).tripped = false → (s.laceOf (c.a 5 0)).reduced = none → CompletesOnly .restartLace s c 0x22) ∧
      ((s.laceOf (c.a 5 0)).tripped = true ∨ (s.laceOf (c.a 5 0)).reduced.isSome = true → ∃ t, exec .restartLace s = .next t ∧
        Completes s t c 0 0 ∧ (t.laceOf (c.a 5 0)).tripped = false ∧ (t.laceOf (c.a 5 0)).reduced = none ∧ c.a 5 0 ∉ t.lace.order ∧
        ((s.laceOf (c.a 5 0)).tripped = true → (s.laceOf (c.a 5 0)).ramp = none → s.lacesRun = true → s.st.drive (c.a 5 0) ≠ 0 →
          (t.laceOf (c.a 5 0)).ramp = some { source := 0, target := fullAmp, start := s.tick, stop := s.tick + s.st.rampTicks (c.a 5 0) }) ∧
        ((s.laceOf (c.a 5 0)).tripped = false ∨ (s.laceOf (c.a 5 0)).ramp.isSome = true → s.lacesRun = true → (t.laceOf (c.a 5 0)).ramp = some
          { source := (s.laceOf (c.a 5 0)).amp s.tick, target := fullAmp, start := s.tick, stop := s.tick + s.st.rampTicks (c.a 5 0) }) ∧
        (∀ j, j ≠ c.a 5 0 → t.laceOf j = s.laceOf j) ∧ UnchangedBut [.looks, .lace, .crier, .queue, .cmd, .store] s t))

/-- VEXC_UPDATE, VEXC_FAULT, DISSIPATION_UPDATE and EXC_RESTORED (R130 to R132). The need of a drive and the rise of VEXC are log entry 35; ceiling,
dissipation and a reduction that stands are 43. -/
def Obligations.VexcAndTheBudgetFollowTheLaces : Prop :=
  (∀ (s : State) (measured : Nat) (peaks : List (Nat × Nat)), s.ub = none → s.glb.state ≠ .reset → keysBelow 48 peaks = true →
      ∃ t, exec (.vexcUpdate measured peaks) s = .next t ∧ t.lace.vexcNow = s.lace.vexcCfg ∧ t.lace.measured = measured ∧
        t.lace.gates = true ∧ t.lace.target = t.vexcTarget ∧
        (t.vexcTarget ≤ measured → ∀ l, l < 48 → (t.laceOf l).ramp.isSome = true → (t.laceOf l).vexcHold = false) ∧
        (measured < t.vexcTarget → ∀ l, (t.laceOf l).ramp = (s.laceOf l).ramp ∧ (t.laceOf l).vexcHold = (s.laceOf l).vexcHold) ∧
        UnchangedBut [.lace] s t) ∧
  (∀ (s : State) (measured k : Nat), s.ub = none → s.lace.low = some k → s.passed k Config.ticksPerMs = true → s.lace.lowNoted = false →
      measured + 1000 < s.lace.target → ∃ t, exec (.vexcFault measured) s = .next t ∧ t.lace.lowNoted = true ∧
        t.crier.acts = satAdd s.crier.acts 1 ∧
        Notices s t 0 0x29 0 0 (argSX s.now (s.lace.target % 65536 * 65536 + measured % 65536)) ∧ (∀ l, t.laceOf l = s.laceOf l) ∧
        UnchangedBut [.lace, .crier, .store] s t) ∧
  (∀ (s : State) (est : List (Nat × Nat)), s.ub = none → s.live = true → keysBelow 48 est = true → (∀ l, l < 48 → (s.laceOf l).ramp = none) →
      s.lace.rampWait = 0 →
      let of (l : Nat) : Nat := match est.find? (fun e => e.1 == l) with | none => 0 | some e => e.2
      let sum := (List.range 48).foldl (fun n l => n + of l) 0
      ∃ t, exec (.dissipationUpdate est) s = .next t ∧ t.lace.vexcNow = s.lace.vexcCfg ∧ t.lace.pdissTotal = sum ∧
        (∀ l, l < 48 → (t.laceOf l).pdiss = of l) ∧
        (sum ≤ s.lace.vexcCfg.field 15 0 → t.lace.overCount = 0 ∧ t.lace.order = s.lace.order ∧ UnchangedBut [.lace] s t) ∧
        (s.lace.vexcCfg.field 15 0 < sum → s.lace.overCount < 2 → t.lace.overCount = s.lace.overCount + 1 ∧ t.lace.order = s.lace.order ∧
          UnchangedBut [.lace] s t) ∧
        (s.lace.vexcCfg.field 15 0 < sum → 2 ≤ s.lace.overCount → (∃ l ∈ s.activeLaces, ampFloor < (s.laceOf l).scale) →
          t.lace.overCount = 0 ∧ ∃ l g, l ∈ s.activeLaces ∧ t.lace.order.head? = some l ∧ (t.laceOf l).reduced = some g ∧ ampFloor ≤ g ∧
            (∀ j ∈ s.activeLaces, ampFloor < (s.laceOf j).scale → of j ≤ of l) ∧
            Notices s t (s.st.laceQ l) 0x2A l (ampScale g) (argSX s.now sum)) ∧
        UnchangedBut [.looks, .lace, .crier, .store] s t) ∧
  (∀ (s : State) (est : List (Nat × Nat)), s.ub = none → keysBelow 48 est = true → ∃ t, exec (.dissipationUpdate est) s = .next t ∧
      (s.live = false → t = s) ∧ UnchangedBut [.looks, .lace, .crier, .store] s t) ∧
  (∀ (s : State) (l k : Nat) (rest : List Nat), s.ub = none → s.lace.order = l :: rest → s.lace.restoreSince = some k → s.lacesRun = true →
      s.passed k Config.ticksPerS = true → (∀ i, i < 48 → (s.laceOf i).restoring = false) → ∃ t, exec .excRestored s = .next t ∧
        (t.laceOf l).restoring = true ∧ (t.laceOf l).ramp =
          some { source := (s.laceOf l).amp s.tick, target := fullAmp, start := s.tick, stop := s.tick + s.st.rampTicks l } ∧
        t.lace.order = rest ∧ t.lace.restoreSince = none ∧ Notices s t (s.st.laceQ l) 0x2B l 0 (argT s.now) ∧
        (∀ j, j ≠ l → t.laceOf j = s.laceOf j) ∧ UnchangedBut [.lace, .crier, .store] s t)

/-- MOD_OVERLOAD, LOOK_RUN_START and SAMPLE_SCALED (R151, R157, R158, R205). The codes are operands (log entry 11), engineering values are 9, spans,
idle slots and the chain after a reset 36, and the sequence of REV 17. -/
def Obligations.ModulatorsRunTheirLooks : Prop :=
  (∀ (s : State) (m : ModId), s.ub = none → s.live = true → s.glb.sampling = true → s.st.lookRuns (s.runningStream (modSeq m)) = true →
      ∃ t, exec (.modOverload m) s = .next t ∧ (t.modu (modSeq m)).overloads = satInc (s.modu (modSeq m)).overloads ∧
        (t.modu (modSeq m)).clearing = some s.tick ∧
        (∃ sp ∈ (t.look (s.runningStream (modSeq m))).spans, sp.tag = tagInvalid ∧
          sp.start = s.fine - 3 * s.st.clk (s.runningStream (modSeq m)) ∧
          sp.stop = some (s.fine + 2 * s.st.clk (s.runningStream (modSeq m)))) ∧
        (∀ j, j ≠ modSeq m → t.modu j = s.modu j) ∧ LooksKept [s.runningStream (modSeq m)] s t ∧
        (s.seqOpenWire (modSeq m) = true → UnchangedBut [.looks, .mods] s t) ∧
        (s.seqOpenWire (modSeq m) = false →
          (t.look (s.runningStream (modSeq m))).ovlNote = (s.look (s.runningStream (modSeq m))).ovlNote + 1 ∧
          (mayCount s (s.look (s.runningStream (modSeq m))).ovlTick = true → Raised s t 7 (modSeq m)) ∧
          (mayCount s (s.look (s.runningStream (modSeq m))).ovlTick = false → t.hlt = s.hlt)) ∧
        UnchangedBut [.looks, .mods, .hlt] s t) ∧
  (∀ (s : State) (m : ModId) (pass : Nat), s.ub = none → s.live = true → s.glb.sampling = true → s.st.multiLook (firstOf (modSeq m)) = true →
      s.st.lookRuns (s.runningStream (modSeq m)) = true → (s.slotNow (modSeq m)).2 = false →
      pass = s.clocksNow (modSeq m) / s.st.passClocks (firstOf (modSeq m)) →
      (s.modu (modSeq m)).run ≠ some (pass, (s.slotNow (modSeq m)).1) → ∃ t, exec (.lookRunStart m) s = .next t ∧
        (t.modu (modSeq m)).run = some (pass, (s.slotNow (modSeq m)).1) ∧
        ((pass * s.st.passClocks (firstOf (modSeq m)) + s.st.slotStart (s.runningStream (modSeq m))) * s.st.clk (firstOf (modSeq m)), true) ∈
          (t.look (s.runningStream (modSeq m))).resets ∧
        t.out = (if modSeq m < 768 then
          s.out ++ [.gearCommand (modSeq m) (s.st.gearCode (s.runningStream (modSeq m)) (t.look (s.runningStream (modSeq m))).gear)] else s.out) ∧
        ((s.look (s.runningStream (modSeq m))).startNext = none →
          (t.look (s.runningStream (modSeq m))).gear = (s.look (s.runningStream (modSeq m))).gear ∧ UnchangedBut [.out, .looks, .mods] s t) ∧
        (∀ g, (s.look (s.runningStream (modSeq m))).startNext = some g → (768 ≤ modSeq m ∨ (s.spoke (modSeq m)).frozen = false) →
          (t.look (s.runningStream (modSeq m))).gear = g ∧ (t.look (s.runningStream (modSeq m))).startNext = none) ∧
        (∀ j, j ≠ modSeq m → t.modu j = s.modu j) ∧ LooksKept [s.runningStream (modSeq m)] s t ∧
        UnchangedBut [.out, .spokes, .looks, .mods] s t) ∧
  (∀ (s : State) (x : Fin 13056) (codes : List Int) (k : Nat) (r : State × Option Int × Nat), s.ub = none → codesWf codes = true →
      s.eraAfter (s.look x).era = none → (s.look x).next = some k → s.pathRuns = true → s.glb.sampling = true →
      s.leaves (s.eraFrom (s.look x).era).st x ((s.eraFrom (s.look x).era).st.instantOf x k) = true →
      s.chainOut (s.eraFrom (s.look x).era).st x k ((s.eraFrom (s.look x).era).st.instantOf x k) codes = some r →
      ∃ t, exec (.sampleScaled x codes) s = .next t ∧
        (t.ub = none → (t.look x).next = some (k + 1) ∧
          (∀ w, r.2.1 = some w → (t.look x).lastWord = some ((s.eraFrom (s.look x).era).st.instantOf x k, w)) ∧
          (∃ v g, (t.look x).last = some ((s.eraFrom (s.look x).era).st.instantOf x k, v, g)) ∧ t.cfg.committed = s.cfg.committed) ∧
        (t.ub = none → UnchangedBut [.freeCount, .out, .intStatus, .looks, .switches, .units, .streams, .stalls, .jobs, .path, .crier, .queue, .cmd
          , .pad, .store, .mem, .hlt, .rim, .snap] s t))

/-- AMBIENT_LEVEL_UPDATE, TRIG_IO_EDGE, TRIGGER_SCHEDULE, TRIG_IO_PULSE_END, FREEWHEEL_END and TRIGGER_FRAME (R209, R210, R214 to R224). Free
crossings and levels, the order at one sample and the notices of suppressions are log entry 19, a tie in a level 9. -/
def Obligations.EventsReachTheTriggerUnits : Prop :=
  (∀ (s : State) (epoch i k : Nat), s.ub = none → s.pathRuns = true → i ∈ s.st.switch.map (·.1) → s.st.swEnable i = true →
      s.st.swAmbient i = true → s.st.lookRuns (i / 4) = true → (s.look (i / 4)).next = some k →
      (epoch + 1) * Config.epochNs * 65536 ≤ (s.eraFrom (s.look (i / 4)).era).st.instantOf (i / 4) k → (s.sw i).ambDone ≤ epoch →
      (s.sw i).record = [] →
      ∃ t, exec (.ambientLevelUpdate epoch) s = .next t ∧ (t.sw i).ambDone = epoch + 1 ∧
        (∀ b, b < 256 → (t.sw i).hist.get 0 (epoch * 256 + b) = 0) ∧
        ((∀ b, b < 256 → (s.sw i).hist.get 0 (epoch * 256 + b) = 0) → (t.sw i).levels = (s.sw i).levels) ∧
        ((∃ b, b < 256 ∧ (s.sw i).hist.get 0 (epoch * 256 + b) ≠ 0) → (t.sw i).levels = (s.sw i).levels ++
          [((epoch + 2 + s.st.tau (i / 4) / (Config.epochNs * 65536)) * Config.epochNs * 65536,
            s.st.newLevel i (s.st.eng (i / 4)) ((List.range 256).map fun b => (s.sw i).hist.get 0 (epoch * 256 + b))
              (match (s.sw i).levels.getLast? with | some e => e.2 | none => (s.sw i).level.getD (s.st.swLevel i)))]) ∧
        (∀ j, j ∉ s.switchKeys → t.sw j = s.sw j) ∧ UnchangedBut [.switches] s t) ∧
  (∀ (s : State) (pin : Fin 8) (rising : Bool) (frac : Fin 64), s.ub = none → s.glb.state ≠ .reset → s.st.isOutPin pin = false →
      bitOf s.path.trigIn pin = !rising → ∃ t, exec (.trigIoEdge pin rising frac) s = .next t ∧
        (s.pathRuns = false ∨ s.st.unitsOn = [] → t.path.trigIn = (if rising then s.path.trigIn + 2 ^ pin.val else s.path.trigIn - 2 ^ pin.val) ∧
          UnchangedBut [.path] s t) ∧
        (t.ub = none → UnchangedBut [.units, .stalls, .path, .crier, .store, .rim] s t ∧
          t.path.trigIn = (if rising then s.path.trigIn + 2 ^ pin.val else s.path.trigIn - 2 ^ pin.val) ∧
          ∀ u, s.pathRuns = true → s.st.unitsOn = [u] → OneSource s.st u (if rising then 3 else 4) (some pin.val) →
            FiresOrSuppresses s t u (s.fine + frac.val * 5120))) ∧
  (∀ (s : State) (u : Fin 64) (e : SchedEvent), s.ub = none → s.tmb.sched.find? (fun e => decide (e.kind = .trigger u) && e.fired) = some e →
      s.pathRuns = true → s.st.trEnable u = true → ∃ t, exec (.triggerSchedule u) s = .next t ∧
        (s.st.trSchedMs u = 0 → t.tmb.sched = s.tmb.sched.filter fun x => x.id != e.id) ∧
        (s.st.trSchedMs u ≠ 0 → ∃ x ∈ t.tmb.sched, x.id = s.tmb.nextSched ∧ x.kind = .trigger u ∧
          x.target = e.target + s.st.trSchedMs u * 1000000 ∧ x.fired = false) ∧
        (t.ub = none → UnchangedBut [.tmb, .units, .stalls, .path, .crier, .store, .rim] s t ∧
          (OneSource s.st u 6 none → FiresOrSuppresses s t u (e.target * 65536)))) ∧
  (∀ (s : State) (pin : Fin 8), s.ub = none → s.path.trigOut.get 0 pin ≠ 0 → s.path.trigOut.get 0 pin ≤ s.tick →
      ∃ t, exec (.trigIoPulseEnd pin) s = .next t ∧ t.path.trigOut.get 0 pin = 0 ∧
        (∀ p, p ≠ pin.val → t.path.trigOut.get 0 p = s.path.trigOut.get 0 p) ∧ UnchangedBut [.path] s t) ∧
  (∀ (s : State) (u : Fin 64) (k : Nat), s.ub = none → (s.trig u).freewheel = .time k false → k ≤ s.fine →
      ∃ t, exec (.freewheelEnd u) s = .next t ∧ (t.trig u).freewheel = .time k true ∧ (∀ v, v ≠ u.val → t.trig v = s.trig v) ∧
        UnchangedBut [.units] s t) ∧
  (∀ (s : State) (p : Port) (m : TriggerMsg), s.ub = none → m.wf = true → s.pathRuns = true → m.origin ≠ s.lnk.rim.addr → m.group ≠ 0 →
      ∃ t, exec (.triggerFrame p m) s = .next t ∧
        (t.ub = none → UnchangedBut [.units, .stalls, .path, .crier, .store, .rim] s t ∧
          ∀ u, s.st.unitsOn = [u] → OneSource s.st u 5 (some m.group) → FiresOrSuppresses s t u (m.point * 65536 + m.frac)))

/-- FIRE_TRIGGER and REARM_TRIGGER (R219, R225). FIRE_TRIGGER to a unit that is not enabled is log entry 19. -/
def Obligations.TriggersAreFiredAndRearmedByCommand : Prop :=
  (∀ (s : State) (c : CmdItem), Starts s 0x28 c →
      ((s.st.trEnable (c.a 5 0) = false ∨ ∀ k, k < 8 → k < s.st.trSources (c.a 5 0) → s.st.srcType (c.a 5 0) k ≠ 7) →
        CompletesOnly .fireTrigger s c 0x0C) ∧
      (∀ k, s.st.trEnable (c.a 5 0) = true → k < 8 → k < s.st.trSources (c.a 5 0) → s.st.srcType (c.a 5 0) k = 7 →
        ∃ t, exec .fireTrigger s = .next t ∧ (t.ub = none →
          Posts s t (cplQueue s c.master) (completionItem (cplQueue s c.master) c 0 0) ∧
          (OneSource s.st (c.a 5 0) 7 none → FiresOrSuppresses s t (c.a 5 0) (if c.opB = 0 then s.fine else c.opB.toNat * 65536)) ∧
          (∀ v, v ≠ c.a 5 0 → t.trig v = s.trig v) ∧ UnchangedBut [.units, .stalls, .path, .crier, .queue, .cmd, .store, .rim] s t))) ∧
  (∀ (s : State) (c : CmdItem), Starts s 0x29 c →
      ((s.trig (c.a 5 0)).freewheel = .none ∨ (s.trig (c.a 5 0)).freewheel = .count 0 ∨ (∃ k, (s.trig (c.a 5 0)).freewheel = .time k true) →
        CompletesOnly .rearmTrigger s c 0x0D) ∧
      ((∃ k, (s.trig (c.a 5 0)).freewheel = .time k false) ∨ (∃ n, (s.trig (c.a 5 0)).freewheel = .count (n + 1)) →
        ∃ t, exec .rearmTrigger s = .next t ∧ Completes s t c 0 0 ∧ (t.trig (c.a 5 0)).freewheel = .none ∧
          (∀ v, v ≠ c.a 5 0 → t.trig v = s.trig v) ∧ UnchangedBut [.units, .crier, .queue, .cmd, .store] s t))

/-- BLOCK_CLOSE, BLOCK_PLACE, RECORD_EXPIRY and WATERMARK_REARM (R238, R245, R254, R296, R299). The order of closing and placing is log entry 18, the
buffers and their errors 26. -/
def Obligations.BlocksAreCodedAndPlaced : Prop :=
  (∀ (s : State) (i : Fin 16384) (b : OpenBlock) (rest : List OpenBlock), s.ub = none → s.glb.state ≠ .reset →
      (s.strm i).ready = b :: rest → (∀ c ∈ (s.strm i).closed, c.interim = true) → ∃ t, exec (.blockClose i) s = .next t ∧
        (s.st.stored i = false → t.strm i = { s.strm i with ready := rest } ∧ StreamsKept [i] s t ∧ UnchangedBut [.streams] s t) ∧
        (s.st.stored i = true → (t.strm i).ready = rest ∧ (t.strm i).started = true ∧
          (t.strm i).forceKey = false ∧ (t.strm i).keyDist = (if s.keyDue i b then 0 else (s.strm i).keyDist + 1) ∧
          (∃ c ∈ (t.strm i).closed, c.block = { b with poisoned := c.block.poisoned } ∧ (b.poisoned = true → c.block.poisoned = true) ∧
            (PadClean s → c.block = b) ∧ c.interim = false ∧ c.key = s.keyDue i b ∧ c.saves = (s.strm i).saves ∧
            c.restores = (s.strm i).restores ∧ c.plain = s.st.cmpPlain i ∧ c.preds = s.st.predMask i ∧ c.near = s.st.near i) ∧
          StreamsKept [i] s t ∧ (PadClean s → UnchangedBut [.freeCount, .streams, .crier, .store, .mem, .hlt, .tdm] s t)) ∧
        UnchangedBut [.freeCount, .out, .intStatus, .streams, .crier, .pad, .store, .mem, .hlt, .tdm] s t) ∧
  (∀ (s : State) (i : Fin 16384) (c : ClosedBlock) (rest : List ClosedBlock), s.ub = none → s.glb.state ≠ .reset →
      (s.strm i).closed = c :: rest → (c.interim = true → ∀ b, (s.strm i).ready.head? = some b → c.block.sameAs b = true) →
      ∃ t, exec (.blockPlace i) s = .next t ∧
        (s.st.stored i = false → (t.strm i).closed = rest ∧ StreamsKept [i] s t ∧
          UnchangedBut [.out, .intStatus, .streams, .crier, .queue, .cmd, .store] s t) ∧
        (s.st.stored i = true → (t.strm i).closed = rest ∧
          (∃ h ∈ (t.stall (s.st.stallOf i)).held, h.stream = i ∧ h.seq = c.block.seq ∧ h.w3 = c.block.w3 ∧ h.tFirst = c.block.tFirst ∧
            h.interim = c.interim ∧ h.sent = false ∧ (c.interim = false → c.key = true → h.key = true ∧ h.size = c.bytes.length)) ∧
          StreamsKept [i] s t) ∧
        UnchangedBut [.out, .intStatus, .streams, .stalls, .path, .crier, .queue, .cmd, .store, .hlt, .snap] s t) ∧
  (∀ (s : State) (k : Fin 4096) (n : Nat) (r : Record), s.ub = none → s.recordOf k n = some r → r.state = .complete → s.st.stallKind k = 2 →
      s.st.maxAgeS k ≠ 0 → s.passed r.doneTick (s.st.maxAgeS k * Config.ticksPerS) = true → ∃ t, exec (.recordExpiry k n) s = .next t ∧
        t.recordOf k n = some { r with state := .released } ∧ Notices s t (s.st.stallQ k) 0x3A k 0 (argSX s.now n) ∧
        UnchangedBut [.stalls, .crier, .store] s t) ∧
  (∀ (s : State) (k : Fin 4096) (v : Word), s.ub = none → s.glb.state ≠ .reset → ∃ t, exec (.watermarkRearm k v) s = .next t ∧
      (v.field 20 0 ≠ 0 → t.ub = some 12) ∧
      (v.field 20 0 = 0 →
        (t.stall k).warn = (if v.flag 27 then
          { latched := false, below := decide (s.level k < s.st.mark k 0), time := (s.stall k).warn.time, peak := 0 } else (s.stall k).warn) ∧
        (t.stall k).crit = (if v.flag 26 then
          { latched := false, below := decide (s.level k < s.st.mark k 1), time := (s.stall k).crit.time, peak := 0 } else (s.stall k).crit) ∧
        (t.stall k).overrun = ((s.stall k).overrun && !v.flag 25) ∧ StallsKept [k] s t ∧ UnchangedBut [.stalls] s t))

/-- SET_MARK, CLEAR_MARK, REPLAY, REPLAY_DONE, ACK_BLOCKS (R255, R256, R264). The gap records of a replay and the acknowledgement of a block of an
earlier stall are log entry 44, the order of blocks 18. -/
def Obligations.StallsAreMarkedReplayedAndAcknowledged : Prop :=
  (∀ (s : State) (c : CmdItem), Starts s 0x30 c →
      let w := s.stall (c.a 31 20)
      let block := if c.b 47 0 = 2 ^ 48 - 1 then w.finals.getLast? else (w.runOf (c.b 47 0)).bind fun r => (w.parts r.stream r.w3 (c.b 47 0)).head?
      (block = none → CompletesOnly .setMark s c 0x0E) ∧
      ∀ b, block = some b → ∃ t, exec .setMark s = .next t ∧ Completes s t c 0 0 ∧
        (t.stall (c.a 31 20)).marks = updAt w.marks (c.a 1 0) (fun _ => { valid := true, stream := b.stream, seq := b.seq, w3 := b.w3 }) ∧
        StallsKept [c.a 31 20] s t ∧ UnchangedBut [.stalls, .crier, .queue, .cmd, .store] s t) ∧
  (∀ (s : State) (c : CmdItem), Starts s 0x31 c → ∃ t, exec .clearMark s = .next t ∧ Completes s t c 0 0 ∧
      (t.stall (c.a 31 20)).marks = updAt (s.stall (c.a 31 20)).marks (c.a 1 0) (fun _ => {}) ∧ StallsKept [c.a 31 20] s t ∧
      UnchangedBut [.stalls, .crier, .queue, .cmd, .store] s t) ∧
  (∀ (s : State) (c : CmdItem), Starts s 0x32 c →
      (s.st.stallKind (c.a 31 20) ≠ 1 → CompletesOnly .replay s c 0x0F) ∧
      (s.st.stallKind (c.a 31 20) = 1 → ∃ t j, exec .replay s = .next t ∧ Begins s t c (.replay (c.a 31 20)) ∧
        (t.stall (c.a 31 20)).replays = (s.stall (c.a 31 20)).replays ++ [j] ∧ j.item = c ∧ j.toHost = decide (c.a 19 19 = 1) ∧
        (∀ r, c.a 18 18 ≠ 1 → (s.stall (c.a 31 20)).runOf (c.b 47 0) = some r →
          j.gap = none ∧ j.todo = (s.stall (c.a 31 20)).range r.stream r.w3 (c.b 47 0) (c.a 15 0)) ∧
        (∀ m, c.a 18 18 = 1 → (s.stall (c.a 31 20)).marks.getD (c.a 17 16) {} = m → m.valid = true →
          j.gap = none ∧ j.todo = (s.stall (c.a 31 20)).range m.stream m.w3 m.seq (c.a 15 0)) ∧
        (∀ m b, c.a 18 18 = 1 → (s.stall (c.a 31 20)).marks.getD (c.a 17 16) {} = m → m.valid = false →
          (s.stall (c.a 31 20)).oldestBlock = some b →
          (j.gap.isSome = m.overtaken) ∧ j.todo = (s.stall (c.a 31 20)).range b.stream b.w3 b.seq (c.a 15 0)) ∧
        StallsKept [c.a 31 20] s t ∧ UnchangedBut [.stalls, .queue] s t)) ∧
  (∀ (s : State) (k : Fin 4096) (j : ReplayJob), s.ub = none → (s.stall k).replays.find? (fun j => j.gap.isNone && j.todo.isEmpty) = some j →
      ∃ t, exec (.replayDone k) s = .next t ∧ (t.stall k).replays = eraseFirst (fun q => decide (q = j)) (s.stall k).replays ∧
        Ends s t j.item 0 0 ∧ StallsKept [k] s t ∧ UnchangedBut [.out, .intStatus, .stalls, .crier, .queue, .cmd, .store] s t) ∧
  (∀ (s : State) (c : CmdItem), Starts s 0x34 c →
      let w := s.stall (s.st.stallOf (c.a 13 0))
      let run := w.runs.reverse.find? (fun r => r.holds (c.a 13 0) r.w3 (c.b 47 0))
      let unsent (r : Run) (o : Nat) : Bool := match r.unsent with | some n => decide (n ≤ c.b 47 0) | none => decide (max w.sentTop w.ackedOrd ≤ o)
      (run = none → s.endedSent (c.a 13 0) (c.b 47 0) = true → CompletesOnly .ackBlocks s c 0) ∧
      (run = none → s.endedSent (c.a 13 0) (c.b 47 0) = false →
        ∃ t, exec .ackBlocks s = .next t ∧ t.ub = some 264 ∧ t.cmd.queue = s.cmd.queue.tail) ∧
      (∀ r o, run = some r → w.ordOf (c.a 13 0) r.w3 (c.b 47 0) = some o → unsent r o = true →
        ∃ t, exec .ackBlocks s = .next t ∧ t.ub = some 264 ∧ t.cmd.queue = s.cmd.queue.tail) ∧
      (∀ r o, run = some r → w.ordOf (c.a 13 0) r.w3 (c.b 47 0) = some o → unsent r o = false →
        ∃ t, exec .ackBlocks s = .next t ∧ Completes s t c 0 0 ∧ o < (t.stall (s.st.stallOf (c.a 13 0))).ackedOrd ∧
          w.ackedOrd ≤ (t.stall (s.st.stallOf (c.a 13 0))).ackedOrd ∧ (t.stall (s.st.stallOf (c.a 13 0))).held = w.held ∧
          StallsKept [s.st.stallOf (c.a 13 0)] s t ∧ UnchangedBut [.stalls, .crier, .queue, .cmd, .store] s t))

/-- RELEASE_RECORD, READ_RECORD and READ_RECORD_DONE (R245, R255, R387, R388). A read over the rim ends with its last frame (log entry 38); a record
that outgrows its room is 45. -/
def Obligations.RecordsAreReleasedAndRead : Prop :=
  (∀ (s : State) (c : CmdItem), Starts s 0x33 c →
      (s.recordOf (c.a 31 20) (c.b 31 0) = none → CompletesOnly .releaseRecord s c 0x11) ∧
      ∀ r, s.recordOf (c.a 31 20) (c.b 31 0) = some r →
        (r.state = .opened → CompletesOnly .releaseRecord s c 0x10) ∧ (r.state = .released → CompletesOnly .releaseRecord s c 0x11) ∧
        (r.state = .complete → ∃ t, exec .releaseRecord s = .next t ∧
          t.recordOf (c.a 31 20) (c.b 31 0) = some { r with state := .released } ∧
          (s.st.stallKind (c.a 31 20) = 2 → s.st.maxAgeS (c.a 31 20) ≠ 0 →
            s.passed r.doneTick (s.st.maxAgeS (c.a 31 20) * Config.ticksPerS) = true → Completes s t c 0x11 0) ∧
          (s.st.maxAgeS (c.a 31 20) = 0 ∨ s.passed r.doneTick (s.st.maxAgeS (c.a 31 20) * Config.ticksPerS) = false → Completes s t c 0 0) ∧
          UnchangedBut [.stalls, .crier, .queue, .cmd, .store] s t)) ∧
  (∀ (s : State) (c : CmdItem), Starts s 0x35 c →
      (s.st.stallKind (c.a 31 20) ≠ 2 → CompletesOnly .readRecord s c 0x0F) ∧
      (s.st.stallKind (c.a 31 20) = 2 → s.recordOf (c.a 31 20) (c.b 31 0) = none → CompletesOnly .readRecord s c 0x11) ∧
      (s.st.stallKind (c.a 31 20) = 2 → (s.recordOf (c.a 31 20) (c.b 31 0)).isSome = true → c.a 19 19 = 1 →
        ((s.ring (c.a 5 0)).cfg.flag 31 = false ∨ (s.ring (c.a 5 0)).cfg.field 30 30 = 0) → CompletesOnly .readRecord s c 0x13) ∧
      (∀ r, s.st.stallKind (c.a 31 20) = 2 → s.recordOf (c.a 31 20) (c.b 31 0) = some r →
        (c.a 19 19 = 1 → (s.ring (c.a 5 0)).cfg.flag 31 = true ∧ (s.ring (c.a 5 0)).cfg.field 30 30 ≠ 0) →
        ∃ t, exec .readRecord s = .next t ∧
          ((∀ n, n < ceilDiv r.size 8 → (s.storeAt (r.addr / 8 + n)).flips = 0 ∧ (s.storeAt (r.addr / 8 + n)).poison = false) →
            Begins s t c (.readRecord (c.a 31 20)) ∧
            (t.stall (c.a 31 20)).reads = (s.stall (c.a 31 20)).reads ++
              [{ item := c, toHost := decide (c.a 19 19 = 1), ring := c.a 5 0, bytes := (s.fetchBytes r.addr r.size).2.1, handed := 0, sent := 0 }] ∧
            StallsKept [c.a 31 20] s t ∧ UnchangedBut [.stalls, .queue] s t) ∧
          (((taken s).fetchBytes r.addr r.size).2.2 = true →
            Posts s t (cplQueue s c.master) (completionItem (cplQueue s c.master) c 0x11 0)) ∧
          UnchangedBut [.out, .intStatus, .stalls, .crier, .queue, .cmd, .store, .mem, .hlt] s t)) ∧
  (∀ (s : State) (k : Fin 4096) (r : RecordRead), s.ub = none →
      (s.stall k).reads.find? (fun r => decide (r.bytes.length ≤ r.sent)) = some r →
      ∃ t, exec (.readRecordDone k) s = .next t ∧ (t.stall k).reads = eraseFirst (fun q => decide (q = r)) (s.stall k).reads ∧
        Ends s t r.item 0 r.bytes.length ∧ StallsKept [k] s t ∧ UnchangedBut [.out, .intStatus, .stalls, .crier, .queue, .cmd, .store] s t)

/-- REDUCER_INPUT_CLOSE and CSD_COMMIT_POINT (R269 to R271, R277 to R279). Sums of a CSD record and the root of RMS are log entry 10, quotients 15,
the cells that an engine reads 26. -/
def Obligations.ReducerIntervalsAreClosedAndEmitted : Prop :=
  (∀ (s : State) (e j : Fin 16) (n key : Nat), s.ub = none → s.jobKeys (16 * e.val + j.val) = [key] → key < 256 →
      (s.jobStruct key).jobKind key ≠ 0 → (s.jobStruct key).jobKind key ≠ 4 → n < ((s.jobStruct key).inputs key).length →
      s.inputTimeout key n = true → (s.job key).abort = [] → PadClean s →
      let st := s.jobStruct key
      let x := s.job key
      let i := x.openOf n
      let stream := (st.inputs key).getD n 0
      let words := st.inputRecord key stream i (st.eng stream)
        (rflags (decide ((x.tally n).processed = 0))
          (x.cuts.contains i || (match x.stop with | none => false | some e => decide (e < (i + 1) * st.ivlNs key * 65536))) false
          ((x.tally n).fault || x.fault) (!s.st.lookExists stream)) (x.tally n)
      let reset := x.resetReq.any fun r => decide (r.2 ≤ i) && (match (x.tally n).closedThrough with | none => true | some c => decide (c < r.2))
      ∃ t, exec (.reducerInputClose e j n) s = .next t ∧ (t.job key).tally n = st.clearTally key i reset (x.tally n) ∧
        ((∃ m, m < (st.inputs key).length ∧ m ≠ n ∧ ∀ c, (x.tally m).closedThrough = some c → c < i) →
          (t.job key).record.get [] (i * 1024 + n) = words ∧ (t.job key).interval = x.interval ∧
          UnchangedBut [.freeCount, .jobs, .path, .mem, .snap] s t) ∧
        ((∀ m, m < (st.inputs key).length → m ≠ n → ∃ c, (x.tally m).closedThrough = some c ∧ i ≤ c) →
          (t.job key).interval = x.next i ∧ t.path.jobLast.get 0 key = i ∧
          (∃ bs, (t.strm (st.outStream key)).ready = (s.strm (st.outStream key)).ready ++ bs ∧
            (bs.flatMap fun b => b.samples.map (·.1)) =
              ((List.range (st.inputs key).length).flatMap fun m => if m = n then words else x.record.get [] (i * 1024 + m)) ∧
            ∀ b ∈ bs, b.words = true ∧ b.tFirst = st.recInstant key i / 65536) ∧
          StreamsKept [st.outStream key] s t ∧ UnchangedBut [.freeCount, .streams, .jobs, .path, .mem, .snap] s t)) ∧
  (∀ (s : State) (e j : Fin 16) (key : Nat), s.ub = none → s.jobKeys (16 * e.val + j.val) = [key] → key < 256 →
      (s.jobStruct key).jobKind key = 4 → s.csdDue key = true → (s.job key).abort = [] → PadClean s →
      let st := s.jobStruct key
      let x := s.job key
      ∃ t, exec (.csdCommitPoint e j) s = .next t ∧ (t.job key).interval = x.next x.interval ∧ (t.job key).fault = false ∧
        t.path.jobLast.get 0 key = x.interval ∧
        (∃ bs flags tags, (t.strm (st.outStream key)).ready = (s.strm (st.outStream key)).ready ++ bs ∧
          (bs.flatMap fun b => b.samples.map (·.1)) = st.csdRecord key x.interval flags tags (st.w3 (st.leadInput key))
            (st.eng (st.leadInput key)) x.csd ∧
          (flags / 8 % 2 = 1 ↔ x.fault = true) ∧ ∀ b ∈ bs, b.words = true ∧ b.tFirst = st.recInstant key x.interval / 65536) ∧
        StreamsKept [st.outStream key] s t ∧ UnchangedBut [.freeCount, .streams, .jobs, .path, .mem, .snap] s t) ∧
  (∀ (s : State) (e j : Fin 16) (n : Nat), s.ub = none →
      (∃ t, exec (.reducerInputClose e j n) s = .next t ∧ UnchangedBut reducerParts s t) ∧
      ∃ t, exec (.csdCommitPoint e j) s = .next t ∧ UnchangedBut reducerParts s t)

/-- RESET_TALLY, TALLY_CLEAR and ABORT_INTERVAL (R280). -/
def Obligations.ReducerJobsAreResetAndAborted : Prop :=
  (∀ (s : State) (c : CmdItem), Starts s 0x38 c →
      (s.st.jobKind (c.a 7 0) = 0 → CompletesOnly .resetTally s c 0x12) ∧
      (s.st.jobKind (c.a 7 0) ≠ 0 → s.st.jobKind (c.a 7 0) ≠ 3 → CompletesOnly .resetTally s c 0x13) ∧
      (s.st.jobKind (c.a 7 0) = 3 → ∃ t, exec .resetTally s = .next t ∧ Begins s t c (.resetTally (c.a 7 0 / 16) (c.a 7 0 % 16)) ∧
        (t.job (c.a 7 0)).resetReq = (s.job (c.a 7 0)).resetReq ++ [(c, s.now / max 1 (s.st.ivlNs (c.a 7 0)))] ∧
        (t.job (c.a 7 0)).tallies = (s.job (c.a 7 0)).tallies ∧ (∀ k, k ≠ c.a 7 0 → t.job k = s.job k) ∧ UnchangedBut [.jobs, .queue] s t)) ∧
  (∀ (s : State) (e j : Fin 16) (key i : Nat) (c : CmdItem), s.ub = none → s.jobKeys (16 * e.val + j.val) = [key] →
      (s.job key).resetReq = [(c, i)] →
      (∀ n, n < ((s.jobStruct key).inputs (16 * e.val + j.val)).length → ∃ d, ((s.job key).tally n).closedThrough = some d ∧ i ≤ d) →
      (i + 1) * (s.jobStruct key).ivlNs (16 * e.val + j.val) ≤ s.now →
      ∃ t, exec (.tallyClear e j) s = .next t ∧ (t.job key).resetReq = [] ∧ (t.job key).tallies = (s.job key).tallies ∧ Ends s t c 0 0 ∧
        (∀ k, k ≠ key → t.job k = s.job k) ∧ UnchangedBut [.out, .intStatus, .jobs, .crier, .queue, .cmd, .store] s t) ∧
  (∀ (s : State) (c : CmdItem), Starts s 0x39 c →
      (s.st.jobKind (c.a 7 0) = 0 → CompletesOnly .abortInterval s c 0x12) ∧ (s.st.jobKind (c.a 7 0) = 3 → CompletesOnly .abortInterval s c 0x13) ∧
      (s.st.jobKind (c.a 7 0) ≠ 0 → s.st.jobKind (c.a 7 0) ≠ 3 →
        ∃ t, exec .abortInterval s = .next t ∧ Begins s t c (.abortInterval (c.a 7 0 / 16) (c.a 7 0 % 16)) ∧
          (t.job (c.a 7 0)).abort = (s.job (c.a 7 0)).abort ++ [(c, (s.job (c.a 7 0)).interval, s.pointPassed (c.a 7 0))] ∧
          (t.job (c.a 7 0)).interval = (s.job (c.a 7 0)).interval ∧ (∀ k, k ≠ c.a 7 0 → t.job k = s.job k) ∧ UnchangedBut [.jobs, .queue] s t))

/-- FLUSH, SAVE_CONTEXT and RESTORE_CONTEXT (R301, R302). The `key` of a flush that ends EMPTY is log entry 28, a RESTORE_CONTEXT at a restart 30. -/
def Obligations.StreamsAreFlushedAndTheirContextsMoved : Prop :=
  (∀ (s : State) (c : CmdItem), Starts s 0x40 c →
      (13056 ≤ c.a 13 0 → CompletesOnly .flush s c 0x13) ∧
      (c.a 13 0 < 13056 → (s.st.stored (c.a 13 0) = false ∨ s.st.streamExists (c.a 13 0) = false) → CompletesOnly .flush s c 0x15) ∧
      (c.a 13 0 < 13056 → s.st.stored (c.a 13 0) = true → s.st.streamExists (c.a 13 0) = true →
        ((∀ b, (s.strm (c.a 13 0)).block = some b → b.samples = []) → ∃ t, exec .flush s = .next t ∧ Completes s t c 0x14 0 ∧
          (c.a 31 31 = 1 → (t.strm (c.a 13 0)).keyNext = true) ∧ (c.a 31 31 ≠ 1 → t.strm (c.a 13 0) = s.strm (c.a 13 0)) ∧
          (t.strm (c.a 13 0)).closed = (s.strm (c.a 13 0)).closed ∧
          StreamsKept [c.a 13 0] s t ∧ UnchangedBut [.streams, .crier, .queue, .cmd, .store] s t) ∧
        (∀ b, (s.strm (c.a 13 0)).block = some b → b.samples ≠ [] → ∃ t d, exec .flush s = .next t ∧ Completes s t c 0 0 ∧
          (t.strm (c.a 13 0)).closed.getLast? = some d ∧ (t.strm (c.a 13 0)).closed.length = (s.strm (c.a 13 0)).closed.length + 1 ∧
          d.interim = true ∧ (t.strm (c.a 13 0)).block = some d.block ∧ d.block = { b with keyed := b.keyed || decide (c.a 31 31 = 1) } ∧
          StreamsKept [c.a 13 0] s t ∧ UnchangedBut [.streams, .crier, .queue, .cmd, .store] s t))) ∧
  (∀ (s : State) (c : CmdItem), Starts s 0x41 c →
      ((s.st.stored (c.a 13 0) = false ∨ s.st.streamExists (c.a 13 0) = false) → CompletesOnly .saveContext s c 0x15) ∧
      (s.st.stored (c.a 13 0) = true → s.st.streamExists (c.a 13 0) = true → ∃ t, exec .saveContext s = .next t ∧
        Begins s t c (.saveContext (c.a 13 0)) ∧ (t.strm (c.a 13 0)).saves = (s.strm (c.a 13 0)).saves ++ [c] ∧
        StreamsKept [c.a 13 0] s t ∧ UnchangedBut [.streams, .queue] s t)) ∧
  (∀ (s : State) (c : CmdItem), Starts s 0x42 c →
      ((s.st.stored (c.a 13 0) = false ∨ s.st.streamExists (c.a 13 0) = false) → CompletesOnly .restoreContext s c 0x15) ∧
      (s.st.stored (c.a 13 0) = true → s.st.streamExists (c.a 13 0) = true →
        ((s.ctxWord (c.a 13 0) 0).flag 0 = false ∨ (s.ctxWord (c.a 13 0) 0).field 31 18 ≠ c.a 13 0 → CompletesOnly .restoreContext s c 0x16) ∧
        ((s.ctxWord (c.a 13 0) 0).flag 0 = true → (s.ctxWord (c.a 13 0) 0).field 31 18 = c.a 13 0 → ∃ t, exec .restoreContext s = .next t ∧
          Begins s t c (.restoreContext (c.a 13 0)) ∧ (t.strm (c.a 13 0)).restores = (s.strm (c.a 13 0)).restores ++ [c] ∧
          (t.strm (c.a 13 0)).restoreFrom = some (s.ctxCode (c.a 13 0)) ∧
          StreamsKept [c.a 13 0] s t ∧ UnchangedBut [.streams, .queue] s t)))

/-- LINK_HB_SEND, LINK_HB, REACH_TIMEOUT, HELLO_SEND, HELLO, ENUMERATE and SET_ADDRESS (R309 to R312, R463). Destination, first HELLO and the
address's corner cases are log entry 20, the hop of ENUMERATE 38. -/
def Obligations.HubsKnowTheirNeighboursAndAddresses : Prop :=
  (∀ (s : State) (p : Port), s.ub = none → s.portActive p = true →
      (∀ k c, (s.rimPort p).hbSent = some (k, c) → s.passed k (us 100) = true ∨ c ≠ s.hbContent p) → ∃ t, exec (.linkHbSend p) s = .next t ∧
        t.rimPort p = { s.rimPort p with
          hbSent := some (s.tick, s.hbContent p)
          time := (s.rimPort p).time ++ [{ cls := 1, src := s.lnk.rim.addr, dst := 4095, seq := 0, cut := false
                                           body := .linkHb (s.hbContent p).1 (decide (p = .e)) (s.hbContent p).2 }] } ∧
        PortKept (otherPort p) s t ∧ UnchangedBut [.rim] s t) ∧
  (∀ (s : State) (p : Port) (far : Bool) (hops : Byte), s.ub = none → s.portActive p = true →
      (∃ t, exec (.linkHb p far (decide (p = .e)) hops) s = .next t ∧ (t.rimPort p).miswired = true ∧ t.lnk.rim.miswired = true ∧
        (t.rimPort p).reach = false ∧ (t.rimPort p).hbTick = some s.tick ∧
        ((s.rimPort p).miswired = false → Notices s t s.st.rimQ 0x48 0 (portNum p) (argT s.now)) ∧ PortKept (otherPort p) s t ∧
        UnchangedBut [.crier, .store, .rim] s t) ∧
      (∃ t, exec (.linkHb p true (!decide (p = .e)) hops) s = .next t ∧ t.rimPort p = { s.rimPort p with
          miswired := false, hbTick := some s.tick, hbFar := true, hbHops := hops.toNat, reach := true, hops := min 0xFF (hops.toNat + 1) } ∧
        ((s.rimPort p).reach = true → UnchangedBut [.rim] s t) ∧ PortKept (otherPort p) s t ∧ UnchangedBut [.crier, .store, .rim] s t) ∧
      (∃ t, exec (.linkHb p false (!decide (p = .e)) hops) s = .next t ∧ (t.rimPort p).reach = false ∧ (t.rimPort p).miswired = false ∧
        (t.rimPort p).hbTick = some s.tick ∧ PortKept (otherPort p) s t ∧ UnchangedBut [.crier, .store, .rim] s t)) ∧
  (∀ (s : State) (p : Port), s.ub = none → s.passedOpt (s.rimPort p).hbTick (us s.st.reachUs) = true → (s.rimPort p).reach = true →
      ∃ t, exec (.reachTimeout p) s = .next t ∧ t.rimPort p = { s.rimPort p with reach := false, hops := 0xFF } ∧
        ((s.rimPort (otherPort p)).reach = true → t.bulkPort = otherPort p ∧ t.lnk.rim.isolated = false ∧
          (s.bulkPort = p → Notices s t s.st.rimQ 0x49 0 (portNum (otherPort p)) (argT s.now))) ∧
        ((s.rimPort (otherPort p)).reach = false → t.lnk.rim.isolated = true ∧
          (s.lnk.rim.isolated = false → Notices s t s.st.rimQ 0x4A 0 0 (argT s.now))) ∧
        PortKept (otherPort p) s t ∧ UnchangedBut [.crier, .store, .rim] s t) ∧
  (∀ s : State, s.ub = none → s.glb.state ≠ .reset → s.passedOpt s.lnk.rim.helloTick (ms 100) = true → ∃ t, exec .helloSend s = .next t ∧
      t.lnk.rim.helloTick = some s.tick ∧
      (∀ p, s.portActive p = true → t.rimPort p = { s.rimPort p with control := (s.rimPort p).control ++
        [{ cls := 2, src := s.lnk.rim.addr, dst := 4095, seq := 0, cut := false
           body := .hello Config.chipId s.lnk.rim.session s.lnk.rim.addrSrc s.lnk.rim.e.hops s.lnk.rim.w.hops }] }) ∧
      (∀ p, s.portActive p = false → PortKept p s t) ∧ UnchangedBut [.rim] s t) ∧
  (∀ (s : State) (p : Port) (src : Nat) (chip : DWord) (session : Half), s.ub = none → src < 4096 → s.glb.state ≠ .reset →
      ∃ t, exec (.hello p src chip session) s = .next t ∧ t.lnk.rim.sessions.get 0 src = session.toNat + 1 ∧
        (src ≠ s.lnk.rim.addr ∨ src = 4095 ∨ chip = Config.chipId → t.lnk.rim.addr = s.lnk.rim.addr ∧ t.lnk.rim.conflict = s.lnk.rim.conflict ∧
          UnchangedBut [.rim] s t) ∧
        (src = s.lnk.rim.addr → src ≠ 4095 → chip ≠ Config.chipId → t.lnk.rim.addr = 4095 ∧ t.lnk.rim.addrSrc = 3 ∧ t.lnk.rim.conflict = true ∧
          AssocsReset s t ∧ t.crier.acts = satAdd s.crier.acts 1 ∧ Notices s t s.st.rimQ 0x4B src 0 chip.toNat ∧
          UnchangedBut [.out, .stalls, .crier, .store, .rim] s t)) ∧
  (∀ (s : State) (p : Port) (hop base : Nat), s.ub = none → hop ≤ 129 → base < 4096 → s.portActive p = true →
      ∃ t f, exec (.enumerate p hop base) s = .next t ∧
        (s.lnk.rim.addr = 4095 ∧ s.st.enumOk = true ∧ 0 < base + hop ∧ base + hop < 4095 →
          t.lnk.rim.addr = base + hop ∧ t.lnk.rim.addrSrc = 1 ∧ AssocsReset s t ∧ UnchangedBut [.out, .stalls, .rim] s t) ∧
        (s.lnk.rim.addr ≠ 4095 ∨ s.st.enumOk = false ∨ base + hop = 0 ∨ 4095 ≤ base + hop → t.lnk.rim.addr = s.lnk.rim.addr ∧
          (s.portActive (otherPort p) = true → ∃ o : OutFrame, o.body = .forwarded f ∧ o.cls = 2 ∧ o.dst = 4095 ∧
            (t.rimPort (otherPort p)).control = (s.rimPort (otherPort p)).control ++ [o]) ∧ PortKept p s t ∧ UnchangedBut [.rim] s t) ∧
        (s.portActive (otherPort p) = true → ∃ o : OutFrame, o.body = .forwarded f ∧ o.cls = 2 ∧ o.dst = 4095 ∧
          (t.rimPort (otherPort p)).control.getLast? = some o) ∧
        f.type = 0x09 ∧ f.hop = hop ∧ f.length = 4 ∧ f.word 0 = base * 2 ^ 20) ∧
  (∀ (s : State) (c : CmdItem), Starts s 0x48 c →
      (c.master ≠ .spi → CompletesOnly .setAddress s c 0x19) ∧ (c.master = .spi → c.a 11 0 = 0 → CompletesOnly .setAddress s c 0x18) ∧
      (c.master = .spi → c.a 11 0 ≠ 0 → ∃ t, exec .setAddress s = .next t ∧ t.lnk.rim.addr = c.a 11 0 ∧
        t.lnk.rim.addrSrc = (if c.a 11 0 = 4095 then 3 else 2) ∧ (c.a 11 0 ≠ s.lnk.rim.addr → AssocsReset s t) ∧
        (c.a 31 31 = 1 → Begins s t c .setAddress ∧ UnchangedBut [.out, .stalls, .queue, .rim] s t) ∧
        (c.a 31 31 ≠ 1 → Completes s t c 0 0 ∧ UnchangedBut [.out, .stalls, .crier, .queue, .cmd, .store, .rim] s t)))

/-- IRP_FRAME_RX, CUT_FRAME, PORT_TRANSMIT and PREEMPTION_VERIFY (R316, R318 to R320, R323, R324). The frame as bytes is log entry 46, and
PORT_TRANSMIT takes no time (log entry 38). -/
def Obligations.FramesAreForwardedAndTransmitted : Prop :=
  (∀ (s : State) (p : Port) (g : RimFrame), s.ub = none → g.wf = true → g.etherType = 0x88F7 → g.fcs = .good →
      exec (.irpFrameRx p g) s = .next s) ∧
  (∀ (s : State) (p : Port) (g : RimFrame), s.ub = none → g.wf = true → s.portActive p = true → ¬(g.etherType = 0x88F7 ∧ g.fcs = .good) →
      let f := g.hopped
      ∃ t, exec (.irpFrameRx p g) s = .next t ∧
        (g.headerOk = false → g.fcs ≠ .inverted → t.rimPort p = { s.rimPort p with badFrames := satInc (s.rimPort p).badFrames } ∧
          PortKept (otherPort p) s t ∧ UnchangedBut [.rim] s t) ∧
        (g.headerOk = true → g.fcs = .bad → (t.rimPort p).badFrames = satInc (s.rimPort p).badFrames ∧ t.lnk.rim.assocs = s.lnk.rim.assocs ∧
          UnchangedBut [.rim] s t) ∧
        (g.headerOk = false → g.fcs = .inverted → t.rimPort p = { s.rimPort p with cut := satInc (s.rimPort p).cut } ∧
          PortKept (otherPort p) s t ∧ UnchangedBut [.rim] s t) ∧
        (g.headerOk = true → g.fcs = .inverted → (t.rimPort p).cut = satInc (s.rimPort p).cut ∧ (t.rimPort p).badFrames = (s.rimPort p).badFrames ∧
          t.lnk.rim.assocs = s.lnk.rim.assocs ∧
          (f.type ≠ 0x19 → s.alone f = false → s.portActive (otherPort p) = true → f.cls = 2 →
            (t.rimPort (otherPort p)).fwdDrop = satInc (s.rimPort (otherPort p)).fwdDrop ∧ ∃ o : OutFrame, o.body = .forwarded f ∧ o.cut = true ∧
              (t.rimPort (otherPort p)).control = (s.rimPort (otherPort p)).control ++ [o]) ∧
          (f.type = 0x19 ∨ s.alone f = true ∨ s.portActive (otherPort p) = false → PortKept (otherPort p) s t) ∧ UnchangedBut [.rim] s t) ∧
        (g.headerOk = true → g.fcs = .good → f.type ≠ 0x19 → s.alone f = false → s.takes f = false → UnchangedBut [.rim] s t ∧
          (t.rimPort p).badFrames = (s.rimPort p).badFrames ∧
          (f.cls = 2 → s.portActive (otherPort p) = true → ∃ o : OutFrame, o.body = .forwarded f ∧ o.dst = f.dst ∧ o.cut = false ∧
            (t.rimPort (otherPort p)).control = (s.rimPort (otherPort p)).control ++ [o])) ∧
        (g.headerOk = true → g.fcs = .good → f.cls = 0 → s.alone f = true → (s.lnk.rim.expressSeen.get [] f.src).contains f.seq = true →
          t.lnk.rim = { s.lnk.rim with dupDrop := satInc s.lnk.rim.dupDrop } ∧ UnchangedBut [.rim] s t) ∧
        (g.headerOk = true → g.fcs = .good → f.type = 0x19 → exec (.irpFrameRx p g) s =
          exec (.linkHb p (bitOf (f.word 0) 31) (bitOf (f.word 0) 30) (BitVec.ofNat 8 (f.word 0))) s) ∧
        (t.ub = none → UnchangedBut [.out, .intStatus, .looks, .units, .streams, .stalls, .path, .lace, .crier, .queue, .cmd, .store, .hlt, .rim
          , .tdm] s t)) ∧
  (∀ (s : State) (p : Port), s.ub = none → s.portActive (otherPort p) = true → ∃ t, exec (.cutFrame p) s = .next t ∧
      t.rimPort (otherPort p) = { s.rimPort (otherPort p) with fwdDrop := satInc (s.rimPort (otherPort p)).fwdDrop } ∧
      t.out = s.out ++ [.cutFrame (otherPort p)] ∧ PortKept p s t ∧ UnchangedBut [.out, .rim] s t) ∧
  (∀ (s : State) (p : Port) (o : Out) (r : RimPort), s.ub = none → s.portActive p = true → (s.rimPort p).pop p = some (o, r) →
      ∃ t, exec (.portTransmit p) s = .next t ∧ t.rimPort p = r ∧ t.out = s.out ++ [o] ∧
        (∀ q, (s.rimPort p).express.head? = some q → o = .frame p q q.bytes) ∧
        (∀ x, (s.rimPort p).express = [] → (s.rimPort p).ptp.head? = some x → o = x) ∧
        (∀ q, (s.rimPort p).express = [] → (s.rimPort p).ptp = [] → (s.rimPort p).time.head? = some q → o = .frame p q q.bytes) ∧
        ((s.rimPort p).express = [] → (s.rimPort p).ptp = [] → (s.rimPort p).time = [] →
          (∀ q, (s.rimPort p).control.head? = some q → o = .frame p q q.bytes) ∧
          (∀ q, (s.rimPort p).control = [] → (s.rimPort p).forward.head? = some q → o = .frame p q q.bytes) ∧
          (∀ q, (s.rimPort p).control = [] → (s.rimPort p).forward = [] → (s.rimPort p).bulk.head? = some q → o = .frame p q q.bytes)) ∧
        ((∀ q bs k a n b, o = .frame p q bs → q.body ≠ .record k a n b) → UnchangedBut [.out, .rim] s t) ∧
        PortKept (otherPort p) s t ∧ UnchangedBut [.out, .stalls, .rim] s t) ∧
  (∀ (s : State) (p : Port), s.ub = none → s.portActive p = true → s.st.preEnable p = true → ∃ t, exec (.preemptionVerify p) s = .next t ∧
      t.rimPort p = { s.rimPort p with preOn := true, verified := true } ∧ PortKept (otherPort p) s t ∧ UnchangedBut [.rim] s t)

/-- NAK, ACK, CREDIT, BULK_SEND, BULK_RTO, CTL_RTO and ACK_SEND (R310, R312, R326, R327, R329, R358). Which stream or stall is sent next is free (log
entry 21); what a hub that does not publish sends is 24, the acknowledgement frames are 38 and 46. -/
def Obligations.FramesAreAcknowledgedAndSentAgain : Prop :=
  (∀ (s : State) (p : Port) (peer : Nat) (ranges : List (Word × Nat)), s.ub = none → peer < 4096 → ranges.length ≤ 91 →
      let hit (f : BulkFrame) : Bool := f.src == s.dataSource && ranges.any (fun r => decide ((f.seq - r.1).toNat < r.2)) && !f.lost && !f.resent
      (∃ t, exec (.nak p 0 3 ranges) s = .next t ∧ t.lnk.rim.resend = s.lnk.rim.resend ++ (s.lnk.rim.bulkOut.filter hit).flatMap (·.items) ∧
        t.lnk.rim.bulkOut = s.lnk.rim.bulkOut.map (fun f => if hit f then { f with lost := true } else f) ∧ UnchangedBut [.rim] s t) ∧
      (∀ c, s.lnk.rim.ctl.filter (fun c => c.frame.src == s.lnk.rim.addr && c.frame.dst == peer &&
            ranges.any (fun r => decide ((c.frame.seq - r.1).toNat < r.2))) = [c] →
        ∃ t, exec (.nak p peer 2 ranges) s = .next t ∧ SentAgain s t c ∧ UnchangedBut [.crier, .store, .rim] s t)) ∧
  (∀ (s : State) (p : Port) (peer : Nat) (next : Word), s.ub = none → peer < 4096 →
      (∃ t, exec (.ack p peer 2 next) s = .next t ∧ t.lnk.rim = { s.lnk.rim with
          ctl := s.lnk.rim.ctl.filter (fun c => !(c.frame.src == s.lnk.rim.addr && c.frame.dst == peer && seqBefore c.frame.seq next)) } ∧
        UnchangedBut [.rim] s t) ∧
      (∃ t, exec (.ack p 0 3 next) s = .next t ∧
        t.lnk.rim.bulkOut = s.lnk.rim.bulkOut.filter (fun f => !(f.src == s.dataSource && seqBefore f.seq next)) ∧
        UnchangedBut [.stalls, .crier, .store, .rim] s t)) ∧
  (∀ (s : State) (p : Port) (e east west : Nat), s.ub = none → s.portActive p = true → ∃ t, exec (.credit p e east west) s = .next t ∧
      (e = s.epochNow → t.rimPort .e = { s.rimPort .e with credit := east - (s.rimPort .e).sentEpoch, granted := true } ∧
        t.rimPort .w = { s.rimPort .w with credit := west - (s.rimPort .w).sentEpoch, granted := true }) ∧
      (e = s.epochNow + Config.epochNs → t.rimPort .e = { s.rimPort .e with nextGrant := some (e, east) } ∧
        t.rimPort .w = { s.rimPort .w with nextGrant := some (e, west) }) ∧
      (e ≠ s.epochNow → e ≠ s.epochNow + Config.epochNs → t = s) ∧ UnchangedBut [.rim] s t) ∧
  (∀ s : State, s.ub = none →
      (s.lnk.rim.addr = 4095 ∨ s.publishes = false ∨ (s.rimPort s.bulkPort).reach = false ∨ s.portActive s.bulkPort = false ∨ s.bulkChoices = [] →
        exec .bulkSend s = .next s) ∧
      ∀ c, s.lnk.rim.addr ≠ 4095 → s.publishes = true → (s.rimPort s.bulkPort).reach = true → s.portActive s.bulkPort = true →
        s.bulkChoices = [c] →
        let r := s.draw.handChoice c
        let n := r.2.foldl (fun n b => n + b.1.frameBytes) 0
        ∃ t, exec .bulkSend s = .next t ∧ ((s.rimPort s.bulkPort).credit < n → UnchangedBut [.freeCount] s t) ∧
          (n ≤ (s.rimPort s.bulkPort).credit → r.1.portActive s.bulkPort = true →
            t.lnk.rim.bulkOut.map (·.items) = r.1.lnk.rim.bulkOut.map (·.items) ++ r.2.map (fun b => [b.2]) ∧
            (t.rimPort s.bulkPort).bulk.map (·.body) = (r.1.rimPort s.bulkPort).bulk.map (·.body) ++ r.2.map (·.1) ∧
            (t.rimPort s.bulkPort).credit = (r.1.rimPort s.bulkPort).credit - n) ∧
          UnchangedBut [.freeCount, .out, .intStatus, .stalls, .crier, .store, .mem, .hlt, .rim] s t) ∧
  (∀ (s : State) (q : Word), s.ub = none →
      let hit (f : BulkFrame) : Bool := decide (f.seq = q) && !f.lost && !f.resent && s.passed f.tick (ms s.st.bulkRtoMs)
      ∃ t, exec (.bulkRto q) s = .next t ∧ t.lnk.rim = { s.lnk.rim with
          resend := s.lnk.rim.resend ++ (s.lnk.rim.bulkOut.filter hit).flatMap (·.items)
          bulkOut := s.lnk.rim.bulkOut.map (fun f => if hit f then { f with resent := true } else f) } ∧ UnchangedBut [.rim] s t) ∧
  (∀ (s : State) (dst : Nat) (q : Word) (c : CtlFrame), s.ub = none → dst < 4096 →
      s.lnk.rim.ctl.find? (fun c => c.frame.dst == dst && decide (c.frame.seq = q) && s.passed c.tick (us s.st.ctlRtoUs)) = some c →
      ∃ t, exec (.ctlRto dst q) s = .next t ∧ SentAgain s t c ∧ UnchangedBut [.crier, .store, .rim] s t) ∧
  (∀ (s : State) (peer : Nat) (a : Assoc), s.ub = none → peer < 4096 →
      s.lnk.rim.assocs.find? (fun a => a.peer == peer && a.cls == 2 && a.ackDue.isSome) = some a → s.ctlRoom a.src peer = true →
      ∃ t f, exec (.ackSend peer) s = .next t ∧ t.lnk.rim.ctl = s.lnk.rim.ctl ++ [{ frame := f, tries := 1, tick := s.tick }] ∧
        f.cls = 2 ∧ f.src = a.src ∧ f.dst = peer ∧ f.body = .ackOf 2 ∧ f.seq = (s.assoc a.src peer 2).next ∧
        f.ack = some (s.assoc a.src peer 2).expected ∧ (t.assoc a.src peer 2).ackDue = none ∧ (t.assoc a.src peer 2).next = f.seq + 1 ∧
        (s.portActive s.toHead = true → (t.rimPort s.toHead).control = (s.rimPort s.toHead).control ++ [f]) ∧ UnchangedBut [.rim] s t)

/-- PARTNER_DETECT, TRAIN_REQUEST, RX_READY, LOCK_ACQUIRED and the ends of bring-up (R339 to R346). Limits and answers of the taps are log entry 22,
the steps asked of the partner's and the capability word 47. -/
def Obligations.LanesAreBroughtUp : Prop :=
  (∀ (s : State) (x : Fin 4) (m : Module), s.ub = none → (s.lane x).state = .detect → (s.lane x).backoffUntil = none →
      ∃ t, exec (.partnerDetect x m) s = .next t ∧
        (2 ≤ x.val → (t.lane x).state = .train ∧ (t.lane x).taps = initTaps ∧ (t.lane x).since = s.tick) ∧
        (x.val < 2 → m = .none → t.lane x = { s.lane x with module := 0 }) ∧
        (∀ b0 b8 los rec, x.val < 2 → m = .answers b0 b8 los rec → (t.lane x).module = moduleKind b0 b8 ∧
          (moduleKind b0 b8 = 2 → rec = false → t.lane x = { s.lane x with module := 2 }) ∧
          (moduleKind b0 b8 = 2 → rec = true → (t.lane x).state = .train ∧ (t.lane x).taps = initTaps ∧ (t.lane x).since = s.tick) ∧
          (moduleKind b0 b8 ≠ 2 → los = true → (t.lane x).state = .detect) ∧
          (moduleKind b0 b8 ≠ 2 → los = false → (t.lane x).state = .lock ∧ (t.lane x).taps = (s.lane x).fixedTaps ∧ (t.lane x).fixed = true) ∧
          (moduleKind b0 b8 = 3 → (s.lane x).module ≠ 3 → Notices s t s.st.rimQ 0x54 x b0.toNat (argT s.now)) ∧
          (moduleKind b0 b8 ≠ 3 → UnchangedBut [.lanes] s t)) ∧
        LanesKept x s t ∧ UnchangedBut [.crier, .store, .lanes] s t) ∧
  (∀ (s : State) (x : Fin 4) (tap : Tap) (req : TapReq), s.ub = none → (s.lane x).state = .train →
      ∃ t, exec (.trainRequest x tap req) s = .next t ∧ t.lane x = { s.lane x with taps := (answerTap (s.lane x).taps tap req).1 } ∧
        t.out = s.out ++ [.tapStatus x tap (answerTap (s.lane x).taps tap req).2] ∧
        (legalTaps (s.lane x).taps = true → legalTaps (t.lane x).taps = true) ∧ LanesKept x s t ∧ UnchangedBut [.out, .lanes] s t) ∧
  (∀ (s : State) (x : Fin 4) (own : Bool), s.ub = none → (s.lane x).state = .train → ∃ t, exec (.rxReady x own) s = .next t ∧
      (t.lane x).rxReady = ((s.lane x).rxReady || own) ∧ (t.lane x).partnerReady = ((s.lane x).partnerReady || !own) ∧
      ((t.lane x).rxReady = true → (t.lane x).partnerReady = true → (t.lane x).state = .lock ∧ (t.lane x).since = s.tick) ∧
      ((t.lane x).rxReady = false ∨ (t.lane x).partnerReady = false → (t.lane x).state = .train ∧ (t.lane x).since = (s.lane x).since) ∧
      (own = true → (s.lane x).rxReady = false → ∃ o, 8 ≤ o.length ∧ t.out = s.out ++ [.tapRequests x o]) ∧
      (own = false ∨ (s.lane x).rxReady = true → UnchangedBut [.lanes] s t) ∧
      LanesKept x s t ∧ UnchangedBut [.freeCount, .out, .lanes] s t) ∧
  (∀ (s : State) (x : Fin 4), s.ub = none → (s.lane x).state = .lock → ∃ t, exec (.lockAcquired x) s = .next t ∧
      t.lane x = { s.lane x with
        state := .exchange, since := s.tick, blockLock := true, fecLock := (s.lane x).fec, hiBer := false, prevWord := none, ackOut := false } ∧
      t.out = s.out ++ [.capability x (t.ownCapability x)] ∧ LanesKept x s t ∧ UnchangedBut [.out, .lanes] s t) ∧
  (∀ (s : State) (x : Fin 4), s.ub = none → (s.lane x).state = .exchange ∨ (s.lane x).state = .test ∧ pcsLoops (s.lane x).test = none →
      ∃ t, exec (.lockAcquired x) s = .next t ∧ t.lane x = { s.lane x with blockLock := true, fecLock := (s.lane x).fec, hiBer := false } ∧
        LanesKept x s t ∧ UnchangedBut [.lanes] s t) ∧
  (∀ (s : State) (x : Fin 4), s.ub = none →
      ((s.lane x).state = .train → s.passed (s.lane x).since (ms 500) = true →
        ∃ t, exec (.trainTimeout x) s = .next t ∧ BacksOff s t x ∧ UnchangedBut [.lanes] s t) ∧
      ((s.lane x).state = .lock → s.passed (s.lane x).since (ms 10) = true →
        ∃ t, exec (.lockTimeout x) s = .next t ∧ BacksOff s t x ∧ UnchangedBut [.lanes] s t) ∧
      ((s.lane x).state = .exchange → s.passed (s.lane x).since (ms 50) = true →
        ∃ t, exec (.exchangeTimeout x) s = .next t ∧ BacksOff s t x ∧ UnchangedBut [.lanes] s t) ∧
      ((s.lane x).state = .train ∨ (s.lane x).state = .lock ∨ (s.lane x).state = .exchange →
        ∃ t, exec (.lossOfSignal x) s = .next t ∧ BacksOff s t x ∧ UnchangedBut [.lanes] s t)) ∧
  (∀ (s : State) (x : Fin 4) (k : Nat), s.ub = none → (s.lane x).backoffUntil = some k → (s.lane x).state = .detect → k ≤ s.tick →
      ∃ t, exec (.backoffEnd x) s = .next t ∧ (t.lane x).backoffUntil = none ∧ (t.lane x).retries = satInc (s.lane x).retries ∧
        (t.lane x).retriesSince = (s.lane x).retriesSince + 1 ∧ (t.lane x).failures = (s.lane x).failures ∧
        (((s.lane x).retriesSince + 1) % 10 = 0 → t.crier.acts = satAdd s.crier.acts 1 ∧
          Notices s t s.st.rimQ 0x52 x (s.lane x).lastFail (argSX s.now ((s.lane x).retriesSince + 1))) ∧
        (((s.lane x).retriesSince + 1) % 10 ≠ 0 → UnchangedBut [.lanes] s t) ∧ LanesKept x s t ∧ UnchangedBut [.crier, .store, .lanes] s t) ∧
  (∀ (s : State) (x : Fin 4), s.ub = none → (s.lane x).state = .active → s.passed (s.lane x).since Config.ticksPerS = true →
      ∃ t, exec (.failureCountReset x) s = .next t ∧ t.lane x = { s.lane x with failures := 0, retriesSince := 0 } ∧ LanesKept x s t ∧
        UnchangedBut [.lanes] s t)

/-- CAPABILITY_WORD, LOCK_LOSS, LANE_SYMBOL_ERROR and RETRAIN_LANE (R345, R347, R348, R458). When a capability word goes out, and that RETRAIN_LANE
leaves TEST, is log entry 47; corrected codewords as LANE_SYMBOL_ERROR are 38. -/
def Obligations.LanesEnterAndLeaveActive : Prop :=
  (∀ (s : State) (x : Fin 4) (w : BitVec 24), s.ub = none → (s.lane x).state = .exchange → (s.lane x).inLock = true →
      capabilityCheck w.toNat = bitsOf w.toNat 3 0 →
      ∃ t, exec (.capabilityWord x w) s = .next t ∧ (t.lane x).partner = w.toNat ∧
        (capabilityFits x w.toNat = false → BacksOff s t x ∧ Notices s t s.st.rimQ 0x53 x 0 (argSX s.now w.toNat) ∧
          UnchangedBut [.crier, .store, .lanes] s t) ∧
        (capabilityFits x w.toNat = true → (s.lane x).prevWord ≠ some w.toNat ∨ bitOf w.toNat 17 = false →
          t.lane x = { s.lane x with
            partner := w.toNat, prevWord := some w.toNat, ackOut := (s.lane x).ackOut || decide ((s.lane x).prevWord = some w.toNat) } ∧
          ((s.lane x).prevWord = some w.toNat → (s.lane x).ackOut = false → t.out = s.out ++ [.capability x (t.ownCapability x)]) ∧
          ((s.lane x).prevWord ≠ some w.toNat ∨ (s.lane x).ackOut = true → UnchangedBut [.lanes] s t) ∧ UnchangedBut [.out, .lanes] s t) ∧
        (capabilityFits x w.toNat = true → (s.lane x).prevWord = some w.toNat → bitOf w.toNat 17 = true →
          (t.lane x).state = .active ∧ (t.lane x).since = s.tick ∧ (t.lane x).ackOut = true ∧ t.glb.intStatus.flag 5 = true ∧
          t.crier.acts = satAdd s.crier.acts 1 ∧ Notices s t s.st.rimQ 0x50 x
            (boolBit (s.lane x).fec 15 + boolBit (s.lane x).rate10 14) (argSX s.now (tapsWord (s.lane x).taps))) ∧
        LanesKept x s t ∧ UnchangedBut [.out, .intStatus, .crier, .store, .lanes, .rim, .tdm] s t) ∧
  (∀ (s : State) (x : Fin 4) (c : LossCause), s.ub = none → (s.lane x).state = .active → ∃ t, exec (.lockLoss x c) s = .next t ∧
      Detects s t x (lossCode c) ∧ UnchangedBut [.out, .intStatus, .stalls, .crier, .store, .lanes, .rim, .tdm] s t) ∧
  (∀ (s : State) (x : Fin 4) (c : LossCause), s.ub = none → (s.lane x).state = .exchange ∨ (s.lane x).state = .test →
      ∃ t, exec (.lockLoss x c) s = .next t ∧ (t.lane x).state = (s.lane x).state ∧
        ((s.lane x).fec = true ∨ c ≠ .fecLock → (t.lane x).inLock = false) ∧
        (c = .hiBer → t.lane x = { s.lane x with hiBer := true }) ∧
        (c = .fecLock → t.lane x = { s.lane x with fecLock := false }) ∧
        (c = .blockLock ∨ c = .signal → t.lane x = { s.lane x with blockLock := false, fecLock := false, hiBer := false }) ∧
        LanesKept x s t ∧ UnchangedBut [.lanes] s t) ∧
  (∀ (s : State) (x : Fin 4) (k : SymError), s.ub = none → (s.lane x).blockLock = true → (k ≠ .block → (s.lane x).fecLock = true) →
      ∃ t, exec (.laneSymbolError x k) s = .next t ∧
        (k = .corrected → t.lane x = { s.lane x with fecCorr := satInc (s.lane x).fecCorr } ∧ LanesKept x s t ∧ UnchangedBut [.lanes] s t) ∧
        (k ≠ .corrected → mayCount s (s.lane x).symTick = false → t.lane x = { s.lane x with symErr := satInc (s.lane x).symErr } ∧ LanesKept x s t ∧
          UnchangedBut [.lanes] s t) ∧
        (k ≠ .corrected → mayCount s (s.lane x).symTick = true → Raised s t 3 x ∧
          t.lane x = { s.lane x with symErr := satInc (s.lane x).symErr, symTick := some s.tick } ∧ LanesKept x s t ∧
          UnchangedBut [.hlt, .lanes] s t)) ∧
  (∀ (s : State) (c : CmdItem), Starts s 0x49 c → ∃ t, exec .retrainLane s = .next t ∧ Completes s t c 0 0 ∧
      (t.lane (c.a 1 0)).failures = 0 ∧ (t.lane (c.a 1 0)).retriesSince = 0 ∧
      ((s.lane (c.a 1 0)).state ≠ .off → Detects s t (c.a 1 0) 4 ∧ (t.lane (c.a 1 0)).test = (s.lane (c.a 1 0)).test) ∧
      ((s.lane (c.a 1 0)).state = .off → (t.lane (c.a 1 0)).state = .off ∧
        LanesKept (c.a 1 0) s t ∧ UnchangedBut [.crier, .queue, .cmd, .store, .lanes] s t) ∧
      UnchangedBut [.out, .intStatus, .stalls, .crier, .queue, .cmd, .store, .lanes, .rim, .tdm] s t)

/-- LNK_TEST_WRITE, PRBS_INJECT, FIXED_TAPS_WRITE, OPTICS_POLL, OPTICS_READ, OPTICS_WRITE and OPTICS_DONE (R12, R348, R350, R351, R353, R354). The
errors that the checker has found so far stay (R350), those in the partner's bits among them, which are free; that a loop gives the receiver both
locks is log entry 47 (DEDUCED). OPTICS's operand errors are log entry 22. -/
def Obligations.LanesAreTestedAndOpticsReached : Prop :=
  (∀ (s : State) (x : Fin 4) (v : Word), s.ub = none → s.glb.state ≠ .reset →
      (v.field 23 0 ≠ 0 → ∃ t, exec (.lnkTestWrite x v) s = .next t ∧ t.ub = some 12) ∧
      (v.field 23 0 = 0 → v.field 29 28 = 3 ∨ v.field 27 26 = 3 → ∃ t, exec (.lnkTestWrite x v) s = .next t ∧ t.ub = some 354) ∧
      (v.field 23 0 = 0 → v.field 29 28 ≠ 3 → v.field 27 26 ≠ 3 → ∃ t, exec (.lnkTestWrite x v) s = .next t ∧
        (v.field 31 24 ≠ 0 → (t.lane x).state = .test ∧ (t.lane x).test = v &&& 0xFE000000 ∧
          (let found := if (s.lane x).test.field 27 26 = 0 ∧ v.field 27 26 ≠ 0 then 0 else ((s.lane x).settlePrbs x s.tick).prbsErr
           (t.lane x).prbsErr = if v.flag 24 = true ∧ testLoops (v &&& 0xFE000000) = true then satTo 0x7FFFFFFF (found + 1) else found) ∧
          (t.lane x).prbsLock = testLoops (v &&& 0xFE000000) ∧
          (v.field 31 30 = 2 ∨ v.field 31 30 = 1 ∧ v.field 29 28 = 0 → (t.lane x).blockLock = true ∧ (t.lane x).fecLock = (t.lane x).fec) ∧
          ((s.lane x).state = .active → Notices s t s.st.rimQ 0x51 x 5 (argT s.now))) ∧
        (v.field 31 24 = 0 → (t.lane x).test = 0 ∧
          ((s.lane x).state = .test → Detects s t x 5 ∧ (t.lane x).prbsErr = ((s.lane x).settlePrbs x s.tick).prbsErr ∧
            (t.lane x).prbsLock = ((s.lane x).settlePrbs x s.tick).prbsLock) ∧
          ((s.lane x).state ≠ .test → (t.lane x).prbsErr = (s.lane x).prbsErr ∧ (t.lane x).prbsLock = (s.lane x).prbsLock) ∧
          ((s.lane x).state ≠ .test → (t.lane x).state = (s.lane x).state)) ∧
        LanesKept x s t ∧ UnchangedBut [.out, .intStatus, .stalls, .crier, .store, .lanes, .rim, .tdm] s t)) ∧
  (∀ (s : State) (x : Fin 4) (v : Word), s.ub = none → s.glb.state ≠ .reset → v.flag 24 = true → v.field 23 0 = 0 → v.field 29 28 ≠ 3 →
      v.field 27 26 ≠ 3 → ∃ t, exec (.prbsInject x v) s = .next t ∧ exec (.lnkTestWrite x v) s = .next t ∧ (t.lane x).state = .test ∧
        (testLoops (v &&& 0xFE000000) = true → (t.lane x).prbsErr = satTo 0x7FFFFFFF
          ((if (s.lane x).test.field 27 26 = 0 ∧ v.field 27 26 ≠ 0 then 0 else ((s.lane x).settlePrbs x s.tick).prbsErr) + 1)) ∧
        LanesKept x s t ∧ UnchangedBut [.out, .intStatus, .stalls, .crier, .store, .lanes, .rim, .tdm] s t) ∧
  (∀ (s : State) (x : Fin 2) (v : Word), s.ub = none → s.glb.state ≠ .reset →
      (v.field 31 24 ≠ 0 → ∃ t, exec (.fixedTapsWrite x v) s = .next t ∧ t.ub = some 12) ∧
      (v.field 31 24 = 0 → ∃ t f, exec (.fixedTapsWrite x v) s = .next t ∧ t.lane x = { s.lane x with fixedTaps := f } ∧ legalTaps f = true ∧
        (legalTaps (signedOf 8 (v.field 23 16), signedOf 8 (v.field 15 8), signedOf 8 (v.field 7 0)) = true →
          f = (signedOf 8 (v.field 23 16), signedOf 8 (v.field 15 8), signedOf 8 (v.field 7 0))) ∧
        LanesKept x s t ∧ UnchangedBut [.lanes] s t)) ∧
  (∀ (s : State) (x : Fin 2) (b0 st : Byte) (power : Half), s.ub = none → s.glb.state ≠ .reset → s.passed (s.lane x).optTick (ms 100) = true →
      ∃ t, exec (.opticsPoll x b0 st power) s = .next t ∧ t.lane x = { s.lane x with
          optTick := s.tick, optStatus := wordOf (b0.toNat * 2 ^ 24 + st.toNat * 2 ^ 16 + power.toNat) } ∧
        LanesKept x s t ∧ UnchangedBut [.lanes] s t) ∧
  (∀ (s : State) (c : CmdItem), Starts s 0x4A c →
      (c.a 3 0 = 0 ∨ 8 < c.a 3 0 → CompletesOnly .opticsRead s c 0x1A) ∧
      (c.a 3 0 ≠ 0 → c.a 3 0 ≤ 8 → ∃ t, exec .opticsRead s = .next t ∧
        Begins s t c (.optics (c.a 31 31) (c.a 30 30) (c.a 23 16) (c.a 3 0) false) ∧
        t.out = s.out ++ [.optics (c.a 31 31) (c.a 30 30) (c.a 23 16) []] ∧ UnchangedBut [.out, .queue] s t)) ∧
  (∀ (s : State) (c : CmdItem), Starts s 0x4B c →
      (c.a 3 0 = 0 ∨ 8 < c.a 3 0 ∨ c.a 30 30 = 0 → CompletesOnly .opticsWrite s c 0x1A) ∧
      (c.a 3 0 ≠ 0 → c.a 3 0 ≤ 8 → c.a 30 30 ≠ 0 → ∃ t, exec .opticsWrite s = .next t ∧
        Begins s t c (.optics (c.a 31 31) (c.a 30 30) (c.a 23 16) (c.a 3 0) true) ∧
        t.out = s.out ++ [.optics (c.a 31 31) (c.a 30 30) (c.a 23 16) (leBytes (c.a 3 0) c.opB.toNat)] ∧ UnchangedBut [.out, .queue] s t)) ∧
  (∀ (s : State) (x : Fin 2) (r : OpticsResult) (l : LongCmd) (dev off len : Nat) (write : Bool), s.ub = none →
      s.longOf (fun o => match o with | .optics y _ _ _ _ => decide (x.val = y) | _ => false) = some l → l.op = .optics x dev off len write →
      ∃ t, exec (.opticsDone x r) s = .next t ∧ t.cmd.long = eraseFirst (fun q => decide (q = l)) s.cmd.long ∧
        (r = .noModule → Completes s t l.item 0x1B 0) ∧ (∀ bytes, r = .data bytes → write = true → Completes s t l.item 0 0) ∧
        (∀ bytes, r = .data bytes → write = false → Completes s t l.item 0 (leNat (bytes.take len))) ∧
        UnchangedBut [.out, .intStatus, .crier, .queue, .cmd, .store] s t)

/-- TOKEN_TOGGLE, TOKEN_EDGE, the missing witnesses, CLAIMING_END, YIELDING_END, ELECTION and TANDEM_LINK_LOSS (R359 to R362, R368 to R370). The
synchronisation and the rim witness are log entry 23, the start of watching 44. -/
def Obligations.WitnessesDecideTheRole : Prop :=
  (∀ s : State, s.ub = none → s.live = true → s.st.tandemOn = true → s.passed s.tdm.tokenTick (us 50) = true → ∃ t, exec .tokenToggle s = .next t ∧
      t.tdm = { s.tdm with tokenOut := some !(s.tdm.tokenOut.getD false), tokenTick := s.tick } ∧ UnchangedBut [.tdm] s t) ∧
  (∀ s : State, s.ub = none → s.glb.state ≠ .reset → s.st.tandemOn = true → ∃ t, exec .tokenEdge s = .next t ∧
      t.tdm = { s.tdm with edgeTick := some s.tick, witToken := true } ∧ UnchangedBut [.looks, .tdm] s t) ∧
  (∀ s : State, s.ub = none → s.st.tandemOn = true → s.passedOpt s.tdm.edgeTick (us 300) = true → ∃ t, exec .tokenWitnessMissing s = .next t ∧
      t.tdm.witToken = false ∧ TakeoverFollows s t false s.tdm.witLink s.tdm.witRim ∧
      UnchangedBut [.out, .intStatus, .looks, .streams, .stalls, .lace, .crier, .store, .rim, .tdm] s t) ∧
  (∀ s : State, s.ub = none → s.st.tandemOn = true → s.passedOpt s.tdm.linkTick (us 300) = true → ∃ t, exec .linkWitnessMissing s = .next t ∧
      t.tdm.witLink = false ∧ TakeoverFollows s t s.tdm.witToken false s.tdm.witRim ∧
      UnchangedBut [.out, .intStatus, .looks, .streams, .stalls, .lace, .crier, .store, .rim, .tdm] s t) ∧
  (∀ s : State, s.ub = none → s.st.tandemOn = true → (∀ k, s.tdm.rimSent = some k → k + 1000000 < s.now) →
      ∃ t, exec .rimWitnessMissing s = .next t ∧ t.tdm.witRim = false ∧ TakeoverFollows s t s.tdm.witToken s.tdm.witLink false ∧
        UnchangedBut [.out, .intStatus, .looks, .streams, .stalls, .lace, .crier, .store, .rim, .tdm] s t) ∧
  (∀ s : State, s.ub = none → s.tdm.role = .claiming → s.passed s.tdm.since (ms 2) = true → ∃ t, exec .claimingEnd s = .next t ∧
      t.tdm = { s.tdm with role := .active, since := s.tick } ∧ t.glb.intStatus.flag 4 = true ∧
      (∀ l, l < 48 → (t.laceOf l).limit50 = false ∧
        ((s.laceOf l).tripped = false → (s.laceOf l).highZ = false → (s.laceOf l).drive ≠ 0 →
          (∀ r, (s.laceOf l).ramp = some r → r.target = 65536 → s.tick < r.stop → (t.laceOf l).ramp = some r) ∧
          ((s.laceOf l).limit = false → (s.laceOf l).amp s.tick ≠ 65536 →
            (∀ r, (s.laceOf l).ramp = some r → r.target ≠ 65536 ∨ r.stop ≤ s.tick) →
            (t.laceOf l).ramp = some { source := (s.laceOf l).amp s.tick, target := 65536, start := s.tick, stop := s.tick + s.st.rampTicks l }))) ∧
      UnchangedBut [.out, .intStatus, .looks, .lace, .tdm] s t) ∧
  (∀ s : State, s.ub = none → s.tdm.role = .yielding → s.passed s.tdm.since (ms 2) = true → ∃ t, exec .yieldingEnd s = .next t ∧ Desyncs s t ∧
      UnchangedBut [.out, .intStatus, .looks, .streams, .stalls, .path, .lace, .crier, .store, .rim, .tdm] s t) ∧
  (∀ s : State, s.ub = none → s.live = true → s.tdm.role.stands = true → s.partnerAlive = true → s.ldr.halted = false →
      s.passedOpt s.tdm.noActiveSince (ms 10) = true →
      (s.evenMember = true ∨ s.tdm.partner.isSome = true ∧ s.tdm.partnerState ≠ 6 ∧ s.tdm.partnerState ≠ 7) →
      ∃ t, exec .election s = .next t ∧ Claims s t s.now ∧
        UnchangedBut [.out, .intStatus, .looks, .streams, .stalls, .lace, .crier, .store, .rim, .tdm] s t) ∧
  (∀ s : State, s.ub = none → s.tdm.role = .standby → (s.lane 2).state ≠ .active → (s.lane 3).state ≠ .active →
      s.passedOpt s.tdm.lanesLost (us 300) = true → (s.tdm.witToken || s.tdm.witRim) = true → ∃ t, exec .tandemLinkLoss s = .next t ∧ Desyncs s t ∧
        UnchangedBut [.out, .intStatus, .looks, .streams, .stalls, .path, .lace, .crier, .store, .rim, .tdm] s t)

/-- PARTNER_HB_SEND, PARTNER_HB, DIGEST_COMPARE, SWAP_ROLES and SWAP_INSTANT (R359, R362, R367, R368, R370 to R372, R374). The copies of
a heartbeat carry one sequence number (log entry 46, DESIGN CHOICE); what a swap does at E follows the role held then, and a digest that came more than 1 ms
before its instant is not compared (log entry 44, DEDUCED). -/
def Obligations.PartnersTalkAndSwap : Prop :=
  (∀ s : State, s.ub = none → s.sendsHb = true → s.passedOpt s.tdm.lastSent (us 100) = true →
      ∃ t hb q, exec .partnerHbSend s = .next t ∧ q = (s.assoc s.lnk.rim.addr (partnerAddr s.lnk.rim.addr) 1).next ∧
      t.tdm.lastSent = some s.tick ∧ t.tdm.count = s.tdm.count + 1 ∧ hb.role = s.tdm.role.code ∧ hb.count = s.tdm.count + 1 ∧ hb.sendTime = s.now ∧
      hb.activeSince = s.tdm.activeSince ∧ hb.driving = (s.live && s.tdm.role.drives) ∧
      (∀ x, (x = 2 ∨ x = 3) → (s.lane x).state = .active → 
        ∃ secs, .tandemFrame x hb secs (tandemBytes s.lnk.rim.addr (partnerAddr s.lnk.rim.addr) q hb secs) ∈ t.out) ∧
      (∀ p, s.lnk.rim.addr ≠ 4095 → s.portActive p = true → ∃ f : OutFrame, f.cls = 1 ∧ f.src = s.lnk.rim.addr ∧
        f.dst = partnerAddr s.lnk.rim.addr ∧ f.body = .partnerHb hb ∧ f.seq = q ∧ (t.rimPort p).time = (s.rimPort p).time ++ [f]) ∧
      UnchangedBut [.out, .rim, .tdm] s t) ∧
  (∀ (s : State) (path : HbPath) (hb : Heartbeat) (secs : List HbSection), s.ub = none → hb.wf = true → secs.all HbSection.wf = true →
      s.st.tandemOn = true →
      s.glb.state ≠ .reset → (path = .tdmA → (s.lane 2).state = .active) → (path = .tdmB → (s.lane 3).state = .active) →
      ∃ t, exec (.partnerHb path hb secs) s = .next t ∧
        (path = .rim ∨ secs = [] →
          (path = .rim → s.now ≤ hb.sendTime + 1000000 → t.tdm.witRim = true) ∧
          (path ≠ .rim → t.tdm.linkTick = some s.tick ∧ t.tdm.witLink = true) ∧
          ((∀ p, s.tdm.partner = some p → p.sendTime ≤ hb.sendTime) → t.tdm.partner = some hb ∧ t.tdm.partnerRole = hb.role ∧
            t.tdm.partnerState = hb.glb ∧
            (s.tdm.role = .solo → t.tdm.role = .solo) ∧
            (s.tdm.role.stands = true → hb.role = 5 → s.live = true → s.ldr.halted = false → Claims s t s.now) ∧
            (s.tdm.role = .standby → hb.role ≠ 5 → t.tdm.role = .standby) ∧
            (s.tdm.role = .yielding → hb.role = 1 → Desyncs s t) ∧ (s.tdm.role = .yielding → hb.role ≠ 1 → t.tdm.role = .yielding) ∧
            (s.tdm.role = .active ∨ s.tdm.role = .claiming → hb.role = 1 ∨ hb.role = 4 →
              (s.tdm.activeSince < hb.activeSince ∨ s.tdm.activeSince = hb.activeSince ∧ s.evenMember = false → Yields s t 0) ∧
              (hb.activeSince < s.tdm.activeSince ∨ s.tdm.activeSince = hb.activeSince ∧ s.evenMember = true → t.tdm.role = s.tdm.role)) ∧
            (s.tdm.role = .active → hb.role ≠ 1 → hb.role ≠ 4 → t.tdm.role = .active) ∧
            (s.tdm.role = .claiming → hb.role = 2 ∨ hb.role = 3 ∨ hb.role = 5 →
              t.tdm.role = if hb.driving then .claiming else .active)) ∧
          UnchangedBut [.out, .intStatus, .looks, .streams, .stalls, .path, .lace, .crier, .cmd, .store, .rim, .tdm] s t) ∧
        (∀ id last commits, path ≠ .rim → secs = [.digest id last commits] → t.tdm.digest = some (id, last, commits)) ∧
        (∀ spoke look v, path ≠ .rim → secs = [.isrc spoke look v] → t.tdm.isrc.get 0 (spoke * 16 + look) = v) ∧
        (∀ i seq w3, path ≠ .rim → secs = [.ackpos i seq w3] → t.tdm.ackpos.get (0, 0) i = (w3, seq) ∧ i ∈ t.tdm.swept) ∧
        UnchangedBut [.out, .intStatus, .looks, .streams, .stalls, .path, .lace, .crier, .cmd, .store, .hlt, .rim, .tdm] s t) ∧
  (∀ (s : State) (k : Nat) (rest : List Nat), s.ub = none → s.tdm.digestDue = k :: rest → s.passed k (ms 1) = true →
      ∃ t, exec .digestCompare s = .next t ∧ t.tdm.digestDue = rest ∧
      (s.tdm.digest = none ∨ s.tdm.digestTick + ms 1 < k → t.tdm = { s.tdm with digestDue := rest } ∧ UnchangedBut [.tdm] s t) ∧
      (∀ d, s.tdm.digest = some d → k ≤ s.tdm.digestTick + ms 1 → d = (BitVec.ofNat 64 s.cfg.activeId, s.cfg.commitTime, s.cfg.commits) →
        t.tdm.digestOk = true ∧
        (s.tdm.role = .standbyDesync → s.ldr.halted = false → s.tdm.witLink = true → (s.lane 2).state = .active ∨ (s.lane 3).state = .active →
          (∀ i ∈ s.sentStreams, i ∈ s.tdm.swept) → t.tdm.role = .standby ∧ Notices s t s.st.tandemQ 0x5B 0 0 (argT s.now)) ∧
        (s.tdm.role ≠ .standbyDesync → t.tdm.role = s.tdm.role) ∧ UnchangedBut [.out, .intStatus, .crier, .store, .tdm] s t) ∧
      (∀ d, s.tdm.digest = some d → k ≤ s.tdm.digestTick + ms 1 → d ≠ (BitVec.ofNat 64 s.cfg.activeId, s.cfg.commitTime, s.cfg.commits) →
        t.tdm.digestOk = false ∧ Raised s t 9 16384 ∧
        Notices s t s.st.tandemQ 0x5C 0 (s.cfg.activeId % 65536) d.1.toNat ∧
        (s.tdm.role = .standby → Desyncs s t ∧
          UnchangedBut [.out, .intStatus, .looks, .streams, .stalls, .path, .lace, .crier, .store, .hlt, .rim, .tdm] s t) ∧
        (s.tdm.role ≠ .standby → t.tdm.role = s.tdm.role ∧ UnchangedBut [.crier, .store, .hlt, .tdm] s t)) ∧
      UnchangedBut [.out, .intStatus, .looks, .streams, .stalls, .path, .lace, .crier, .store, .hlt, .rim, .tdm] s t) ∧
  (∀ (s : State) (c : CmdItem), Starts s 0x50 c →
      (s.st.tandemOn = false → CompletesOnly .swapRoles s c 0x1C) ∧
      (s.st.tandemOn = true → s.tdm.role ≠ .standby → (s.tdm.role = .active → s.tdm.partnerRole ≠ 2) → CompletesOnly .swapRoles s c 0x1D) ∧
      (s.st.tandemOn = true → s.tdm.role = .standby ∨ s.tdm.role = .active ∧ s.tdm.partnerRole = 2 → ∃ t, exec .swapRoles s = .next t ∧
        Begins s t c (.swap (epochAtOrAfter (s.now + 20000000))) ∧
        t.tdm = { s.tdm with swapAt := s.tdm.swapAt ++ [epochAtOrAfter (s.now + 20000000)] } ∧
        UnchangedBut [.queue, .tdm] s t)) ∧
  (∀ (s : State) (l : LongCmd) (e : Nat), s.ub = none →
      s.longOf (fun o => match o with | .swap e => decide (e ≤ s.now) | _ => false) = some l → l.op = .swap e →
      ∃ t, exec .swapInstant s = .next t ∧ Completes s t l.item 0 0 ∧ t.cmd.long = eraseFirst (fun x => decide (x = l)) s.cmd.long ∧
        t.tdm.swapAt = s.tdm.swapAt.filter (fun x => x != e) ∧
        (e ∈ s.tdm.swapAt → (s.tdm.role = .active → Yields s t 2) ∧ (s.tdm.role.stands = true → s.ldr.halted = false → Claims s t e) ∧
          (s.tdm.role ≠ .active → s.tdm.role.stands = false ∨ s.ldr.halted = true → t.tdm.role = s.tdm.role)) ∧
        (e ∉ s.tdm.swapAt → t.tdm.role = s.tdm.role ∧ UnchangedBut [.out, .intStatus, .crier, .queue, .cmd, .store] s t) ∧
        UnchangedBut [.out, .intStatus, .looks, .streams, .stalls, .path, .lace, .crier, .queue, .cmd, .store, .rim, .tdm] s t)

/-- CMD_ITEM_WRITE, COMMAND_FRAME, NOP, RESYNC, CMD_CREDIT_WRITE, LEASE_LAPSE and INT_ENABLE_WRITE (R383 to R385, R387, R403, R405, R408, R409, R414,
R501). Unlisted opcodes are log entry 2, leases and RESYNC 28. -/
def Obligations.CommandsAreReceivedUnderCredit : Prop :=
  (∀ (s : State) (w m : Master) (tgt : Fin 2) (w3 : Word), s.ub = none → s.glb.state ≠ .reset → cmdInMaster w tgt.val = some m →
      let c := { itemOfWords m { w0 := (s.mst m).cmdIn.1, w1 := (s.mst m).cmdIn.2.1, w2 := (s.mst m).cmdIn.2.2, w3 := w3 } false with
        base := (s.mst m).base }
      (knownOpcode c.opcode.toNat = true → (s.mst m).lapsedRefuses c = false → (s.mst m).inFlight < (s.mst m).credit →
        ∃ t, exec (.cmdItemWrite w tgt w3) s = .next t ∧ Takes s t c ∧ UnchangedBut [.crier, .queue, .cmd, .store] s t) ∧
      ((s.mst m).lapsedRefuses c = true ∨ (s.mst m).credit ≤ (s.mst m).inFlight → ∃ t, exec (.cmdItemWrite w tgt w3) s = .next t ∧
        Posts s t (cplQueue s m) (completionItem (cplQueue s m) c 0x1E 0) ∧ (t.mst m).refusals = satTo 0xFFFFFF ((s.mst m).refusals + 1) ∧
        (t.mst m).inFlight = (s.mst m).inFlight ∧ UnchangedBut [.out, .intStatus, .crier, .cmd, .store] s t)) ∧
  (∀ (s : State) (w : Master) (tgt : Fin 2) (w3 : Word), s.ub = none → cmdInMaster w tgt.val = none →
      exec (.cmdItemWrite w tgt w3) s = .next s) ∧
  (∀ (s : State) (p : Port) (service : Bool) (w : ItemWords), s.ub = none → s.glb.state ≠ .reset → s.portActive p = true →
      let c := { itemOfWords .rim w (service && s.st.tandemOn) with base := (s.mst .rim).base }
      knownOpcode c.opcode.toNat = true → (s.mst .rim).lapsedRefuses c = false → (s.mst .rim).inFlight < (s.mst .rim).credit →
      ∃ t, exec (.commandFrame p service [w]) s = .next t ∧ Takes s t c ∧ UnchangedBut [.crier, .queue, .cmd, .store] s t) ∧
  (∀ (s : State) (p : Port) (service : Bool) (ws : List ItemWords), s.ub = none → 1 ≤ ws.length → ws.length ≤ 92 →
      ∃ t, exec (.commandFrame p service ws) s = .next t ∧ UnchangedBut [.out, .intStatus, .crier, .queue, .cmd, .store] s t) ∧
  (∀ (s : State) (c : CmdItem), Starts s 0x01 c → CompletesOnly .nop s c 0) ∧
  (∀ (s : State) (c : CmdItem), Starts s 0x59 c → ∃ t, exec .resync s = .next t ∧ Completes s t c 0 0 ∧
      (t.mst c.master).expected = BitVec.ofNat 16 (c.a 15 0) ∧ (t.mst c.master).accepted = BitVec.ofNat 16 (c.a 15 0) - 1 ∧
      (t.mst c.master).based = true ∧ (t.mst c.master).lapsed = false ∧ (t.mst c.master).outstanding = [] ∧
      (t.mst c.master).base = (s.mst c.master).base + 1 ∧ UnchangedBut [.crier, .queue, .cmd, .store] s t) ∧
  (∀ (s : State) (m : Fin 4) (v : Word), s.ub = none →
      (256 < s.cmd.creditSum - (s.mst (masterOf m)).credit + v.field 31 24 → exec (.cmdCreditWrite m v) s = .next s) ∧
      (s.glb.state ≠ .reset → s.cmd.creditSum - (s.mst (masterOf m)).credit + v.field 31 24 ≤ 256 →
        ∃ t, exec (.cmdCreditWrite m v) s = .next t ∧ (v.field 23 22 ≠ 0 ∨ v.field 15 0 ≠ 0 → t.ub = some 12) ∧
          (v.field 23 22 = 0 → v.field 15 0 = 0 →
            t.mst (masterOf m) = { s.mst (masterOf m) with credit := v.field 31 24, cplQ := v.field 21 16 } ∧
            (∀ n, n ≠ masterOf m → t.mst n = s.mst n) ∧ UnchangedBut [.credit, .cmd] s t))) ∧
  (∀ (s : State) (m : Fin 3), s.ub = none → s.glb.state ≠ .reset → (s.mst (masterOf m)).leaseMs ≠ 0 → (s.mst (masterOf m)).lapsed = false →
      s.passed (s.mst (masterOf m)).itemTick (ms (s.mst (masterOf m)).leaseMs) = true → ∃ t, exec (.leaseLapse m) s = .next t ∧
        t.mst (masterOf m) = { s.mst (masterOf m) with lapsed := true, lapses := satTo 0xFFFF ((s.mst (masterOf m)).lapses + 1) } ∧
        UnchangedBut [.cmd] s t) ∧
  (∀ (s : State) (v : Word), s.ub = none → s.glb.state ≠ .reset → ∃ t, exec (.intEnableWrite v) s = .next t ∧
      (v.field 31 12 ≠ 0 → t.ub = some 12) ∧
      (v.field 31 12 = 0 → t.glb.intEnable = v &&& 0xFFF ∧ t.glb.intStatus = s.glb.intStatus ∧
        (v &&& ~~~s.glb.intEnable &&& s.glb.intStatus &&& 0xFFF = 0 → UnchangedBut [.glb] s t) ∧
        (v &&& ~~~s.glb.intEnable &&& s.glb.intStatus &&& 0xFFF ≠ 0 → SendsVector s t 64) ∧
        UnchangedBut [.out, .intStatus, .glb] s t))

/-- QUEUE_POP, CRIER_CHAIN_ENTRY, CRIER_DRAIN, PRIORITY_AGING and JOURNAL_REPLAY_START (R392 to R395, R403, R404, R412). Where the journal slots of a
replay's next items were reused, the notice of the loss takes a slot of its own, whose old item is lost with them (log entry 40). The order of equal
priorities and the errors of stages are log entries 40 and 14, the ranges of N_NOTICES_LOST 19. -/
def Obligations.CrierItemsEnterAndLeaveInOrder : Prop :=
  (∀ (s : State) (m : Master) (q : Fin 64), s.ub = none → s.glb.state ≠ .reset →
      ((s.que q).head (fun x => decide (x.drain = .spi)) = none → ∃ t, exec (.queuePop m q) s = .next t ∧
        t.out = s.out ++ [.readData m [0xFFFFFFFF]] ∧ (t.mst m).popHold.get noItem q = noItem ∧ t.que q = s.que q ∧
        UnchangedBut [.out, .cmd] s t) ∧
      ∀ x, (s.que q).head (fun x => decide (x.drain = .spi)) = some x →
        (x.flips = 0 → (s.que q).lost = [] → ∃ t, exec (.queuePop m q) s = .next t ∧ t.out = s.out ++ [.readData m [x.item.w0]] ∧
          (t.mst m).popHold.get noItem q = x.item ∧ (t.que q).chain = eraseFirst (fun y => decide (y = x)) (s.que q).chain ∧
          QueuesKept q s t ∧ UnchangedBut [.out, .crier, .cmd] s t) ∧
        (∀ i, x.decode = some (i, true) → (s.que q).lost = [] → ∃ t, exec (.queuePop m q) s = .next t ∧
          t.out = s.out ++ [.readData m [i.w0]] ∧ (t.mst m).popHold.get noItem q = i ∧ (t.que q).ce = satInc (s.que q).ce ∧
          (t.que q).chain.length + 1 = (s.que q).chain.length ∧ QueuesKept q s t ∧ UnchangedBut [.out, .crier, .cmd] s t) ∧
        (x.decode = none → (s.que q).posted ≤ x.nseq + 65536 → SlotClean s q x.nseq → (s.que q).lost = [] →
          ∃ t, exec (.queuePop m q) s = .next t ∧ t.out = s.out ++ [.readData m [(itemAt s q x.nseq).w0]] ∧
            (t.mst m).popHold.get noItem q = itemAt s q x.nseq ∧ (t.que q).ce = (s.que q).ce ∧
            (t.que q).chain.length + 1 = (s.que q).chain.length ∧ QueuesKept q s t ∧ UnchangedBut [.out, .crier, .cmd] s t) ∧
        (∀ first count rest, x.flips = 0 → (s.que q).lost = (first, count) :: rest →
          ∃ t i, exec (.queuePop m q) s = .next t ∧ t.out = s.out ++ [.readData m [i.w0]] ∧
            (t.mst m).popHold.get noItem q = i ∧ TellsLoss s t q first count ∧ (t.que q).chain = (s.que q).chain ∧
            ((s.que q).waiting = [] → (t.que q).lost = rest) ∧ QueuesKept q s t ∧ UnchangedBut [.out, .crier, .cmd, .store] s t) ∧
        ∃ t, exec (.queuePop m q) s = .next t ∧ QueuesKept q s t ∧ UnchangedBut [.out, .intStatus, .crier, .cmd, .store, .mem, .hlt] s t) ∧
  (∀ (s : State) (q : Fin 64), s.ub = none → (s.que q).chain.length < 32 → ∃ t, exec (.crierChainEntry q) s = .next t ∧
      (∀ w rest, (s.que q).replay = none → (s.que q).waiting = w :: rest → SlotClean s q w.nseq →
        (t.que q).waiting = rest ∧ (t.que q).chain = (s.que q).chain ++
          [{ nseq := w.nseq, item := itemAt s q w.nseq, prio := w.prio, entered := s.tick, aged := s.tick, replayed := false
             drain := w.drain, ring := w.ring }] ∧ QueuesKept q s t ∧ UnchangedBut [.crier] s t) ∧
      (s.st.queueDrain q = .journal → (t.que q).replay = none) ∧
      (∀ n last, s.st.queueDrain q ≠ .journal → (s.que q).replay = some (n, last) → (∀ w ∈ (s.que q).waiting, w.prio ≠ 15) → (s.que q).posted ≤ n + 65536 → SlotClean s q n →
        (t.que q).replay = (if last < n + 1 then none else some (n + 1, last)) ∧ (t.que q).waiting = (s.que q).waiting ∧
        (t.que q).chain = (s.que q).chain ++
          [{ nseq := n, item := itemAt s q n, prio := s.st.queuePrio q, entered := s.tick, aged := s.tick, replayed := true
             drain := s.st.queueDrain q, ring := s.st.queueRing q }] ∧ QueuesKept q s t ∧ UnchangedBut [.crier] s t) ∧
      (∀ n last, s.st.queueDrain q ≠ .journal → (s.que q).replay = some (n, last) → (∀ w ∈ (s.que q).waiting, w.prio ≠ 15) → n + 65536 < (s.que q).posted →
        TellsLoss s t q n (min ((s.que q).posted - 65536 + 1) (last + 1) - n) ∧
        (t.que q).replay = (if last < (s.que q).posted - 65536 + 1 then none else some ((s.que q).posted - 65536 + 1, last)) ∧
        QueuesKept q s t ∧ UnchangedBut [.crier, .store] s t) ∧
      UnchangedBut [.out, .intStatus, .crier, .store, .mem, .hlt] s t) ∧
  (∀ (s : State) (q : Fin 64) (x : ChainItem), s.ub = none → (s.que q).head (s.drainReady q) = some x → x.drain = .ring →
      (s.ring x.ring).isBlock = false → (s.que q).lost = [] →
      (∀ i, x.decode = some (i, true) → ∃ t, exec (.crierDrain q) s = .next t ∧ (t.que q).ce = satInc (s.que q).ce ∧
        (t.ring x.ring).backlog = (s.ring x.ring).backlog ++ [(.notice q x.nseq i, false)] ∧
        (t.que q).chain.length + 1 = (s.que q).chain.length ∧ RingsKept x.ring s t ∧ QueuesKept q s t ∧ UnchangedBut [.crier, .host] s t) ∧
      (x.decode = none → (s.que q).posted ≤ x.nseq + 65536 → SlotClean s q x.nseq → ∃ t, exec (.crierDrain q) s = .next t ∧
        (t.que q).ce = (s.que q).ce ∧ (t.ring x.ring).backlog = (s.ring x.ring).backlog ++ [(.notice q x.nseq (itemAt s q x.nseq), false)] ∧
        (t.que q).chain.length + 1 = (s.que q).chain.length ∧ RingsKept x.ring s t ∧ QueuesKept q s t ∧ UnchangedBut [.crier, .host] s t)) ∧
  (∀ (s : State) (q : Fin 64) (x : ChainItem), s.ub = none → (s.que q).head (s.drainReady q) = some x → x.flips = 0 →
      ∃ t, exec (.crierDrain q) s = .next t ∧
      (x.drain = .ring → (s.ring x.ring).isBlock = true → t.ub = some 404) ∧ (x.drain = .reserved → t.ub = some 404) ∧
      (x.drain = .ring → (s.ring x.ring).isBlock = false → (s.que q).lost = [] →
        (t.ring x.ring).backlog = (s.ring x.ring).backlog ++ [(.notice q x.nseq x.item, false)] ∧
        (t.que q).chain = eraseFirst (fun y => decide (y = x)) (s.que q).chain ∧ RingsKept x.ring s t ∧ QueuesKept q s t ∧
        UnchangedBut [.crier, .host] s t) ∧
      (x.drain = .rim → (s.que q).lost = [] ∨ s.mayTell q x = false → s.asAlarm q x = false →
        (∃ f, t.lnk.rim.ctl = s.lnk.rim.ctl ++ [{ frame := f, tries := 1, tick := s.tick }] ∧ f.dst = 0 ∧
          (x.item.isCompletion = true → f.body = .completion x.item ∧ f.src = s.itemSource q x) ∧
          (x.item.isCompletion = false → f.body = .notice x.item ∧ f.src = s.lnk.rim.addr)) ∧
        (t.que q).chain = eraseFirst (fun y => decide (y = x)) (s.que q).chain ∧ QueuesKept q s t ∧ UnchangedBut [.crier, .rim] s t) ∧
      (x.drain = .rim → s.asAlarm q x = true →
        (∀ p, s.portActive p = true → ∃ f : OutFrame, f.body = .alarm x.item ∧ f.dst = 0 ∧ (t.rimPort p).express = (s.rimPort p).express ++ [f]) ∧
        (t.que q).chain = eraseFirst (fun y => decide (y = x)) (s.que q).chain ∧ QueuesKept q s t ∧ UnchangedBut [.crier, .rim] s t) ∧
      (∀ first count rest, (x.drain = .rim ∧ s.mayTell q x = true ∨ x.drain = .ring ∧ (s.ring x.ring).isBlock = false) →
        (s.que q).lost = (first, count) :: rest → TellsLoss s t q first count ∧ (t.que q).chain = (s.que q).chain ∧ UnchangedBut [.crier, .host, .store, .rim] s t)) ∧
  (∀ (s : State) (q : Fin 64), s.ub = none → ∃ t, exec (.priorityAging q) s = .next t ∧
      t.que q = { s.que q with chain := (s.que q).chain.map (ChainItem.age s.tick) } ∧ QueuesKept q s t ∧ UnchangedBut [.crier] s t) ∧
  (∀ (s : State) (q : Fin 64) (v : Word), s.ub = none → s.glb.state ≠ .reset → ∃ t, exec (.journalReplayStart q v) s = .next t ∧
      (v.field 13 0 ≠ 0 → t.ub = some 12) ∧
      (v.field 13 0 = 0 → (t.que q).replayFrom = v.field 31 16 ∧ (t.que q).chain = (s.que q).chain ∧ (t.que q).posted = (s.que q).posted ∧
        (v.flag 15 = false → (t.que q).replay = (s.que q).replay) ∧
        (v.flag 15 = true → ((s.que q).posted = 0 ∨ s.st.queueDrain q = .journal) → (t.que q).replay = none) ∧
        (v.flag 15 = true → (s.que q).posted ≠ 0 → s.st.queueDrain q ≠ .journal → (t.que q).replay =
          some ((s.que q).posted - 1 - ((s.que q).posted - 1 + 65536 - v.field 31 16) % 65536, (s.que q).posted - 1)) ∧
        QueuesKept q s t ∧ UnchangedBut [.crier] s t))

/-- RING_ENTRY_WRITE, RING_CREDIT_WRITE, MSIX_GAP_END, RING_ENABLE and RING_DISABLE (R400, R401, R403, R404). What is sent next is free (log entry
21); masked vectors and the bytes of an entry are 34. -/
def Obligations.HostRingsAreFilledUnderCredit : Prop :=
  (∀ (s : State) (r : Fin 64), s.ub = none → ((s.ring r).enabled = false → exec (.ringEntryWrite r) s = .next s) ∧
      ∃ t, exec (.ringEntryWrite r) s = .next t ∧
        (∀ q n i rest, s.glb.state ≠ .reset → (s.ring r).enabled = true → (s.ring r).backlog = (.notice q n i, false) :: rest →
          let g := s.ring r
          let stop := (g.prod + g.padFor 16 + 16) % 2 ^ 32
          (g.size < g.used + g.padFor 16 + 16 → t = s) ∧
          (g.used + g.padFor 16 + 16 ≤ g.size → (t.ring r).prod = stop ∧ (t.ring r).written = g.written ++ [(stop, .notice q n i)] ∧
            (t.ring r).backlog = rest ∧ .ringWrite r ((g.prod + g.padFor 16) % g.size) (.notice i) (itemBytes i) ∈ t.out ∧
            (g.padFor 16 ≠ 0 → .ringPad r (g.prod % g.size) (g.padFor 16) 0xFFFF0000 ∈ t.out) ∧ .writeBack g.wb (wordOf stop) ∈ t.out ∧
            (g.cfg.flag 29 = true → s.passedOpt g.vecTick (us (g.cfg.field 15 0)) = true → SendsVector s t r ∧
              (t.ring r).vecTick = some s.tick) ∧
            (g.cfg.flag 29 = true → s.passedOpt g.vecTick (us (g.cfg.field 15 0)) = false → (t.ring r).vecDue = true ∧
              (t.ring r).vecTick = g.vecTick) ∧
            RingsKept r s t ∧ UnchangedBut [.out, .intStatus, .host] s t)) ∧
        (∀ k x, s.glb.state ≠ .reset → (s.ring r).enabled = true → (s.ring r).isBlock = true → (s.ring r).backlog = [] →
          s.ringChoices r = [(3, k)] → (s.stall k).reads.find? (RecordRead.forRing r) = some x →
          let g := s.ring r
          let n := (RingEntry.record k x.bytes).length
          let stop := (g.prod + g.padFor n + n) % 2 ^ 32
          g.used + g.padFor n + n ≤ g.size → (t.ring r).prod = stop ∧
            ∃ bs, .ringWrite r ((g.prod + g.padFor n) % g.size) (.record k x.bytes) bs ∈ t.out ∧ bs.length = n ∧ n % 64 = 0 ∧
              bs.take (16 + x.bytes.length) = leBytes 4 0xFFFE0000 ++ leBytes 4 k ++ leBytes 4 x.bytes.length ++ leBytes 4 0 ++ x.bytes ∧
              (∀ b ∈ bs.drop (16 + x.bytes.length), b = 0) ∧
            (∃ y ∈ (t.stall k).reads, y.item = x.item ∧ y.sent = x.bytes.length) ∧ RingsKept r s t ∧ StallsKept [k] s t ∧
            UnchangedBut [.freeCount, .out, .intStatus, .stalls, .host] s t) ∧
        (t.ub = none → UnchangedBut [.freeCount, .out, .intStatus, .stalls, .crier, .host, .store, .mem, .hlt] s t)) ∧
  (∀ (s : State) (r : Fin 64) (v : Word), s.ub = none → s.glb.state ≠ .reset → ∃ t, exec (.ringCreditWrite r v) s = .next t ∧
      (v.toNat ≠ (s.ring r).cons → countWithin (s.ring r).cons (s.ring r).prod v.toNat = false → t.ub = some 404) ∧
      (v.toNat = (s.ring r).cons ∨ countWithin (s.ring r).cons (s.ring r).prod v.toNat = true →
        t.ring r = { s.ring r with
          cons := v.toNat, written := (s.ring r).written.filter (fun e => countWithin v.toNat (s.ring r).prod e.1) } ∧
        RingsKept r s t ∧ UnchangedBut [.host] s t)) ∧
  (∀ (s : State) (r : Fin 64), s.ub = none → (s.ring r).vecDue = true → (s.ring r).cfg.flag 29 = true →
      s.passedOpt (s.ring r).vecTick (us ((s.ring r).cfg.field 15 0)) = true → ∃ t, exec (.msixGapEnd r) s = .next t ∧
        SendsVector s t r ∧ t.ring r = { s.ring r with vecTick := some s.tick, vecDue := false } ∧ RingsKept r s t ∧
        UnchangedBut [.out, .intStatus, .host] s t) ∧
  (∀ (s : State) (r : Fin 64) (v : Word), s.ub = none → s.glb.state ≠ .reset → v.flag 31 = true → ∃ t, exec (.ringEnable r v) s = .next t ∧
      ((s.ring r).sound v = false → t.ub = some 404) ∧
      ((s.ring r).enabled = true → (s.ring r).cfg ≠ v &&& ringCfgMask → t.ub = some 404) ∧
      ((s.ring r).sound v = true → v.field 23 16 = 0 → ((s.ring r).enabled = true → (s.ring r).cfg = v &&& ringCfgMask) →
        t.ring r = { s.ring r with cfg := v &&& ringCfgMask } ∧ RingsKept r s t ∧ UnchangedBut [.host] s t)) ∧
  (∀ (s : State) (r : Fin 64) (v : Word), s.ub = none → s.glb.state ≠ .reset → v.flag 31 = false → ∃ t, exec (.ringDisable r v) s = .next t ∧
      (v.field 23 16 ≠ 0 → t.ub = some 12) ∧
      (v.field 23 16 = 0 → (t.ring r).cfg = v &&& ringCfgMask ∧ (t.ring r).enabled = false ∧
        ((s.ring r).enabled = true → (t.ring r).prod = 0 ∧ (t.ring r).cons = 0 ∧ (t.ring r).written = [] ∧
          (t.ring r).backlog = (s.ring r).written.map (fun e => (e.2, true)) ++ (s.ring r).backlog) ∧
        RingsKept r s t ∧ UnchangedBut [.host] s t))

/-- The register space over SPI, PCIe and the command set: READ_REG, WRITE_REG, REGISTER_WRITE, ALARM_CFG_WRITE, SPI_WRITE, SPI_READ, SPI_STATUS and
PCIE_MALFORMED_ACCESS (R53, R231, R389, R398, R399, R417, R420, R495, R496, R499, R501). Where BAR4 lies in the offsets of the rows, and that its vectors
are masked at reset, is the model's choice; so is what a write does that a later master's write of the same tick has overtaken (log entry 34). -/
def Obligations.RegistersAreReadAndWritten : Prop :=
  (∀ (s : State) (c : CmdItem), Starts s 0x5A c →
      (2 ^ 26 ≤ c.opA.toNat ∨ c.opA.toNat % 4 ≠ 0 → CompletesOnly .readReg s c 0x18) ∧
      (c.opA.toNat < 2 ^ 26 → c.opA.toNat % 4 = 0 →
        (∃ t result, exec .readReg s = .next t ∧ Posts s t (cplQueue s c.master) (completionItem (cplQueue s c.master) c 0 result) ∧
          result = (let r := wordRead .rim c.opA.toNat (taken s); if r.2.2 then 2 ^ 32 else r.2.1.toNat) ∧
          UnchangedBut [.freeCount, .out, .intStatus, .crier, .queue, .cmd, .pad, .store, .mem, .hlt] s t) ∧
        (∀ v : RegView, c.opA.toNat < 0x1000000 → s.wideAt c.opA.toNat = none → mirrorAt c.opA.toNat = none → popAt c.opA.toNat = none →
          c.opA.toNat ≠ 0x10010 → (taken s).reg32 c.opA.toNat = some v →
          ∃ t, exec .readReg s = .next t ∧ Completes s t c 0 (v.value % 2 ^ 32) ∧ UnchangedBut [.crier, .queue, .cmd, .store] s t))) ∧
  (∀ (s : State) (c : CmdItem), Starts s 0x5B c →
      (2 ^ 26 ≤ c.opA.toNat ∨ c.opA.toNat % 4 ≠ 0 → CompletesOnly .writeReg s c 0x18) ∧
      (c.opA.toNat < 2 ^ 26 → c.opA.toNat % 4 = 0 →
        (∃ t, exec .writeReg s = .next t ∧
          ((wordWrite .rim c.opA.toNat (wordOf (c.b 31 0)) (taken s)).ub = none → Completes (wordWrite .rim c.opA.toNat (wordOf (c.b 31 0)) (taken s)) t c 0 0) ∧
          (t.ub = none → UnchangedBut writeParts s t)) ∧
        (c.opA.toNat = 0x40 → s.writeBehind .rim 0x40 = false → ∃ t, exec .writeReg s = .next t ∧ Completes s t c 0 0 ∧ t.glb.scratch = wordOf (c.b 31 0) ∧
          UnchangedBut [.glb, .crier, .queue, .cmd, .store] s t) ∧
        (0x2000000 ≤ c.opA.toNat → CompletesOnly .writeReg s c 0))) ∧
  (∀ (s : State) (m : Master) (o : Nat) (v : Word) (h : Option Word), s.ub = none → s.glb.state ≠ .reset → m ≠ .tandem →
      Instr.wf (.registerWrite m o v h) = true → ∃ t, exec (.registerWrite m o v h) s = .next t ∧
        (h = none → o < 0x1000000 → s.wideAt o = none → mirrorAt o ≠ none → t.ub = some 53) ∧
        (h = none → o = 0x40 → t = if s.writeBehind m 0x40 then s else { s with glb := { (s.noteWrite m 0x40).glb with scratch := v } }) ∧
        (h = none → o = 0x18 → v.field 31 12 = 0 → let keep := v &&& s.freshBits &&& s.glb.intStatus
          t.glb.intStatus = s.glb.intStatus &&& ~~~v ||| keep ∧ (keep &&& s.glb.intEnable = 0 → UnchangedBut [.intStatus] s t) ∧
          (keep &&& s.glb.intEnable ≠ 0 → s.glb.vecTick ≠ some s.tick → SendsVector s t 64) ∧ UnchangedBut [.out, .intStatus] s t) ∧
        (h = none → 0x2000000 ≤ o → o < bar4 → t = s) ∧
        (h = none → bar4 ≤ o → o < bar4 + 0x410 → let k := (o - bar4) / 4
          t.glb.vectorWord k = (if k % 4 = 3 then v &&& 1 else v) ∧ (∀ j, j ≠ k → t.glb.vectorWord j = s.glb.vectorWord j) ∧
          (k % 4 = 3 → v.flag 0 = false → k / 4 ∈ s.glb.msixPending → t.out = s.out ++ [s.glb.vectorOut (k / 4)] ∧
            t.glb.msixPending = eraseFirst (fun x => x == k / 4) s.glb.msixPending ∧ UnchangedBut [.out, .intStatus, .glb] s t) ∧
          (¬(k % 4 = 3 ∧ v.flag 0 = false ∧ k / 4 ∈ s.glb.msixPending) → UnchangedBut [.glb] s t)) ∧
        (h = none → bar4 + 0x410 ≤ o → t = s) ∧
        (∀ (w : Word) (r : Fin 64), h = some w → o = 0x72000 + 0x20 * r.val → s.writeBehind m o = false →
          ((s.ring r).enabled = true → (s.ring r).base ≠ w.toNat * 2 ^ 32 + v.toNat → t.ub = some 404) ∧
          ((s.ring r).enabled = false → t.ring r = { s.ring r with base := w.toNat * 2 ^ 32 + v.toNat } ∧ RingsKept r s t ∧
            UnchangedBut [.glb, .host] s t)) ∧
        (t.ub = none → UnchangedBut writeParts s t)) ∧
  (∀ (s : State) (v : Word), s.ub = none → s.glb.state ≠ .reset → ∃ t, exec (.alarmCfgWrite v) s = .next t ∧ t.path.alarmCfg = v ∧
      (∀ p, p < 16 → t.pinAsserted p = true → s.pinAsserted p = false → t.glb.intStatus.flag 6 = true) ∧
      ((∀ p, p < 16 → t.pinAsserted p = true → s.pinAsserted p = true) → UnchangedBut [.path] s t) ∧
      UnchangedBut [.out, .intStatus, .path] s t) ∧
  (∀ (s : State) (a : Word) (ws : List Word) (cut : Bool), s.ub = none → s.glb.state ≠ .reset → ∃ t, exec (.spiWrite a ws cut) s = .next t ∧
      (a.toNat % 4 ≠ 0 → t.host = { s.host with spiAlign := true } ∧ UnchangedBut [.host] s t) ∧
      (a.toNat % 4 = 0 → ws = [] → t.host = (if cut then { s.host with spiAlign := true } else s.host) ∧ UnchangedBut [.host] s t) ∧
      (∀ v, a.toNat % 4 = 0 → 0x6000000 ≤ a.toNat → ws = [v] → t.host = { s.host with spiAlign := cut || s.host.spiAlign, spiUnmapped := true } ∧
        UnchangedBut [.host] s t) ∧
      (∀ v, a = 0x40 → ws = [v] → cut = false →
        t = if s.writeBehind .spi 0x40 then s else { s with glb := { (s.noteWrite .spi 0x40).glb with scratch := v } }) ∧
      (t.ub = none → UnchangedBut writeParts s t)) ∧
  (∀ (s u : State) (a v : Word) (rest : List Word), s.ub = none → s.glb.state ≠ .reset → a.toNat % 4 = 0 → a.toNat < 0xFFFFFFFC →
      exec (.spiWrite a [v] false) s = .next u → u.ub = none → exec (.spiWrite a (v :: rest) false) s = exec (.spiWrite (a + 4) rest false) u) ∧
  (∀ (s : State) (a : Word) (n : Nat), s.ub = none → s.glb.state ≠ .reset → 1 ≤ n → ∃ t ws, exec (.spiRead a n) s = .next t ∧ ws.length = n ∧
      t.out.getLast? = some (.readData .spi ws) ∧
      (a.toNat % 4 ≠ 0 → t.host = { s.host with spiAlign := true } ∧ ws = List.replicate n 0 ∧ UnchangedBut [.out, .host] s t) ∧
      (a.toNat % 4 = 0 → 0x6000000 ≤ a.toNat → t.host = { s.host with spiUnmapped := true } ∧ ws = List.replicate n 0 ∧
        UnchangedBut [.out, .host] s t) ∧
      (a.toNat % 4 = 0 → a.toNat < 0x6000000 → n = 1 →
        ((∃ w q, ws = [w] ∧ (if a.toNat < 0x4000000 then wordRead .spi a.toNat s else padWordRead .spi (a.toNat - 0x4000000) s) = (q, w, false)) ∨
          t.host.spiPoison = true ∧ ws = [0])) ∧
      UnchangedBut [.freeCount, .out, .intStatus, .crier, .cmd, .host, .pad, .store, .mem, .hlt] s t) ∧
  (∀ s : State, s.ub = none → ∃ t b, exec .spiStatus s = .next t ∧ t.out = s.out ++ [.spiStatus b] ∧ b.getLsbD 7 = s.host.spiPoison ∧
      b.getLsbD 6 = s.host.spiAlign ∧ b.getLsbD 5 = s.host.spiUnmapped ∧ b.getLsbD 0 = decide (s.glb.state ≠ .reset) ∧
      t.host = { s.host with spiPoison := false, spiAlign := false, spiUnmapped := false } ∧ UnchangedBut [.out, .host] s t) ∧
  (∀ (s : State) (o n : Nat) (w : Bool), s.ub = none → o + n ≤ 2 ^ 26 →
      (s.glb.state ≠ .reset → ¬((n = 4 ∨ n = 8) ∧ o % n = 0) → exec (.pcieMalformedAccess o n w) s = .next { s with out := s.out ++ [.unsupportedRequest] }) ∧
      ((n = 4 ∨ n = 8) → o % n = 0 → exec (.pcieMalformedAccess o n w) s = .next s))

/-- The holds of the 64-bit registers, the one access that covers both halves, and the access that covers two words which are no halves of one register (R12,
R87, R399, R404, R416, R417, R496; log entry 34). -/
def Obligations.HoldsKeepTheHalvesTogether : Prop :=
  (∀ (s : State) (m : Fin 3) (o : Nat), s.ub = none → s.glb.state ≠ .reset → s.wideAt o = some o →
      (∃ t, exec (.holdLowRead m o false) s = .next t ∧
        (t.mst (masterOf m)).readHold = some (o, s.wideValue o, s.tick) ∧ t.out = s.out ++ [.readData (masterOf m) [wordOf (s.wideValue o)]] ∧
        (o = 0x10008 → (t.mst (masterOf m)).fracHold = some (s.nowFine % 65536).toNat) ∧ UnchangedBut [.out, .cmd] s t) ∧
      (m = 1 → ∃ t, exec (.holdLowRead m o true) s = .next t ∧ (t.mst .pcie).readHold = (s.mst .pcie).readHold ∧
        t.out = s.out ++ [.readData .pcie [wordOf (s.wideValue o), wordOf (s.wideValue o / 2 ^ 32)]] ∧
        (o = 0x10008 → (t.mst .pcie).fracHold = some (s.nowFine % 65536).toNat) ∧ (o ≠ 0x10008 → t.cmd = s.cmd) ∧ UnchangedBut [.out, .cmd] s t)) ∧
  (∀ (s : State) (o : Nat), s.ub = none → s.glb.state ≠ .reset → s.wideAt o = none → o % 8 = 0 → o < bar4End →
      ∃ t, exec (.holdLowRead 1 o true) s = .next t ∧
        (o < bar4 → let a := wordRead .pcie o s
          let b := wordRead .pcie (o + 4) a.1
          t.out = b.1.out ++ [if a.2.2 || b.2.2 then .poisonedRead .pcie else .readData .pcie [a.2.1, b.2.1]]) ∧
        (∀ v w : RegView, o < 0x1000000 → s.wideAt (o + 4) = none → mirrorAt o = none → mirrorAt (o + 4) = none → popAt o = none → popAt (o + 4) = none →
          o ≠ 0x10010 → s.reg32 o = some v → s.reg32 (o + 4) = some w →
          t.out = s.out ++ [.readData .pcie [wordOf v.value, wordOf w.value]] ∧ UnchangedBut [.out] s t) ∧
        (bar4 ≤ o → o + 8 ≤ bar4 + 0x410 → t.out = s.out ++ [.readData .pcie [s.glb.vectorWord ((o - bar4) / 4), s.glb.vectorWord ((o - bar4) / 4 + 1)]] ∧
          UnchangedBut [.out] s t) ∧
        UnchangedBut [.freeCount, .out, .intStatus, .crier, .cmd, .pad, .store, .mem, .hlt] s t) ∧
  (∀ (s : State) (m : Fin 3) (lo : Nat), s.ub = none → s.glb.state ≠ .reset → s.wideAt (lo + 4) = some lo →
      ∃ t, exec (.holdHighRead m (lo + 4)) s = .next t ∧
        (∀ v k, (s.mst (masterOf m)).readHold = some (lo, v, k) → s.tick ≤ k + us 10 →
          t.out = s.out ++ [.readData (masterOf m) [wordOf (v / 2 ^ 32)]] ∧ (t.mst (masterOf m)).readHold = none ∧ UnchangedBut [.out, .cmd] s t) ∧
        ((∀ v k, (s.mst (masterOf m)).readHold = some (lo, v, k) → k + us 10 < s.tick) →
          t.out.getLast? = some (.readData (masterOf m) [wordOf (s.wideValue lo / 2 ^ 32)]) ∧ (t.mst (masterOf m)).tornRead = true ∧
          t.glb.intStatus.flag 9 = true ∧ (t.mst (masterOf m)).readHold = (s.mst (masterOf m)).readHold ∧
          UnchangedBut [.out, .intStatus, .cmd] s t)) ∧
  (∀ (s : State) (m : Fin 3) (o : Nat) (v : Word), s.ub = none → s.glb.state ≠ .reset → s.wideAt o = some o →
      ∃ t, exec (.holdLowWrite m o v) s = .next t ∧ (t.mst (masterOf m)).writeHold = some (o, v, s.tick) ∧
        ((s.mst (masterOf m)).writeHold = none → UnchangedBut [.cmd] s t) ∧
        ((s.mst (masterOf m)).writeHold ≠ none → (t.mst (masterOf m)).tornWrite = true ∧ t.glb.intStatus.flag 9 = true) ∧
        UnchangedBut [.out, .intStatus, .cmd] s t) ∧
  (∀ (s : State) (m : Fin 3) (lo : Nat) (v : Word) (x : RegView), s.ub = none → s.glb.state ≠ .reset → s.wideAt (lo + 4) = some lo →
      s.reg64 lo = some x → ∃ t, exec (.holdHighWrite m (lo + 4) v) s = .next t ∧
        (∀ low k, (s.mst (masterOf m)).writeHold = some (lo, low, k) → s.tick ≤ k + us 10 →
          let w := v.toNat * 2 ^ 32 + low.toNat
          (w &&& x.rsv ≠ 0 → t.ub = some 12) ∧
          (w &&& x.rsv = 0 → (lo < 0x72000 ∨ 0x72800 ≤ lo) → (t.mst (masterOf m)).writeHold = none ∧ UnchangedBut [.cmd] s t) ∧
          (∀ r : Fin 64, lo = 0x72000 + 0x20 * r.val → (s.ring r).enabled = false → s.writeBehind (masterOf m) lo = false →
            (t.mst (masterOf m)).writeHold = none ∧ t.ring r = { s.ring r with base := w } ∧ RingsKept r s t ∧ UnchangedBut [.glb, .cmd, .host] s t) ∧
          (∀ r : Fin 64, lo = 0x72008 + 0x20 * r.val → (s.ring r).enabled = false → s.writeBehind (masterOf m) lo = false →
            (t.mst (masterOf m)).writeHold = none ∧ t.ring r = { s.ring r with wb := w } ∧ RingsKept r s t ∧ UnchangedBut [.glb, .cmd, .host] s t)) ∧
        ((∀ low k, (s.mst (masterOf m)).writeHold = some (lo, low, k) → k + us 10 < s.tick) → t.ub = none →
          (t.mst (masterOf m)).tornWrite = true ∧ t.glb.intStatus.flag 9 = true ∧
          (∀ r : Fin 64, lo = 0x72000 + 0x20 * r.val → s.writeBehind (masterOf m) lo = false →
            (t.ring r).base = v.toNat * 2 ^ 32 + (s.ring r).base % 2 ^ 32) ∧
          UnchangedBut [.out, .intStatus, .glb, .cmd, .host] s t)) ∧
  (∀ (s : State) (m : Fin 3) (o : Nat) (v : Word) (k : Nat), s.ub = none → s.tick ≤ k + us 10 →
      ((s.mst (masterOf m)).readHold = some (o, v.toNat, k) → exec (.holdExpiry m false) s = .next s) ∧
      ((s.mst (masterOf m)).writeHold = some (o, v, k) → exec (.holdExpiry m true) s = .next s)) ∧
  (∀ (s : State) (m : Fin 3) (o v k : Nat), s.ub = none → k + us 10 < s.tick → (s.mst (masterOf m)).readHold = some (o, v, k) →
      ∃ t, exec (.holdExpiry m false) s = .next t ∧ t.mst (masterOf m) = { s.mst (masterOf m) with readHold := none } ∧ UnchangedBut [.cmd] s t) ∧
  (∀ (s : State) (m : Fin 3) (o k : Nat) (v : Word), s.ub = none → k + us 10 < s.tick → (s.mst (masterOf m)).writeHold = some (o, v, k) →
      ∃ t, exec (.holdExpiry m true) s = .next t ∧ t.mst (masterOf m) = { s.mst (masterOf m) with writeHold := none, tornWrite := true } ∧
        t.glb.intStatus.flag 9 = true ∧ UnchangedBut [.out, .intStatus, .cmd] s t)

/-- SNAPSHOT, its tick and its completion (R419, R421, R432, R501). That the copy of the registers fills banks 112 to 119 is the model's choice (log entry
26). -/
def Obligations.SnapshotsShowOneTick : Prop :=
  (∀ (s : State) (c : CmdItem), Starts s 0x58 c →
      (s.snap.request ≠ none ∨ s.snap.taking ≠ none → CompletesOnly .snapshot s c 0x01) ∧
      (s.snap.request = none → s.snap.taking = none → ∃ t, exec .snapshot s = .next t ∧ Begins s t c .snapshot ∧
        t.snap.request = some (c, if c.opB = 0 then s.now else c.opB.toNat) ∧
        (∃ e ∈ t.tmb.sched, e.kind = .snapshot ∧ e.target = (if c.opB = 0 then s.now else c.opB.toNat) ∧ e.fired = false ∧
          (e.armed = true ↔ e.target ≤ s.now + 2000000000)) ∧ t.snap.image = s.snap.image ∧ UnchangedBut [.tmb, .queue, .snap] s t)) ∧
  (∀ (s : State) (c : CmdItem) (k : Nat) (e : SchedEvent), s.ub = none → s.snap.request = some (c, k) → e ∈ s.tmb.sched → e.kind = .snapshot →
      e.fired = true →
      (s.commitDue = true → exec .snapshotTick s = .next s) ∧
      (s.commitDue = false → ∃ t i, exec .snapshotTick s = .next t ∧ t.snap.request = none ∧
        t.snap.taking = some c ∧ t.snap.image = some i ∧ t.snap.snaps = (s.snap.snaps + 1) % 65536 ∧ t.snap.tick = s.tick ∧ t.snap.time = s.now ∧
        t.snap.valid = true ∧ i.cfg = s.cfg ∧ i.glb = s.glb ∧ i.path = s.path ∧ i.lace = s.lace ∧ i.crier = s.crier ∧ i.cmd = s.cmd ∧ i.host = s.host ∧
        i.mem = s.mem ∧ (∀ a, 0x1C00000 ≤ a → a < 0x1E00000 → t.mem.pad.find? (fun e => e.1 == a) = none) ∧
        (∀ a, a < 0x1C00000 ∨ 0x1E00000 ≤ a → t.cellAt a = s.cellAt a) ∧ i.cal = s.cal ∧ i.hlt = s.hlt ∧ i.lnk = s.lnk ∧ i.tdm = s.tdm ∧ i.ldr = s.ldr ∧ i.tmb.counter = s.tick ∧
        (∀ x ∈ t.tmb.sched, x.kind ≠ .snapshot) ∧ UnchangedBut [.freeCount, .tmb, .pad, .mem, .snap] s t)) ∧
  (∀ (s : State) (c : CmdItem) (l : LongCmd), s.ub = none → s.snap.taking = some c →
      s.cmd.long.find? (fun l => decide (l.op = .snapshot) && decide (l.item = c)) = some l →
      ∃ t, exec .snapshotDone s = .next t ∧ Completes s t c 0 s.snap.tick ∧ t.cmd.long = eraseFirst (fun x => decide (x = l)) s.cmd.long ∧
        t.snap = { s.snap with taking := none } ∧ t.glb.intStatus.flag 11 = true ∧ UnchangedBut [.out, .intStatus, .crier, .queue, .cmd, .store, .snap] s t)

/-- SCRATCHPAD_READ and SCRATCHPAD_WRITE (R427 to R433, R440, R448; log entries 14 and 26). -/
def Obligations.ScratchpadReadsCorrectAndWritesClean : Prop :=
  (∀ (s : State) (p : Fin 24) (a n : Nat), s.ub = none → s.glb.state ≠ .reset → 1 ≤ n → a + n ≤ padBytes →
      ∃ t, exec (.scratchpadRead p a n) s = .next t ∧
        ((∀ i, i < n → (s.cellAt (a + i)).flips = 0 ∧ s.hubUses (a + i) = false ∧ (s.bank (bankOf (a + i))).power ≠ .off) →
          let bytes := (List.range n).map fun i => (s.cellAt (a + i)).data
          let bad := (List.range n).any fun i => (s.cellAt (a + i)).poison
          (p = 21 → t.out = s.out ++ [if bad then .poisonedRead .pcie
              else .readData .pcie (wordsOfBytes (bytes ++ List.replicate ((4 - n % 4) % 4) 0))] ∧ UnchangedBut [.freeCount, .out, .mem] s t) ∧
          (p = 22 → n = 4 → t.out = s.out ++ [.readData .spi (if bad then [0] else wordsOfBytes bytes)] ∧
            t.host = (if bad then { s.host with spiPoison := true } else s.host) ∧ UnchangedBut [.freeCount, .out, .host, .mem] s t) ∧
          (16 ≤ p.val → p ≠ 18 → p ≠ 21 → p ≠ 22 → UnchangedBut [.freeCount, .mem] s t)) ∧
        (p = 21 → n = 1 → s.hubUses a = false → ((s.bank (bankOf a)).power = .on ∨ (s.bank (bankOf a)).power = .retain) →
          ((s.cellAt a).decode.2.2.1 = true → (t.memUnit (bankOf a)).ce = satInc (s.memUnit (bankOf a)).ce ∧ (t.memUnit (bankOf a)).ceAddr = a ∧
            t.cellAt a = s.cellAt a) ∧
          ((s.cellAt a).decode.2.2.2 = true → (t.memUnit (bankOf a)).ue = satInc (s.memUnit (bankOf a)).ue ∧ (t.memUnit (bankOf a)).ueAddr = a ∧
            t.cellAt a = { data := (s.cellAt a).decode.1, poison := true } ∧ t.glb.intStatus.flag 7 = true ∧
            t.out.getLast? = some (.poisonedRead .pcie))) ∧
        UnchangedBut [.freeCount, .out, .intStatus, .streams, .jobs, .path, .crier, .host, .pad, .store, .mem, .hlt] s t) ∧
  (∀ (s : State) (p : Fin 24) (a : Nat) (bs : List Byte), s.ub = none → s.glb.state ≠ .reset → 1 ≤ bs.length → a + bs.length ≤ padBytes →
      ∃ t, exec (.scratchpadWrite p a bs) s = .next t ∧
        (∀ rule, 20 ≤ p.val → p.val ≤ 22 → s.writeUndefined a bs.length = some rule → t.ub = some rule) ∧
        ((20 ≤ p.val → p.val ≤ 22 → s.writeUndefined a bs.length = none) → (∀ b, (s.bank b).power = .off → (s.bank b).lost = true) →
          (∀ i b, bs[i]? = some b → (s.bank (bankOf (a + i))).power ≠ .failed → t.cellAt (a + i) = { data := b }) ∧
          (∀ x, x < a ∨ a + bs.length ≤ x → t.cellAt x = s.cellAt x) ∧ UnchangedBut [.freeCount, .pad, .mem] s t)) ∧
  ∀ (s : State) (b : Fin 128), s.ub = none →
    ((s.bank b).power = .retain → (s.bank b).awake = true → s.passed (s.bank b).lastUse (us 100) = true → ∃ t, exec (.bankRetainTimeout b) s = .next t ∧
      t.bank b = { s.bank b with awake := false } ∧ (∀ x, x ≠ b.val → t.bank x = s.bank x) ∧ UnchangedBut [.mem] s t) ∧
    ((s.bank b).power ≠ .retain ∨ s.passed (s.bank b).lastUse (us 100) = false → exec (.bankRetainTimeout b) s = .next s)

/-- The memory commands BANK_POWER, SCRUB with its end, and INJECT_ERROR (R437 to R441; log entry 26). -/
def Obligations.BanksScrubsAndInjectedErrors : Prop :=
  (∀ (s : State) (c : CmdItem), Starts s 0x61 c →
      (s.bankMay (c.a 6 0) (c.a 9 8) = false → CompletesOnly .bankPower s c 0x40) ∧
      (s.bankMay (c.a 6 0) (c.a 9 8) = true → ∃ t, exec .bankPower s = .next t ∧ Completes s t c 0 0 ∧
        (c.a 9 8 = 0 → (t.bank (c.a 6 0)).power = .on) ∧ (c.a 9 8 = 1 → (t.bank (c.a 6 0)).power = .retain ∧ (t.bank (c.a 6 0)).awake = false) ∧
        (c.a 9 8 = 2 → (t.bank (c.a 6 0)).power = .off ∧ ∀ a, bankOf a = c.a 6 0 → t.cellAt a = { poison := true }) ∧
        (∀ a, bankOf a ≠ c.a 6 0 → t.cellAt a = s.cellAt a) ∧ (c.a 9 8 ≠ 2 → t.mem.pad = s.mem.pad) ∧ (∀ b, b ≠ c.a 6 0 → t.bank b = s.bank b) ∧
        UnchangedBut [.crier, .queue, .cmd, .pad, .store, .mem] s t)) ∧
  (∀ (s : State) (c : CmdItem), Starts s 0x60 c →
      let start := c.b 33 0 / 64 * 64
      let n := c.a 30 0 * 64
      ((if c.a 31 31 = 1 then storeBytes else padBytes) < start + n → CompletesOnly .scrub s c 0x41) ∧
      (start + n ≤ (if c.a 31 31 = 1 then storeBytes else padBytes) →
        ((s.longOf (fun o => match o with | .scrub .. => true | _ => false)).isSome = true → CompletesOnly .scrub s c 0x01) ∧
        (s.longOf (fun o => match o with | .scrub .. => true | _ => false) = none → ∃ t, exec .scrub s = .next t ∧
          Begins s t c (.scrub (decide (c.a 31 31 = 1)) start n) ∧ t.mem.scrubPos = start ∧ UnchangedBut [.queue, .mem] s t))) ∧
  (∀ (s : State) (l : LongCmd) (store : Bool) (start n : Nat), s.ub = none →
      s.cmd.long.find? (fun l => match l.op with | .scrub .. => true | _ => false) = some l → l.op = .scrub store start n →
      ∃ t, exec .scrubDone s = .next t ∧ t.mem.scrubPos = (start + n) % 2 ^ 34 ∧
        Posts s t (cplQueue s l.item.master) (completionItem (cplQueue s l.item.master) l.item 0
          (satField 32 (s.scrubRange store start n).2.1 + satField 32 (s.scrubRange store start n).2.2 * 2 ^ 32)) ∧
        (store = true → (∀ w, start ≤ w * 8 → w * 8 < start + n → (t.storeAt w).flips = 0) ∧ ∀ w, start ≤ w * 8 → w * 8 < start + n → w < 0x7F800000 →
          ((s.storeAt w).decode.2.2.1 = true → t.storeAt w = { data := (s.storeAt w).decode.1, poison := (s.storeAt w).decode.2.1 }) ∧
          ((s.storeAt w).decode.2.2.2 = true → t.storeAt w = { data := (s.storeAt w).decode.1, poison := true })) ∧
        (store = false → ∀ a, start ≤ a → a < start + n → ((s.bank (bankOf a)).power = .on ∨ (s.bank (bankOf a)).power = .retain) →
          a < padBytes → ((s.cellAt a).decode.2.2.1 = true → t.cellAt a = { data := (s.cellAt a).decode.1, poison := (s.cellAt a).decode.2.1 }) ∧
          ((s.cellAt a).decode.2.2.2 = true → t.cellAt a = { data := (s.cellAt a).decode.1, poison := true })) ∧
        UnchangedBut [.freeCount, .out, .intStatus, .crier, .queue, .cmd, .pad, .store, .mem, .hlt] s t) ∧
  ∀ (s : State) (c : CmdItem), Starts s 0x64 c →
    let pos := c.a 6 0
    (c.a 31 31 = 0 →
      (padBytes ≤ c.opB.toNat ∨ 14 ≤ pos → CompletesOnly .injectError s c 0x41) ∧
      (c.opB.toNat < padBytes → pos < 14 → ∃ t, exec .injectError s = .next t ∧ Completes s t c 0 0 ∧
        ((s.bank (bankOf (c.opB.toNat))).power = .on ∨ (s.bank (bankOf (c.opB.toNat))).power = .retain → t.cellAt (c.opB.toNat) = { s.cellAt (c.opB.toNat) with
          flips := (s.cellAt (c.opB.toNat)).flips ^^^ BitVec.ofNat 14 (2 ^ pos + if c.a 30 30 = 1 then 2 ^ ((pos + 1) % 14) else 0) }) ∧
        ((∀ b, (s.bank b).power = .off → (s.bank b).lost = true) → ∀ x, x ≠ c.opB.toNat → t.cellAt x = s.cellAt x) ∧
        UnchangedBut [.crier, .queue, .cmd, .pad, .store, .mem] s t)) ∧
    (c.a 31 31 = 1 →
      (72 ≤ pos → CompletesOnly .injectError s c 0x41) ∧
      (pos < 72 → c.b 2 0 = 0 → c.b 33 3 < 0x7F800000 → ∃ t, exec .injectError s = .next t ∧ Completes s t c 0 0 ∧
        t.storeAt (c.b 33 3) = { s.storeAt (c.b 33 3) with
          flips := (s.storeAt (c.b 33 3)).flips ^^^ BitVec.ofNat 72 (2 ^ pos + if c.a 30 30 = 1 then 2 ^ ((pos + 1) % 72) else 0) } ∧
        (∀ w, w < 0x7F800000 → w ≠ c.b 33 3 → t.storeAt w = s.storeAt w) ∧ UnchangedBut [.crier, .queue, .cmd, .store] s t) ∧
      ∃ t, exec .injectError s = .next t)

/-- STORE_READ, STORE_WRITE and their end (R385, R433, R435, R437). What an unwritten codeword reads as is log entry 7, three wrong bits 14. -/
def Obligations.StoreTransfersCopyWords : Prop :=
  (∀ (s : State) (c : CmdItem), Starts s 0x62 c →
      let n := c.a 31 25 + 1
      (0x1E00000 ≤ c.a 24 6 * 64 → c.a 24 6 * 64 + n * 64 ≤ padBytes → c.b 33 6 * 64 + n * 64 ≤ storeBytes →
        ∃ t, exec .storeRead s = .next t ∧ Begins s t c (.storeRead (c.b 33 6 * 64) (c.a 24 6 * 64) n) ∧ UnchangedBut [.queue] s t) ∧
      (c.a 24 6 * 64 < 0x1E00000 ∨ padBytes < c.a 24 6 * 64 + n * 64 ∨ storeBytes < c.b 33 6 * 64 + n * 64 → CompletesOnly .storeRead s c 0x41)) ∧
  (∀ (s : State) (c : CmdItem), Starts s 0x63 c →
      let n := c.a 31 25 + 1
      (0x1E00000 ≤ c.a 24 6 * 64 → c.a 24 6 * 64 + n * 64 ≤ padBytes → s.st.touchesStall (c.b 33 6 * 64) (n * 64) = false →
        ∃ t, exec .storeWrite s = .next t ∧ Begins s t c (.storeWrite (c.b 33 6 * 64) (c.a 24 6 * 64) n) ∧ UnchangedBut [.queue] s t) ∧
      (c.a 24 6 * 64 < 0x1E00000 ∨ padBytes < c.a 24 6 * 64 + n * 64 ∨ s.st.touchesStall (c.b 33 6 * 64) (n * 64) = true →
        CompletesOnly .storeWrite s c 0x41) ∧
      (0x3FC000000 < c.b 33 6 * 64 + n * 64 → CompletesOnly .storeWrite s c 0x41)) ∧
  (∀ (s : State) (l : LongCmd) (store host n : Nat), s.ub = none →
      s.cmd.long.find? (fun l => match l.op with | .storeRead .. => true | .storeWrite .. => true | _ => false) = some l →
      l.op = .storeRead store host n → ∃ t, exec .storeTransferDone s = .next t ∧
        Posts s t (cplQueue s l.item.master) (completionItem (cplQueue s l.item.master) l.item 0 0) ∧
        ((∀ k, k < n * 8 → (s.storeAt (store / 8 + k)).flips = 0) →
          (∀ b, host ≤ b → b < host + n * 64 → (s.bank (bankOf b)).power = .on ∨ (s.bank (bankOf b)).power = .retain) →
          (∀ k j, k < n * 8 → j < 8 → t.cellAt (host + 8 * k + j) =
            { data := BitVec.ofNat 8 ((s.storeAt (store / 8 + k)).data.toNat / 256 ^ j), poison := (s.storeAt (store / 8 + k)).poison }) ∧
          (∀ b, b < host ∨ host + n * 64 ≤ b → t.cellAt b = s.cellAt b) ∧ (∀ w, w < 0x7F800000 → t.storeAt w = s.storeAt w) ∧
          t.cmd.long = eraseFirst (fun x => decide (x = l)) s.cmd.long ∧
          UnchangedBut [.freeCount, .out, .intStatus, .crier, .queue, .cmd, .pad, .store, .mem] s t) ∧
        UnchangedBut [.freeCount, .out, .intStatus, .crier, .queue, .cmd, .pad, .store, .mem, .hlt] s t) ∧
  ∀ (s : State) (l : LongCmd) (store host n : Nat), s.ub = none →
    s.cmd.long.find? (fun l => match l.op with | .storeRead .. => true | .storeWrite .. => true | _ => false) = some l →
    l.op = .storeWrite store host n → ∃ t, exec .storeTransferDone s = .next t ∧
      Posts s t (cplQueue s l.item.master) (completionItem (cplQueue s l.item.master) l.item 0 0) ∧
      ((∀ b, host ≤ b → b < host + n * 64 → (s.cellAt b).flips = 0 ∧ (s.bank (bankOf b)).power ≠ .off) → store + n * 64 ≤ 0x3FC000000 →
        (∀ k, k < n * 8 → t.storeAt (store / 8 + k) =
          { data := BitVec.ofNat 64 (leNat ((List.range 8).map fun j => (s.cellAt (host + 8 * k + j)).data))
            poison := (List.range 8).any fun j => (s.cellAt (host + 8 * k + j)).poison }) ∧
        (∀ w, w < store / 8 ∨ store / 8 + n * 8 ≤ w → w < 0x7F800000 → t.storeAt w = s.storeAt w) ∧ t.mem.pad = s.mem.pad ∧
        t.cmd.long = eraseFirst (fun x => decide (x = l)) s.cmd.long ∧ UnchangedBut [.freeCount, .out, .intStatus, .crier, .queue, .cmd, .store, .mem] s t) ∧
      UnchangedBut [.freeCount, .out, .intStatus, .crier, .queue, .cmd, .pad, .store, .mem, .hlt] s t

/-- RECALIBRATE, its results and its end, SET_TRIM, CLEAR_WINDOW and WINDOW_REARM (R115, R451 to R454, R456, R457, R460). When the results of a recalibration
come is the model's choice (log entry 27). -/
def Obligations.TrimsAndWindowsAreServed : Prop :=
  (∀ (s : State) (c : CmdItem), Starts s 0x68 c →
      (s.cal.recal ≠ none → CompletesOnly .recalibrate s c 0x51) ∧
      (s.cal.recal = none → ∃ t, exec .recalibrate s = .next t ∧ Begins s t c (.recalibrate (c.a 9 0)) ∧ t.cal.recal = some (c.a 9 0) ∧
        t.cal.recalSince = s.tick ∧ t.cal.recalFound = none ∧ (t.spoke (c.a 9 0)).quarantined = true ∧ (∀ r ∈ t.cal.ramps, r.spoke ≠ c.a 9 0) ∧
        (∀ i, i ≠ c.a 9 0 → t.spoke i = s.spoke i) ∧ Notices s t 0 0x72 (c.a 9 0) 0xFFFE (argT s.now) ∧
        UnchangedBut [.spokes, .looks, .crier, .queue, .store, .cal] s t)) ∧
  (∀ (s : State) (x : SpokeCal), s.ub = none → Instr.wf (.recalibrateDone x) = true →
      (s.cal.recal ≠ some x.spoke ∨ s.passed s.cal.recalSince (ms 2000) = false → exec (.recalibrateDone x) s = .next s) ∧
      (s.cal.recal = some x.spoke → s.passed s.cal.recalSince (ms 2000) = true → s.passed s.cal.recalSince (ms 2100) = false → s.cal.recalFound = none →
        ∃ t, exec (.recalibrateDone x) s = .next t ∧ t.cal.recalFound = some x ∧ (∀ r ∈ s.cal.ramps, r ∈ t.cal.ramps) ∧
          (∀ y ∈ x.slots, ∃ r ∈ t.cal.ramps, r.spoke = x.spoke ∧ r.slot = y.slot ∧ r.offsetCode = (heldSlot x y).offsetCode ∧
            r.gainCode = (heldSlot x y).gainCode ∧ r.start = s.cal.recalSince + ms 2000 - (if s.slotUsed x.spoke y.slot then 0 else ms 100)) ∧
          UnchangedBut [.cal] s t) ∧
      (s.cal.recal = some x.spoke → s.passed s.cal.recalSince (ms 2100) = true → ∃ t, exec (.recalibrateDone x) s = .next t ∧ t.cal.recal = none ∧
        t.cal.recalFound = none ∧
        (∀ c, s.cal.recalFound.getD x = c → c.spoke = x.spoke → c.wf = true →
          (∀ y ∈ c.slots, t.calSlot x.spoke y.slot = heldSlot c y) ∧
          (∀ y ∈ c.skew, t.cal.skew.get (0, 0) (skewKey x.spoke y.family) = (clampInt (sigmaOf y) (-20000) 20000, y.residual)) ∧
          (∀ r ∈ t.cal.ramps, r.spoke ≠ x.spoke)) ∧
        (s.cal.recalFound = none ∨ s.cal.recalFound = some x →
        ((s.spoke x.spoke).quarantineWindow = true → (t.spoke x.spoke).quarantined = (s.spoke x.spoke).quarantined) ∧
        ((s.spoke x.spoke).quarantineWindow = false → (t.spoke x.spoke).quarantined = false ∧ Notices s t 0 0x73 x.spoke 2 (argT s.now)) ∧
        (∀ l, s.longOf (fun o => match o with | .recalibrate i => i == x.spoke | _ => false) = some l →
          Posts s t (cplQueue s l.item.master) (completionItem (cplQueue s l.item.master) l.item 0 0) ∧
          t.cmd.long = eraseFirst (fun y => decide (y = l)) s.cmd.long)) ∧
        UnchangedBut [.out, .intStatus, .spokes, .crier, .queue, .cmd, .store, .cal] s t)) ∧
  (∀ (s : State) (c : CmdItem), Starts s 0x69 c →
      (24 < c.a 14 10 → CompletesOnly .setTrim s c 0x52) ∧
      (c.a 14 10 ≤ 24 → s.cal.recal = some (c.a 9 0) → CompletesOnly .setTrim s c 0x51) ∧
      (c.a 14 10 ≤ 24 → s.cal.recal ≠ some (c.a 9 0) → ∃ t, exec .setTrim s = .next t ∧
        Posts s t (cplQueue s c.master) (completionItem (cplQueue s c.master) c 0 (codesWord (s.trimNow (c.a 9 0) (c.a 14 10)))) ∧
        (s.slotUsed (c.a 9 0) (c.a 14 10) = false → (t.calSlot (c.a 9 0) (c.a 14 10)).offsetCode = signedOf 12 (c.b 27 16) ∧
          (t.calSlot (c.a 9 0) (c.a 14 10)).gainCode = signedOf 10 (c.b 9 0) ∧ Notices s t 0 0x78 (c.a 9 0) (c.a 14 10) (argT s.now)) ∧
        (s.slotUsed (c.a 9 0) (c.a 14 10) = true → ((t.calSlot (c.a 9 0) (c.a 14 10)).offsetCode, (t.calSlot (c.a 9 0) (c.a 14 10)).gainCode) =
            s.trimNow (c.a 9 0) (c.a 14 10) ∧
          { spoke := c.a 9 0, slot := c.a 14 10, offsetCode := signedOf 12 (c.b 27 16), gainCode := signedOf 10 (c.b 9 0), start := s.tick } ∈
            t.cal.ramps) ∧
        (∀ i g, calKey i g ≠ calKey (c.a 9 0) (c.a 14 10) → t.calSlot i g = s.calSlot i g) ∧
        UnchangedBut [.crier, .queue, .cmd, .store, .cal] s t)) ∧
  (∀ (s : State) (c : CmdItem), Starts s 0x6A c →
      ((s.window (c.a 5 0)).latched = false → CompletesOnly .clearWindow s c 0x50) ∧
      ((s.window (c.a 5 0)).latched = true → ∃ t, exec .clearWindow s = .next t ∧
        Posts s t (cplQueue s c.master) (completionItem (cplQueue s c.master) c 0 0) ∧
        t.window (c.a 5 0) = { s.window (c.a 5 0) with latched := false, history := [] } ∧ Notices s t (s.st.winQ (c.a 5 0)) 0x79 (c.a 5 0) 0 (argT s.now) ∧
        (∀ w, w ≠ c.a 5 0 → t.window w = s.window w) ∧ UnchangedBut [.crier, .queue, .cmd, .store, .hlt] s t)) ∧
  ∀ (s : State) (w : Fin 64), s.ub = none →
    ((s.window w).latched = false ∨ s.st.winRearm w = false ∨ s.passed (s.window w).last (ms (s.st.winMs w)) = false → exec (.windowRearm w) s = .next s) ∧
    ((s.window w).latched = true → s.st.winRearm w = true → s.passed (s.window w).last (ms (s.st.winMs w)) = true →
      ∃ t, exec (.windowRearm w) s = .next t ∧ t.window w = { s.window w with latched := false, history := [] } ∧
        Notices s t (s.st.winQ w) 0x79 w 1 (argT s.now) ∧ (∀ x, x ≠ w.val → t.window x = s.window x) ∧ UnchangedBut [.crier, .store, .hlt] s t)

/-- UPDATE_DATA, UPDATE_CHUNK_PROGRAMMED, UPDATE_END and its end (R476 to R479, R481, R482). A second UPDATE_END in flight when the first ends the
session completes with NO_SESSION (log entry 33: the spec does not say). The checks are functions that the model leaves open (log entry 13). -/
def Obligations.UpdatesAreReceivedCheckedAndInstalled : Prop :=
  (∀ (i : Instr) (op : Nat) (s : State) (c : CmdItem), (i, op) ∈ [(Instr.updateData, 0x70), (.updateEnd, 0x71), (.updateAbort, 0x72),
      (.commitImage, 0x73), (.saveSettings, 0x74)] → Starts s op c →
      (c.service = true → AnswersUpdate i s c 0x18 0 s.ldr) ∧
      (∀ x, c.service = false → s.ldr.session = some x → x.owner ≠ masterNum c.master → AnswersUpdate i s c 0x01 0 s.ldr)) ∧
  (∀ (s : State) (c : CmdItem), Starts s 0x70 c → MayUpdate s c →
      (c.updateLength = none → AnswersUpdate .updateData s c 0x18 0 (refreshed s)) ∧
      (s.ldr.session = none → ∀ n, c.updateLength = some n →
        (c.a 23 0 ≠ (s.ldr.buffers.get [] (masterNum c.master)).length ∨ 512 < c.a 23 0 + n → AnswersUpdate .updateData s c 0x67 0 s.ldr)) ∧
      (s.ldr.session = none → c.a 31 31 = 0 →
        let m := masterNum c.master
        let buf := s.ldr.buffers.get [] m ++ leBytes 8 c.opB.toNat
        let f : FwImage := { header := headerWords buf, body := [] }
        c.a 23 0 + 8 = buf.length →
        (buf.length < 512 → AnswersUpdate .updateData s c 0 buf.length { s.ldr with filler := m, buffers := s.ldr.buffers.set [] m buf }) ∧
        (buf.length = 512 →
          (∀ code, f.headerCheck (settingsLegacy s.ldr.settings) s.ldr.flash = some code →
            AnswersUpdate .updateData s c code 0 { s.ldr with filler := m, buffers := s.ldr.buffers.set [] m [] }) ∧
          (f.headerCheck (settingsLegacy s.ldr.settings) s.ldr.flash = none → ∃ t, exec .updateData s = .next t ∧
            Posts s t (cplQueue s c.master) (completionItem (cplQueue s c.master) c 0 512) ∧ Notices s t 0 0x90 m f.kind (argSX s.now f.version) ∧
            t.ldr = { s.ldr with
              filler := m, buffers := s.ldr.buffers.set [] m [], lastResult := 0
              session := some { owner := m, legacy := f.legacy, header := buf, body := [], wroteBody := false, flashBad := false, lastTick := s.tick } } ∧
            UnchangedBut [.crier, .queue, .cmd, .store, .ldr] s t))) ∧
      (∀ n, s.ldr.session = none → c.a 31 31 = 1 → c.updateLength = some n → (∀ i, i < n → (s.cellAt (c.b 24 0 + i)).flips = 0) →
        let m := masterNum c.master
        let buf := s.ldr.buffers.get [] m ++ (List.range n).map (fun i => (s.cellAt (c.b 24 0 + i)).data)
        let f : FwImage := { header := headerWords buf, body := [] }
        c.a 23 0 + n = buf.length → buf.length ≤ 512 → ∃ t, exec .updateData s = .next t ∧
          (buf.length < 512 → Completes s t c 0 buf.length ∧
            t.ldr = { s.ldr with filler := m, buffers := s.ldr.buffers.set [] m buf, lastResult := 0 }) ∧
          (∀ code, buf.length = 512 → f.headerCheck (settingsLegacy s.ldr.settings) s.ldr.flash = some code → Completes s t c code 0 ∧
            t.ldr = { s.ldr with filler := m, buffers := s.ldr.buffers.set [] m [], lastResult := code }) ∧
          (buf.length = 512 → f.headerCheck (settingsLegacy s.ldr.settings) s.ldr.flash = none →
            Posts s t (cplQueue s c.master) (completionItem (cplQueue s c.master) c 0 512) ∧ Notices s t 0 0x90 m f.kind (argSX s.now f.version) ∧
            t.ldr = { s.ldr with
              filler := m, buffers := s.ldr.buffers.set [] m [], lastResult := 0
              session := some { owner := m, legacy := f.legacy, header := buf, body := [], wroteBody := false, flashBad := false, lastTick := s.tick } }) ∧
          UnchangedBut [.freeCount, .crier, .queue, .cmd, .store, .mem, .ldr] s t) ∧
      (∀ x n, s.ldr.session = some x → c.updateLength = some n →
        (c.a 23 0 ≠ x.received ∨ 512 + x.image.bodyLen < c.a 23 0 + n → AnswersUpdate .updateData s c 0x67 0 (refreshed s)) ∧
        (c.a 23 0 = x.received → c.a 23 0 + n ≤ 512 + x.image.bodyLen → ∀ bytes,
          (c.a 31 31 = 0 ∧ bytes = leBytes 8 c.opB.toNat ∨ c.a 31 31 = 1 ∧
            (∀ i, i < n → (s.cellAt (c.b 24 0 + i)).flips = 0) ∧ bytes = (List.range n).map (fun i => (s.cellAt (c.b 24 0 + i)).data)) →
          ∃ t, exec .updateData s = .next t ∧ Begins s t c (.updateData (c.a 23 0) bytes) ∧
            t.ldr.session = some { x with body := x.body ++ bytes, wroteBody := true, lastTick := s.tick } ∧
            (x.wroteBody = false → t.ldr.flash.slot = none ∧ t.ldr.flash.slotValid = false) ∧ (x.wroteBody = true → t.ldr.flash = s.ldr.flash) ∧
            UnchangedBut [.freeCount, .queue, .mem, .ldr] s t))) ∧
  (∀ (s : State) (ok : Bool) (l : LongCmd) (offset : Nat) (bs : List Byte), s.ub = none → s.glb.state ≠ .reset →
      s.longOf (fun o => match o with | .updateData .. => true | _ => false) = some l → l.op = .updateData offset bs →
      ∃ t, exec (.updateChunkProgrammed ok) s = .next t ∧ Completes s t l.item (if ok then 0 else 0x6C) (offset + bs.length) ∧
        t.cmd.long = eraseFirst (fun x => decide (x = l)) s.cmd.long ∧
        (ok = true → t.ldr = { s.ldr with lastResult := 0 }) ∧
        (ok = false → t.ldr = { s.ldr with lastResult := 0x6C, session := s.ldr.session.map fun x => { x with flashBad := true } }) ∧
        UnchangedBut [.out, .intStatus, .crier, .queue, .cmd, .store, .ldr] s t) ∧
  (∀ (s : State) (c : CmdItem), Starts s 0x71 c → MayUpdate s c →
      (s.ldr.session = none → AnswersUpdate .updateEnd s c 0x66 0 s.ldr) ∧
      (∀ x, s.ldr.session = some x → x.body.length ≠ x.image.bodyLen → AnswersUpdate .updateEnd s c 0x67 0 (refreshed s)) ∧
      (∀ x, s.ldr.session = some x → x.body.length = x.image.bodyLen → ∃ t, exec .updateEnd s = .next t ∧ Begins s t c (.updateEnd (c.a 0 0 == 1)) ∧
        t.ldr = refreshed s ∧ UnchangedBut [.queue, .ldr] s t)) ∧
  (∀ (s : State) (ok activate : Bool) (l : LongCmd), s.ub = none → s.glb.state ≠ .reset →
      s.longOf (fun o => match o with | .updateEnd _ => true | _ => false) = some l → l.op = .updateEnd activate →
      (s.ldr.session = none → ∃ t, exec (.updateEndDone ok) s = .next t ∧ Completes s t l.item 0x66 0 ∧
        UnchangedBut [.out, .intStatus, .crier, .queue, .cmd, .store, .ldr] s t) ∧
      ∀ x, s.ldr.session = some x → s.longOf (fun o => match o with | .updateData .. => true | _ => false) = none →
        let others := (eraseFirst (fun y => decide (y = l)) s.cmd.long).filter (fun y => match y.op with | .updateEnd _ => true | _ => false)
        (∀ code cause, s.updateFailure x ok = some (code, cause) → ∃ t, exec (.updateEndDone ok) s = .next t ∧ t.ldr.session = none ∧
          t.glb.intStatus.flag 10 = true ∧ t.ldr.flash = { s.ldr.flash with slot := none, slotValid := false } ∧
          (s.cmd.long.length ≤ 256 → Posts s t (cplQueue s l.item.master) (completionItem (cplQueue s l.item.master) l.item code 0) ∧
            EndsSession s t x cause ∧
            ∀ k ∈ others, Posts s t (cplQueue s k.item.master) (completionItem (cplQueue s k.item.master) k.item 0x66 0)) ∧
          (others = [] → Completes s t l.item code 0 ∧ t.ldr.lastResult = code ∧ t.cmd.long = eraseFirst (fun y => decide (y = l)) s.cmd.long) ∧
          (∀ k ∈ t.cmd.long, ∀ a, k.op ≠ .updateEnd a) ∧ UnchangedBut [.out, .intStatus, .crier, .queue, .cmd, .store, .ldr] s t) ∧
        (s.updateFailure x ok = none → ∃ t, exec (.updateEndDone ok) s = .next t ∧ t.ldr.session = none ∧ t.glb.intStatus.flag 10 = true ∧
          (s.cmd.long.length ≤ 256 → Posts s t (cplQueue s l.item.master) (completionItem (cplQueue s l.item.master) l.item 0 x.image.version) ∧
            Notices s t 0 0x91 x.owner 0 (argSX s.now x.image.version) ∧
            ∀ k ∈ others, Posts s t (cplQueue s k.item.master) (completionItem (cplQueue s k.item.master) k.item 0x66 0)) ∧
          (∀ k ∈ t.cmd.long, ∀ a, k.op ≠ .updateEnd a) ∧
          t.ldr.flash.slot = some (s.slotImage x) ∧ t.ldr.flash.slotValid = true ∧ t.ldr.flash.committedImage = false ∧
          (activate = true → s.glb.state = .run ∨ s.glb.state = .timewait → t.glb.state = .warmRestart ∧ t.ldr.image = t.ldr.flash.slot) ∧
          (activate = false ∨ s.glb.state = .fault → t.ldr.flash = { s.ldr.flash.putLoader { s.ldr.flash.loaderA with committedImage := false } with
              slot := some (s.slotImage x), slotValid := true, imageNew := true, onProbation := false } ∧
            (others = [] → t.ldr.lastResult = 0) ∧ UnchangedBut [.freeCount, .out, .intStatus, .crier, .queue, .cmd, .store, .ldr] s t) ∧
          UnchangedBut [.freeCount, .out, .mode, .intStatus, .glb, .cfg, .spokes, .streams, .crier, .queue, .cmd, .store, .cal, .ldr] s t))

/-- UPDATE_ABORT, UPDATE_SESSION_TIMEOUT, COMMIT_IMAGE, SAVE_SETTINGS, SETTINGS_WRITE_DONE and OTP_PROVISION (R481, R484, R487 to R489). Whether an
OTP write fails is a free value (log entry 4). Settings and their sessions are log entry 32, completion codes and the CRC of the settings 33. -/
def Obligations.SessionsEndAndImagesAreCommitted : Prop :=
  (∀ (s : State) (c : CmdItem), Starts s 0x72 c → MayUpdate s c →
      (s.ldr.session = none → AnswersUpdate .updateAbort s c 0x66 0 s.ldr) ∧
      (∀ x, s.ldr.session = some x → ∃ t, exec .updateAbort s = .next t ∧ EndsSession s t x 0 ∧
        Posts s t (cplQueue s c.master) (completionItem (cplQueue s c.master) c 0 0) ∧
        t.cmd.long = s.cmd.long.filter (fun l => match l.op with | .updateData .. => false | .updateEnd _ => false | _ => true) ∧
        t.ldr.flash = s.ldr.flash ∧ UnchangedBut [.out, .intStatus, .crier, .queue, .cmd, .store, .ldr] s t)) ∧
  (∀ (s : State) (x : Session), s.ub = none → s.ldr.session = some x →
      (s.glb.state = .warmRestart ∨ s.passed x.lastTick (30 * Config.ticksPerS) = false → exec .updateSessionTimeout s = .next s) ∧
      (s.glb.state ≠ .reset → s.glb.state ≠ .warmRestart → s.passed x.lastTick (30 * Config.ticksPerS) = true →
        ∃ t, exec .updateSessionTimeout s = .next t ∧ EndsSession s t x 1 ∧
          t.cmd.long = s.cmd.long.filter (fun l => match l.op with | .updateData .. => false | .updateEnd _ => false | _ => true) ∧
          t.ldr.flash = s.ldr.flash ∧ UnchangedBut [.out, .intStatus, .crier, .queue, .cmd, .store, .ldr] s t)) ∧
  (∀ (s : State) (c : CmdItem), Starts s 0x73 c → MayUpdate s c →
      (s.ldr.onTrial = true → AnswersUpdate .commitImage s c 0x6A s.ldr.flash.otpCounter (refreshed s)) ∧
      (s.ldr.onTrial = false → s.ldr.probationFailed = true → AnswersUpdate .commitImage s c 0x6B s.ldr.flash.otpCounter (refreshed s)) ∧
      (s.ldr.onTrial = false → s.ldr.probationFailed = false → s.ldr.committed = true →
        AnswersUpdate .commitImage s c 0 s.ldr.flash.otpCounter (refreshed s)) ∧
      (∀ f, s.ldr.onTrial = false → s.ldr.probationFailed = false → s.ldr.committed = false → s.ldr.image = some f → ∃ t, exec .commitImage s = .next t ∧
        (f.legacy = true ∨ f.epoch ≤ s.ldr.flash.otpCounter → t.ldr.committed = true) ∧
        (t.ldr.committed = true → Posts s t (cplQueue s c.master) (completionItem (cplQueue s c.master) c 0 t.ldr.flash.otpCounter) ∧
          Notices s t 0 0x96 0 t.ldr.flash.otpCounter (argSX s.now f.version) ∧ t.ldr.lastResult = 0 ∧
          (s.ldr.flash.slot = some f → t.ldr.flash.committedImage = true) ∧
          (f.legacy = true → t.ldr.flash.legacyFloor = max s.ldr.flash.legacyFloor f.version ∧ t.ldr.flash.otpCounter = s.ldr.flash.otpCounter) ∧
          (f.legacy = false → t.ldr.flash.otpCounter = max s.ldr.flash.otpCounter f.epoch ∧
            t.ldr.flash.legacyFloor = s.ldr.flash.legacyFloor)) ∧
        (t.ldr.committed = false → Completes s t c 0x6C s.ldr.flash.otpCounter ∧ t.ldr.flash = s.ldr.flash) ∧
        UnchangedBut [.freeCount, .crier, .queue, .cmd, .store, .ldr] s t)) ∧
  (∀ (s : State) (c : CmdItem), Starts s 0x74 c → MayUpdate s c → ∃ t, exec .saveSettings s = .next t ∧ Begins s t c .saveSettings ∧
      t.ldr = refreshed s ∧ UnchangedBut [.queue, .ldr] s t) ∧
  (∀ (s : State) (l : LongCmd), s.ub = none → s.glb.state ≠ .reset →
      s.longOf (fun o => decide (o = .saveSettings) || decide (o = .setAddress)) = some l → ∃ t, exec .settingsWriteDone s = .next t ∧
        Completes s t l.item 0 0 ∧ t.cmd.long = eraseFirst (fun x => decide (x = l)) s.cmd.long ∧
        (∃ w, t.ldr.flash.setting s.ldr.setSlotB = settingsSlot (s.ldr.flash.setting s.ldr.setSlotB).format s.lnk.rim.session
          ((s.ldr.flash.setting s.ldr.setSlotB).writes + 1) w) ∧ (t.ldr.flash.setting s.ldr.setSlotB).valid = true ∧
        t.ldr.flash.setting (!s.ldr.setSlotB) = s.ldr.flash.setting (!s.ldr.setSlotB) ∧
        (l.op = .saveSettings → (t.ldr.flash.setting s.ldr.setSlotB).settings = s.ldr.settings ∧ t.ldr.settings = s.ldr.settings) ∧
        (l.op = .setAddress →
          (t.ldr.flash.setting s.ldr.setSlotB).settings = wordOf (l.item.a 11 0 * 2 ^ 20 + (s.ldr.flash.setting s.ldr.setSlotB).settings.field 19 0) ∧
          t.ldr.settings = wordOf (l.item.a 11 0 * 2 ^ 20 + s.ldr.settings.field 19 0)) ∧
        UnchangedBut [.out, .intStatus, .crier, .queue, .cmd, .store, .ldr] s t) ∧
  ∀ (s : State) (c : CmdItem), Starts s 0x75 c →
    (c.service = true → AnswersUpdate .otpProvision s c 0x18 0 s.ldr) ∧
    (c.service = false → c.master ≠ .spi → AnswersUpdate .otpProvision s c 0x19 0 s.ldr) ∧
    (c.service = false → c.master = .spi → s.glb.state ≠ .recovery → AnswersUpdate .otpProvision s c 0x20 0 s.ldr) ∧
    (∀ x, c.service = false → c.master = .spi → s.glb.state = .recovery → s.ldr.session = some x → x.owner ≠ 0 →
      AnswersUpdate .otpProvision s c 0x01 0 s.ldr) ∧
    (c.service = false → c.master = .spi → s.glb.state = .recovery → (∀ x, s.ldr.session = some x → x.owner = 0) →
      (c.a 24 0 < 0x1E00000 ∨ padBytes < c.a 24 0 + 116 → AnswersUpdate .otpProvision s c 0x18 0 s.ldr) ∧
      (0x1E00000 ≤ c.a 24 0 → c.a 24 0 + 116 ≤ padBytes → (∀ i, i < 116 → (s.cellAt (c.a 24 0 + i)).flips = 0) → ∃ t, exec .otpProvision s = .next t ∧
        let b := (List.range 116).map fun i => (s.cellAt (c.a 24 0 + i)).data
        let flags := leNat (b.take 4)
        let f := s.ldr.flash
        let taken := bitOf flags 0 && f.otpKey.isSome || bitOf flags 1 && f.otpNative.isSome || bitOf flags 2 && f.otpLegacy.isSome
        Completes s t c (if taken then 0x6E else 0) 0 ∧
        (taken = true → t.ldr.flash = f) ∧
        (taken = false → t.ldr.flash = { f with
          otpKey := if bitOf flags 0 then some ((b.drop 4).take 32) else f.otpKey
          otpNative := if bitOf flags 1 then some ((b.drop 36).take 48) else f.otpNative
          otpLegacy := if bitOf flags 2 then some ((b.drop 84).take 32) else f.otpLegacy }) ∧
        UnchangedBut [.freeCount, .crier, .queue, .cmd, .store, .mem, .ldr] s t))

/-- A watching window takes the fault events at the end of their tick (R459 to R464): its history and counters, N_TRANSIENT, the lasting fault with
N_LASTING and its action on the instance. The events of one tick count in one order whichever came first (R459), and of the actions of one tick
SAFE_STATE goes first and lets no other run (R462). A WATCHDOG event leads to its own restart after the windows' actions (R27). That a tick ends with
the empty queue is the model's choice (log entry 1). When N_TRANSIENT is posted, and the order of a tick, is log entry 31. -/
def Obligations.WindowsDeclareLastingFaults : Prop :=
  (∀ (s : State) (cls inst w : Nat), s.ub = none → s.pending = [] → s.glb.state ≠ .reset → s.hlt.due = [(cls, inst)] → s.st.watching cls inst = [w] →
      let t := s.settleFaults
      let q := s.st.winQ w
      let n := s.st.winThresh w
      let ticks := (s.window w).history ++ [s.tick]
      let lasting := !(s.window w).latched && decide (n ≤ (ticks.filter (fun x => decide (s.tick < x + ms (s.st.winMs w)))).length)
      let run := actionRun (s.st.winAction w) cls inst
      step s = .next t.idle ∧ t.hlt.due = [] ∧ (∀ x, x ≠ w → t.window x = s.window x) ∧
      (t.window w).history = lastN (max 255 n) ticks ∧ (t.window w).events = satInc (s.window w).events ∧ (t.window w).last = s.tick ∧
      (t.window w).lastInst = inst % 65536 ∧
      (s.passedOpt (s.window w).noteTick Config.ticksPerS = true → (t.window w).noteCount = 0 ∧ (t.window w).noteTick = some s.tick ∧
        Notices s t q 0x70 w ((s.window w).noteCount + 1) (argSX s.now (inst % 65536))) ∧
      (s.passedOpt (s.window w).noteTick Config.ticksPerS = false → (t.window w).noteCount = (s.window w).noteCount + 1) ∧
      (lasting = false → (t.window w).latched = (s.window w).latched ∧ (t.window w).lastings = (s.window w).lastings ∧
        (cls ≠ 11 → UnchangedBut [.crier, .store, .hlt] s t)) ∧
      (lasting = true → (t.window w).latched = true ∧ (t.window w).lastings = satTo 0xFFFF ((s.window w).lastings + 1) ∧ t.glb.intStatus.flag 8 = true ∧
        Notices s t q 0x71 w (cls * 4096 + run * 512 + if run = s.st.winAction w then 0 else 256) (argSX s.now (n * 65536 + inst % 65536))) ∧
      (lasting = true → cls ≠ 11 → run = 0 ∨ s.glb.state = .fault → UnchangedBut [.out, .intStatus, .crier, .store, .hlt] s t) ∧
      (∀ i, lasting = true → s.glb.state ≠ .fault → run = 1 → spokeOfInstance cls inst = some i →
        (s.cal.recal = some i → (t.spoke i).quarantineWindow = true) ∧
        (s.cal.recal ≠ some i → (s.spoke i).quarantined = true → t.spoke i = s.spoke i) ∧
        (s.cal.recal ≠ some i → (s.spoke i).quarantined = false → (t.spoke i).quarantined = true ∧ Notices s t q 0x72 i w (argT s.now)) ∧
        (∀ j, j ≠ i → t.spoke j = s.spoke j) ∧ UnchangedBut [.out, .intStatus, .spokes, .looks, .crier, .store, .hlt] s t) ∧
      (lasting = true → s.glb.state ≠ .fault → run = 2 → inst < 4 →
        ((s.lane inst).state ≠ .off → Detects s t inst 4) ∧ (t.lane inst).failures = 0 ∧
        UnchangedBut [.out, .intStatus, .stalls, .crier, .store, .hlt, .lanes, .rim, .tdm] s t) ∧
      (lasting = true → s.glb.state ≠ .fault → s.glb.state ≠ .warmRestart → s.ldr.halted = false → run = 3 → cls ≠ 11 → s.cmd.long.length ≤ 256 →
        t.glb.state = .warmRestart ∧ t.glb.warmRestarts = satTo 255 (s.glb.warmRestarts + 1) ∧ Notices s t q 0x74 0 2 (argT s.now)) ∧
      (lasting = true → s.glb.state ≠ .fault → run = 4 → cls ≠ 11 →
        (s.tdm.role ≠ .active → t.tdm = s.tdm ∧ Notices s t s.st.tandemQ 0x5E 0 1 (argT s.now)) ∧
        (s.tdm.role = .active → (s.partnerAlive = true ∧ (s.tdm.partnerRole = 2 ∨ s.tdm.partnerRole = 3)) →
          t.tdm.role = .yielding ∧ Notices s t s.st.tandemQ 0x59 0 1 (argT s.now)) ∧
        (s.tdm.role = .active → ¬(s.partnerAlive = true ∧ (s.tdm.partnerRole = 2 ∨ s.tdm.partnerRole = 3)) →
          t.tdm = s.tdm ∧ Notices s t s.st.tandemQ 0x5E 0 0 (argT s.now)) ∧
        UnchangedBut [.out, .intStatus, .looks, .stalls, .path, .lace, .crier, .store, .hlt, .rim, .tdm] s t) ∧
      (lasting = true → s.glb.state ≠ .fault → run = 5 → t.glb.state = .fault ∧ Notices s t q 0x75 w 0 (argT s.now) ∧
        (∀ i, i < 768 → (t.spoke i).quarantined = true) ∧
        (∀ i, i < 768 → (s.spoke i).quarantined = false → Notices s t q 0x72 i 0xFFFF (argT s.now)) ∧
        (∀ l, l < 48 → (t.laceOf l).highZ = true ∧ (t.laceOf l).drive = 0 ∧ (t.laceOf l).ramp = none) ∧
        UnchangedBut [.out, .mode, .intStatus, .spokes, .looks, .lace, .crier, .store, .hlt, .ldr] s t) ∧
      (cls = 11 → lasting = false ∨ run = 0 → s.glb.state ≠ .fault → s.glb.state ≠ .warmRestart → s.ldr.halted = false → s.ldr.probationFrom = none →
        s.cmd.long.length ≤ 256 → t.glb.state = .warmRestart ∧ Notices s t 0 0x74 0 inst (argT s.now)) ∧
      UnchangedBut (.tmb :: windowParts) s t) ∧
  (∀ (s : State) (l : List (Nat × Nat)), l.Perm s.hlt.due → ({ s with hlt := { s.hlt with due := l } } : State).settleFaults = s.settleFaults) ∧
  ∀ (s : State) (cls inst w : Nat), s.ub = none → s.pending = [] → s.glb.state ≠ .reset → s.glb.state ≠ .fault → (cls, inst) ∈ s.hlt.due →
    w ∈ s.st.watching cls inst → s.st.winAction w = 5 → (s.window w).latched = false → s.st.winThresh w ≤ 1 → 0 < s.st.winMs w →
    ∃ t, step s = .next t ∧ t.glb.state = .fault ∧ (∀ i, i < 768 → (t.spoke i).quarantined = true) ∧ t.glb.warmRestarts = s.glb.warmRestarts ∧
      t.tdm = s.tdm ∧ t.lnk = s.lnk

/-- A threshold switch evaluates a sample that leaves scaling (R205 to R209, R211, R212): a sample that is INVALID or UNSETTLED, the test with level
and hysteresis, the dwell, the change with its counter, N_SWITCH and the alarm pins, and the histogram. Changes that are told later, crossings beside
a missing sample and free crossings are log entry 19. -/
def Obligations.SwitchesDecideOnSamples : Prop :=
  ∀ (s : State) (x : Fin 13056) (codes : List Int) (k i t0 tag : Nat) (w : Word) (r : State × Option Int × Nat), s.ub = none → codesWf codes = true →
    s.eraAfter (s.look x).era = none → (s.eraFrom (s.look x).era).st = s.st → (s.look x).next = some k → s.pathRuns = true → s.glb.sampling = true →
    s.leaves s.st x (s.st.instantOf x k) = true → s.chainOut s.st x k (s.st.instantOf x k) codes = some r →
    i / 4 = x → (s.sw i).record = [] → (s.sw i).pending = [] →
    ∃ t, exec (.sampleScaled x codes) s = .next t ∧ (∀ j, j / 4 ≠ x → t.sw j = s.sw j) ∧
      (t.ub = none → (t.look x).last = some (t0, w, tag) →
        let eng := s.st.eng x
        let v : Word := if eng then w else wordOf (unsignedOf 32 (rawOf w))
        let q := s.st.swQuantity i eng v
        let level := (s.sw i).levelAt (s.st.swLevel i) t0
        let test := s.st.swTest i (s.sw i).set (streamValue eng level) (streamValue eng (s.st.swHyst i)) q
        (s.st.swEnable i = false → t.sw i = { s.sw i with prev := none }) ∧
        (s.st.swEnable i = true → tag &&& (tagInvalid + tagUnsettled) ≠ 0 → (t.sw i).set = (s.sw i).set ∧ (t.sw i).count = 0 ∧
          (t.sw i).changes = (s.sw i).changes ∧ (t.sw i).hist = (s.sw i).hist) ∧
        (s.st.swEnable i = true → tag &&& (tagInvalid + tagUnsettled) = 0 → (t.sw i).level = some level ∧
          (test = false → (t.sw i).set = (s.sw i).set ∧ (t.sw i).count = 0 ∧ (t.sw i).changes = (s.sw i).changes) ∧
          (test = true → (s.sw i).count < s.st.swDwell i → (t.sw i).set = (s.sw i).set ∧ (t.sw i).count = (s.sw i).count + 1 ∧
            (t.sw i).changes = (s.sw i).changes) ∧
          (test = true → s.st.swDwell i ≤ (s.sw i).count → (t.sw i).set = !(s.sw i).set ∧ (t.sw i).count = 0 ∧
            (t.sw i).changes = satInc (s.sw i).changes ∧ (t.sw i).lastDecision = t0 ∧
            (s.st.swNotify i = true → s.passedOpt (s.sw i).noticeTick (ms 1) = true → (t.sw i).noticeTick = some s.tick ∧ (t.sw i).sinceNotice = 0 ∧
              (s.st.unitsOn = [] → (t.que (s.st.swQ i)).posted ≤ (s.que (s.st.swQ i)).posted + 65536 →
                Notices s t (s.st.swQ i) 0x30 i (boolBit (!(s.sw i).set) 15 + satField 15 ((s.sw i).sinceNotice + 1)) (argT (t0 / 65536)))) ∧
            (s.st.swNotify i = false ∨ s.passedOpt (s.sw i).noticeTick (ms 1) = false → (t.sw i).sinceNotice = (s.sw i).sinceNotice + 1)) ∧
          (s.st.swAmbient i = true →
            (t.sw i).hist = (s.sw i).hist.upd 0 (t0 / (Config.epochNs * 65536) * 256 + s.st.ambBin i eng q) (fun n => n + 1)) ∧
          (s.st.swAmbient i = false → (t.sw i).hist = (s.sw i).hist)) ∧
        ((∃ p, p < 16 ∧ t.pinAsserted p = true ∧ s.pinAsserted p = false) → t.glb.intStatus.flag 6 = true))

/-- The combinations of a unit's sources (R216) and the record that its trigger opens (R218, R221, R241, R242, R247), at an edge of a TRIG_IO input:
with AND and K_OF_N the earliest closed interval of `coinc_us` around the event that holds events of enough sources makes the trigger, at its first or
its last instant, and the events wait where there is none; the record has the window, the entries and the place that the rules give it, or is refused.
The order of the events of one tick is log entry 19; a record that outgrows its room, and an entry without blocks, is 45. -/
def Obligations.CombinationsFireAndOpenRecords : Prop :=
  ∀ (s : State) (pin : Fin 8) (rising : Bool) (frac : Fin 64) (u k : Nat), s.ub = none → s.glb.state ≠ .reset → s.st.isOutPin pin = false →
    bitOf s.path.trigIn pin = !rising → s.pathRuns = true → s.st.unitsOn = [u] → k < 8 → k < s.st.trSources u →
    (∀ j, j < 8 → j < s.st.trSources u → ((s.st.srcType u j = if rising then 3 else 4) ∧ s.st.srcArg u j = pin.val ↔ j = k)) →
    ∃ t, exec (.trigIoEdge pin rising frac) s = .next t ∧
      let te := s.fine + frac.val * 5120
      let held := (s.trig u).held.filter (fun h => h.1 != k) ++ [(k, te, none)]
      let W : Int := fineUs (s.st.trCoincUs u)
      let need := if s.st.trCombine u = 1 then s.st.trSources u else max 1 (s.st.trK u)
      (s.st.trCombine u ≠ 0 → (∀ a : Int, a ≤ te → te ≤ a + W → (inInterval held a W).length < need) →
        t.trig u = { s.trig u with held := held } ∧ UnchangedBut [.units, .path] s t) ∧
      (∀ a : Int, s.st.trCombine u ≠ 0 → a ≤ te → te ≤ a + W → need ≤ (inInterval held a W).length →
        (∀ b : Int, b < a → te ≤ b + W → (inInterval held b W).length < need) → t.ub = none →
        let point := pointOf (s.st.trPickLast u) (inInterval held a W)
        ((s.trig u).freewheel.holds point = true → Suppressed s t u) ∧ ((s.trig u).freewheel.holds point = false → Fires s t u point)) ∧
      (s.st.trCombine u = 0 → (s.trig u).freewheel.holds te = false → s.runningRecord u = none →
        let es := (s.st.trStreams u).flatMap (fun i => s.entriesOf i te (te - fineUs (s.st.trPreUs u)) (te + fineUs (s.st.trPostUs u)))
        let set := s.st.trRecSet u
        let w := s.stall set
        let size := descriptorSize es.length
        es.length ≤ 2048 →
        (∀ bad, s.overPins es (fun _ _ => false) = some bad → (t.stall bad).refused = satInc (s.stall bad).refused ∧
          (∀ j, (t.stall j).records = (s.stall j).records) ∧
          (t.trig u).counted = satInc (s.trig u).counted ∧ Notices s t (s.st.trQ u) 0x3B bad u (argT (te / 65536)) ∧
          Notices s t (s.st.trQ u) 0x32 (3 * 256 + u) (te % 65536) (argT (te / 65536))) ∧
        (∀ p, s.overPins es (fun _ _ => false) = none → w.page = some p → w.offset + size ≤ 65536 →
          (t.trig u).running = some (set, w.nextRecord) ∧ (t.trig u).fired = satInc (s.trig u).fired ∧
          (t.stall set).nextRecord = (w.nextRecord + 1) % 2 ^ 32 ∧ (t.stall set).page = some p ∧ (t.stall set).offset = w.offset + size ∧
          ∃ r ∈ (t.stall set).records, r.number = w.nextRecord ∧ r.unit = u ∧ r.point = te ∧ r.winStart = te - fineUs (s.st.trPreUs u) ∧
            r.winEnd = te + fineUs (s.st.trPostUs u) ∧ r.retriggers = 0 ∧ r.extended = false ∧ r.remote = false ∧ r.originHub = s.lnk.rim.addr ∧
            r.originUnit = u ∧ r.page = p ∧ r.addr = pageBase p + w.offset ∧ r.size = size ∧ r.openTick = s.tick ∧
            ((∀ e ∈ es, e.done = true) → r.state = .complete) ∧
            ((∃ e ∈ es, e.live = true ∧ e.done = false ∧ ∀ x ∈ s.path.stalls, ∀ q ∈ x.2.runs, q.stream ≠ e.stream) → r.state = .opened) ∧
            r.entries.map (fun e => (e.stream, e.w3, e.first, e.last, e.preUs)) = es.map (fun e => (e.stream, e.w3, e.first, e.last, e.preUs))))

/-- Pages, overruns, lost marks and the completion of records (R238 to R240, R244, R246, R256), where a final block is written: in the page being
filled where it fits, else at the start of the next page in ascending order that no record pins, as a key block; what that page held is discarded. A
hub that does not publish is log entry 24, the order of placing 18, overruns that are told later 19, moved streams 44, a record's room 45. -/
def Obligations.PagesAreReusedAndRecordsCompleted : Prop :=
  ∀ (s : State) (i : Fin 16384) (c : ClosedBlock) (rest : List ClosedBlock), s.ub = none → s.glb.state ≠ .reset → (s.strm i).closed = c :: rest →
    c.interim = false → c.again = false → s.st.stored i = true → (∀ x ∈ s.allRecords, x.2.openTick ≠ s.tick) →
    ∃ t, exec (.blockPlace i) s = .next t ∧
      let k := s.st.stallOf i
      let w := s.stall k
      let base := s.st.basePage k
      let n := s.st.pages k
      (w.fits c.bytes.length = true → c.key = true ∨ w.freshPage = false → (t.stall k).page = w.page ∧
        (t.stall k).offset = w.offset + sectors c.bytes.length ∧ (t.stall k).overruns = w.overruns ∧ (t.stall k).marks = w.marks ∧
        ∃ h, (t.stall k).held = w.held ++ [h] ∧ h.page = w.page.getD base ∧ h.addr = pageBase (w.page.getD base) + w.offset ∧ h.key = c.key ∧
          h.size = c.bytes.length ∧ h.stream = i.val ∧ h.seq = c.block.seq ∧ h.sent = false) ∧
      (∀ d from_, (s.strm i).gapReset = false ∨ s.allRecords = [] → w.fits c.bytes.length = false → from_ = (match w.page with | none => 0 | some q => q + 1 - base) → d < n →
        base + (from_ + d) % n ∉ s.pinned k → (∀ e, e < d → base + (from_ + e) % n ∈ s.pinned k) →
        let p := base + (from_ + d) % n
        let lost := w.finals.filter (fun b => b.page == p && !w.isAcked b)
        (t.stall k).page = some p ∧
        (∃ h ∈ (t.stall k).held, h.page = p ∧ h.addr = pageBase p ∧ h.key = true ∧ h.stream = i.val ∧ h.seq = c.block.seq ∧ h.w3 = c.block.w3 ∧
          (t.stall k).offset = sectors h.size ∧ (∀ b ∈ (t.stall k).held, b.page = p → b = h)) ∧
        (∀ b ∈ w.held, b.page ≠ p → b ∈ (t.stall k).held) ∧ (∀ r ∈ (t.stall k).records, r.state = .released → r.page ≠ p) ∧
        (lost = [] → (t.stall k).overruns = w.overruns ∧ (t.stall k).overrun = w.overrun) ∧
        (∀ b, lost.head? = some b → (s.st.sent b.stream = false ∨ s.st.stallOf b.stream ≠ k) →
          (t.stall k).overruns = w.overruns ∧ (t.stall k).overrun = w.overrun) ∧
        (∀ b, lost.head? = some b → s.st.sent b.stream = true → s.st.stallOf b.stream = k →
          (t.stall k).overrun = true ∧ (t.stall k).overruns = satAdd w.overruns lost.length ∧
          (s.passedOpt w.overTick (100 * Config.ticksPerMs) = false → (t.stall k).overNote = w.overNote + lost.length) ∧
          (s.passedOpt w.overTick (100 * Config.ticksPerMs) = true → (t.stall k).overNote = 0 ∧ (t.stall k).overTick = some s.tick ∧
            (s.allRecords = [] → base + n ≤ 0x3FC00 → (∀ h ∈ (t.stall k).held, h.size ≤ 65536) →
              Notices s t (s.st.streamQ b.stream) 0x38 b.stream (w.overNote + lost.length) (argT (if w.overNote = 0 then b.seq else w.overFirst)))) ∧
          (∀ x ∈ lost, x.sent = false → s.publishes = true → ∀ g ∈ w.spans x.ord (x.ord + 1), ∃ h ∈ (t.stall k).gaps, h.cause = 1 ∧
            h.stream = g.stream ∧ h.w3 = g.w3 ∧ h.first ≤ g.first ∧ g.last ≤ h.last)) ∧
        (∀ m x, m < 4 → w.marks.getD m {} = x → x.valid = true →
          ((∃ b ∈ w.finals, b.page = p ∧ b.stream = x.stream ∧ b.w3 = x.w3 ∧ b.seq = x.seq) →
            (t.stall k).marks.getD m {} = { x with valid := false, overtaken := true } ∧
            (s.allRecords = [] → base + n ≤ 0x3FC00 → (∀ h ∈ (t.stall k).held, h.size ≤ 65536) → Notices s t (s.st.stallQ k) 0x3D k m (argT x.seq))) ∧
          ((∀ b ∈ w.finals, b.page = p → ¬(b.stream = x.stream ∧ b.w3 = x.w3 ∧ b.seq = x.seq)) → (t.stall k).marks.getD m {} = x))) ∧
      (s.allRecords = [] → StallsKept [k] s t) ∧
      (∀ j r e, s.allRecords = [(j, r)] → (s.stall j).records = [r] → (∀ x ∈ s.path.stalls, x.1 = k ∨ x.1 = j) → r.state = .opened → r.entries = [e] →
        e.stream = i.val → e.live = true → e.done = false → e.w3 = c.block.w3 → e.last = c.block.seq →
        w.fits c.bytes.length = true → c.key = true ∨ w.freshPage = false →
        (∀ b ∈ (s.strm i).block.toList ++ (s.strm i).ready ++ (rest.filter (fun x => !x.interim)).map (·.block), ¬(b.w3 = c.block.w3 ∧ b.seq = c.block.seq)) →
        (∃ q, t.recordOf j r.number = some q ∧ q.state = .complete ∧ q.doneTime = s.now ∧ q.doneTick = s.tick ∧ q.point = r.point ∧
          q.entries = [{ e with done := true, reserve := 0 }]) ∧ Notices s t (s.st.trQ r.unit) 0x39 j 1 (argSX s.now r.number))
end

