-- ==== Sys2Proof/Laws/Frame.lean ====
section
/-! SUPPORT. Frames: the state with the parts that an operation may touch blanked out. For each operation of the machine one lemma
says that the rest of the state is as before (`Laws/Frames*.lean`); a mask says which parts are blanked. -/

namespace Sys2Proof.Machine

/-- `d` where the mask has bit `i`, else `x`. -/
def masked {α : Type} (m i : Nat) (d x : α) : α := bif m.testBit i then d else x

def blankGlb (m : Nat) (g : Glb) : Glb :=
  { masked m 5 {} g with
    state := masked m 3 .reset g.state, prev := masked m 3 .reset g.prev, intStatus := masked m 4 0 g.intStatus
    fresh := masked m 4 (0, 0) g.fresh, vecTick := masked m 4 none g.vecTick, msixPending := masked m 4 [] g.msixPending }

/-- The interrupt status and the marks of what set and sent it (R501). -/
def intMarks (g : Glb) : Word × (Nat × Word) × Option Nat × List Nat := (g.intStatus, g.fresh, g.vecTick, g.msixPending)

def blankTmb (m : Nat) (t : Tmb) : Tmb := { masked m 7 {} t with counter := masked m 6 0 t.counter }

def blankCfg (m : Nat) (c : Cfg) : Cfg := { masked m 9 {} c with committed := masked m 8 {} c.committed }

def blankPath (m : Nat) (p : Path) : Path :=
  { masked m 18 {} p with
    spokes := masked m 10 [] p.spokes, looks := masked m 11 [] p.looks, mods := masked m 12 [] p.mods
    switches := masked m 13 [] p.switches, units := masked m 14 [] p.units, streams := masked m 15 [] p.streams
    stalls := masked m 16 [] p.stalls, jobs := masked m 17 [] p.jobs }

/-- A master's records but for the credit. -/
def blankMst (m : Nat) (r : MasterRec) : MasterRec := { masked m 23 {} r with credit := masked m 22 0 r.credit }

def blankCmd (m : Nat) (c : Cmd) : Cmd :=
  { spi := blankMst m c.spi, pcie := blankMst m c.pcie, rim := blankMst m c.rim, tandem := blankMst m c.tandem
    queue := masked m 21 [] c.queue, long := masked m 21 [] c.long }

def blankMem (m : Nat) (x : Mem) : Mem :=
  { masked m 27 {} x with pad := masked m 25 [] x.pad, store := masked m 26 [] x.store }

def blankLnk (m : Nat) (k : Lnk) : Lnk := { lanes := masked m 30 [] k.lanes, rim := masked m 31 {} k.rim }

/-- The state without the parts that the mask names. -/
def blank (m : Nat) (s : State) : State :=
  { pending := s.pending
    ub := masked m 0 none s.ub
    freeCount := masked m 1 0 s.freeCount
    out := masked m 2 [] s.out
    glb := blankGlb m s.glb
    tmb := blankTmb m s.tmb
    cfg := blankCfg m s.cfg
    path := blankPath m s.path
    lace := masked m 19 {} s.lace
    crier := masked m 20 {} s.crier
    cmd := blankCmd m s.cmd
    host := masked m 24 {} s.host
    mem := blankMem m s.mem
    cal := masked m 28 {} s.cal
    hlt := masked m 29 {} s.hlt
    lnk := blankLnk m s.lnk
    tdm := masked m 32 {} s.tdm
    ldr := masked m 33 {} s.ldr
    snap := masked m 34 {} s.snap }

/-! ### More blanked leaves less -/

theorem masked_masked {α : Type} {n m : Nat} (h : n &&& m = n) (i : Nat) (d x : α) : masked m i d (masked n i d x) = masked m i d x := by
  have hb : n.testBit i = true → m.testBit i = true := by
    intro hn
    have := congrArg (fun k => k.testBit i) h
    simp only [Nat.testBit_and, hn, Bool.true_and] at this
    exact this
  unfold masked
  cases hm : m.testBit i <;> cases hn : n.testBit i <;> simp_all

theorem bit_mono {n m : Nat} (h : n &&& m = n) (i : Nat) (hn : n.testBit i = true) : m.testBit i = true := by
  have := congrArg (fun k => k.testBit i) h
  simp only [Nat.testBit_and, hn, Bool.true_and] at this
  exact this

theorem blankGlb_blankGlb {n m : Nat} (h : n &&& m = n) (x : Glb) : blankGlb m (blankGlb n x) = blankGlb m x := by
  have hb := bit_mono h 5
  simp only [blankGlb]
  congr 1 <;> first
    | exact masked_masked h _ _ _
    | (unfold masked; cases hm : m.testBit 5 <;> cases hn : n.testBit 5 <;> simp_all)

theorem blankTmb_blankTmb {n m : Nat} (h : n &&& m = n) (x : Tmb) : blankTmb m (blankTmb n x) = blankTmb m x := by
  have hb := bit_mono h 7
  simp only [blankTmb]
  congr 1 <;> first
    | exact masked_masked h _ _ _
    | (unfold masked; cases hm : m.testBit 7 <;> cases hn : n.testBit 7 <;> simp_all)

theorem blankCfg_blankCfg {n m : Nat} (h : n &&& m = n) (x : Cfg) : blankCfg m (blankCfg n x) = blankCfg m x := by
  have hb := bit_mono h 9
  simp only [blankCfg]
  congr 1 <;> first
    | exact masked_masked h _ _ _
    | (unfold masked; cases hm : m.testBit 9 <;> cases hn : n.testBit 9 <;> simp_all)

theorem blankPath_blankPath {n m : Nat} (h : n &&& m = n) (x : Path) : blankPath m (blankPath n x) = blankPath m x := by
  have hb := bit_mono h 18
  simp only [blankPath]
  congr 1 <;> first
    | exact masked_masked h _ _ _
    | (unfold masked; cases hm : m.testBit 18 <;> cases hn : n.testBit 18 <;> simp_all)

theorem blankMst_blankMst {n m : Nat} (h : n &&& m = n) (x : MasterRec) : blankMst m (blankMst n x) = blankMst m x := by
  have hb := bit_mono h 23
  simp only [blankMst]
  congr 1 <;> first
    | exact masked_masked h _ _ _
    | (unfold masked; cases hm : m.testBit 23 <;> cases hn : n.testBit 23 <;> simp_all)

theorem blankMem_blankMem {n m : Nat} (h : n &&& m = n) (x : Mem) : blankMem m (blankMem n x) = blankMem m x := by
  have hb := bit_mono h 27
  simp only [blankMem]
  congr 1 <;> first
    | exact masked_masked h _ _ _
    | (unfold masked; cases hm : m.testBit 27 <;> cases hn : n.testBit 27 <;> simp_all)

theorem blankCmd_blankCmd {n m : Nat} (h : n &&& m = n) (x : Cmd) : blankCmd m (blankCmd n x) = blankCmd m x := by
  simp only [blankCmd, masked_masked h, blankMst_blankMst h]

theorem blankLnk_blankLnk {n m : Nat} (h : n &&& m = n) (x : Lnk) : blankLnk m (blankLnk n x) = blankLnk m x := by
  simp only [blankLnk, masked_masked h]

theorem blank_blank {n m : Nat} (h : n &&& m = n) (s : State) : blank m (blank n s) = blank m s := by
  simp only [blank, masked_masked h, blankGlb_blankGlb h, blankTmb_blankTmb h, blankCfg_blankCfg h, blankPath_blankPath h,
    blankCmd_blankCmd h, blankMem_blankMem h, blankLnk_blankLnk h]

theorem blank_mask {k n m : Nat} (h : n &&& m = n) (hk : k &&& n = k) : k &&& m = k := by
  rw [← hk, Nat.and_assoc, h]

/-- What agrees outside a mask agrees outside a larger one. -/
theorem blank_mono {n m : Nat} (h : n &&& m = n) {s t : State} (e : blank n s = blank n t) : blank m s = blank m t := by
  rw [← blank_blank h s, ← blank_blank h t, e]

/-! ### The basic updates -/

theorem upGlb_frame {m : Nat} {s : State} {f : Glb → Glb} (h_state : m.testBit 3 = true ∨ (f s.glb).state = s.glb.state)
    (h_prev : m.testBit 3 = true ∨ (f s.glb).prev = s.glb.prev)
    (h_intStatus : m.testBit 4 = true ∨ intMarks (f s.glb) = intMarks s.glb)
    (h_rest : m.testBit 5 = true ∨ { f s.glb with
      state := s.glb.state, prev := s.glb.prev, intStatus := s.glb.intStatus, fresh := s.glb.fresh, vecTick := s.glb.vecTick
      msixPending := s.glb.msixPending } = s.glb) :
    blank m (s.upGlb f) = blank m s := by
  have e : blankGlb m (f s.glb) = blankGlb m s.glb := by
    generalize f s.glb = y at *
    generalize s.glb = x at *
    simp only [blankGlb]
    congr 1
    all_goals first
      | (rcases h_state with h | h <;> simp only [masked, h, cond_true]; done)
      | (rcases h_prev with h | h <;> simp only [masked, h, cond_true]; done)
      | (rcases h_intStatus with h | h
         · simp only [masked, h, cond_true]
         · simp only [intMarks, Prod.mk.injEq] at h; simp only [h])
      | (rcases h_rest with h | h
         · simp only [masked, h, cond_true]
         · cases x; cases y; simp only [masked]; cases m.testBit 5 <;> simp_all)
  simp only [blank, State.upGlb, e]
theorem upTmb_frame {m : Nat} {s : State} {f : Tmb → Tmb} (h_counter : m.testBit 6 = true ∨ (f s.tmb).counter = s.tmb.counter)
    (h_rest : m.testBit 7 = true ∨ { f s.tmb with counter := s.tmb.counter } = s.tmb) :
    blank m (s.upTmb f) = blank m s := by
  have e : blankTmb m (f s.tmb) = blankTmb m s.tmb := by
    generalize f s.tmb = y at *
    generalize s.tmb = x at *
    simp only [blankTmb]
    congr 1
    all_goals first
      | (rcases h_counter with h | h <;> simp only [masked, h, cond_true]; done)
      | (rcases h_rest with h | h
         · simp only [masked, h, cond_true]
         · cases x; cases y; simp only [masked]; cases m.testBit 7 <;> simp_all)
  simp only [blank, State.upTmb, e]
theorem upCfg_frame {m : Nat} {s : State} {f : Cfg → Cfg} (h_committed : m.testBit 8 = true ∨ (f s.cfg).committed = s.cfg.committed)
    (h_rest : m.testBit 9 = true ∨ { f s.cfg with committed := s.cfg.committed } = s.cfg) :
    blank m (s.upCfg f) = blank m s := by
  have e : blankCfg m (f s.cfg) = blankCfg m s.cfg := by
    generalize f s.cfg = y at *
    generalize s.cfg = x at *
    simp only [blankCfg]
    congr 1
    all_goals first
      | (rcases h_committed with h | h <;> simp only [masked, h, cond_true]; done)
      | (rcases h_rest with h | h
         · simp only [masked, h, cond_true]
         · cases x; cases y; simp only [masked]; cases m.testBit 9 <;> simp_all)
  simp only [blank, State.upCfg, e]
theorem upPath_frame {m : Nat} {s : State} {f : Path → Path} (h_spokes : m.testBit 10 = true ∨ (f s.path).spokes = s.path.spokes)
    (h_looks : m.testBit 11 = true ∨ (f s.path).looks = s.path.looks)
    (h_mods : m.testBit 12 = true ∨ (f s.path).mods = s.path.mods)
    (h_switches : m.testBit 13 = true ∨ (f s.path).switches = s.path.switches)
    (h_units : m.testBit 14 = true ∨ (f s.path).units = s.path.units)
    (h_streams : m.testBit 15 = true ∨ (f s.path).streams = s.path.streams)
    (h_stalls : m.testBit 16 = true ∨ (f s.path).stalls = s.path.stalls)
    (h_jobs : m.testBit 17 = true ∨ (f s.path).jobs = s.path.jobs)
    (h_rest : m.testBit 18 = true ∨ { f s.path with spokes := s.path.spokes, looks := s.path.looks, mods := s.path.mods, switches := s.path.switches, units := s.path.units, streams := s.path.streams, stalls := s.path.stalls, jobs := s.path.jobs } = s.path) :
    blank m (s.upPath f) = blank m s := by
  have e : blankPath m (f s.path) = blankPath m s.path := by
    generalize f s.path = y at *
    generalize s.path = x at *
    simp only [blankPath]
    congr 1
    all_goals first
      | (rcases h_spokes with h | h <;> simp only [masked, h, cond_true]; done)
      | (rcases h_looks with h | h <;> simp only [masked, h, cond_true]; done)
      | (rcases h_mods with h | h <;> simp only [masked, h, cond_true]; done)
      | (rcases h_switches with h | h <;> simp only [masked, h, cond_true]; done)
      | (rcases h_units with h | h <;> simp only [masked, h, cond_true]; done)
      | (rcases h_streams with h | h <;> simp only [masked, h, cond_true]; done)
      | (rcases h_stalls with h | h <;> simp only [masked, h, cond_true]; done)
      | (rcases h_jobs with h | h <;> simp only [masked, h, cond_true]; done)
      | (rcases h_rest with h | h
         · simp only [masked, h, cond_true]
         · cases x; cases y; simp only [masked]; cases m.testBit 18 <;> simp_all)
  simp only [blank, State.upPath, e]
theorem upMem_frame {m : Nat} {s : State} {f : Mem → Mem} (h_pad : m.testBit 25 = true ∨ (f s.mem).pad = s.mem.pad)
    (h_store : m.testBit 26 = true ∨ (f s.mem).store = s.mem.store)
    (h_rest : m.testBit 27 = true ∨ { f s.mem with pad := s.mem.pad, store := s.mem.store } = s.mem) :
    blank m (s.upMem f) = blank m s := by
  have e : blankMem m (f s.mem) = blankMem m s.mem := by
    generalize f s.mem = y at *
    generalize s.mem = x at *
    simp only [blankMem]
    congr 1
    all_goals first
      | (rcases h_pad with h | h <;> simp only [masked, h, cond_true]; done)
      | (rcases h_store with h | h <;> simp only [masked, h, cond_true]; done)
      | (rcases h_rest with h | h
         · simp only [masked, h, cond_true]
         · cases x; cases y; simp only [masked]; cases m.testBit 27 <;> simp_all)
  simp only [blank, State.upMem, e]
theorem upLnk_frame {m : Nat} {s : State} {f : Lnk → Lnk} (h_lanes : m.testBit 30 = true ∨ (f s.lnk).lanes = s.lnk.lanes)
    (h_rim : m.testBit 31 = true ∨ (f s.lnk).rim = s.lnk.rim) :
    blank m (s.upLnk f) = blank m s := by
  have e : blankLnk m (f s.lnk) = blankLnk m s.lnk := by
    generalize f s.lnk = y at *
    generalize s.lnk = x at *
    simp only [blankLnk]
    congr 1
    all_goals first
      | (rcases h_lanes with h | h <;> simp only [masked, h, cond_true]; done)
      | (rcases h_rim with h | h <;> simp only [masked, h, cond_true]; done)
  simp only [blank, State.upLnk, e]
theorem upCmd_frame {m : Nat} {s : State} {f : Cmd → Cmd} (h_spi : (f s.cmd).spi = s.cmd.spi) (h_pcie : (f s.cmd).pcie = s.cmd.pcie)
    (h_rim : (f s.cmd).rim = s.cmd.rim) (h_tandem : (f s.cmd).tandem = s.cmd.tandem)
    (h_queue : m.testBit 21 = true ∨ (f s.cmd).queue = s.cmd.queue) (h_long : m.testBit 21 = true ∨ (f s.cmd).long = s.cmd.long) :
    blank m (s.upCmd f) = blank m s := by
  have e : blankCmd m (f s.cmd) = blankCmd m s.cmd := by
    generalize f s.cmd = y at *
    generalize s.cmd = x at *
    simp only [blankCmd, h_spi, h_pcie, h_rim, h_tandem]
    congr 1
    · rcases h_queue with h | h <;> simp only [masked, h, cond_true]
    · rcases h_long with h | h <;> simp only [masked, h, cond_true]
  simp only [blank, State.upCmd, e]
theorem upMst_frame {m : Nat} {s : State} {k : Master} {f : MasterRec → MasterRec} (h : 8388608 &&& m = 8388608)
    (h_credit : m.testBit 22 = true ∨ ∀ r, (f r).credit = r.credit) : blank m (s.upMst k f) = blank m s := by
  have hm : m.testBit 23 = true := bit_mono h 23 rfl
  have e : ∀ r, blankMst m (f r) = blankMst m r := by
    intro r
    simp only [blankMst, masked, hm, cond_true]
    rcases h_credit with h' | h' <;> simp only [h', cond_true]
  cases k <;> simp only [blank, State.upMst, State.upCmd, blankCmd, e]
theorem upLace_frame {m : Nat} {s : State} {f : LaceBlock → LaceBlock} (h : 524288 &&& m = 524288) : blank m (s.upLace f) = blank m s := blank_mono h rfl
theorem upCrier_frame {m : Nat} {s : State} {f : Crier → Crier} (h : 1048576 &&& m = 1048576) : blank m (s.upCrier f) = blank m s := blank_mono h rfl
theorem upHost_frame {m : Nat} {s : State} {f : HostPorts → HostPorts} (h : 16777216 &&& m = 16777216) : blank m (s.upHost f) = blank m s := blank_mono h rfl
theorem upCal_frame {m : Nat} {s : State} {f : Cal → Cal} (h : 268435456 &&& m = 268435456) : blank m (s.upCal f) = blank m s := blank_mono h rfl
theorem upHlt_frame {m : Nat} {s : State} {f : Hlt → Hlt} (h : 536870912 &&& m = 536870912) : blank m (s.upHlt f) = blank m s := blank_mono h rfl
theorem upTdm_frame {m : Nat} {s : State} {f : Tdm → Tdm} (h : 4294967296 &&& m = 4294967296) : blank m (s.upTdm f) = blank m s := blank_mono h rfl
theorem upLdr_frame {m : Nat} {s : State} {f : Ldr → Ldr} (h : 8589934592 &&& m = 8589934592) : blank m (s.upLdr f) = blank m s := blank_mono h rfl
theorem upSnap_frame {m : Nat} {s : State} {f : Snap → Snap} (h : 17179869184 &&& m = 17179869184) : blank m (s.upSnap f) = blank m s := blank_mono h rfl
theorem emit_frame {m : Nat} {s : State} {o : Out} (h : 4 &&& m = 4) : blank m (s.emit o) = blank m s := blank_mono h rfl
theorem draw_frame {m : Nat} {s : State} (h : 2 &&& m = 2) : blank m s.draw = blank m s := blank_mono h rfl
theorem endSpan_frame {m : Nat} {s : State} (h : 1 &&& m = 1) : blank m s.endSpan = blank m s := blank_mono h rfl
theorem undefinedUse_frame {m : Nat} {s : State} {r : Nat} (h : 1 &&& m = 1) : blank m (s.undefinedUse r) = blank m s := by
  unfold State.undefinedUse; split
  · exact blank_mono h rfl
  · rfl

/-! ### The entries of the tables -/

theorem upSpoke_frame {m : Nat} {s : State} {i : Nat} {f : Spoke → Spoke} (h : 1024 &&& m = 1024) : blank m (s.upSpoke i f) = blank m s := blank_mono h rfl
theorem upLook_frame {m : Nat} {s : State} {i : Nat} {f : Look → Look} (h : 2048 &&& m = 2048) : blank m (s.upLook i f) = blank m s := blank_mono h rfl
theorem upModu_frame {m : Nat} {s : State} {i : Nat} {f : Modu → Modu} (h : 4096 &&& m = 4096) : blank m (s.upModu i f) = blank m s := blank_mono h rfl
theorem upSw_frame {m : Nat} {s : State} {i : Nat} {f : Switch → Switch} (h : 8192 &&& m = 8192) : blank m (s.upSw i f) = blank m s := blank_mono h rfl
theorem upTrig_frame {m : Nat} {s : State} {i : Nat} {f : TrigUnit → TrigUnit} (h : 16384 &&& m = 16384) : blank m (s.upTrig i f) = blank m s := blank_mono h rfl
theorem upStrm_frame {m : Nat} {s : State} {i : Nat} {f : StreamRec → StreamRec} (h : 32768 &&& m = 32768) : blank m (s.upStrm i f) = blank m s := blank_mono h rfl
theorem upStall_frame {m : Nat} {s : State} {i : Nat} {f : Stall → Stall} (h : 65536 &&& m = 65536) : blank m (s.upStall i f) = blank m s := blank_mono h rfl
theorem upJob_frame {m : Nat} {s : State} {i : Nat} {f : Job → Job} (h : 131072 &&& m = 131072) : blank m (s.upJob i f) = blank m s := blank_mono h rfl
theorem upEngine_frame {m : Nat} {s : State} {i : Nat} {f : Engine → Engine} (h : 262144 &&& m = 262144) : blank m (s.upEngine i f) = blank m s := blank_mono h rfl
theorem upLaceOf_frame {m : Nat} {s : State} {i : Nat} {f : Lace → Lace} (h : 524288 &&& m = 524288) : blank m (s.upLaceOf i f) = blank m s :=
  upLace_frame h
theorem upQue_frame {m : Nat} {s : State} {i : Nat} {f : Queue → Queue} (h : 1048576 &&& m = 1048576) : blank m (s.upQue i f) = blank m s :=
  upCrier_frame h
theorem upRing_frame {m : Nat} {s : State} {i : Nat} {f : Ring → Ring} (h : 16777216 &&& m = 16777216) : blank m (s.upRing i f) = blank m s :=
  upHost_frame h
theorem upWindow_frame {m : Nat} {s : State} {i : Nat} {f : Window → Window} (h : 536870912 &&& m = 536870912) : blank m (s.upWindow i f) = blank m s :=
  upHlt_frame h
theorem upBank_frame {m : Nat} {s : State} {i : Nat} {f : Bank → Bank} (h : 134217728 &&& m = 134217728) : blank m (s.upBank i f) = blank m s := blank_mono h rfl
theorem upMemUnit_frame {m : Nat} {s : State} {i : Nat} {f : MemUnit → MemUnit} (h : 134217728 &&& m = 134217728) : blank m (s.upMemUnit i f) = blank m s := blank_mono h rfl
theorem upLane_frame {m : Nat} {s : State} {i : Nat} {f : Lane → Lane} (h : 1073741824 &&& m = 1073741824) : blank m (s.upLane i f) = blank m s := blank_mono h rfl
theorem upRim_frame {m : Nat} {s : State} {f : Rim → Rim} (h : 2147483648 &&& m = 2147483648) : blank m (s.upRim f) = blank m s := blank_mono h rfl
theorem upPort_frame {m : Nat} {s : State} {p : Port} {f : RimPort → RimPort} (h : 2147483648 &&& m = 2147483648) : blank m (s.upPort p f) = blank m s :=
  upRim_frame h
theorem upPtp_frame {m : Nat} {s : State} {p : Port} {f : PtpPort → PtpPort} (h : 128 &&& m = 128) : blank m (s.upPtp p f) = blank m s := by
  cases p <;> exact blank_mono h rfl

/-! ### Branches and repetition -/

theorem ite_left_frame {m : Nat} {c : Prop} [Decidable c] {a b : State} (h : blank m a = blank m b) : blank m (if c then a else b) = blank m b := by
  split
  · exact h
  · rfl
theorem ite_right_frame {m : Nat} {c : Prop} [Decidable c] {a b : State} (h : blank m b = blank m a) : blank m (if c then a else b) = blank m a := by
  split
  · rfl
  · exact h
theorem ite_both_frame {m : Nat} {c : Prop} [Decidable c] {a b r : State} (ha : blank m a = blank m r) (hb : blank m b = blank m r) :
    blank m (if c then a else b) = blank m r := by
  split <;> assumption
theorem ite_both_fst_frame {α : Type} {m : Nat} {c : Prop} [Decidable c] {a b : State × α} {r : State} (ha : blank m a.1 = blank m r)
    (hb : blank m b.1 = blank m r) : blank m (if c then a else b).1 = blank m r := by
  split <;> assumption
theorem forEach_frame {α : Type} {m : Nat} {l : List α} {s : State} {f : State → α → State} (hf : ∀ s a, blank m (f s a) = blank m s) :
    blank m (forEach l s f) = blank m s := by
  unfold forEach
  induction l generalizing s with
  | nil => rfl
  | cons a l ih => rw [List.foldl_cons, ih, hf]
theorem forEach_fst_frame {α β : Type} {m : Nat} {l : List α} {s : State × β} {f : State × β → α → State × β}
    (hf : ∀ s a, blank m (f s a).1 = blank m s.1) : blank m (forEach l s f).1 = blank m s.1 := by
  unfold forEach
  induction l generalizing s with
  | nil => rfl
  | cons a l ih => rw [List.foldl_cons, ih, hf]
theorem foldl_frame {α : Type} {m : Nat} {l : List α} {s : State} {f : State → α → State} (hf : ∀ s a, blank m (f s a) = blank m s) :
    blank m (l.foldl f s) = blank m s := forEach_frame hf
theorem foldl_fst_frame {α β : Type} {m : Nat} {l : List α} {s : State × β} {f : State × β → α → State × β}
    (hf : ∀ s a, blank m (f s a).1 = blank m s.1) : blank m (l.foldl f s).1 = blank m s.1 := forEach_fst_frame hf
theorem foldl_option_frame {α : Type} {m : Nat} {l : List α} {s t : State} {f : State → α → Option State}
    (hf : ∀ s t a, f s a = some t → blank m t = blank m s) (h : l.foldl (fun o a => o.bind fun s => f s a) (some s) = some t) :
    blank m t = blank m s := by
  induction l generalizing s with
  | nil => cases h; rfl
  | cons a l ih =>
    rw [List.foldl_cons, Option.bind_some] at h
    cases e : f s a with
    | none =>
      rw [e] at h
      exfalso
      clear ih e hf
      induction l with
      | nil => cases h
      | cons b l ih => exact ih h
    | some u => rw [e] at h; exact (ih h).trans (hf _ _ _ e)

end Sys2Proof.Machine
end

