-- ==== Sys2Proof/Laws/FrameOps.lean ====
section
/-! SUPPORT. Frames of the operations of Machine/Ops.lean: what each leaves as it was. -/

namespace Sys2Proof.Machine

theorem occurs_frame {m : Nat} {s : State} {c : Bool} {f : State → State} (hf : ∀ s, blank m (f s) = blank m s) :
    blank m (occurs s c f) = blank m s := by
  unfold occurs; split
  · exact hf s
  · rfl

theorem State.reanchor_frame {M : Nat} {s : State} (hM : 128 &&& M = 128) : blank M (State.reanchor s) = blank M s := blank_mono hM (by
  unfold State.reanchor
  repeat'
    first
    | with_reducible rfl
    | with_reducible refine (upTmb_frame ?_ ?_).trans ?_
    | exact Or.inl rfl
    | exact Or.inr rfl
    | exact Or.inr fun _ => rfl
    | exact (rfl : (_ : MasterRec) = _)
    | with_reducible refine ite_both_frame ?_ ?_
    | with_reducible refine ite_both_fst_frame ?_ ?_
    | split
    | dsimp only)

theorem State.setNco_frame {M : Nat} {s : State} {rate : Nat} (hM : 128 &&& M = 128) : blank M (State.setNco s rate) = blank M s := blank_mono hM (by
  unfold State.setNco
  repeat'
    first
    | with_reducible rfl
    | with_reducible refine (upTmb_frame ?_ ?_).trans ?_
    | exact Or.inl rfl
    | exact Or.inr rfl
    | exact Or.inr fun _ => rfl
    | exact (rfl : (_ : MasterRec) = _)
    | split
    | dsimp only)

theorem State.setRate_frame {M : Nat} {s : State} {est : Nat} {extra : Int} (hM : 128 &&& M = 128) : blank M (State.setRate s est extra) = blank M s := blank_mono hM (by
  unfold State.setRate
  repeat'
    first
    | with_reducible rfl
    | with_reducible refine (upTmb_frame ?_ ?_).trans ?_
    | with_reducible refine (State.reanchor_frame (by decide)).trans ?_
    | with_reducible refine (State.setNco_frame (by decide)).trans ?_
    | exact Or.inl rfl
    | exact Or.inr rfl
    | exact Or.inr fun _ => rfl
    | exact (rfl : (_ : MasterRec) = _)
    | with_reducible refine ite_both_frame ?_ ?_
    | with_reducible refine ite_both_fst_frame ?_ ?_
    | split
    | dsimp only)

theorem State.endSlew_frame {M : Nat} {s : State} (hM : 128 &&& M = 128) : blank M (State.endSlew s) = blank M s := blank_mono hM (by
  unfold State.endSlew
  repeat'
    first
    | with_reducible rfl
    | with_reducible refine (upTmb_frame ?_ ?_).trans ?_
    | with_reducible refine (State.setRate_frame (by decide)).trans ?_
    | exact Or.inl rfl
    | exact Or.inr rfl
    | exact Or.inr fun _ => rfl
    | exact (rfl : (_ : MasterRec) = _)
    | with_reducible refine ite_both_frame ?_ ?_
    | with_reducible refine ite_both_fst_frame ?_ ?_
    | split
    | dsimp only)

theorem State.sendVector_frame {M : Nat} {s : State} {v : Nat} (hM : 20 &&& M = 20) : blank M (State.sendVector s v) = blank M s := blank_mono hM (by
  unfold State.sendVector
  repeat'
    first
    | with_reducible rfl
    | with_reducible refine (emit_frame (by decide)).trans ?_
    | with_reducible refine (upGlb_frame ?_ ?_ ?_ ?_).trans ?_
    | exact Or.inl rfl
    | exact Or.inr rfl
    | exact Or.inr fun _ => rfl
    | exact (rfl : (_ : MasterRec) = _)
    | with_reducible refine ite_both_frame ?_ ?_
    | with_reducible refine ite_both_fst_frame ?_ ?_
    | split
    | dsimp only)

theorem State.summaryVector_frame {M : Nat} {s : State} (hM : 20 &&& M = 20) : blank M (State.summaryVector s) = blank M s := blank_mono hM (by
  unfold State.summaryVector
  repeat'
    first
    | with_reducible rfl
    | with_reducible refine (upGlb_frame ?_ ?_ ?_ ?_).trans ?_
    | with_reducible refine (State.sendVector_frame (by decide)).trans ?_
    | exact Or.inl rfl
    | exact Or.inr rfl
    | exact Or.inr fun _ => rfl
    | exact (rfl : (_ : MasterRec) = _)
    | with_reducible refine ite_both_frame ?_ ?_
    | with_reducible refine ite_both_fst_frame ?_ ?_
    | split
    | dsimp only)

theorem State.intr_frame {M : Nat} {s : State} {bit : Nat} (hM : 20 &&& M = 20) : blank M (State.intr s bit) = blank M s := blank_mono hM (by
  unfold State.intr
  repeat'
    first
    | with_reducible rfl
    | with_reducible refine (upGlb_frame ?_ ?_ ?_ ?_).trans ?_
    | with_reducible refine (State.summaryVector_frame (by decide)).trans ?_
    | exact Or.inl rfl
    | exact Or.inr rfl
    | exact Or.inr fun _ => rfl
    | exact (rfl : (_ : MasterRec) = _)
    | with_reducible refine ite_both_frame ?_ ?_
    | with_reducible refine ite_both_fst_frame ?_ ?_
    | split
    | dsimp only)

theorem State.enter_frame {M : Nat} {s : State} {g : GlbState} (hM : 28 &&& M = 28) : blank M (State.enter s g) = blank M s := blank_mono hM (by
  unfold State.enter
  repeat'
    first
    | with_reducible rfl
    | with_reducible refine (upGlb_frame ?_ ?_ ?_ ?_).trans ?_
    | with_reducible refine (State.intr_frame (by decide)).trans ?_
    | exact Or.inl rfl
    | exact Or.inr rfl
    | exact Or.inr fun _ => rfl
    | exact (rfl : (_ : MasterRec) = _)
    | with_reducible refine ite_both_frame ?_ ?_
    | with_reducible refine ite_both_fst_frame ?_ ?_
    | split
    | dsimp only)

theorem State.enterTime_frame {M : Nat} {s : State} {t : TimeState} (hM : 148 &&& M = 148) : blank M (State.enterTime s t) = blank M s := blank_mono hM (by
  unfold State.enterTime
  repeat'
    first
    | with_reducible rfl
    | with_reducible refine (upTmb_frame ?_ ?_).trans ?_
    | with_reducible refine (State.intr_frame (by decide)).trans ?_
    | exact Or.inl rfl
    | exact Or.inr rfl
    | exact Or.inr fun _ => rfl
    | exact (rfl : (_ : MasterRec) = _)
    | with_reducible refine ite_both_frame ?_ ?_
    | with_reducible refine ite_both_fst_frame ?_ ?_
    | split
    | dsimp only)

theorem State.enterRole_frame {M : Nat} {s : State} {r : Role} (hM : 4294967316 &&& M = 4294967316) : blank M (State.enterRole s r) = blank M s := blank_mono hM (by
  unfold State.enterRole
  repeat'
    first
    | with_reducible rfl
    | with_reducible refine (upTdm_frame (by decide)).trans ?_
    | with_reducible refine (State.intr_frame (by decide)).trans ?_
    | with_reducible refine ite_both_frame ?_ ?_
    | with_reducible refine ite_both_fst_frame ?_ ?_
    | split
    | dsimp only)

theorem Mem.putStore_keeps {m : Mem} {cw : Nat} {d : DWord} : (m.putStore cw d).pad = m.pad := rfl

theorem Mem.putStore_rest {m x : Mem} {cw : Nat} {d : DWord} (h : { m with pad := x.pad, store := x.store } = x) :
    { m.putStore cw d with pad := x.pad, store := x.store } = x := h

theorem Mem.same {x : Mem} : { x with pad := x.pad, store := x.store } = x := rfl

theorem Mem.refresh_keeps {m : Mem} {cw : Nat} : (m.refresh cw).pad = m.pad := by unfold Mem.refresh; dsimp only; split <;> rfl

theorem Mem.refresh_rest {m x : Mem} {cw : Nat} (h : { m with pad := x.pad, store := x.store } = x) :
    { m.refresh cw with pad := x.pad, store := x.store } = x := by unfold Mem.refresh; dsimp only; split <;> exact h

theorem State.writeJournal_frame {M : Nat} {s : State} {q n : Nat} {i : Item} (hM : 67108864 &&& M = 67108864) :
    blank M (s.writeJournal q n i) = blank M s :=
  blank_mono hM (upMem_frame (Or.inr (Mem.putStore_keeps.trans (Mem.putStore_keeps.trans (Mem.refresh_keeps.trans Mem.refresh_keeps))))
    (Or.inl (by decide)) (Or.inr (Mem.putStore_rest (Mem.putStore_rest (Mem.refresh_rest (Mem.refresh_rest Mem.same))))))

theorem State.post_frame {M : Nat} {s : State} {q : Nat} {alarm : Bool} {low : Nat} {w1 : Word} {w2 : Word} {w3 : Word} (hM : 68157440 &&& M = 68157440) : blank M (State.post s q alarm low w1 w2 w3) = blank M s := blank_mono hM (by
  unfold State.post
  repeat'
    first
    | with_reducible rfl
    | with_reducible refine (upQue_frame (by decide)).trans ?_
    | with_reducible refine (State.writeJournal_frame (by decide)).trans ?_
    | with_reducible refine ite_both_frame ?_ ?_
    | with_reducible refine ite_both_fst_frame ?_ ?_
    | split
    | dsimp only)

theorem State.notify_frame {M : Nat} {s : State} {q : Nat} {code : Nat} {id : Nat} {detail : Nat} {arg : Nat} {acts : Nat} (hM : 68157440 &&& M = 68157440) : blank M (State.notify s q code id detail arg acts) = blank M s := blank_mono hM (by
  unfold State.notify
  repeat'
    first
    | with_reducible rfl
    | with_reducible refine (upCrier_frame (by decide)).trans ?_
    | with_reducible refine (State.post_frame (by decide)).trans ?_
    | with_reducible refine ite_both_frame ?_ ?_
    | with_reducible refine ite_both_fst_frame ?_ ?_
    | split
    | dsimp only)

theorem State.enterHoldover_frame {M : Nat} {s : State} (hM : 68157588 &&& M = 68157588) : blank M (State.enterHoldover s) = blank M s := blank_mono hM (by
  unfold State.enterHoldover
  repeat'
    first
    | with_reducible rfl
    | with_reducible refine (upTmb_frame ?_ ?_).trans ?_
    | with_reducible refine (State.enterTime_frame (by decide)).trans ?_
    | with_reducible refine (State.notify_frame (by decide)).trans ?_
    | exact Or.inl rfl
    | exact Or.inr rfl
    | exact Or.inr fun _ => rfl
    | exact (rfl : (_ : MasterRec) = _)
    | split
    | dsimp only)

theorem State.loadBit_frame {M : Nat} {s : State} {c : CmdItem} (hM : 20 &&& M = 20) : blank M (State.loadBit s c) = blank M s := blank_mono hM (by
  unfold State.loadBit
  repeat'
    first
    | with_reducible rfl
    | with_reducible refine (State.intr_frame (by decide)).trans ?_
    | with_reducible refine ite_both_frame ?_ ?_
    | with_reducible refine ite_both_fst_frame ?_ ?_
    | split
    | dsimp only)

theorem State.finish_frame {M : Nat} {s : State} {c : CmdItem} {status : Nat} {result : Nat} (hM : 76546068 &&& M = 76546068) : blank M (State.finish s c status result) = blank M s := blank_mono hM (by
  unfold State.finish
  repeat'
    first
    | with_reducible rfl
    | with_reducible refine (upQue_frame (by decide)).trans ?_
    | with_reducible refine (upMst_frame (by decide) ?_).trans ?_
    | with_reducible refine (State.post_frame (by decide)).trans ?_
    | with_reducible refine (State.loadBit_frame (by decide)).trans ?_
    | exact Or.inl rfl
    | exact Or.inr rfl
    | exact Or.inr fun _ => rfl
    | exact (rfl : (_ : MasterRec) = _)
    | with_reducible refine ite_both_frame ?_ ?_
    | with_reducible refine ite_both_fst_frame ?_ ?_
    | split
    | dsimp only)

theorem State.complete_frame {M : Nat} {s : State} {c : CmdItem} {status : Nat} {result : Nat} (hM : 76546069 &&& M = 76546069) : blank M (State.complete s c status result) = blank M s := blank_mono hM (by
  unfold State.complete
  repeat'
    first
    | with_reducible rfl
    | with_reducible refine (undefinedUse_frame (by decide)).trans ?_
    | with_reducible refine (State.finish_frame (by decide)).trans ?_
    | with_reducible refine ite_both_frame ?_ ?_
    | with_reducible refine ite_both_fst_frame ?_ ?_
    | split
    | dsimp only)

theorem State.refuseItem_frame {M : Nat} {s : State} {c : CmdItem} (hM : 76546068 &&& M = 76546068) : blank M (State.refuseItem s c) = blank M s := blank_mono hM (by
  unfold State.refuseItem
  repeat'
    first
    | with_reducible rfl
    | with_reducible refine (upMst_frame (by decide) ?_).trans ?_
    | with_reducible refine (State.post_frame (by decide)).trans ?_
    | with_reducible refine (State.loadBit_frame (by decide)).trans ?_
    | exact Or.inl rfl
    | exact Or.inr rfl
    | exact Or.inr fun _ => rfl
    | exact (rfl : (_ : MasterRec) = _)
    | split
    | dsimp only)

theorem State.skipUnknown_frame {M : Nat} {s : State} (hM : 78643220 &&& M = 78643220) : blank M (State.skipUnknown s) = blank M s := blank_mono hM (by
  unfold State.skipUnknown
  repeat'
    first
    | with_reducible rfl
    | with_reducible refine (upCmd_frame ?_ ?_ ?_ ?_ ?_ ?_).trans ?_
    | with_reducible refine (State.finish_frame (by decide)).trans ?_
    | with_reducible refine (forEach_frame fun _ _ => ?_).trans ?_
    | with_reducible refine (forEach_fst_frame fun _ _ => ?_).trans ?_
    | exact Or.inl rfl
    | exact Or.inr rfl
    | exact Or.inr fun _ => rfl
    | exact (rfl : (_ : MasterRec) = _)
    | with_reducible refine ite_both_frame ?_ ?_
    | with_reducible refine ite_both_fst_frame ?_ ?_
    | split
    | dsimp only)

theorem State.start_frame {M : Nat} {s : State} {op : Nat} {f : CmdItem → State → State} (hM : 78643221 &&& M = 78643221)
    (hf : ∀ c s, blank M (f c s) = blank M s) : blank M (s.start op f) = blank M s := by
  have hq : ∀ (s : State) (r : List CmdItem), blank M (s.upCmd fun k => { k with queue := r }) = blank M s := fun s r =>
    upCmd_frame rfl rfl rfl rfl (Or.inl (bit_mono hM 21 (by decide))) (Or.inr rfl)
  have hk : blank M s.skipUnknown = blank M s := blank_mono hM (State.skipUnknown_frame (by decide))
  unfold State.start
  dsimp only
  split
  · exact hk
  · split
    · exact hk
    · split
      · exact ((hf _ _).trans (hq _ _)).trans hk
      · exact ((blank_mono hM (State.complete_frame (by decide))).trans (hq _ _)).trans hk

theorem State.startLong_frame {M : Nat} {s : State} {c : CmdItem} {op : LongOp} (hM : 2097153 &&& M = 2097153) : blank M (State.startLong s c op) = blank M s := blank_mono hM (by
  unfold State.startLong
  repeat'
    first
    | with_reducible rfl
    | with_reducible refine (undefinedUse_frame (by decide)).trans ?_
    | with_reducible refine (upCmd_frame ?_ ?_ ?_ ?_ ?_ ?_).trans ?_
    | exact Or.inl rfl
    | exact Or.inr rfl
    | exact Or.inr fun _ => rfl
    | exact (rfl : (_ : MasterRec) = _)
    | with_reducible refine ite_both_frame ?_ ?_
    | with_reducible refine ite_both_fst_frame ?_ ?_
    | split
    | dsimp only)

theorem State.upFlash_frame {M : Nat} {s : State} {f : Flash → Flash} (hM : 8589934592 &&& M = 8589934592) : blank M (State.upFlash s f) = blank M s := blank_mono hM (by
  unfold State.upFlash
  repeat'
    first
    | with_reducible rfl
    | with_reducible refine (upLdr_frame (by decide)).trans ?_
    | split
    | dsimp only)

theorem State.writeSettings_frame {M : Nat} {s : State} {w : Word} (hM : 8589934592 &&& M = 8589934592) : blank M (State.writeSettings s w) = blank M s := blank_mono hM (by
  unfold State.writeSettings
  repeat'
    first
    | with_reducible rfl
    | with_reducible refine (State.upFlash_frame (by decide)).trans ?_
    | split
    | dsimp only)

theorem State.saveAddr_frame {M : Nat} {s : State} {a : Nat} (hM : 8589934592 &&& M = 8589934592) : blank M (State.saveAddr s a) = blank M s := blank_mono hM (by
  unfold State.saveAddr
  repeat'
    first
    | with_reducible rfl
    | with_reducible refine (upLdr_frame (by decide)).trans ?_
    | with_reducible refine (State.writeSettings_frame (by decide)).trans ?_
    | split
    | dsimp only)

theorem State.endLong_frame {M : Nat} {s : State} {l : LongCmd} {status : Nat} {result : Nat} (hM : 78643220 &&& M = 78643220) : blank M (State.endLong s l status result) = blank M s := blank_mono hM (by
  unfold State.endLong
  repeat'
    first
    | with_reducible rfl
    | with_reducible refine (upCmd_frame ?_ ?_ ?_ ?_ ?_ ?_).trans ?_
    | with_reducible refine (State.finish_frame (by decide)).trans ?_
    | exact Or.inl rfl
    | exact Or.inr rfl
    | exact Or.inr fun _ => rfl
    | exact (rfl : (_ : MasterRec) = _)
    | split
    | dsimp only)

end Sys2Proof.Machine
end

