-- ==== Sys2Proof/Laws/FramePath.lean ====
section
/-! SUPPORT. Frames of the operations of Machine/Path.lean: what each leaves as it was. -/

namespace Sys2Proof.Machine

theorem State.newEra_frame {M : Nat} {s : State} {e : Era} (hM : 512 &&& M = 512) : blank M (State.newEra s e) = blank M s := blank_mono hM (by
  unfold State.newEra
  repeat'
    first
    | with_reducible rfl
    | with_reducible refine (upCfg_frame ?_ ?_).trans ?_
    | exact Or.inl rfl
    | exact Or.inr rfl
    | exact Or.inr fun _ => rfl
    | exact (rfl : (_ : MasterRec) = _)
    | split
    | dsimp only)

theorem State.addSpan_frame {M : Nat} {s : State} {stream : Nat} {sp : TagSpan} (hM : 2048 &&& M = 2048) : blank M (State.addSpan s stream sp) = blank M s := blank_mono hM (by
  unfold State.addSpan
  repeat'
    first
    | with_reducible rfl
    | with_reducible refine (upLook_frame (by decide)).trans ?_
    | split
    | dsimp only)

theorem State.closeSpans_frame {M : Nat} {s : State} {stream : Nat} {cause : Nat} {stop : Nat} (hM : 2048 &&& M = 2048) : blank M (State.closeSpans s stream cause stop) = blank M s := blank_mono hM (by
  unfold State.closeSpans
  repeat'
    first
    | with_reducible rfl
    | with_reducible refine (upLook_frame (by decide)).trans ?_
    | with_reducible refine ite_both_frame ?_ ?_
    | with_reducible refine ite_both_fst_frame ?_ ?_
    | split
    | dsimp only)

theorem State.countShift_frame {M : Nat} {s : State} {stream : Nat} {t : Nat} (hM : 3072 &&& M = 3072) : blank M (State.countShift s stream t) = blank M s := blank_mono hM (by
  unfold State.countShift
  repeat'
    first
    | with_reducible rfl
    | with_reducible refine (upSpoke_frame (by decide)).trans ?_
    | with_reducible refine (upLook_frame (by decide)).trans ?_
    | with_reducible refine ite_both_frame ?_ ?_
    | with_reducible refine ite_both_fst_frame ?_ ?_
    | split
    | dsimp only)

theorem State.dropMends_frame {M : Nat} {s : State} {stream : Nat} (hM : 3072 &&& M = 3072) : blank M (State.dropMends s stream) = blank M s := blank_mono hM (by
  unfold State.dropMends
  repeat'
    first
    | with_reducible rfl
    | with_reducible refine (upLook_frame (by decide)).trans ?_
    | with_reducible refine (State.countShift_frame (by decide)).trans ?_
    | with_reducible refine (forEach_frame fun _ _ => ?_).trans ?_
    | with_reducible refine (forEach_fst_frame fun _ _ => ?_).trans ?_
    | split
    | dsimp only)

theorem State.syncReset_frame {M : Nat} {s : State} {old : Struct} {new : Struct} {stream : Nat} {oldEnd : Nat} {t : Nat} (hM : 3072 &&& M = 3072) : blank M (State.syncReset s old new stream oldEnd t) = blank M s := blank_mono hM (by
  unfold State.syncReset
  repeat'
    first
    | with_reducible rfl
    | with_reducible refine (upLook_frame (by decide)).trans ?_
    | with_reducible refine (State.addSpan_frame (by decide)).trans ?_
    | with_reducible refine (State.dropMends_frame (by decide)).trans ?_
    | with_reducible refine ite_both_frame ?_ ?_
    | with_reducible refine ite_both_fst_frame ?_ ?_
    | split
    | dsimp only)

theorem State.syncResetAt_frame {M : Nat} {s : State} {old : Struct} {new : Struct} {stream : Nat} {t : Nat} (hM : 3072 &&& M = 3072) : blank M (State.syncResetAt s old new stream t) = blank M s := blank_mono hM (by
  unfold State.syncResetAt
  repeat'
    first
    | with_reducible rfl
    | with_reducible refine (State.syncReset_frame (by decide)).trans ?_
    | split
    | dsimp only)

theorem State.beginLook_frame {M : Nat} {s : State} {st : Struct} {stream : Nat} {start : Nat} (hM : 2048 &&& M = 2048) : blank M (State.beginLook s st stream start) = blank M s := blank_mono hM (by
  unfold State.beginLook
  repeat'
    first
    | with_reducible rfl
    | with_reducible refine (upLook_frame (by decide)).trans ?_
    | split
    | dsimp only)

theorem State.quarantineSpan_frame {M : Nat} {s : State} {stream : Nat} {t : Nat} (hM : 2048 &&& M = 2048) : blank M (State.quarantineSpan s stream t) = blank M s := blank_mono hM (by
  unfold State.quarantineSpan
  repeat'
    first
    | with_reducible rfl
    | with_reducible refine (State.addSpan_frame (by decide)).trans ?_
    | split
    | dsimp only)

theorem State.openWireSpan_frame {M : Nat} {s : State} {stream : Nat} {t : Nat} (hM : 2048 &&& M = 2048) : blank M (State.openWireSpan s stream t) = blank M s := blank_mono hM (by
  unfold State.openWireSpan
  repeat'
    first
    | with_reducible rfl
    | with_reducible refine (State.addSpan_frame (by decide)).trans ?_
    | split
    | dsimp only)

theorem State.joinLook_frame {M : Nat} {s : State} {stream : Nat} {t : Nat} (hM : 2048 &&& M = 2048) : blank M (State.joinLook s stream t) = blank M s := blank_mono hM (by
  unfold State.joinLook
  repeat'
    first
    | with_reducible rfl
    | with_reducible refine (State.quarantineSpan_frame (by decide)).trans ?_
    | with_reducible refine (State.openWireSpan_frame (by decide)).trans ?_
    | with_reducible refine ite_both_frame ?_ ?_
    | with_reducible refine ite_both_fst_frame ?_ ?_
    | split
    | dsimp only)

theorem State.quarantine_frame {M : Nat} {s : State} {i : Nat} (hM : 3072 &&& M = 3072) : blank M (State.quarantine s i) = blank M s := blank_mono hM (by
  unfold State.quarantine
  repeat'
    first
    | with_reducible rfl
    | with_reducible refine (upSpoke_frame (by decide)).trans ?_
    | with_reducible refine (State.dropMends_frame (by decide)).trans ?_
    | with_reducible refine (State.quarantineSpan_frame (by decide)).trans ?_
    | with_reducible refine (forEach_frame fun _ _ => ?_).trans ?_
    | with_reducible refine (forEach_fst_frame fun _ _ => ?_).trans ?_
    | split
    | dsimp only)

theorem State.noteQuarantine_frame {M : Nat} {s : State} {q : Nat} {i : Nat} {cause : Nat} {acts : Nat} (hM : 68157440 &&& M = 68157440) : blank M (State.noteQuarantine s q i cause acts) = blank M s := blank_mono hM (by
  unfold State.noteQuarantine
  repeat'
    first
    | with_reducible rfl
    | with_reducible refine (State.notify_frame (by decide)).trans ?_
    | split
    | dsimp only)

theorem State.releaseAt_frame {M : Nat} {s : State} {i : Nat} {why : Nat} {t : Nat} (hM : 68158464 &&& M = 68158464) : blank M (State.releaseAt s i why t) = blank M s := blank_mono hM (by
  unfold State.releaseAt
  repeat'
    first
    | with_reducible rfl
    | with_reducible refine (upSpoke_frame (by decide)).trans ?_
    | with_reducible refine (State.notify_frame (by decide)).trans ?_
    | split
    | dsimp only)

theorem State.release_frame {M : Nat} {s : State} {i : Nat} {why : Nat} (hM : 68158464 &&& M = 68158464) : blank M (State.release s i why) = blank M s := State.releaseAt_frame hM

end Sys2Proof.Machine
end

