-- ==== Sys2Proof/Laws/FrameLinkOps.lean ====
section
/-! SUPPORT. Frames of the operations of Machine/LinkOps.lean: what each leaves as it was. -/

namespace Sys2Proof.Machine

theorem State.declareLost_frame {M : Nat} {s : State} {p : Port} (hM : 2147483648 &&& M = 2147483648) : blank M (State.declareLost s p) = blank M s := blank_mono hM (by
  unfold State.declareLost
  repeat'
    first
    | with_reducible rfl
    | with_reducible refine (upRim_frame (by decide)).trans ?_
    | with_reducible refine ite_both_frame ?_ ?_
    | with_reducible refine ite_both_fst_frame ?_ ?_
    | split
    | dsimp only)

theorem State.rimUpdate_frame {M : Nat} {s : State} (hM : 2215641088 &&& M = 2215641088) : blank M (State.rimUpdate s) = blank M s := blank_mono hM (by
  unfold State.rimUpdate
  repeat'
    first
    | with_reducible rfl
    | with_reducible refine (upRim_frame (by decide)).trans ?_
    | with_reducible refine (State.declareLost_frame (by decide)).trans ?_
    | with_reducible refine (State.notify_frame (by decide)).trans ?_
    | with_reducible refine ite_both_frame ?_ ?_
    | with_reducible refine ite_both_fst_frame ?_ ?_
    | split
    | dsimp only)

theorem State.loseReach_frame {M : Nat} {s : State} {p : Port} (hM : 2215641088 &&& M = 2215641088) : blank M (State.loseReach s p) = blank M s := blank_mono hM (by
  unfold State.loseReach
  repeat'
    first
    | with_reducible rfl
    | with_reducible refine (upPort_frame (by decide)).trans ?_
    | with_reducible refine (State.rimUpdate_frame (by decide)).trans ?_
    | with_reducible refine ite_both_frame ?_ ?_
    | with_reducible refine ite_both_fst_frame ?_ ?_
    | split
    | dsimp only)

theorem State.recordsUnsent_frame {M : Nat} {s : State} {fs : List OutFrame} (hM : 65536 &&& M = 65536) : blank M (State.recordsUnsent s fs) = blank M s := blank_mono hM (by
  unfold State.recordsUnsent
  repeat'
    first
    | with_reducible rfl
    | with_reducible refine (upStall_frame (by decide)).trans ?_
    | with_reducible refine (forEach_frame fun _ _ => ?_).trans ?_
    | with_reducible refine (forEach_fst_frame fun _ _ => ?_).trans ?_
    | with_reducible refine ite_both_frame ?_ ?_
    | with_reducible refine ite_both_fst_frame ?_ ?_
    | split
    | dsimp only)

theorem State.leaveActive_frame {M : Nat} {s : State} {x : Nat} {cause : Nat} (hM : 6510673940 &&& M = 6510673940) : blank M (State.leaveActive s x cause) = blank M s := blank_mono hM (by
  unfold State.leaveActive
  repeat'
    first
    | with_reducible rfl
    | with_reducible refine (upPort_frame (by decide)).trans ?_
    | with_reducible refine (upTdm_frame (by decide)).trans ?_
    | with_reducible refine (State.loseReach_frame (by decide)).trans ?_
    | with_reducible refine (State.recordsUnsent_frame (by decide)).trans ?_
    | with_reducible refine (State.intr_frame (by decide)).trans ?_
    | with_reducible refine (State.notify_frame (by decide)).trans ?_
    | with_reducible refine ite_both_frame ?_ ?_
    | with_reducible refine ite_both_fst_frame ?_ ?_
    | split
    | dsimp only)

theorem State.toDetect_frame {M : Nat} {s : State} {x : Nat} {cause : Nat} (hM : 7584415764 &&& M = 7584415764) : blank M (State.toDetect s x cause) = blank M s := blank_mono hM (by
  unfold State.toDetect
  repeat'
    first
    | with_reducible rfl
    | with_reducible refine (upLane_frame (by decide)).trans ?_
    | with_reducible refine (State.leaveActive_frame (by decide)).trans ?_
    | with_reducible refine (ackOut_frame (by decide)).trans ?_
    | split
    | dsimp only)

theorem State.laneFail_frame {M : Nat} {s : State} {x : Nat} (hM : 3221225472 &&& M = 3221225472) : blank M (State.laneFail s x) = blank M s := blank_mono hM (by
  unfold State.laneFail
  repeat'
    first
    | with_reducible rfl
    | with_reducible refine (upLane_frame (by decide)).trans ?_
    | with_reducible refine (ackOut_frame (by decide)).trans ?_
    | split
    | dsimp only)

theorem State.retrain_frame {M : Nat} {s : State} {x : Nat} (hM : 7584415764 &&& M = 7584415764) : blank M (State.retrain s x) = blank M s := blank_mono hM (by
  unfold State.retrain
  repeat'
    first
    | with_reducible rfl
    | with_reducible refine (upLane_frame (by decide)).trans ?_
    | with_reducible refine (State.toDetect_frame (by decide)).trans ?_
    | with_reducible refine ite_both_frame ?_ ?_
    | with_reducible refine ite_both_fst_frame ?_ ?_
    | split
    | dsimp only)

theorem State.sayCapability_frame {M : Nat} {s : State} {x : Nat} (hM : 4 &&& M = 4) : blank M (State.sayCapability s x) = blank M s := blank_mono hM (by
  unfold State.sayCapability
  repeat'
    first
    | with_reducible rfl
    | with_reducible refine (emit_frame (by decide)).trans ?_
    | split
    | dsimp only)

theorem State.openLoops_frame {M : Nat} {s : State} (hM : 2048 &&& M = 2048) : blank M (State.openLoops s) = blank M s := blank_mono hM (by
  unfold State.openLoops
  repeat'
    first
    | with_reducible rfl
    | with_reducible refine (State.addSpan_frame (by decide)).trans ?_
    | with_reducible refine (forEach_frame fun _ _ => ?_).trans ?_
    | with_reducible refine (forEach_fst_frame fun _ _ => ?_).trans ?_
    | with_reducible refine ite_both_frame ?_ ?_
    | with_reducible refine ite_both_fst_frame ?_ ?_
    | split
    | dsimp only)

theorem State.closeLoops_frame {M : Nat} {s : State} (hM : 2048 &&& M = 2048) : blank M (State.closeLoops s) = blank M s := blank_mono hM (by
  unfold State.closeLoops
  repeat'
    first
    | with_reducible rfl
    | with_reducible refine (State.closeSpans_frame (by decide)).trans ?_
    | with_reducible refine (forEach_frame fun _ _ => ?_).trans ?_
    | with_reducible refine (forEach_fst_frame fun _ _ => ?_).trans ?_
    | split
    | dsimp only)

theorem State.openSpans_frame {M : Nat} {s : State} {looks : List Nat} {tag : Nat} {rule : SpanRule} {start : Nat} {cause : Nat} (hM : 2048 &&& M = 2048) : blank M (State.openSpans s looks tag rule start cause) = blank M s := blank_mono hM (by
  unfold State.openSpans
  repeat'
    first
    | with_reducible rfl
    | with_reducible refine (State.addSpan_frame (by decide)).trans ?_
    | with_reducible refine (forEach_frame fun _ _ => ?_).trans ?_
    | with_reducible refine (forEach_fst_frame fun _ _ => ?_).trans ?_
    | with_reducible refine ite_both_frame ?_ ?_
    | with_reducible refine ite_both_fst_frame ?_ ?_
    | split
    | dsimp only)

theorem State.endSpans_frame {M : Nat} {s : State} {looks : List Nat} {cause : Nat} {stop : Nat} (hM : 2048 &&& M = 2048) : blank M (State.endSpans s looks cause stop) = blank M s := blank_mono hM (by
  unfold State.endSpans
  repeat'
    first
    | with_reducible rfl
    | with_reducible refine (State.closeSpans_frame (by decide)).trans ?_
    | with_reducible refine (forEach_frame fun _ _ => ?_).trans ?_
    | with_reducible refine (forEach_fst_frame fun _ _ => ?_).trans ?_
    | split
    | dsimp only)

theorem State.endEverywhere_frame {M : Nat} {s : State} {cause : Nat} {stop : Nat} (hM : 2048 &&& M = 2048) : blank M (State.endEverywhere s cause stop) = blank M s := blank_mono hM (by
  unfold State.endEverywhere
  repeat'
    first
    | with_reducible rfl
    | with_reducible refine (State.endSpans_frame (by decide)).trans ?_
    | split
    | dsimp only)

theorem State.capEverywhere_frame {M : Nat} {s : State} {cause : Nat} {stop : Nat} (hM : 2048 &&& M = 2048) : blank M (State.capEverywhere s cause stop) = blank M s := blank_mono hM (by
  unfold State.capEverywhere
  repeat'
    first
    | with_reducible rfl
    | with_reducible refine (upLook_frame (by decide)).trans ?_
    | with_reducible refine (forEach_frame fun _ _ => ?_).trans ?_
    | with_reducible refine (forEach_fst_frame fun _ _ => ?_).trans ?_
    | split
    | dsimp only)

theorem State.markExc_frame {M : Nat} {s : State} (hM : 4294967296 &&& M = 4294967296) : blank M (State.markExc s) = blank M s := blank_mono hM (by
  unfold State.markExc
  repeat'
    first
    | with_reducible rfl
    | with_reducible refine (upTdm_frame (by decide)).trans ?_
    | split
    | dsimp only)

theorem State.lowSpans_frame {M : Nat} {s : State} {l : Nat} (hM : 2048 &&& M = 2048) : blank M (State.lowSpans s l) = blank M s := blank_mono hM (by
  unfold State.lowSpans
  repeat'
    first
    | with_reducible rfl
    | with_reducible refine (State.openSpans_frame (by decide)).trans ?_
    | with_reducible refine (State.endSpans_frame (by decide)).trans ?_
    | with_reducible refine ite_both_frame ?_ ?_
    | with_reducible refine ite_both_fst_frame ?_ ?_
    | split
    | dsimp only)

theorem State.allLowSpans_frame {M : Nat} {s : State} (hM : 2048 &&& M = 2048) : blank M (State.allLowSpans s) = blank M s := blank_mono hM (by
  unfold State.allLowSpans
  repeat'
    first
    | with_reducible rfl
    | with_reducible refine (State.lowSpans_frame (by decide)).trans ?_
    | with_reducible refine (forEach_frame fun _ _ => ?_).trans ?_
    | with_reducible refine (forEach_fst_frame fun _ _ => ?_).trans ?_
    | split
    | dsimp only)

theorem State.rampSettled_frame {M : Nat} {s : State} {l : Nat} (hM : 526336 &&& M = 526336) : blank M (State.rampSettled s l) = blank M s := blank_mono hM (by
  unfold State.rampSettled
  repeat'
    first
    | with_reducible rfl
    | with_reducible refine (upLaceOf_frame (by decide)).trans ?_
    | with_reducible refine (State.closeSpans_frame (by decide)).trans ?_
    | with_reducible refine (forEach_frame fun _ _ => ?_).trans ?_
    | with_reducible refine (forEach_fst_frame fun _ _ => ?_).trans ?_
    | split
    | dsimp only)

theorem State.endLimit_frame {M : Nat} {s : State} {l : Nat} (hM : 526336 &&& M = 526336) : blank M (State.endLimit s l) = blank M s := blank_mono hM (by
  unfold State.endLimit
  repeat'
    first
    | with_reducible rfl
    | with_reducible refine (upLaceOf_frame (by decide)).trans ?_
    | with_reducible refine (State.closeSpans_frame (by decide)).trans ?_
    | with_reducible refine (forEach_frame fun _ _ => ?_).trans ?_
    | with_reducible refine (forEach_fst_frame fun _ _ => ?_).trans ?_
    | with_reducible refine ite_both_frame ?_ ?_
    | with_reducible refine ite_both_fst_frame ?_ ?_
    | split
    | dsimp only)

theorem State.driverOff_frame {M : Nat} {s : State} {l : Nat} (hM : 526336 &&& M = 526336) : blank M (State.driverOff s l) = blank M s := blank_mono hM (by
  unfold State.driverOff
  repeat'
    first
    | with_reducible rfl
    | with_reducible refine (upLaceOf_frame (by decide)).trans ?_
    | with_reducible refine (State.rampSettled_frame (by decide)).trans ?_
    | with_reducible refine (State.endLimit_frame (by decide)).trans ?_
    | split
    | dsimp only)

theorem State.followAck_frame {M : Nat} {s : State} {i : Nat} (hM : 65536 &&& M = 65536) : blank M (State.followAck s i) = blank M s := blank_mono hM (by
  unfold State.followAck
  repeat'
    first
    | with_reducible rfl
    | with_reducible refine (upStall_frame (by decide)).trans ?_
    | with_reducible refine ite_both_frame ?_ ?_
    | with_reducible refine ite_both_fst_frame ?_ ?_
    | split
    | dsimp only)

theorem State.keyAll_frame {M : Nat} {s : State} (hM : 32768 &&& M = 32768) : blank M (State.keyAll s) = blank M s := blank_mono hM (by
  unfold State.keyAll
  repeat'
    first
    | with_reducible rfl
    | with_reducible refine (upStrm_frame (by decide)).trans ?_
    | with_reducible refine (forEach_frame fun _ _ => ?_).trans ?_
    | with_reducible refine (forEach_fst_frame fun _ _ => ?_).trans ?_
    | split
    | dsimp only)

theorem State.startPublishing_frame {M : Nat} {s : State} (hM : 2147581952 &&& M = 2147581952) : blank M (State.startPublishing s) = blank M s := blank_mono hM (by
  unfold State.startPublishing
  repeat'
    first
    | with_reducible rfl
    | with_reducible refine (upStrm_frame (by decide)).trans ?_
    | with_reducible refine (upStall_frame (by decide)).trans ?_
    | with_reducible refine (upRim_frame (by decide)).trans ?_
    | with_reducible refine (State.keyAll_frame (by decide)).trans ?_
    | with_reducible refine (forEach_frame fun _ _ => ?_).trans ?_
    | with_reducible refine (forEach_fst_frame fun _ _ => ?_).trans ?_
    | with_reducible refine ite_both_frame ?_ ?_
    | with_reducible refine ite_both_fst_frame ?_ ?_
    | split
    | dsimp only)

theorem State.witnessSpans_frame {M : Nat} {s : State} (hM : 2048 &&& M = 2048) : blank M (State.witnessSpans s) = blank M s := blank_mono hM (by
  unfold State.witnessSpans
  repeat'
    first
    | with_reducible rfl
    | with_reducible refine (State.addSpan_frame (by decide)).trans ?_
    | with_reducible refine (State.closeSpans_frame (by decide)).trans ?_
    | with_reducible refine (forEach_frame fun _ _ => ?_).trans ?_
    | with_reducible refine (forEach_fst_frame fun _ _ => ?_).trans ?_
    | with_reducible refine ite_both_frame ?_ ?_
    | with_reducible refine ite_both_fst_frame ?_ ?_
    | split
    | dsimp only)

theorem State.claim_frame {M : Nat} {s : State} {c : Nat} (hM : 6511233044 &&& M = 6511233044) : blank M (State.claim s c) = blank M s := blank_mono hM (by
  unfold State.claim
  repeat'
    first
    | with_reducible rfl
    | with_reducible refine (upLaceOf_frame (by decide)).trans ?_
    | with_reducible refine (upTdm_frame (by decide)).trans ?_
    | with_reducible refine (State.closeLoops_frame (by decide)).trans ?_
    | with_reducible refine (State.startPublishing_frame (by decide)).trans ?_
    | with_reducible refine (State.witnessSpans_frame (by decide)).trans ?_
    | with_reducible refine (State.addSpan_frame (by decide)).trans ?_
    | with_reducible refine (State.sendTime_frame (by decide)).trans ?_
    | with_reducible refine (State.enterRole_frame (by decide)).trans ?_
    | with_reducible refine (State.notify_frame (by decide)).trans ?_
    | with_reducible refine (forEach_frame fun _ _ => ?_).trans ?_
    | with_reducible refine (forEach_fst_frame fun _ _ => ?_).trans ?_
    | with_reducible refine ite_both_frame ?_ ?_
    | with_reducible refine ite_both_fst_frame ?_ ?_
    | split
    | dsimp only)

theorem State.takeoverRule_frame {M : Nat} {s : State} (hM : 6511233044 &&& M = 6511233044) : blank M (State.takeoverRule s) = blank M s := blank_mono hM (by
  unfold State.takeoverRule
  repeat'
    first
    | with_reducible rfl
    | with_reducible refine (State.witnessSpans_frame (by decide)).trans ?_
    | with_reducible refine (State.claim_frame (by decide)).trans ?_
    | with_reducible refine ite_both_frame ?_ ?_
    | with_reducible refine ite_both_fst_frame ?_ ?_
    | split
    | dsimp only)

theorem State.stopPulses_frame {M : Nat} {s : State} (hM : 262144 &&& M = 262144) : blank M (State.stopPulses s) = blank M s := blank_mono hM (by
  unfold State.stopPulses
  repeat'
    first
    | with_reducible rfl
    | with_reducible refine (upPath_frame ?_ ?_ ?_ ?_ ?_ ?_ ?_ ?_ ?_).trans ?_
    | exact Or.inl rfl
    | exact Or.inr rfl
    | exact Or.inr fun _ => rfl
    | exact (rfl : (_ : MasterRec) = _)
    | split
    | dsimp only)

theorem State.silence_frame {M : Nat} {s : State} (hM : 2147549184 &&& M = 2147549184) : blank M (State.silence s) = blank M s := blank_mono hM (by
  unfold State.silence
  repeat'
    first
    | with_reducible rfl
    | with_reducible refine (upRim_frame (by decide)).trans ?_
    | with_reducible refine (upPort_frame (by decide)).trans ?_
    | with_reducible refine (State.recordsUnsent_frame (by decide)).trans ?_
    | with_reducible refine ite_both_frame ?_ ?_
    | with_reducible refine ite_both_fst_frame ?_ ?_
    | split
    | dsimp only)

theorem State.yieldRole_frame {M : Nat} {s : State} {cause : Nat} (hM : 6511462420 &&& M = 6511462420) : blank M (State.yieldRole s cause) = blank M s := blank_mono hM (by
  unfold State.yieldRole
  repeat'
    first
    | with_reducible rfl
    | with_reducible refine (upTdm_frame (by decide)).trans ?_
    | with_reducible refine (State.openLoops_frame (by decide)).trans ?_
    | with_reducible refine (State.endEverywhere_frame (by decide)).trans ?_
    | with_reducible refine (State.allLowSpans_frame (by decide)).trans ?_
    | with_reducible refine (State.driverOff_frame (by decide)).trans ?_
    | with_reducible refine (State.stopPulses_frame (by decide)).trans ?_
    | with_reducible refine (State.silence_frame (by decide)).trans ?_
    | with_reducible refine (State.enterRole_frame (by decide)).trans ?_
    | with_reducible refine (State.notify_frame (by decide)).trans ?_
    | with_reducible refine (forEach_frame fun _ _ => ?_).trans ?_
    | with_reducible refine (forEach_fst_frame fun _ _ => ?_).trans ?_
    | split
    | dsimp only)

theorem State.endClaiming_frame {M : Nat} {s : State} (hM : 4295493652 &&& M = 4295493652) : blank M (State.endClaiming s) = blank M s := blank_mono hM (by
  unfold State.endClaiming
  repeat'
    first
    | with_reducible rfl
    | with_reducible refine (upLaceOf_frame (by decide)).trans ?_
    | with_reducible refine (State.endEverywhere_frame (by decide)).trans ?_
    | with_reducible refine (State.lowSpans_frame (by decide)).trans ?_
    | with_reducible refine (State.enterRole_frame (by decide)).trans ?_
    | with_reducible refine (forEach_frame fun _ _ => ?_).trans ?_
    | with_reducible refine (forEach_fst_frame fun _ _ => ?_).trans ?_
    | split
    | dsimp only)

theorem State.failOver_frame {M : Nat} {s : State} (hM : 6511462420 &&& M = 6511462420) : blank M (State.failOver s) = blank M s := blank_mono hM (by
  unfold State.failOver
  repeat'
    first
    | with_reducible rfl
    | with_reducible refine (State.yieldRole_frame (by decide)).trans ?_
    | with_reducible refine (State.notify_frame (by decide)).trans ?_
    | with_reducible refine ite_both_frame ?_ ?_
    | with_reducible refine ite_both_fst_frame ?_ ?_
    | split
    | dsimp only)

end Sys2Proof.Machine
end

