-- ==== Sys2Proof/Laws/FrameFaults.lean ====
section
/-! SUPPORT. Frames of the operations of Machine/Faults.lean: what each leaves as it was. -/

namespace Sys2Proof.Machine

theorem State.beforeRestart_frame {M : Nat} {s : State} (hM : 8668610580 &&& M = 8668610580) : blank M (State.beforeRestart s) = blank M s := blank_mono hM (by
  unfold State.beforeRestart
  repeat'
    first
    | with_reducible rfl
    | with_reducible refine (upStrm_frame (by decide)).trans ?_
    | with_reducible refine (State.saveAddr_frame (by decide)).trans ?_
    | with_reducible refine (State.endLong_frame (by decide)).trans ?_
    | with_reducible refine (forEach_frame fun _ _ => ?_).trans ?_
    | with_reducible refine (forEach_fst_frame fun _ _ => ?_).trans ?_
    | with_reducible refine ite_both_frame ?_ ?_
    | with_reducible refine ite_both_fst_frame ?_ ?_
    | split
    | dsimp only)

theorem State.leaveRun_frame {M : Nat} {s : State} (hM : 8589934592 &&& M = 8589934592) : blank M (State.leaveRun s) = blank M s := blank_mono hM (by
  unfold State.leaveRun
  repeat'
    first
    | with_reducible rfl
    | with_reducible refine (upLdr_frame (by decide)).trans ?_
    | with_reducible refine ite_both_frame ?_ ?_
    | with_reducible refine ite_both_fst_frame ?_ ?_
    | split
    | dsimp only)

theorem State.beginRestart_frame {M : Nat} {s : State} (hM : 8937047612 &&& M = 8937047612) : blank M (State.beginRestart s) = blank M s := blank_mono hM (by
  unfold State.beginRestart
  repeat'
    first
    | with_reducible rfl
    | with_reducible refine (upStrm_frame (by decide)).trans ?_
    | with_reducible refine (upCal_frame (by decide)).trans ?_
    | with_reducible refine (upLdr_frame (by decide)).trans ?_
    | with_reducible refine (upGlb_frame ?_ ?_ ?_ ?_).trans ?_
    | with_reducible refine (upCfg_frame ?_ ?_).trans ?_
    | with_reducible refine (upCmd_frame ?_ ?_ ?_ ?_ ?_ ?_).trans ?_
    | with_reducible refine (State.release_frame (by decide)).trans ?_
    | with_reducible refine (State.enter_frame (by decide)).trans ?_
    | with_reducible refine (State.beforeRestart_frame (by decide)).trans ?_
    | with_reducible refine (State.leaveRun_frame (by decide)).trans ?_
    | with_reducible refine (State.warmRestart_frame (by decide)).trans ?_
    | with_reducible refine (forEach_frame fun _ _ => ?_).trans ?_
    | with_reducible refine (forEach_fst_frame fun _ _ => ?_).trans ?_
    | exact Or.inl rfl
    | exact Or.inr rfl
    | exact Or.inr fun _ => rfl
    | exact (rfl : (_ : MasterRec) = _)
    | with_reducible refine ite_both_frame ?_ ?_
    | with_reducible refine ite_both_fst_frame ?_ ?_
    | split
    | dsimp only)

theorem State.warmRestart_frame {M : Nat} {s : State} {q : Nat} {why : Nat} (hM : 8937047612 &&& M = 8937047612) : blank M (State.warmRestart s q why) = blank M s := blank_mono hM (by
  unfold State.warmRestart
  repeat'
    first
    | with_reducible rfl
    | with_reducible refine (State.notify_frame (by decide)).trans ?_
    | with_reducible refine (State.beginRestart_frame (by decide)).trans ?_
    | with_reducible refine ite_both_frame ?_ ?_
    | with_reducible refine ite_both_fst_frame ?_ ?_
    | split
    | dsimp only)

theorem State.safeState_frame {M : Nat} {s : State} {w : Nat} (hM : 8658619420 &&& M = 8658619420) : blank M (State.safeState s w) = blank M s := blank_mono hM (by
  unfold State.safeState
  repeat'
    first
    | with_reducible rfl
    | with_reducible refine (upSpoke_frame (by decide)).trans ?_
    | with_reducible refine (State.driverOff_frame (by decide)).trans ?_
    | with_reducible refine (State.quarantine_frame (by decide)).trans ?_
    | with_reducible refine (State.noteQuarantine_frame (by decide)).trans ?_
    | with_reducible refine (State.enter_frame (by decide)).trans ?_
    | with_reducible refine (State.notify_frame (by decide)).trans ?_
    | with_reducible refine (State.leaveRun_frame (by decide)).trans ?_
    | with_reducible refine (forEach_frame fun _ _ => ?_).trans ?_
    | with_reducible refine (forEach_fst_frame fun _ _ => ?_).trans ?_
    | with_reducible refine ite_both_frame ?_ ?_
    | with_reducible refine ite_both_fst_frame ?_ ?_
    | split
    | dsimp only)

theorem State.runAction_frame {M : Nat} {s : State} {w : Nat} {action : Nat} {cls : Nat} {inst : Nat} (hM : 16454094396 &&& M = 16454094396) : blank M (State.runAction s w action cls inst) = blank M s := blank_mono hM (by
  unfold State.runAction
  repeat'
    first
    | with_reducible rfl
    | with_reducible refine (upSpoke_frame (by decide)).trans ?_
    | with_reducible refine (State.retrain_frame (by decide)).trans ?_
    | with_reducible refine (State.failOver_frame (by decide)).trans ?_
    | with_reducible refine (State.quarantine_frame (by decide)).trans ?_
    | with_reducible refine (State.noteQuarantine_frame (by decide)).trans ?_
    | with_reducible refine (State.warmRestart_frame (by decide)).trans ?_
    | with_reducible refine (State.safeState_frame (by decide)).trans ?_
    | with_reducible refine ite_both_frame ?_ ?_
    | with_reducible refine ite_both_fst_frame ?_ ?_
    | split
    | dsimp only)

theorem State.countIn_frame {M : Nat} {s : State} {w : Nat} {inst : Nat} (hM : 605028352 &&& M = 605028352) : blank M (State.countIn s w inst).1 = blank M s := blank_mono hM (by
  unfold State.countIn
  repeat'
    first
    | with_reducible rfl
    | with_reducible refine (upWindow_frame (by decide)).trans ?_
    | with_reducible refine (State.notify_frame (by decide)).trans ?_
    | with_reducible refine ite_both_frame ?_ ?_
    | with_reducible refine ite_both_fst_frame ?_ ?_
    | split
    | dsimp only)

theorem State.declare_frame {M : Nat} {s : State} {w : Nat} {cls : Nat} {inst : Nat} (hM : 605028372 &&& M = 605028372) : blank M (State.declare s w cls inst) = blank M s := blank_mono hM (by
  unfold State.declare
  repeat'
    first
    | with_reducible rfl
    | with_reducible refine (upWindow_frame (by decide)).trans ?_
    | with_reducible refine (State.intr_frame (by decide)).trans ?_
    | with_reducible refine (State.notify_frame (by decide)).trans ?_
    | split
    | dsimp only)

theorem State.takeEvent_frame {M : Nat} {a : State × List (Nat × Nat × Nat)} {e : Nat × Nat} (hM : 605028372 &&& M = 605028372) :
    blank M (State.takeEvent a e).1 = blank M a.1 := blank_mono hM (by
  unfold State.takeEvent
  refine forEach_fst_frame fun _ _ => ?_
  dsimp only
  split
  · exact (State.declare_frame (by decide)).trans (State.countIn_frame (by decide))
  · exact State.countIn_frame (by decide))

theorem State.faultEvent_frame {M : Nat} {s : State} {cls : Nat} {inst : Nat} (hM : 536870912 &&& M = 536870912) : blank M (State.faultEvent s cls inst) = blank M s := blank_mono hM (by
  unfold State.faultEvent
  repeat'
    first
    | with_reducible rfl
    | with_reducible refine (upHlt_frame (by decide)).trans ?_
    | with_reducible refine ite_both_frame ?_ ?_
    | with_reducible refine ite_both_fst_frame ?_ ?_
    | split
    | dsimp only)

theorem State.runActions_frame {M : Nat} {s : State} {l : List (Nat × Nat × Nat)} (hM : 16454094396 &&& M = 16454094396) : blank M (State.runActions s l) = blank M s := blank_mono hM (by
  unfold State.runActions
  repeat'
    first
    | with_reducible rfl
    | with_reducible refine (State.runAction_frame (by decide)).trans ?_
    | with_reducible refine (forEach_frame fun _ _ => ?_).trans ?_
    | with_reducible refine (forEach_fst_frame fun _ _ => ?_).trans ?_
    | with_reducible refine ite_both_frame ?_ ?_
    | with_reducible refine ite_both_fst_frame ?_ ?_
    | split
    | dsimp only)

theorem State.rearm_frame {M : Nat} {s : State} {w : Nat} {auto : Nat} (hM : 605028352 &&& M = 605028352) : blank M (State.rearm s w auto) = blank M s := blank_mono hM (by
  unfold State.rearm
  repeat'
    first
    | with_reducible rfl
    | with_reducible refine (upWindow_frame (by decide)).trans ?_
    | with_reducible refine (State.notify_frame (by decide)).trans ?_
    | split
    | dsimp only)

theorem State.haltFirmware_frame {M : Nat} {s : State} (hM : 15101397148 &&& M = 15101397148) : blank M (State.haltFirmware s) = blank M s := blank_mono hM (by
  unfold State.haltFirmware
  repeat'
    first
    | with_reducible rfl
    | with_reducible refine (upLdr_frame (by decide)).trans ?_
    | with_reducible refine (State.yieldRole_frame (by decide)).trans ?_
    | with_reducible refine (State.enter_frame (by decide)).trans ?_
    | with_reducible refine (State.notify_frame (by decide)).trans ?_
    | with_reducible refine (State.enterHoldover_frame (by decide)).trans ?_
    | with_reducible refine (State.leaveRun_frame (by decide)).trans ?_
    | with_reducible refine ite_both_frame ?_ ?_
    | with_reducible refine ite_both_fst_frame ?_ ?_
    | split
    | dsimp only)

theorem State.watchdogFollow_frame {M : Nat} {s : State} {role : Role} {inst : Nat} (hM : 15380352700 &&& M = 15380352700) : blank M (State.watchdogFollow s role inst) = blank M s := blank_mono hM (by
  unfold State.watchdogFollow
  repeat'
    first
    | with_reducible rfl
    | with_reducible refine (upLdr_frame (by decide)).trans ?_
    | with_reducible refine (State.notify_frame (by decide)).trans ?_
    | with_reducible refine (State.warmRestart_frame (by decide)).trans ?_
    | with_reducible refine (State.haltFirmware_frame (by decide)).trans ?_
    | with_reducible refine ite_both_frame ?_ ?_
    | with_reducible refine ite_both_fst_frame ?_ ?_
    | split
    | dsimp only)

theorem State.watchdogEvent_frame {M : Nat} {s : State} {inst : Nat} (hM : 15917223612 &&& M = 15917223612) : blank M (State.watchdogEvent s inst) = blank M s := blank_mono hM (by
  unfold State.watchdogEvent
  repeat'
    first
    | with_reducible rfl
    | with_reducible refine (State.faultEvent_frame (by decide)).trans ?_
    | with_reducible refine (State.watchdogFollow_frame (by decide)).trans ?_
    | with_reducible refine ite_both_frame ?_ ?_
    | with_reducible refine ite_both_fst_frame ?_ ?_
    | split
    | dsimp only)

theorem State.settleFaults_frame {M : Nat} {s : State} (hM : 16990965436 &&& M = 16990965436) : blank M (State.settleFaults s) = blank M s := blank_mono hM (by
  unfold State.settleFaults
  repeat'
    first
    | with_reducible rfl
    | with_reducible refine (upHlt_frame (by decide)).trans ?_
    | with_reducible refine (State.takeEvent_frame (by decide)).trans ?_
    | with_reducible refine (State.runActions_frame (by decide)).trans ?_
    | with_reducible refine (State.watchdogFollow_frame (by decide)).trans ?_
    | with_reducible refine (forEach_frame fun _ _ => ?_).trans ?_
    | with_reducible refine (forEach_fst_frame fun _ _ => ?_).trans ?_
    | split
    | dsimp only)

theorem State.touchBank_frame {M : Nat} {s : State} {b : Nat} (hM : 134217728 &&& M = 134217728) : blank M (State.touchBank s b) = blank M s := blank_mono hM (by
  unfold State.touchBank
  repeat'
    first
    | with_reducible rfl
    | with_reducible refine (upBank_frame (by decide)).trans ?_
    | with_reducible refine ite_both_frame ?_ ?_
    | with_reducible refine ite_both_fst_frame ?_ ?_
    | split
    | dsimp only)

theorem State.putCell_frame {M : Nat} {s : State} {a : Nat} {c : MemCell} (hM : 33554432 &&& M = 33554432) : blank M (State.putCell s a c) = blank M s := blank_mono hM (by
  unfold State.putCell
  repeat'
    first
    | with_reducible rfl
    | with_reducible refine (upMem_frame ?_ ?_ ?_).trans ?_
    | exact Or.inl rfl
    | exact Or.inr rfl
    | exact Or.inr fun _ => rfl
    | exact (rfl : (_ : MasterRec) = _)
    | with_reducible refine ite_both_frame ?_ ?_
    | with_reducible refine ite_both_fst_frame ?_ ?_
    | split
    | dsimp only)

theorem State.countCe_frame {M : Nat} {s : State} {u : Nat} {a : Nat} (hM : 739246080 &&& M = 739246080) : blank M (State.countCe s u a) = blank M s := blank_mono hM (by
  unfold State.countCe
  repeat'
    first
    | with_reducible rfl
    | with_reducible refine (upMemUnit_frame (by decide)).trans ?_
    | with_reducible refine (State.notify_frame (by decide)).trans ?_
    | with_reducible refine (State.faultEvent_frame (by decide)).trans ?_
    | with_reducible refine ite_both_frame ?_ ?_
    | with_reducible refine ite_both_fst_frame ?_ ?_
    | split
    | dsimp only)

theorem State.countUe_frame {M : Nat} {s : State} {u : Nat} {a : Nat} {p : Nat} (hM : 739246100 &&& M = 739246100) : blank M (State.countUe s u a p) = blank M s := blank_mono hM (by
  unfold State.countUe
  repeat'
    first
    | with_reducible rfl
    | with_reducible refine (upMemUnit_frame (by decide)).trans ?_
    | with_reducible refine (State.intr_frame (by decide)).trans ?_
    | with_reducible refine (State.notify_frame (by decide)).trans ?_
    | with_reducible refine (State.faultEvent_frame (by decide)).trans ?_
    | with_reducible refine ite_both_frame ?_ ?_
    | with_reducible refine ite_both_fst_frame ?_ ?_
    | split
    | dsimp only)

theorem State.contend_frame {M : Nat} {s : State} {p : Nat} (hM : 134217730 &&& M = 134217730) : blank M (State.contend s p) = blank M s := blank_mono hM (by
  unfold State.contend
  repeat'
    first
    | with_reducible rfl
    | with_reducible refine (draw_frame (by decide)).trans ?_
    | with_reducible refine (upMem_frame ?_ ?_ ?_).trans ?_
    | exact Or.inl rfl
    | exact Or.inr rfl
    | exact Or.inr fun _ => rfl
    | exact (rfl : (_ : MasterRec) = _)
    | split
    | dsimp only)

theorem State.readByte_frame {M : Nat} {s : State} {p : Nat} {a : Nat} (hM : 772800532 &&& M = 772800532) : blank M (State.readByte s p a).1 = blank M s := blank_mono hM (by
  unfold State.readByte
  repeat'
    first
    | with_reducible rfl
    | with_reducible refine (State.putCell_frame (by decide)).trans ?_
    | with_reducible refine (State.countCe_frame (by decide)).trans ?_
    | with_reducible refine (State.countUe_frame (by decide)).trans ?_
    | with_reducible refine ite_both_frame ?_ ?_
    | with_reducible refine ite_both_fst_frame ?_ ?_
    | split
    | dsimp only)

theorem State.readPad_frame {M : Nat} {s : State} {p a n : Nat} (hM : 772800532 &&& M = 772800532) : blank M (State.readPad s p a n).1 = blank M s := blank_mono hM (by
  induction n generalizing s p a with
  | zero => 
      unfold State.readPad
      repeat'
        first
        | with_reducible rfl
  | succ _ ih =>
      unfold State.readPad
      repeat'
        first
        | with_reducible rfl
        | with_reducible refine ih.trans ?_
        | with_reducible refine (State.touchBank_frame (by decide)).trans ?_
        | with_reducible refine (State.readByte_frame (by decide)).trans ?_)

theorem State.writePad_frame {M : Nat} {s : State} {a : Nat} {bs : List Byte} (hM : 167772160 &&& M = 167772160) : blank M (State.writePad s a bs) = blank M s := blank_mono hM (by
  induction bs generalizing s a with
  | nil => 
      unfold State.writePad
      repeat'
        first
        | with_reducible rfl
  | cons _ _ ih =>
      unfold State.writePad
      repeat'
        first
        | with_reducible rfl
        | with_reducible refine ih.trans ?_
        | with_reducible refine (State.touchBank_frame (by decide)).trans ?_
        | with_reducible refine (State.putCell_frame (by decide)).trans ?_)

theorem State.readBuffer_frame {M : Nat} {s : State} (hM : 772800534 &&& M = 772800534) : blank M (State.readBuffer s).1 = blank M s := blank_mono hM (by
  unfold State.readBuffer
  repeat'
    first
    | with_reducible rfl
    | with_reducible refine (draw_frame (by decide)).trans ?_
    | with_reducible refine (State.contend_frame (by decide)).trans ?_
    | with_reducible refine (State.readByte_frame (by decide)).trans ?_
    | with_reducible refine (forEach_frame fun _ _ => ?_).trans ?_
    | with_reducible refine (forEach_fst_frame fun _ _ => ?_).trans ?_
    | with_reducible refine ite_both_frame ?_ ?_
    | with_reducible refine ite_both_fst_frame ?_ ?_
    | split
    | dsimp only)

theorem State.writeBuffer_frame {M : Nat} {s : State} (hM : 167772162 &&& M = 167772162) : blank M (State.writeBuffer s) = blank M s := blank_mono hM (by
  unfold State.writeBuffer
  repeat'
    first
    | with_reducible rfl
    | with_reducible refine (draw_frame (by decide)).trans ?_
    | with_reducible refine (State.putCell_frame (by decide)).trans ?_
    | with_reducible refine (State.contend_frame (by decide)).trans ?_
    | with_reducible refine (forEach_frame fun _ _ => ?_).trans ?_
    | with_reducible refine (forEach_fst_frame fun _ _ => ?_).trans ?_
    | with_reducible refine ite_both_frame ?_ ?_
    | with_reducible refine ite_both_fst_frame ?_ ?_
    | split
    | dsimp only)

theorem State.readWord_frame {M : Nat} {s : State} {cw : Nat} (hM : 739246100 &&& M = 739246100) : blank M (State.readWord s cw).1 = blank M s := blank_mono hM (by
  unfold State.readWord
  repeat'
    first
    | with_reducible rfl
    | with_reducible refine (State.countCe_frame (by decide)).trans ?_
    | with_reducible refine (State.countUe_frame (by decide)).trans ?_
    | with_reducible refine ite_both_frame ?_ ?_
    | with_reducible refine ite_both_fst_frame ?_ ?_
    | split
    | dsimp only)

theorem State.readWords_frame {M : Nat} {s : State} {cw n : Nat} (hM : 739246100 &&& M = 739246100) : blank M (State.readWords s cw n).1 = blank M s := blank_mono hM (by
  induction n generalizing s cw with
  | zero => 
      unfold State.readWords
      repeat'
        first
        | with_reducible rfl
  | succ _ ih =>
      unfold State.readWords
      repeat'
        first
        | with_reducible rfl
        | with_reducible refine ih.trans ?_
        | with_reducible refine (State.readWord_frame (by decide)).trans ?_)

theorem State.writeWords_frame {M : Nat} {s : State} {cw : Nat} {ds : List DWord} {poison : Bool} (hM : 67108864 &&& M = 67108864) : blank M (State.writeWords s cw ds poison) = blank M s := blank_mono hM (by
  induction ds generalizing s cw poison with
  | nil => 
      unfold State.writeWords
      repeat'
        first
        | with_reducible rfl
  | cons _ _ ih =>
      unfold State.writeWords
      repeat'
        first
        | with_reducible rfl
        | with_reducible refine ih.trans ?_
        | with_reducible refine (upMem_frame ?_ ?_ ?_).trans ?_
        | exact Or.inl rfl
        | exact Or.inr rfl)

theorem State.readJournal_frame {M : Nat} {s : State} {q : Nat} {n : Nat} (hM : 739246100 &&& M = 739246100) : blank M (State.readJournal s q n).1 = blank M s := blank_mono hM (by
  unfold State.readJournal
  repeat'
    first
    | with_reducible rfl
    | with_reducible refine (State.readWords_frame (by decide)).trans ?_
    | with_reducible refine ite_both_frame ?_ ?_
    | with_reducible refine ite_both_fst_frame ?_ ?_
    | split
    | dsimp only)

end Sys2Proof.Machine
end

