-- ==== Sys2Proof/Laws/Sparse.lean ====
section
/-! SUPPORT. The laws of the sparse tables: reading what was written, and the canonical form that every write keeps. -/

namespace Sys2Proof

theorem SMap.get_erase_self {α : Type} (m : SMap α) (d : α) (k : Nat) : (m.erase k).get d k = d := by
  induction m with
  | nil => rfl
  | cons e r ih =>
    obtain ⟨k', v⟩ := e
    unfold SMap.erase
    split
    · exact ih
    · rename_i h; unfold SMap.get; rw [if_neg h]; exact ih

theorem SMap.get_erase_of_ne {α : Type} (m : SMap α) (d : α) {k j : Nat} (h : j ≠ k) : (m.erase k).get d j = m.get d j := by
  induction m with
  | nil => rfl
  | cons e r ih =>
    obtain ⟨k', v⟩ := e
    unfold SMap.erase
    split
    · rename_i hk
      subst hk
      rw [ih]
      conv => rhs; unfold SMap.get
      rw [if_neg h]
    · conv => lhs; unfold SMap.get
      conv => rhs; unfold SMap.get
      rw [ih]

theorem SMap.get_insert_self {α : Type} (m : SMap α) (d : α) (k : Nat) (v : α) : ((m.erase k).insert k v).get d k = v := by
  induction m with
  | nil => simp [SMap.erase, SMap.insert, SMap.get]
  | cons e r ih =>
    obtain ⟨k', v'⟩ := e
    unfold SMap.erase
    split
    · exact ih
    · rename_i hne
      unfold SMap.insert
      split
      · simp [SMap.get]
      · unfold SMap.get; rw [if_neg hne]; exact ih

theorem SMap.get_insert_of_ne {α : Type} (m : SMap α) (d : α) {k j : Nat} (v : α) (h : j ≠ k) : (m.insert k v).get d j = m.get d j := by
  induction m with
  | nil => simp [SMap.insert, SMap.get, h]
  | cons e r ih =>
    obtain ⟨k', v'⟩ := e
    unfold SMap.insert
    split
    · conv => lhs; unfold SMap.get
      rw [if_neg h]
    · conv => lhs; unfold SMap.get
      conv => rhs; unfold SMap.get
      rw [ih]

@[simp] theorem SMap.get_set_self {α : Type} [DecidableEq α] (m : SMap α) (d : α) (k : Nat) (v : α) : (m.set d k v).get d k = v := by
  unfold SMap.set
  split
  · rename_i h; rw [SMap.get_erase_self, h]
  · exact SMap.get_insert_self m d k v

theorem SMap.get_set_of_ne {α : Type} [DecidableEq α] (m : SMap α) (d : α) {k j : Nat} (v : α) (h : j ≠ k) :
    (m.set d k v).get d j = m.get d j := by
  unfold SMap.set
  split
  · exact SMap.get_erase_of_ne m d h
  · rw [SMap.get_insert_of_ne _ _ _ h, SMap.get_erase_of_ne m d h]

/-- Reading after one write: the value written at its key, every other key as before. -/
theorem SMap.get_set {α : Type} [DecidableEq α] (m : SMap α) (d : α) (k j : Nat) (v : α) :
    (m.set d k v).get d j = if j = k then v else m.get d j := by
  split
  · rename_i h; rw [h, SMap.get_set_self]
  · rename_i h; exact SMap.get_set_of_ne m d v h

/-- Reading after one entry has been changed. -/
theorem SMap.get_upd {α : Type} [DecidableEq α] (m : SMap α) (d : α) (k j : Nat) (f : α → α) :
    (m.upd d k f).get d j = if j = k then f (m.get d k) else m.get d j := SMap.get_set m d k j _

@[simp] theorem SMap.get_upd_self {α : Type} [DecidableEq α] (m : SMap α) (d : α) (k : Nat) (f : α → α) :
    (m.upd d k f).get d k = f (m.get d k) := SMap.get_set_self m d k _

theorem SMap.get_upd_of_ne {α : Type} [DecidableEq α] (m : SMap α) (d : α) {k j : Nat} (f : α → α) (h : j ≠ k) :
    (m.upd d k f).get d j = m.get d j := SMap.get_set_of_ne m d _ h

/-! ### The canonical form -/

theorem SMap.rising_mono {α : Type} {m : SMap α} {a b : Nat} (h : a ≤ b) (hb : m.rising b = true) : m.rising a = true := by
  cases m with
  | nil => rfl
  | cons e r =>
    obtain ⟨k, v⟩ := e
    simp only [SMap.rising, Bool.and_eq_true, decide_eq_true_eq] at hb ⊢
    exact ⟨Nat.le_trans h hb.1, hb.2⟩

theorem SMap.rising_erase {α : Type} {m : SMap α} {lo : Nat} (k : Nat) (h : m.rising lo = true) : (m.erase k).rising lo = true := by
  induction m generalizing lo with
  | nil => rfl
  | cons e r ih =>
    obtain ⟨k', v⟩ := e
    simp only [SMap.rising, Bool.and_eq_true, decide_eq_true_eq] at h
    unfold SMap.erase
    split
    · exact SMap.rising_mono (Nat.le_succ_of_le h.1) (ih h.2)
    · simp only [SMap.rising, Bool.and_eq_true, decide_eq_true_eq]
      exact ⟨h.1, ih h.2⟩

/-- No entry has the key. -/
theorem SMap.all_ne_erase {α : Type} (m : SMap α) (k : Nat) : ∀ e ∈ m.erase k, e.1 ≠ k := by
  induction m with
  | nil => intro e he; cases he
  | cons x r ih =>
    obtain ⟨k', v⟩ := x
    unfold SMap.erase
    split
    · exact ih
    · rename_i h
      intro e he
      cases he with
      | head => exact fun hk => h hk.symm
      | tail _ he => exact ih e he

theorem SMap.rising_insert {α : Type} {m : SMap α} {lo k : Nat} (v : α) (hk : lo ≤ k) (hm : ∀ e ∈ m, e.1 ≠ k) (h : m.rising lo = true) :
    (m.insert k v).rising lo = true := by
  induction m generalizing lo with
  | nil => simp [SMap.insert, SMap.rising, hk]
  | cons e r ih =>
    obtain ⟨k', v'⟩ := e
    have hne : k' ≠ k := hm (k', v') (List.mem_cons_self ..)
    simp only [SMap.rising, Bool.and_eq_true, decide_eq_true_eq] at h
    unfold SMap.insert
    split
    · rename_i hlt
      simp only [SMap.rising, Bool.and_eq_true, decide_eq_true_eq]
      exact ⟨hk, hlt, h.2⟩
    · rename_i hge
      simp only [SMap.rising, Bool.and_eq_true, decide_eq_true_eq]
      exact ⟨h.1, ih (by omega) (fun e he => hm e (List.mem_cons_of_mem _ he)) h.2⟩

theorem SMap.mem_erase {α : Type} {m : SMap α} {k : Nat} {e : Nat × α} (h : e ∈ m.erase k) : e ∈ m := by
  induction m with
  | nil => cases h
  | cons x r ih =>
    obtain ⟨k', v⟩ := x
    unfold SMap.erase at h
    split at h
    · exact List.mem_cons_of_mem _ (ih h)
    · cases h with
      | head => exact List.mem_cons_self ..
      | tail _ h => exact List.mem_cons_of_mem _ (ih h)

theorem SMap.mem_insert {α : Type} {m : SMap α} {k : Nat} {v : α} {e : Nat × α} (h : e ∈ m.insert k v) : e = (k, v) ∨ e ∈ m := by
  induction m with
  | nil => simpa [SMap.insert] using h
  | cons x r ih =>
    obtain ⟨k', v'⟩ := x
    unfold SMap.insert at h
    split at h
    · cases h with
      | head => exact Or.inl rfl
      | tail _ h => exact Or.inr h
    · cases h with
      | head => exact Or.inr (List.mem_cons_self ..)
      | tail _ h =>
        rcases ih h with h | h
        · exact Or.inl h
        · exact Or.inr (List.mem_cons_of_mem _ h)

/-- A write keeps the canonical form. -/
theorem SMap.wf_set {α : Type} [DecidableEq α] {m : SMap α} {d : α} (k : Nat) (v : α) (h : m.wf d = true) : (m.set d k v).wf d = true := by
  simp only [SMap.wf, Bool.and_eq_true, List.all_eq_true, decide_eq_true_eq] at h ⊢
  unfold SMap.set
  split
  · exact ⟨SMap.rising_erase k h.1, fun e he => h.2 e (SMap.mem_erase he)⟩
  · rename_i hv
    refine ⟨SMap.rising_insert v (Nat.zero_le _) (SMap.all_ne_erase m k) (SMap.rising_erase k h.1), fun e he => ?_⟩
    rcases SMap.mem_insert he with he | he
    · rw [he]; exact hv
    · exact h.2 e (SMap.mem_erase he)

theorem SMap.wf_upd {α : Type} [DecidableEq α] {m : SMap α} {d : α} (k : Nat) (f : α → α) (h : m.wf d = true) : (m.upd d k f).wf d = true :=
  SMap.wf_set k _ h

/-- A key below every listed one reads as the default. -/
theorem SMap.get_of_lt {α : Type} {m : SMap α} {d : α} {lo k : Nat} (h : m.rising lo = true) (hk : k < lo) : m.get d k = d := by
  induction m generalizing lo with
  | nil => rfl
  | cons e r ih =>
    obtain ⟨k', v⟩ := e
    simp only [SMap.rising, Bool.and_eq_true, decide_eq_true_eq] at h
    unfold SMap.get
    rw [if_neg (by omega)]
    exact ih h.2 (by omega)

end Sys2Proof
end

