-- ==== Sys2Proof/Laws/State.lean ====
section
/-! SUPPORT. What each update of the state leaves as it was, and what it changes: one lemma per field and update. -/

namespace Sys2Proof.Machine

variable {s : State}

/-! ### Updates of a block -/

@[simp] theorem State.upGlb_pending (f : Glb → Glb) : (s.upGlb f).pending = s.pending := (rfl)
@[simp] theorem State.upGlb_ub (f : Glb → Glb) : (s.upGlb f).ub = s.ub := (rfl)
@[simp] theorem State.upGlb_freeCount (f : Glb → Glb) : (s.upGlb f).freeCount = s.freeCount := (rfl)
@[simp] theorem State.upGlb_out (f : Glb → Glb) : (s.upGlb f).out = s.out := (rfl)
@[simp] theorem State.upGlb_glb (f : Glb → Glb) : (s.upGlb f).glb = f s.glb := (rfl)
@[simp] theorem State.upGlb_tmb (f : Glb → Glb) : (s.upGlb f).tmb = s.tmb := (rfl)
@[simp] theorem State.upGlb_cfg (f : Glb → Glb) : (s.upGlb f).cfg = s.cfg := (rfl)
@[simp] theorem State.upGlb_path (f : Glb → Glb) : (s.upGlb f).path = s.path := (rfl)
@[simp] theorem State.upGlb_lace (f : Glb → Glb) : (s.upGlb f).lace = s.lace := (rfl)
@[simp] theorem State.upGlb_crier (f : Glb → Glb) : (s.upGlb f).crier = s.crier := (rfl)
@[simp] theorem State.upGlb_cmd (f : Glb → Glb) : (s.upGlb f).cmd = s.cmd := (rfl)
@[simp] theorem State.upGlb_host (f : Glb → Glb) : (s.upGlb f).host = s.host := (rfl)
@[simp] theorem State.upGlb_mem (f : Glb → Glb) : (s.upGlb f).mem = s.mem := (rfl)
@[simp] theorem State.upGlb_cal (f : Glb → Glb) : (s.upGlb f).cal = s.cal := (rfl)
@[simp] theorem State.upGlb_hlt (f : Glb → Glb) : (s.upGlb f).hlt = s.hlt := (rfl)
@[simp] theorem State.upGlb_lnk (f : Glb → Glb) : (s.upGlb f).lnk = s.lnk := (rfl)
@[simp] theorem State.upGlb_tdm (f : Glb → Glb) : (s.upGlb f).tdm = s.tdm := (rfl)
@[simp] theorem State.upGlb_ldr (f : Glb → Glb) : (s.upGlb f).ldr = s.ldr := (rfl)
@[simp] theorem State.upGlb_snap (f : Glb → Glb) : (s.upGlb f).snap = s.snap := (rfl)
@[simp] theorem State.upTmb_pending (f : Tmb → Tmb) : (s.upTmb f).pending = s.pending := (rfl)
@[simp] theorem State.upTmb_ub (f : Tmb → Tmb) : (s.upTmb f).ub = s.ub := (rfl)
@[simp] theorem State.upTmb_freeCount (f : Tmb → Tmb) : (s.upTmb f).freeCount = s.freeCount := (rfl)
@[simp] theorem State.upTmb_out (f : Tmb → Tmb) : (s.upTmb f).out = s.out := (rfl)
@[simp] theorem State.upTmb_glb (f : Tmb → Tmb) : (s.upTmb f).glb = s.glb := (rfl)
@[simp] theorem State.upTmb_tmb (f : Tmb → Tmb) : (s.upTmb f).tmb = f s.tmb := (rfl)
@[simp] theorem State.upTmb_cfg (f : Tmb → Tmb) : (s.upTmb f).cfg = s.cfg := (rfl)
@[simp] theorem State.upTmb_path (f : Tmb → Tmb) : (s.upTmb f).path = s.path := (rfl)
@[simp] theorem State.upTmb_lace (f : Tmb → Tmb) : (s.upTmb f).lace = s.lace := (rfl)
@[simp] theorem State.upTmb_crier (f : Tmb → Tmb) : (s.upTmb f).crier = s.crier := (rfl)
@[simp] theorem State.upTmb_cmd (f : Tmb → Tmb) : (s.upTmb f).cmd = s.cmd := (rfl)
@[simp] theorem State.upTmb_host (f : Tmb → Tmb) : (s.upTmb f).host = s.host := (rfl)
@[simp] theorem State.upTmb_mem (f : Tmb → Tmb) : (s.upTmb f).mem = s.mem := (rfl)
@[simp] theorem State.upTmb_cal (f : Tmb → Tmb) : (s.upTmb f).cal = s.cal := (rfl)
@[simp] theorem State.upTmb_hlt (f : Tmb → Tmb) : (s.upTmb f).hlt = s.hlt := (rfl)
@[simp] theorem State.upTmb_lnk (f : Tmb → Tmb) : (s.upTmb f).lnk = s.lnk := (rfl)
@[simp] theorem State.upTmb_tdm (f : Tmb → Tmb) : (s.upTmb f).tdm = s.tdm := (rfl)
@[simp] theorem State.upTmb_ldr (f : Tmb → Tmb) : (s.upTmb f).ldr = s.ldr := (rfl)
@[simp] theorem State.upTmb_snap (f : Tmb → Tmb) : (s.upTmb f).snap = s.snap := (rfl)
@[simp] theorem State.upCfg_pending (f : Cfg → Cfg) : (s.upCfg f).pending = s.pending := (rfl)
@[simp] theorem State.upCfg_ub (f : Cfg → Cfg) : (s.upCfg f).ub = s.ub := (rfl)
@[simp] theorem State.upCfg_freeCount (f : Cfg → Cfg) : (s.upCfg f).freeCount = s.freeCount := (rfl)
@[simp] theorem State.upCfg_out (f : Cfg → Cfg) : (s.upCfg f).out = s.out := (rfl)
@[simp] theorem State.upCfg_glb (f : Cfg → Cfg) : (s.upCfg f).glb = s.glb := (rfl)
@[simp] theorem State.upCfg_tmb (f : Cfg → Cfg) : (s.upCfg f).tmb = s.tmb := (rfl)
@[simp] theorem State.upCfg_cfg (f : Cfg → Cfg) : (s.upCfg f).cfg = f s.cfg := (rfl)
@[simp] theorem State.upCfg_path (f : Cfg → Cfg) : (s.upCfg f).path = s.path := (rfl)
@[simp] theorem State.upCfg_lace (f : Cfg → Cfg) : (s.upCfg f).lace = s.lace := (rfl)
@[simp] theorem State.upCfg_crier (f : Cfg → Cfg) : (s.upCfg f).crier = s.crier := (rfl)
@[simp] theorem State.upCfg_cmd (f : Cfg → Cfg) : (s.upCfg f).cmd = s.cmd := (rfl)
@[simp] theorem State.upCfg_host (f : Cfg → Cfg) : (s.upCfg f).host = s.host := (rfl)
@[simp] theorem State.upCfg_mem (f : Cfg → Cfg) : (s.upCfg f).mem = s.mem := (rfl)
@[simp] theorem State.upCfg_cal (f : Cfg → Cfg) : (s.upCfg f).cal = s.cal := (rfl)
@[simp] theorem State.upCfg_hlt (f : Cfg → Cfg) : (s.upCfg f).hlt = s.hlt := (rfl)
@[simp] theorem State.upCfg_lnk (f : Cfg → Cfg) : (s.upCfg f).lnk = s.lnk := (rfl)
@[simp] theorem State.upCfg_tdm (f : Cfg → Cfg) : (s.upCfg f).tdm = s.tdm := (rfl)
@[simp] theorem State.upCfg_ldr (f : Cfg → Cfg) : (s.upCfg f).ldr = s.ldr := (rfl)
@[simp] theorem State.upCfg_snap (f : Cfg → Cfg) : (s.upCfg f).snap = s.snap := (rfl)
@[simp] theorem State.upPath_pending (f : Path → Path) : (s.upPath f).pending = s.pending := (rfl)
@[simp] theorem State.upPath_ub (f : Path → Path) : (s.upPath f).ub = s.ub := (rfl)
@[simp] theorem State.upPath_freeCount (f : Path → Path) : (s.upPath f).freeCount = s.freeCount := (rfl)
@[simp] theorem State.upPath_out (f : Path → Path) : (s.upPath f).out = s.out := (rfl)
@[simp] theorem State.upPath_glb (f : Path → Path) : (s.upPath f).glb = s.glb := (rfl)
@[simp] theorem State.upPath_tmb (f : Path → Path) : (s.upPath f).tmb = s.tmb := (rfl)
@[simp] theorem State.upPath_cfg (f : Path → Path) : (s.upPath f).cfg = s.cfg := (rfl)
@[simp] theorem State.upPath_path (f : Path → Path) : (s.upPath f).path = f s.path := (rfl)
@[simp] theorem State.upPath_lace (f : Path → Path) : (s.upPath f).lace = s.lace := (rfl)
@[simp] theorem State.upPath_crier (f : Path → Path) : (s.upPath f).crier = s.crier := (rfl)
@[simp] theorem State.upPath_cmd (f : Path → Path) : (s.upPath f).cmd = s.cmd := (rfl)
@[simp] theorem State.upPath_host (f : Path → Path) : (s.upPath f).host = s.host := (rfl)
@[simp] theorem State.upPath_mem (f : Path → Path) : (s.upPath f).mem = s.mem := (rfl)
@[simp] theorem State.upPath_cal (f : Path → Path) : (s.upPath f).cal = s.cal := (rfl)
@[simp] theorem State.upPath_hlt (f : Path → Path) : (s.upPath f).hlt = s.hlt := (rfl)
@[simp] theorem State.upPath_lnk (f : Path → Path) : (s.upPath f).lnk = s.lnk := (rfl)
@[simp] theorem State.upPath_tdm (f : Path → Path) : (s.upPath f).tdm = s.tdm := (rfl)
@[simp] theorem State.upPath_ldr (f : Path → Path) : (s.upPath f).ldr = s.ldr := (rfl)
@[simp] theorem State.upPath_snap (f : Path → Path) : (s.upPath f).snap = s.snap := (rfl)
@[simp] theorem State.upLace_pending (f : LaceBlock → LaceBlock) : (s.upLace f).pending = s.pending := (rfl)
@[simp] theorem State.upLace_ub (f : LaceBlock → LaceBlock) : (s.upLace f).ub = s.ub := (rfl)
@[simp] theorem State.upLace_freeCount (f : LaceBlock → LaceBlock) : (s.upLace f).freeCount = s.freeCount := (rfl)
@[simp] theorem State.upLace_out (f : LaceBlock → LaceBlock) : (s.upLace f).out = s.out := (rfl)
@[simp] theorem State.upLace_glb (f : LaceBlock → LaceBlock) : (s.upLace f).glb = s.glb := (rfl)
@[simp] theorem State.upLace_tmb (f : LaceBlock → LaceBlock) : (s.upLace f).tmb = s.tmb := (rfl)
@[simp] theorem State.upLace_cfg (f : LaceBlock → LaceBlock) : (s.upLace f).cfg = s.cfg := (rfl)
@[simp] theorem State.upLace_path (f : LaceBlock → LaceBlock) : (s.upLace f).path = s.path := (rfl)
@[simp] theorem State.upLace_lace (f : LaceBlock → LaceBlock) : (s.upLace f).lace = f s.lace := (rfl)
@[simp] theorem State.upLace_crier (f : LaceBlock → LaceBlock) : (s.upLace f).crier = s.crier := (rfl)
@[simp] theorem State.upLace_cmd (f : LaceBlock → LaceBlock) : (s.upLace f).cmd = s.cmd := (rfl)
@[simp] theorem State.upLace_host (f : LaceBlock → LaceBlock) : (s.upLace f).host = s.host := (rfl)
@[simp] theorem State.upLace_mem (f : LaceBlock → LaceBlock) : (s.upLace f).mem = s.mem := (rfl)
@[simp] theorem State.upLace_cal (f : LaceBlock → LaceBlock) : (s.upLace f).cal = s.cal := (rfl)
@[simp] theorem State.upLace_hlt (f : LaceBlock → LaceBlock) : (s.upLace f).hlt = s.hlt := (rfl)
@[simp] theorem State.upLace_lnk (f : LaceBlock → LaceBlock) : (s.upLace f).lnk = s.lnk := (rfl)
@[simp] theorem State.upLace_tdm (f : LaceBlock → LaceBlock) : (s.upLace f).tdm = s.tdm := (rfl)
@[simp] theorem State.upLace_ldr (f : LaceBlock → LaceBlock) : (s.upLace f).ldr = s.ldr := (rfl)
@[simp] theorem State.upLace_snap (f : LaceBlock → LaceBlock) : (s.upLace f).snap = s.snap := (rfl)
@[simp] theorem State.upCrier_pending (f : Crier → Crier) : (s.upCrier f).pending = s.pending := (rfl)
@[simp] theorem State.upCrier_ub (f : Crier → Crier) : (s.upCrier f).ub = s.ub := (rfl)
@[simp] theorem State.upCrier_freeCount (f : Crier → Crier) : (s.upCrier f).freeCount = s.freeCount := (rfl)
@[simp] theorem State.upCrier_out (f : Crier → Crier) : (s.upCrier f).out = s.out := (rfl)
@[simp] theorem State.upCrier_glb (f : Crier → Crier) : (s.upCrier f).glb = s.glb := (rfl)
@[simp] theorem State.upCrier_tmb (f : Crier → Crier) : (s.upCrier f).tmb = s.tmb := (rfl)
@[simp] theorem State.upCrier_cfg (f : Crier → Crier) : (s.upCrier f).cfg = s.cfg := (rfl)
@[simp] theorem State.upCrier_path (f : Crier → Crier) : (s.upCrier f).path = s.path := (rfl)
@[simp] theorem State.upCrier_lace (f : Crier → Crier) : (s.upCrier f).lace = s.lace := (rfl)
@[simp] theorem State.upCrier_crier (f : Crier → Crier) : (s.upCrier f).crier = f s.crier := (rfl)
@[simp] theorem State.upCrier_cmd (f : Crier → Crier) : (s.upCrier f).cmd = s.cmd := (rfl)
@[simp] theorem State.upCrier_host (f : Crier → Crier) : (s.upCrier f).host = s.host := (rfl)
@[simp] theorem State.upCrier_mem (f : Crier → Crier) : (s.upCrier f).mem = s.mem := (rfl)
@[simp] theorem State.upCrier_cal (f : Crier → Crier) : (s.upCrier f).cal = s.cal := (rfl)
@[simp] theorem State.upCrier_hlt (f : Crier → Crier) : (s.upCrier f).hlt = s.hlt := (rfl)
@[simp] theorem State.upCrier_lnk (f : Crier → Crier) : (s.upCrier f).lnk = s.lnk := (rfl)
@[simp] theorem State.upCrier_tdm (f : Crier → Crier) : (s.upCrier f).tdm = s.tdm := (rfl)
@[simp] theorem State.upCrier_ldr (f : Crier → Crier) : (s.upCrier f).ldr = s.ldr := (rfl)
@[simp] theorem State.upCrier_snap (f : Crier → Crier) : (s.upCrier f).snap = s.snap := (rfl)
@[simp] theorem State.upCmd_pending (f : Cmd → Cmd) : (s.upCmd f).pending = s.pending := (rfl)
@[simp] theorem State.upCmd_ub (f : Cmd → Cmd) : (s.upCmd f).ub = s.ub := (rfl)
@[simp] theorem State.upCmd_freeCount (f : Cmd → Cmd) : (s.upCmd f).freeCount = s.freeCount := (rfl)
@[simp] theorem State.upCmd_out (f : Cmd → Cmd) : (s.upCmd f).out = s.out := (rfl)
@[simp] theorem State.upCmd_glb (f : Cmd → Cmd) : (s.upCmd f).glb = s.glb := (rfl)
@[simp] theorem State.upCmd_tmb (f : Cmd → Cmd) : (s.upCmd f).tmb = s.tmb := (rfl)
@[simp] theorem State.upCmd_cfg (f : Cmd → Cmd) : (s.upCmd f).cfg = s.cfg := (rfl)
@[simp] theorem State.upCmd_path (f : Cmd → Cmd) : (s.upCmd f).path = s.path := (rfl)
@[simp] theorem State.upCmd_lace (f : Cmd → Cmd) : (s.upCmd f).lace = s.lace := (rfl)
@[simp] theorem State.upCmd_crier (f : Cmd → Cmd) : (s.upCmd f).crier = s.crier := (rfl)
@[simp] theorem State.upCmd_cmd (f : Cmd → Cmd) : (s.upCmd f).cmd = f s.cmd := (rfl)
@[simp] theorem State.upCmd_host (f : Cmd → Cmd) : (s.upCmd f).host = s.host := (rfl)
@[simp] theorem State.upCmd_mem (f : Cmd → Cmd) : (s.upCmd f).mem = s.mem := (rfl)
@[simp] theorem State.upCmd_cal (f : Cmd → Cmd) : (s.upCmd f).cal = s.cal := (rfl)
@[simp] theorem State.upCmd_hlt (f : Cmd → Cmd) : (s.upCmd f).hlt = s.hlt := (rfl)
@[simp] theorem State.upCmd_lnk (f : Cmd → Cmd) : (s.upCmd f).lnk = s.lnk := (rfl)
@[simp] theorem State.upCmd_tdm (f : Cmd → Cmd) : (s.upCmd f).tdm = s.tdm := (rfl)
@[simp] theorem State.upCmd_ldr (f : Cmd → Cmd) : (s.upCmd f).ldr = s.ldr := (rfl)
@[simp] theorem State.upCmd_snap (f : Cmd → Cmd) : (s.upCmd f).snap = s.snap := (rfl)
@[simp] theorem State.upHost_pending (f : HostPorts → HostPorts) : (s.upHost f).pending = s.pending := (rfl)
@[simp] theorem State.upHost_ub (f : HostPorts → HostPorts) : (s.upHost f).ub = s.ub := (rfl)
@[simp] theorem State.upHost_freeCount (f : HostPorts → HostPorts) : (s.upHost f).freeCount = s.freeCount := (rfl)
@[simp] theorem State.upHost_out (f : HostPorts → HostPorts) : (s.upHost f).out = s.out := (rfl)
@[simp] theorem State.upHost_glb (f : HostPorts → HostPorts) : (s.upHost f).glb = s.glb := (rfl)
@[simp] theorem State.upHost_tmb (f : HostPorts → HostPorts) : (s.upHost f).tmb = s.tmb := (rfl)
@[simp] theorem State.upHost_cfg (f : HostPorts → HostPorts) : (s.upHost f).cfg = s.cfg := (rfl)
@[simp] theorem State.upHost_path (f : HostPorts → HostPorts) : (s.upHost f).path = s.path := (rfl)
@[simp] theorem State.upHost_lace (f : HostPorts → HostPorts) : (s.upHost f).lace = s.lace := (rfl)
@[simp] theorem State.upHost_crier (f : HostPorts → HostPorts) : (s.upHost f).crier = s.crier := (rfl)
@[simp] theorem State.upHost_cmd (f : HostPorts → HostPorts) : (s.upHost f).cmd = s.cmd := (rfl)
@[simp] theorem State.upHost_host (f : HostPorts → HostPorts) : (s.upHost f).host = f s.host := (rfl)
@[simp] theorem State.upHost_mem (f : HostPorts → HostPorts) : (s.upHost f).mem = s.mem := (rfl)
@[simp] theorem State.upHost_cal (f : HostPorts → HostPorts) : (s.upHost f).cal = s.cal := (rfl)
@[simp] theorem State.upHost_hlt (f : HostPorts → HostPorts) : (s.upHost f).hlt = s.hlt := (rfl)
@[simp] theorem State.upHost_lnk (f : HostPorts → HostPorts) : (s.upHost f).lnk = s.lnk := (rfl)
@[simp] theorem State.upHost_tdm (f : HostPorts → HostPorts) : (s.upHost f).tdm = s.tdm := (rfl)
@[simp] theorem State.upHost_ldr (f : HostPorts → HostPorts) : (s.upHost f).ldr = s.ldr := (rfl)
@[simp] theorem State.upHost_snap (f : HostPorts → HostPorts) : (s.upHost f).snap = s.snap := (rfl)
@[simp] theorem State.upMem_pending (f : Mem → Mem) : (s.upMem f).pending = s.pending := (rfl)
@[simp] theorem State.upMem_ub (f : Mem → Mem) : (s.upMem f).ub = s.ub := (rfl)
@[simp] theorem State.upMem_freeCount (f : Mem → Mem) : (s.upMem f).freeCount = s.freeCount := (rfl)
@[simp] theorem State.upMem_out (f : Mem → Mem) : (s.upMem f).out = s.out := (rfl)
@[simp] theorem State.upMem_glb (f : Mem → Mem) : (s.upMem f).glb = s.glb := (rfl)
@[simp] theorem State.upMem_tmb (f : Mem → Mem) : (s.upMem f).tmb = s.tmb := (rfl)
@[simp] theorem State.upMem_cfg (f : Mem → Mem) : (s.upMem f).cfg = s.cfg := (rfl)
@[simp] theorem State.upMem_path (f : Mem → Mem) : (s.upMem f).path = s.path := (rfl)
@[simp] theorem State.upMem_lace (f : Mem → Mem) : (s.upMem f).lace = s.lace := (rfl)
@[simp] theorem State.upMem_crier (f : Mem → Mem) : (s.upMem f).crier = s.crier := (rfl)
@[simp] theorem State.upMem_cmd (f : Mem → Mem) : (s.upMem f).cmd = s.cmd := (rfl)
@[simp] theorem State.upMem_host (f : Mem → Mem) : (s.upMem f).host = s.host := (rfl)
@[simp] theorem State.upMem_mem (f : Mem → Mem) : (s.upMem f).mem = f s.mem := (rfl)
@[simp] theorem State.upMem_cal (f : Mem → Mem) : (s.upMem f).cal = s.cal := (rfl)
@[simp] theorem State.upMem_hlt (f : Mem → Mem) : (s.upMem f).hlt = s.hlt := (rfl)
@[simp] theorem State.upMem_lnk (f : Mem → Mem) : (s.upMem f).lnk = s.lnk := (rfl)
@[simp] theorem State.upMem_tdm (f : Mem → Mem) : (s.upMem f).tdm = s.tdm := (rfl)
@[simp] theorem State.upMem_ldr (f : Mem → Mem) : (s.upMem f).ldr = s.ldr := (rfl)
@[simp] theorem State.upMem_snap (f : Mem → Mem) : (s.upMem f).snap = s.snap := (rfl)
@[simp] theorem State.upCal_pending (f : Cal → Cal) : (s.upCal f).pending = s.pending := (rfl)
@[simp] theorem State.upCal_ub (f : Cal → Cal) : (s.upCal f).ub = s.ub := (rfl)
@[simp] theorem State.upCal_freeCount (f : Cal → Cal) : (s.upCal f).freeCount = s.freeCount := (rfl)
@[simp] theorem State.upCal_out (f : Cal → Cal) : (s.upCal f).out = s.out := (rfl)
@[simp] theorem State.upCal_glb (f : Cal → Cal) : (s.upCal f).glb = s.glb := (rfl)
@[simp] theorem State.upCal_tmb (f : Cal → Cal) : (s.upCal f).tmb = s.tmb := (rfl)
@[simp] theorem State.upCal_cfg (f : Cal → Cal) : (s.upCal f).cfg = s.cfg := (rfl)
@[simp] theorem State.upCal_path (f : Cal → Cal) : (s.upCal f).path = s.path := (rfl)
@[simp] theorem State.upCal_lace (f : Cal → Cal) : (s.upCal f).lace = s.lace := (rfl)
@[simp] theorem State.upCal_crier (f : Cal → Cal) : (s.upCal f).crier = s.crier := (rfl)
@[simp] theorem State.upCal_cmd (f : Cal → Cal) : (s.upCal f).cmd = s.cmd := (rfl)
@[simp] theorem State.upCal_host (f : Cal → Cal) : (s.upCal f).host = s.host := (rfl)
@[simp] theorem State.upCal_mem (f : Cal → Cal) : (s.upCal f).mem = s.mem := (rfl)
@[simp] theorem State.upCal_cal (f : Cal → Cal) : (s.upCal f).cal = f s.cal := (rfl)
@[simp] theorem State.upCal_hlt (f : Cal → Cal) : (s.upCal f).hlt = s.hlt := (rfl)
@[simp] theorem State.upCal_lnk (f : Cal → Cal) : (s.upCal f).lnk = s.lnk := (rfl)
@[simp] theorem State.upCal_tdm (f : Cal → Cal) : (s.upCal f).tdm = s.tdm := (rfl)
@[simp] theorem State.upCal_ldr (f : Cal → Cal) : (s.upCal f).ldr = s.ldr := (rfl)
@[simp] theorem State.upCal_snap (f : Cal → Cal) : (s.upCal f).snap = s.snap := (rfl)
@[simp] theorem State.upHlt_pending (f : Hlt → Hlt) : (s.upHlt f).pending = s.pending := (rfl)
@[simp] theorem State.upHlt_ub (f : Hlt → Hlt) : (s.upHlt f).ub = s.ub := (rfl)
@[simp] theorem State.upHlt_freeCount (f : Hlt → Hlt) : (s.upHlt f).freeCount = s.freeCount := (rfl)
@[simp] theorem State.upHlt_out (f : Hlt → Hlt) : (s.upHlt f).out = s.out := (rfl)
@[simp] theorem State.upHlt_glb (f : Hlt → Hlt) : (s.upHlt f).glb = s.glb := (rfl)
@[simp] theorem State.upHlt_tmb (f : Hlt → Hlt) : (s.upHlt f).tmb = s.tmb := (rfl)
@[simp] theorem State.upHlt_cfg (f : Hlt → Hlt) : (s.upHlt f).cfg = s.cfg := (rfl)
@[simp] theorem State.upHlt_path (f : Hlt → Hlt) : (s.upHlt f).path = s.path := (rfl)
@[simp] theorem State.upHlt_lace (f : Hlt → Hlt) : (s.upHlt f).lace = s.lace := (rfl)
@[simp] theorem State.upHlt_crier (f : Hlt → Hlt) : (s.upHlt f).crier = s.crier := (rfl)
@[simp] theorem State.upHlt_cmd (f : Hlt → Hlt) : (s.upHlt f).cmd = s.cmd := (rfl)
@[simp] theorem State.upHlt_host (f : Hlt → Hlt) : (s.upHlt f).host = s.host := (rfl)
@[simp] theorem State.upHlt_mem (f : Hlt → Hlt) : (s.upHlt f).mem = s.mem := (rfl)
@[simp] theorem State.upHlt_cal (f : Hlt → Hlt) : (s.upHlt f).cal = s.cal := (rfl)
@[simp] theorem State.upHlt_hlt (f : Hlt → Hlt) : (s.upHlt f).hlt = f s.hlt := (rfl)
@[simp] theorem State.upHlt_lnk (f : Hlt → Hlt) : (s.upHlt f).lnk = s.lnk := (rfl)
@[simp] theorem State.upHlt_tdm (f : Hlt → Hlt) : (s.upHlt f).tdm = s.tdm := (rfl)
@[simp] theorem State.upHlt_ldr (f : Hlt → Hlt) : (s.upHlt f).ldr = s.ldr := (rfl)
@[simp] theorem State.upHlt_snap (f : Hlt → Hlt) : (s.upHlt f).snap = s.snap := (rfl)
@[simp] theorem State.upLnk_pending (f : Lnk → Lnk) : (s.upLnk f).pending = s.pending := (rfl)
@[simp] theorem State.upLnk_ub (f : Lnk → Lnk) : (s.upLnk f).ub = s.ub := (rfl)
@[simp] theorem State.upLnk_freeCount (f : Lnk → Lnk) : (s.upLnk f).freeCount = s.freeCount := (rfl)
@[simp] theorem State.upLnk_out (f : Lnk → Lnk) : (s.upLnk f).out = s.out := (rfl)
@[simp] theorem State.upLnk_glb (f : Lnk → Lnk) : (s.upLnk f).glb = s.glb := (rfl)
@[simp] theorem State.upLnk_tmb (f : Lnk → Lnk) : (s.upLnk f).tmb = s.tmb := (rfl)
@[simp] theorem State.upLnk_cfg (f : Lnk → Lnk) : (s.upLnk f).cfg = s.cfg := (rfl)
@[simp] theorem State.upLnk_path (f : Lnk → Lnk) : (s.upLnk f).path = s.path := (rfl)
@[simp] theorem State.upLnk_lace (f : Lnk → Lnk) : (s.upLnk f).lace = s.lace := (rfl)
@[simp] theorem State.upLnk_crier (f : Lnk → Lnk) : (s.upLnk f).crier = s.crier := (rfl)
@[simp] theorem State.upLnk_cmd (f : Lnk → Lnk) : (s.upLnk f).cmd = s.cmd := (rfl)
@[simp] theorem State.upLnk_host (f : Lnk → Lnk) : (s.upLnk f).host = s.host := (rfl)
@[simp] theorem State.upLnk_mem (f : Lnk → Lnk) : (s.upLnk f).mem = s.mem := (rfl)
@[simp] theorem State.upLnk_cal (f : Lnk → Lnk) : (s.upLnk f).cal = s.cal := (rfl)
@[simp] theorem State.upLnk_hlt (f : Lnk → Lnk) : (s.upLnk f).hlt = s.hlt := (rfl)
@[simp] theorem State.upLnk_lnk (f : Lnk → Lnk) : (s.upLnk f).lnk = f s.lnk := (rfl)
@[simp] theorem State.upLnk_tdm (f : Lnk → Lnk) : (s.upLnk f).tdm = s.tdm := (rfl)
@[simp] theorem State.upLnk_ldr (f : Lnk → Lnk) : (s.upLnk f).ldr = s.ldr := (rfl)
@[simp] theorem State.upLnk_snap (f : Lnk → Lnk) : (s.upLnk f).snap = s.snap := (rfl)
@[simp] theorem State.upTdm_pending (f : Tdm → Tdm) : (s.upTdm f).pending = s.pending := (rfl)
@[simp] theorem State.upTdm_ub (f : Tdm → Tdm) : (s.upTdm f).ub = s.ub := (rfl)
@[simp] theorem State.upTdm_freeCount (f : Tdm → Tdm) : (s.upTdm f).freeCount = s.freeCount := (rfl)
@[simp] theorem State.upTdm_out (f : Tdm → Tdm) : (s.upTdm f).out = s.out := (rfl)
@[simp] theorem State.upTdm_glb (f : Tdm → Tdm) : (s.upTdm f).glb = s.glb := (rfl)
@[simp] theorem State.upTdm_tmb (f : Tdm → Tdm) : (s.upTdm f).tmb = s.tmb := (rfl)
@[simp] theorem State.upTdm_cfg (f : Tdm → Tdm) : (s.upTdm f).cfg = s.cfg := (rfl)
@[simp] theorem State.upTdm_path (f : Tdm → Tdm) : (s.upTdm f).path = s.path := (rfl)
@[simp] theorem State.upTdm_lace (f : Tdm → Tdm) : (s.upTdm f).lace = s.lace := (rfl)
@[simp] theorem State.upTdm_crier (f : Tdm → Tdm) : (s.upTdm f).crier = s.crier := (rfl)
@[simp] theorem State.upTdm_cmd (f : Tdm → Tdm) : (s.upTdm f).cmd = s.cmd := (rfl)
@[simp] theorem State.upTdm_host (f : Tdm → Tdm) : (s.upTdm f).host = s.host := (rfl)
@[simp] theorem State.upTdm_mem (f : Tdm → Tdm) : (s.upTdm f).mem = s.mem := (rfl)
@[simp] theorem State.upTdm_cal (f : Tdm → Tdm) : (s.upTdm f).cal = s.cal := (rfl)
@[simp] theorem State.upTdm_hlt (f : Tdm → Tdm) : (s.upTdm f).hlt = s.hlt := (rfl)
@[simp] theorem State.upTdm_lnk (f : Tdm → Tdm) : (s.upTdm f).lnk = s.lnk := (rfl)
@[simp] theorem State.upTdm_tdm (f : Tdm → Tdm) : (s.upTdm f).tdm = f s.tdm := (rfl)
@[simp] theorem State.upTdm_ldr (f : Tdm → Tdm) : (s.upTdm f).ldr = s.ldr := (rfl)
@[simp] theorem State.upTdm_snap (f : Tdm → Tdm) : (s.upTdm f).snap = s.snap := (rfl)
@[simp] theorem State.upLdr_pending (f : Ldr → Ldr) : (s.upLdr f).pending = s.pending := (rfl)
@[simp] theorem State.upLdr_ub (f : Ldr → Ldr) : (s.upLdr f).ub = s.ub := (rfl)
@[simp] theorem State.upLdr_freeCount (f : Ldr → Ldr) : (s.upLdr f).freeCount = s.freeCount := (rfl)
@[simp] theorem State.upLdr_out (f : Ldr → Ldr) : (s.upLdr f).out = s.out := (rfl)
@[simp] theorem State.upLdr_glb (f : Ldr → Ldr) : (s.upLdr f).glb = s.glb := (rfl)
@[simp] theorem State.upLdr_tmb (f : Ldr → Ldr) : (s.upLdr f).tmb = s.tmb := (rfl)
@[simp] theorem State.upLdr_cfg (f : Ldr → Ldr) : (s.upLdr f).cfg = s.cfg := (rfl)
@[simp] theorem State.upLdr_path (f : Ldr → Ldr) : (s.upLdr f).path = s.path := (rfl)
@[simp] theorem State.upLdr_lace (f : Ldr → Ldr) : (s.upLdr f).lace = s.lace := (rfl)
@[simp] theorem State.upLdr_crier (f : Ldr → Ldr) : (s.upLdr f).crier = s.crier := (rfl)
@[simp] theorem State.upLdr_cmd (f : Ldr → Ldr) : (s.upLdr f).cmd = s.cmd := (rfl)
@[simp] theorem State.upLdr_host (f : Ldr → Ldr) : (s.upLdr f).host = s.host := (rfl)
@[simp] theorem State.upLdr_mem (f : Ldr → Ldr) : (s.upLdr f).mem = s.mem := (rfl)
@[simp] theorem State.upLdr_cal (f : Ldr → Ldr) : (s.upLdr f).cal = s.cal := (rfl)
@[simp] theorem State.upLdr_hlt (f : Ldr → Ldr) : (s.upLdr f).hlt = s.hlt := (rfl)
@[simp] theorem State.upLdr_lnk (f : Ldr → Ldr) : (s.upLdr f).lnk = s.lnk := (rfl)
@[simp] theorem State.upLdr_tdm (f : Ldr → Ldr) : (s.upLdr f).tdm = s.tdm := (rfl)
@[simp] theorem State.upLdr_ldr (f : Ldr → Ldr) : (s.upLdr f).ldr = f s.ldr := (rfl)
@[simp] theorem State.upLdr_snap (f : Ldr → Ldr) : (s.upLdr f).snap = s.snap := (rfl)
@[simp] theorem State.upSnap_pending (f : Snap → Snap) : (s.upSnap f).pending = s.pending := (rfl)
@[simp] theorem State.upSnap_ub (f : Snap → Snap) : (s.upSnap f).ub = s.ub := (rfl)
@[simp] theorem State.upSnap_freeCount (f : Snap → Snap) : (s.upSnap f).freeCount = s.freeCount := (rfl)
@[simp] theorem State.upSnap_out (f : Snap → Snap) : (s.upSnap f).out = s.out := (rfl)
@[simp] theorem State.upSnap_glb (f : Snap → Snap) : (s.upSnap f).glb = s.glb := (rfl)
@[simp] theorem State.upSnap_tmb (f : Snap → Snap) : (s.upSnap f).tmb = s.tmb := (rfl)
@[simp] theorem State.upSnap_cfg (f : Snap → Snap) : (s.upSnap f).cfg = s.cfg := (rfl)
@[simp] theorem State.upSnap_path (f : Snap → Snap) : (s.upSnap f).path = s.path := (rfl)
@[simp] theorem State.upSnap_lace (f : Snap → Snap) : (s.upSnap f).lace = s.lace := (rfl)
@[simp] theorem State.upSnap_crier (f : Snap → Snap) : (s.upSnap f).crier = s.crier := (rfl)
@[simp] theorem State.upSnap_cmd (f : Snap → Snap) : (s.upSnap f).cmd = s.cmd := (rfl)
@[simp] theorem State.upSnap_host (f : Snap → Snap) : (s.upSnap f).host = s.host := (rfl)
@[simp] theorem State.upSnap_mem (f : Snap → Snap) : (s.upSnap f).mem = s.mem := (rfl)
@[simp] theorem State.upSnap_cal (f : Snap → Snap) : (s.upSnap f).cal = s.cal := (rfl)
@[simp] theorem State.upSnap_hlt (f : Snap → Snap) : (s.upSnap f).hlt = s.hlt := (rfl)
@[simp] theorem State.upSnap_lnk (f : Snap → Snap) : (s.upSnap f).lnk = s.lnk := (rfl)
@[simp] theorem State.upSnap_tdm (f : Snap → Snap) : (s.upSnap f).tdm = s.tdm := (rfl)
@[simp] theorem State.upSnap_ldr (f : Snap → Snap) : (s.upSnap f).ldr = s.ldr := (rfl)
@[simp] theorem State.upSnap_snap (f : Snap → Snap) : (s.upSnap f).snap = f s.snap := (rfl)
@[simp] theorem State.emit_pending (o : Out) : (s.emit o).pending = s.pending := (rfl)
@[simp] theorem State.emit_ub (o : Out) : (s.emit o).ub = s.ub := (rfl)
@[simp] theorem State.emit_freeCount (o : Out) : (s.emit o).freeCount = s.freeCount := (rfl)
@[simp] theorem State.emit_out (o : Out) : (s.emit o).out = s.out ++ [o] := (rfl)
@[simp] theorem State.emit_glb (o : Out) : (s.emit o).glb = s.glb := (rfl)
@[simp] theorem State.emit_tmb (o : Out) : (s.emit o).tmb = s.tmb := (rfl)
@[simp] theorem State.emit_cfg (o : Out) : (s.emit o).cfg = s.cfg := (rfl)
@[simp] theorem State.emit_path (o : Out) : (s.emit o).path = s.path := (rfl)
@[simp] theorem State.emit_lace (o : Out) : (s.emit o).lace = s.lace := (rfl)
@[simp] theorem State.emit_crier (o : Out) : (s.emit o).crier = s.crier := (rfl)
@[simp] theorem State.emit_cmd (o : Out) : (s.emit o).cmd = s.cmd := (rfl)
@[simp] theorem State.emit_host (o : Out) : (s.emit o).host = s.host := (rfl)
@[simp] theorem State.emit_mem (o : Out) : (s.emit o).mem = s.mem := (rfl)
@[simp] theorem State.emit_cal (o : Out) : (s.emit o).cal = s.cal := (rfl)
@[simp] theorem State.emit_hlt (o : Out) : (s.emit o).hlt = s.hlt := (rfl)
@[simp] theorem State.emit_lnk (o : Out) : (s.emit o).lnk = s.lnk := (rfl)
@[simp] theorem State.emit_tdm (o : Out) : (s.emit o).tdm = s.tdm := (rfl)
@[simp] theorem State.emit_ldr (o : Out) : (s.emit o).ldr = s.ldr := (rfl)
@[simp] theorem State.emit_snap (o : Out) : (s.emit o).snap = s.snap := (rfl)
@[simp] theorem State.draw_pending  : (s.draw).pending = s.pending := (rfl)
@[simp] theorem State.draw_ub  : (s.draw).ub = s.ub := (rfl)
@[simp] theorem State.draw_freeCount  : (s.draw).freeCount = s.freeCount + 1 := (rfl)
@[simp] theorem State.draw_out  : (s.draw).out = s.out := (rfl)
@[simp] theorem State.draw_glb  : (s.draw).glb = s.glb := (rfl)
@[simp] theorem State.draw_tmb  : (s.draw).tmb = s.tmb := (rfl)
@[simp] theorem State.draw_cfg  : (s.draw).cfg = s.cfg := (rfl)
@[simp] theorem State.draw_path  : (s.draw).path = s.path := (rfl)
@[simp] theorem State.draw_lace  : (s.draw).lace = s.lace := (rfl)
@[simp] theorem State.draw_crier  : (s.draw).crier = s.crier := (rfl)
@[simp] theorem State.draw_cmd  : (s.draw).cmd = s.cmd := (rfl)
@[simp] theorem State.draw_host  : (s.draw).host = s.host := (rfl)
@[simp] theorem State.draw_mem  : (s.draw).mem = s.mem := (rfl)
@[simp] theorem State.draw_cal  : (s.draw).cal = s.cal := (rfl)
@[simp] theorem State.draw_hlt  : (s.draw).hlt = s.hlt := (rfl)
@[simp] theorem State.draw_lnk  : (s.draw).lnk = s.lnk := (rfl)
@[simp] theorem State.draw_tdm  : (s.draw).tdm = s.tdm := (rfl)
@[simp] theorem State.draw_ldr  : (s.draw).ldr = s.ldr := (rfl)
@[simp] theorem State.draw_snap  : (s.draw).snap = s.snap := (rfl)
@[simp] theorem State.endSpan_pending  : (s.endSpan).pending = s.pending := (rfl)
@[simp] theorem State.endSpan_ub  : (s.endSpan).ub = none := (rfl)
@[simp] theorem State.endSpan_freeCount  : (s.endSpan).freeCount = s.freeCount := (rfl)
@[simp] theorem State.endSpan_out  : (s.endSpan).out = s.out := (rfl)
@[simp] theorem State.endSpan_glb  : (s.endSpan).glb = s.glb := (rfl)
@[simp] theorem State.endSpan_tmb  : (s.endSpan).tmb = s.tmb := (rfl)
@[simp] theorem State.endSpan_cfg  : (s.endSpan).cfg = s.cfg := (rfl)
@[simp] theorem State.endSpan_path  : (s.endSpan).path = s.path := (rfl)
@[simp] theorem State.endSpan_lace  : (s.endSpan).lace = s.lace := (rfl)
@[simp] theorem State.endSpan_crier  : (s.endSpan).crier = s.crier := (rfl)
@[simp] theorem State.endSpan_cmd  : (s.endSpan).cmd = s.cmd := (rfl)
@[simp] theorem State.endSpan_host  : (s.endSpan).host = s.host := (rfl)
@[simp] theorem State.endSpan_mem  : (s.endSpan).mem = s.mem := (rfl)
@[simp] theorem State.endSpan_cal  : (s.endSpan).cal = s.cal := (rfl)
@[simp] theorem State.endSpan_hlt  : (s.endSpan).hlt = s.hlt := (rfl)
@[simp] theorem State.endSpan_lnk  : (s.endSpan).lnk = s.lnk := (rfl)
@[simp] theorem State.endSpan_tdm  : (s.endSpan).tdm = s.tdm := (rfl)
@[simp] theorem State.endSpan_ldr  : (s.endSpan).ldr = s.ldr := (rfl)
@[simp] theorem State.endSpan_snap  : (s.endSpan).snap = s.snap := (rfl)
@[simp] theorem State.undefinedUse_pending (r : Nat) : (s.undefinedUse r).pending = s.pending := by unfold State.undefinedUse; split <;> rfl
@[simp] theorem State.undefinedUse_freeCount (r : Nat) : (s.undefinedUse r).freeCount = s.freeCount := by unfold State.undefinedUse; split <;> rfl
@[simp] theorem State.undefinedUse_out (r : Nat) : (s.undefinedUse r).out = s.out := by unfold State.undefinedUse; split <;> rfl
@[simp] theorem State.undefinedUse_glb (r : Nat) : (s.undefinedUse r).glb = s.glb := by unfold State.undefinedUse; split <;> rfl
@[simp] theorem State.undefinedUse_tmb (r : Nat) : (s.undefinedUse r).tmb = s.tmb := by unfold State.undefinedUse; split <;> rfl
@[simp] theorem State.undefinedUse_cfg (r : Nat) : (s.undefinedUse r).cfg = s.cfg := by unfold State.undefinedUse; split <;> rfl
@[simp] theorem State.undefinedUse_path (r : Nat) : (s.undefinedUse r).path = s.path := by unfold State.undefinedUse; split <;> rfl
@[simp] theorem State.undefinedUse_lace (r : Nat) : (s.undefinedUse r).lace = s.lace := by unfold State.undefinedUse; split <;> rfl
@[simp] theorem State.undefinedUse_crier (r : Nat) : (s.undefinedUse r).crier = s.crier := by unfold State.undefinedUse; split <;> rfl
@[simp] theorem State.undefinedUse_cmd (r : Nat) : (s.undefinedUse r).cmd = s.cmd := by unfold State.undefinedUse; split <;> rfl
@[simp] theorem State.undefinedUse_host (r : Nat) : (s.undefinedUse r).host = s.host := by unfold State.undefinedUse; split <;> rfl
@[simp] theorem State.undefinedUse_mem (r : Nat) : (s.undefinedUse r).mem = s.mem := by unfold State.undefinedUse; split <;> rfl
@[simp] theorem State.undefinedUse_cal (r : Nat) : (s.undefinedUse r).cal = s.cal := by unfold State.undefinedUse; split <;> rfl
@[simp] theorem State.undefinedUse_hlt (r : Nat) : (s.undefinedUse r).hlt = s.hlt := by unfold State.undefinedUse; split <;> rfl
@[simp] theorem State.undefinedUse_lnk (r : Nat) : (s.undefinedUse r).lnk = s.lnk := by unfold State.undefinedUse; split <;> rfl
@[simp] theorem State.undefinedUse_tdm (r : Nat) : (s.undefinedUse r).tdm = s.tdm := by unfold State.undefinedUse; split <;> rfl
@[simp] theorem State.undefinedUse_ldr (r : Nat) : (s.undefinedUse r).ldr = s.ldr := by unfold State.undefinedUse; split <;> rfl
@[simp] theorem State.undefinedUse_snap (r : Nat) : (s.undefinedUse r).snap = s.snap := by unfold State.undefinedUse; split <;> rfl
theorem State.undefinedUse_ub (r : Nat) (h : s.ub = none) : (s.undefinedUse r).ub = some r := by
  unfold State.undefinedUse; rw [h]; rfl

/-! ### Updates of an entry of a table -/

@[simp] theorem State.upSpoke_spoke_self (i : Nat) (f : Spoke → Spoke) : (s.upSpoke i f).spoke i = f (s.spoke i) := SMap.get_upd_self _ _ _ _
theorem State.upSpoke_spoke_ne {i j : Nat} (f : Spoke → Spoke) (h : j ≠ i) : (s.upSpoke i f).spoke j = s.spoke j := SMap.get_upd_of_ne _ _ _ h
@[simp] theorem State.upSpoke_pending (i : Nat) (f : Spoke → Spoke) : (s.upSpoke i f).pending = s.pending := (rfl)
@[simp] theorem State.upSpoke_ub (i : Nat) (f : Spoke → Spoke) : (s.upSpoke i f).ub = s.ub := (rfl)
@[simp] theorem State.upSpoke_freeCount (i : Nat) (f : Spoke → Spoke) : (s.upSpoke i f).freeCount = s.freeCount := (rfl)
@[simp] theorem State.upSpoke_out (i : Nat) (f : Spoke → Spoke) : (s.upSpoke i f).out = s.out := (rfl)
@[simp] theorem State.upSpoke_glb (i : Nat) (f : Spoke → Spoke) : (s.upSpoke i f).glb = s.glb := (rfl)
@[simp] theorem State.upSpoke_tmb (i : Nat) (f : Spoke → Spoke) : (s.upSpoke i f).tmb = s.tmb := (rfl)
@[simp] theorem State.upSpoke_cfg (i : Nat) (f : Spoke → Spoke) : (s.upSpoke i f).cfg = s.cfg := (rfl)
@[simp] theorem State.upSpoke_lace (i : Nat) (f : Spoke → Spoke) : (s.upSpoke i f).lace = s.lace := (rfl)
@[simp] theorem State.upSpoke_crier (i : Nat) (f : Spoke → Spoke) : (s.upSpoke i f).crier = s.crier := (rfl)
@[simp] theorem State.upSpoke_cmd (i : Nat) (f : Spoke → Spoke) : (s.upSpoke i f).cmd = s.cmd := (rfl)
@[simp] theorem State.upSpoke_host (i : Nat) (f : Spoke → Spoke) : (s.upSpoke i f).host = s.host := (rfl)
@[simp] theorem State.upSpoke_mem (i : Nat) (f : Spoke → Spoke) : (s.upSpoke i f).mem = s.mem := (rfl)
@[simp] theorem State.upSpoke_cal (i : Nat) (f : Spoke → Spoke) : (s.upSpoke i f).cal = s.cal := (rfl)
@[simp] theorem State.upSpoke_hlt (i : Nat) (f : Spoke → Spoke) : (s.upSpoke i f).hlt = s.hlt := (rfl)
@[simp] theorem State.upSpoke_lnk (i : Nat) (f : Spoke → Spoke) : (s.upSpoke i f).lnk = s.lnk := (rfl)
@[simp] theorem State.upSpoke_tdm (i : Nat) (f : Spoke → Spoke) : (s.upSpoke i f).tdm = s.tdm := (rfl)
@[simp] theorem State.upSpoke_ldr (i : Nat) (f : Spoke → Spoke) : (s.upSpoke i f).ldr = s.ldr := (rfl)
@[simp] theorem State.upSpoke_snap (i : Nat) (f : Spoke → Spoke) : (s.upSpoke i f).snap = s.snap := (rfl)
@[simp] theorem State.upSpoke_look (i j : Nat) (f : Spoke → Spoke) : (s.upSpoke i f).look j = s.look j := (rfl)
@[simp] theorem State.upSpoke_modu (i j : Nat) (f : Spoke → Spoke) : (s.upSpoke i f).modu j = s.modu j := (rfl)
@[simp] theorem State.upSpoke_sw (i j : Nat) (f : Spoke → Spoke) : (s.upSpoke i f).sw j = s.sw j := (rfl)
@[simp] theorem State.upSpoke_trig (i j : Nat) (f : Spoke → Spoke) : (s.upSpoke i f).trig j = s.trig j := (rfl)
@[simp] theorem State.upSpoke_strm (i j : Nat) (f : Spoke → Spoke) : (s.upSpoke i f).strm j = s.strm j := (rfl)
@[simp] theorem State.upSpoke_stall (i j : Nat) (f : Spoke → Spoke) : (s.upSpoke i f).stall j = s.stall j := (rfl)
@[simp] theorem State.upSpoke_job (i j : Nat) (f : Spoke → Spoke) : (s.upSpoke i f).job j = s.job j := (rfl)
@[simp] theorem State.upSpoke_engine (i j : Nat) (f : Spoke → Spoke) : (s.upSpoke i f).engine j = s.engine j := (rfl)
@[simp] theorem State.upSpoke_laceOf (i j : Nat) (f : Spoke → Spoke) : (s.upSpoke i f).laceOf j = s.laceOf j := (rfl)
@[simp] theorem State.upSpoke_que (i j : Nat) (f : Spoke → Spoke) : (s.upSpoke i f).que j = s.que j := (rfl)
@[simp] theorem State.upSpoke_ring (i j : Nat) (f : Spoke → Spoke) : (s.upSpoke i f).ring j = s.ring j := (rfl)
@[simp] theorem State.upSpoke_bank (i j : Nat) (f : Spoke → Spoke) : (s.upSpoke i f).bank j = s.bank j := (rfl)
@[simp] theorem State.upSpoke_memUnit (i j : Nat) (f : Spoke → Spoke) : (s.upSpoke i f).memUnit j = s.memUnit j := (rfl)
@[simp] theorem State.upSpoke_window (i j : Nat) (f : Spoke → Spoke) : (s.upSpoke i f).window j = s.window j := (rfl)
@[simp] theorem State.upSpoke_lane (i j : Nat) (f : Spoke → Spoke) : (s.upSpoke i f).lane j = s.lane j := (rfl)
@[simp] theorem State.upLook_look_self (i : Nat) (f : Look → Look) : (s.upLook i f).look i = f (s.look i) := SMap.get_upd_self _ _ _ _
theorem State.upLook_look_ne {i j : Nat} (f : Look → Look) (h : j ≠ i) : (s.upLook i f).look j = s.look j := SMap.get_upd_of_ne _ _ _ h
@[simp] theorem State.upLook_pending (i : Nat) (f : Look → Look) : (s.upLook i f).pending = s.pending := (rfl)
@[simp] theorem State.upLook_ub (i : Nat) (f : Look → Look) : (s.upLook i f).ub = s.ub := (rfl)
@[simp] theorem State.upLook_freeCount (i : Nat) (f : Look → Look) : (s.upLook i f).freeCount = s.freeCount := (rfl)
@[simp] theorem State.upLook_out (i : Nat) (f : Look → Look) : (s.upLook i f).out = s.out := (rfl)
@[simp] theorem State.upLook_glb (i : Nat) (f : Look → Look) : (s.upLook i f).glb = s.glb := (rfl)
@[simp] theorem State.upLook_tmb (i : Nat) (f : Look → Look) : (s.upLook i f).tmb = s.tmb := (rfl)
@[simp] theorem State.upLook_cfg (i : Nat) (f : Look → Look) : (s.upLook i f).cfg = s.cfg := (rfl)
@[simp] theorem State.upLook_lace (i : Nat) (f : Look → Look) : (s.upLook i f).lace = s.lace := (rfl)
@[simp] theorem State.upLook_crier (i : Nat) (f : Look → Look) : (s.upLook i f).crier = s.crier := (rfl)
@[simp] theorem State.upLook_cmd (i : Nat) (f : Look → Look) : (s.upLook i f).cmd = s.cmd := (rfl)
@[simp] theorem State.upLook_host (i : Nat) (f : Look → Look) : (s.upLook i f).host = s.host := (rfl)
@[simp] theorem State.upLook_mem (i : Nat) (f : Look → Look) : (s.upLook i f).mem = s.mem := (rfl)
@[simp] theorem State.upLook_cal (i : Nat) (f : Look → Look) : (s.upLook i f).cal = s.cal := (rfl)
@[simp] theorem State.upLook_hlt (i : Nat) (f : Look → Look) : (s.upLook i f).hlt = s.hlt := (rfl)
@[simp] theorem State.upLook_lnk (i : Nat) (f : Look → Look) : (s.upLook i f).lnk = s.lnk := (rfl)
@[simp] theorem State.upLook_tdm (i : Nat) (f : Look → Look) : (s.upLook i f).tdm = s.tdm := (rfl)
@[simp] theorem State.upLook_ldr (i : Nat) (f : Look → Look) : (s.upLook i f).ldr = s.ldr := (rfl)
@[simp] theorem State.upLook_snap (i : Nat) (f : Look → Look) : (s.upLook i f).snap = s.snap := (rfl)
@[simp] theorem State.upLook_spoke (i j : Nat) (f : Look → Look) : (s.upLook i f).spoke j = s.spoke j := (rfl)
@[simp] theorem State.upLook_modu (i j : Nat) (f : Look → Look) : (s.upLook i f).modu j = s.modu j := (rfl)
@[simp] theorem State.upLook_sw (i j : Nat) (f : Look → Look) : (s.upLook i f).sw j = s.sw j := (rfl)
@[simp] theorem State.upLook_trig (i j : Nat) (f : Look → Look) : (s.upLook i f).trig j = s.trig j := (rfl)
@[simp] theorem State.upLook_strm (i j : Nat) (f : Look → Look) : (s.upLook i f).strm j = s.strm j := (rfl)
@[simp] theorem State.upLook_stall (i j : Nat) (f : Look → Look) : (s.upLook i f).stall j = s.stall j := (rfl)
@[simp] theorem State.upLook_job (i j : Nat) (f : Look → Look) : (s.upLook i f).job j = s.job j := (rfl)
@[simp] theorem State.upLook_engine (i j : Nat) (f : Look → Look) : (s.upLook i f).engine j = s.engine j := (rfl)
@[simp] theorem State.upLook_laceOf (i j : Nat) (f : Look → Look) : (s.upLook i f).laceOf j = s.laceOf j := (rfl)
@[simp] theorem State.upLook_que (i j : Nat) (f : Look → Look) : (s.upLook i f).que j = s.que j := (rfl)
@[simp] theorem State.upLook_ring (i j : Nat) (f : Look → Look) : (s.upLook i f).ring j = s.ring j := (rfl)
@[simp] theorem State.upLook_bank (i j : Nat) (f : Look → Look) : (s.upLook i f).bank j = s.bank j := (rfl)
@[simp] theorem State.upLook_memUnit (i j : Nat) (f : Look → Look) : (s.upLook i f).memUnit j = s.memUnit j := (rfl)
@[simp] theorem State.upLook_window (i j : Nat) (f : Look → Look) : (s.upLook i f).window j = s.window j := (rfl)
@[simp] theorem State.upLook_lane (i j : Nat) (f : Look → Look) : (s.upLook i f).lane j = s.lane j := (rfl)
@[simp] theorem State.upModu_modu_self (i : Nat) (f : Modu → Modu) : (s.upModu i f).modu i = f (s.modu i) := SMap.get_upd_self _ _ _ _
theorem State.upModu_modu_ne {i j : Nat} (f : Modu → Modu) (h : j ≠ i) : (s.upModu i f).modu j = s.modu j := SMap.get_upd_of_ne _ _ _ h
@[simp] theorem State.upModu_pending (i : Nat) (f : Modu → Modu) : (s.upModu i f).pending = s.pending := (rfl)
@[simp] theorem State.upModu_ub (i : Nat) (f : Modu → Modu) : (s.upModu i f).ub = s.ub := (rfl)
@[simp] theorem State.upModu_freeCount (i : Nat) (f : Modu → Modu) : (s.upModu i f).freeCount = s.freeCount := (rfl)
@[simp] theorem State.upModu_out (i : Nat) (f : Modu → Modu) : (s.upModu i f).out = s.out := (rfl)
@[simp] theorem State.upModu_glb (i : Nat) (f : Modu → Modu) : (s.upModu i f).glb = s.glb := (rfl)
@[simp] theorem State.upModu_tmb (i : Nat) (f : Modu → Modu) : (s.upModu i f).tmb = s.tmb := (rfl)
@[simp] theorem State.upModu_cfg (i : Nat) (f : Modu → Modu) : (s.upModu i f).cfg = s.cfg := (rfl)
@[simp] theorem State.upModu_lace (i : Nat) (f : Modu → Modu) : (s.upModu i f).lace = s.lace := (rfl)
@[simp] theorem State.upModu_crier (i : Nat) (f : Modu → Modu) : (s.upModu i f).crier = s.crier := (rfl)
@[simp] theorem State.upModu_cmd (i : Nat) (f : Modu → Modu) : (s.upModu i f).cmd = s.cmd := (rfl)
@[simp] theorem State.upModu_host (i : Nat) (f : Modu → Modu) : (s.upModu i f).host = s.host := (rfl)
@[simp] theorem State.upModu_mem (i : Nat) (f : Modu → Modu) : (s.upModu i f).mem = s.mem := (rfl)
@[simp] theorem State.upModu_cal (i : Nat) (f : Modu → Modu) : (s.upModu i f).cal = s.cal := (rfl)
@[simp] theorem State.upModu_hlt (i : Nat) (f : Modu → Modu) : (s.upModu i f).hlt = s.hlt := (rfl)
@[simp] theorem State.upModu_lnk (i : Nat) (f : Modu → Modu) : (s.upModu i f).lnk = s.lnk := (rfl)
@[simp] theorem State.upModu_tdm (i : Nat) (f : Modu → Modu) : (s.upModu i f).tdm = s.tdm := (rfl)
@[simp] theorem State.upModu_ldr (i : Nat) (f : Modu → Modu) : (s.upModu i f).ldr = s.ldr := (rfl)
@[simp] theorem State.upModu_snap (i : Nat) (f : Modu → Modu) : (s.upModu i f).snap = s.snap := (rfl)
@[simp] theorem State.upModu_spoke (i j : Nat) (f : Modu → Modu) : (s.upModu i f).spoke j = s.spoke j := (rfl)
@[simp] theorem State.upModu_look (i j : Nat) (f : Modu → Modu) : (s.upModu i f).look j = s.look j := (rfl)
@[simp] theorem State.upModu_sw (i j : Nat) (f : Modu → Modu) : (s.upModu i f).sw j = s.sw j := (rfl)
@[simp] theorem State.upModu_trig (i j : Nat) (f : Modu → Modu) : (s.upModu i f).trig j = s.trig j := (rfl)
@[simp] theorem State.upModu_strm (i j : Nat) (f : Modu → Modu) : (s.upModu i f).strm j = s.strm j := (rfl)
@[simp] theorem State.upModu_stall (i j : Nat) (f : Modu → Modu) : (s.upModu i f).stall j = s.stall j := (rfl)
@[simp] theorem State.upModu_job (i j : Nat) (f : Modu → Modu) : (s.upModu i f).job j = s.job j := (rfl)
@[simp] theorem State.upModu_engine (i j : Nat) (f : Modu → Modu) : (s.upModu i f).engine j = s.engine j := (rfl)
@[simp] theorem State.upModu_laceOf (i j : Nat) (f : Modu → Modu) : (s.upModu i f).laceOf j = s.laceOf j := (rfl)
@[simp] theorem State.upModu_que (i j : Nat) (f : Modu → Modu) : (s.upModu i f).que j = s.que j := (rfl)
@[simp] theorem State.upModu_ring (i j : Nat) (f : Modu → Modu) : (s.upModu i f).ring j = s.ring j := (rfl)
@[simp] theorem State.upModu_bank (i j : Nat) (f : Modu → Modu) : (s.upModu i f).bank j = s.bank j := (rfl)
@[simp] theorem State.upModu_memUnit (i j : Nat) (f : Modu → Modu) : (s.upModu i f).memUnit j = s.memUnit j := (rfl)
@[simp] theorem State.upModu_window (i j : Nat) (f : Modu → Modu) : (s.upModu i f).window j = s.window j := (rfl)
@[simp] theorem State.upModu_lane (i j : Nat) (f : Modu → Modu) : (s.upModu i f).lane j = s.lane j := (rfl)
@[simp] theorem State.upSw_sw_self (i : Nat) (f : Switch → Switch) : (s.upSw i f).sw i = f (s.sw i) := SMap.get_upd_self _ _ _ _
theorem State.upSw_sw_ne {i j : Nat} (f : Switch → Switch) (h : j ≠ i) : (s.upSw i f).sw j = s.sw j := SMap.get_upd_of_ne _ _ _ h
@[simp] theorem State.upSw_pending (i : Nat) (f : Switch → Switch) : (s.upSw i f).pending = s.pending := (rfl)
@[simp] theorem State.upSw_ub (i : Nat) (f : Switch → Switch) : (s.upSw i f).ub = s.ub := (rfl)
@[simp] theorem State.upSw_freeCount (i : Nat) (f : Switch → Switch) : (s.upSw i f).freeCount = s.freeCount := (rfl)
@[simp] theorem State.upSw_out (i : Nat) (f : Switch → Switch) : (s.upSw i f).out = s.out := (rfl)
@[simp] theorem State.upSw_glb (i : Nat) (f : Switch → Switch) : (s.upSw i f).glb = s.glb := (rfl)
@[simp] theorem State.upSw_tmb (i : Nat) (f : Switch → Switch) : (s.upSw i f).tmb = s.tmb := (rfl)
@[simp] theorem State.upSw_cfg (i : Nat) (f : Switch → Switch) : (s.upSw i f).cfg = s.cfg := (rfl)
@[simp] theorem State.upSw_lace (i : Nat) (f : Switch → Switch) : (s.upSw i f).lace = s.lace := (rfl)
@[simp] theorem State.upSw_crier (i : Nat) (f : Switch → Switch) : (s.upSw i f).crier = s.crier := (rfl)
@[simp] theorem State.upSw_cmd (i : Nat) (f : Switch → Switch) : (s.upSw i f).cmd = s.cmd := (rfl)
@[simp] theorem State.upSw_host (i : Nat) (f : Switch → Switch) : (s.upSw i f).host = s.host := (rfl)
@[simp] theorem State.upSw_mem (i : Nat) (f : Switch → Switch) : (s.upSw i f).mem = s.mem := (rfl)
@[simp] theorem State.upSw_cal (i : Nat) (f : Switch → Switch) : (s.upSw i f).cal = s.cal := (rfl)
@[simp] theorem State.upSw_hlt (i : Nat) (f : Switch → Switch) : (s.upSw i f).hlt = s.hlt := (rfl)
@[simp] theorem State.upSw_lnk (i : Nat) (f : Switch → Switch) : (s.upSw i f).lnk = s.lnk := (rfl)
@[simp] theorem State.upSw_tdm (i : Nat) (f : Switch → Switch) : (s.upSw i f).tdm = s.tdm := (rfl)
@[simp] theorem State.upSw_ldr (i : Nat) (f : Switch → Switch) : (s.upSw i f).ldr = s.ldr := (rfl)
@[simp] theorem State.upSw_snap (i : Nat) (f : Switch → Switch) : (s.upSw i f).snap = s.snap := (rfl)
@[simp] theorem State.upSw_spoke (i j : Nat) (f : Switch → Switch) : (s.upSw i f).spoke j = s.spoke j := (rfl)
@[simp] theorem State.upSw_look (i j : Nat) (f : Switch → Switch) : (s.upSw i f).look j = s.look j := (rfl)
@[simp] theorem State.upSw_modu (i j : Nat) (f : Switch → Switch) : (s.upSw i f).modu j = s.modu j := (rfl)
@[simp] theorem State.upSw_trig (i j : Nat) (f : Switch → Switch) : (s.upSw i f).trig j = s.trig j := (rfl)
@[simp] theorem State.upSw_strm (i j : Nat) (f : Switch → Switch) : (s.upSw i f).strm j = s.strm j := (rfl)
@[simp] theorem State.upSw_stall (i j : Nat) (f : Switch → Switch) : (s.upSw i f).stall j = s.stall j := (rfl)
@[simp] theorem State.upSw_job (i j : Nat) (f : Switch → Switch) : (s.upSw i f).job j = s.job j := (rfl)
@[simp] theorem State.upSw_engine (i j : Nat) (f : Switch → Switch) : (s.upSw i f).engine j = s.engine j := (rfl)
@[simp] theorem State.upSw_laceOf (i j : Nat) (f : Switch → Switch) : (s.upSw i f).laceOf j = s.laceOf j := (rfl)
@[simp] theorem State.upSw_que (i j : Nat) (f : Switch → Switch) : (s.upSw i f).que j = s.que j := (rfl)
@[simp] theorem State.upSw_ring (i j : Nat) (f : Switch → Switch) : (s.upSw i f).ring j = s.ring j := (rfl)
@[simp] theorem State.upSw_bank (i j : Nat) (f : Switch → Switch) : (s.upSw i f).bank j = s.bank j := (rfl)
@[simp] theorem State.upSw_memUnit (i j : Nat) (f : Switch → Switch) : (s.upSw i f).memUnit j = s.memUnit j := (rfl)
@[simp] theorem State.upSw_window (i j : Nat) (f : Switch → Switch) : (s.upSw i f).window j = s.window j := (rfl)
@[simp] theorem State.upSw_lane (i j : Nat) (f : Switch → Switch) : (s.upSw i f).lane j = s.lane j := (rfl)
@[simp] theorem State.upTrig_trig_self (i : Nat) (f : TrigUnit → TrigUnit) : (s.upTrig i f).trig i = f (s.trig i) := SMap.get_upd_self _ _ _ _
theorem State.upTrig_trig_ne {i j : Nat} (f : TrigUnit → TrigUnit) (h : j ≠ i) : (s.upTrig i f).trig j = s.trig j := SMap.get_upd_of_ne _ _ _ h
@[simp] theorem State.upTrig_pending (i : Nat) (f : TrigUnit → TrigUnit) : (s.upTrig i f).pending = s.pending := (rfl)
@[simp] theorem State.upTrig_ub (i : Nat) (f : TrigUnit → TrigUnit) : (s.upTrig i f).ub = s.ub := (rfl)
@[simp] theorem State.upTrig_freeCount (i : Nat) (f : TrigUnit → TrigUnit) : (s.upTrig i f).freeCount = s.freeCount := (rfl)
@[simp] theorem State.upTrig_out (i : Nat) (f : TrigUnit → TrigUnit) : (s.upTrig i f).out = s.out := (rfl)
@[simp] theorem State.upTrig_glb (i : Nat) (f : TrigUnit → TrigUnit) : (s.upTrig i f).glb = s.glb := (rfl)
@[simp] theorem State.upTrig_tmb (i : Nat) (f : TrigUnit → TrigUnit) : (s.upTrig i f).tmb = s.tmb := (rfl)
@[simp] theorem State.upTrig_cfg (i : Nat) (f : TrigUnit → TrigUnit) : (s.upTrig i f).cfg = s.cfg := (rfl)
@[simp] theorem State.upTrig_lace (i : Nat) (f : TrigUnit → TrigUnit) : (s.upTrig i f).lace = s.lace := (rfl)
@[simp] theorem State.upTrig_crier (i : Nat) (f : TrigUnit → TrigUnit) : (s.upTrig i f).crier = s.crier := (rfl)
@[simp] theorem State.upTrig_cmd (i : Nat) (f : TrigUnit → TrigUnit) : (s.upTrig i f).cmd = s.cmd := (rfl)
@[simp] theorem State.upTrig_host (i : Nat) (f : TrigUnit → TrigUnit) : (s.upTrig i f).host = s.host := (rfl)
@[simp] theorem State.upTrig_mem (i : Nat) (f : TrigUnit → TrigUnit) : (s.upTrig i f).mem = s.mem := (rfl)
@[simp] theorem State.upTrig_cal (i : Nat) (f : TrigUnit → TrigUnit) : (s.upTrig i f).cal = s.cal := (rfl)
@[simp] theorem State.upTrig_hlt (i : Nat) (f : TrigUnit → TrigUnit) : (s.upTrig i f).hlt = s.hlt := (rfl)
@[simp] theorem State.upTrig_lnk (i : Nat) (f : TrigUnit → TrigUnit) : (s.upTrig i f).lnk = s.lnk := (rfl)
@[simp] theorem State.upTrig_tdm (i : Nat) (f : TrigUnit → TrigUnit) : (s.upTrig i f).tdm = s.tdm := (rfl)
@[simp] theorem State.upTrig_ldr (i : Nat) (f : TrigUnit → TrigUnit) : (s.upTrig i f).ldr = s.ldr := (rfl)
@[simp] theorem State.upTrig_snap (i : Nat) (f : TrigUnit → TrigUnit) : (s.upTrig i f).snap = s.snap := (rfl)
@[simp] theorem State.upTrig_spoke (i j : Nat) (f : TrigUnit → TrigUnit) : (s.upTrig i f).spoke j = s.spoke j := (rfl)
@[simp] theorem State.upTrig_look (i j : Nat) (f : TrigUnit → TrigUnit) : (s.upTrig i f).look j = s.look j := (rfl)
@[simp] theorem State.upTrig_modu (i j : Nat) (f : TrigUnit → TrigUnit) : (s.upTrig i f).modu j = s.modu j := (rfl)
@[simp] theorem State.upTrig_sw (i j : Nat) (f : TrigUnit → TrigUnit) : (s.upTrig i f).sw j = s.sw j := (rfl)
@[simp] theorem State.upTrig_strm (i j : Nat) (f : TrigUnit → TrigUnit) : (s.upTrig i f).strm j = s.strm j := (rfl)
@[simp] theorem State.upTrig_stall (i j : Nat) (f : TrigUnit → TrigUnit) : (s.upTrig i f).stall j = s.stall j := (rfl)
@[simp] theorem State.upTrig_job (i j : Nat) (f : TrigUnit → TrigUnit) : (s.upTrig i f).job j = s.job j := (rfl)
@[simp] theorem State.upTrig_engine (i j : Nat) (f : TrigUnit → TrigUnit) : (s.upTrig i f).engine j = s.engine j := (rfl)
@[simp] theorem State.upTrig_laceOf (i j : Nat) (f : TrigUnit → TrigUnit) : (s.upTrig i f).laceOf j = s.laceOf j := (rfl)
@[simp] theorem State.upTrig_que (i j : Nat) (f : TrigUnit → TrigUnit) : (s.upTrig i f).que j = s.que j := (rfl)
@[simp] theorem State.upTrig_ring (i j : Nat) (f : TrigUnit → TrigUnit) : (s.upTrig i f).ring j = s.ring j := (rfl)
@[simp] theorem State.upTrig_bank (i j : Nat) (f : TrigUnit → TrigUnit) : (s.upTrig i f).bank j = s.bank j := (rfl)
@[simp] theorem State.upTrig_memUnit (i j : Nat) (f : TrigUnit → TrigUnit) : (s.upTrig i f).memUnit j = s.memUnit j := (rfl)
@[simp] theorem State.upTrig_window (i j : Nat) (f : TrigUnit → TrigUnit) : (s.upTrig i f).window j = s.window j := (rfl)
@[simp] theorem State.upTrig_lane (i j : Nat) (f : TrigUnit → TrigUnit) : (s.upTrig i f).lane j = s.lane j := (rfl)
@[simp] theorem State.upStrm_strm_self (i : Nat) (f : StreamRec → StreamRec) : (s.upStrm i f).strm i = f (s.strm i) := SMap.get_upd_self _ _ _ _
theorem State.upStrm_strm_ne {i j : Nat} (f : StreamRec → StreamRec) (h : j ≠ i) : (s.upStrm i f).strm j = s.strm j := SMap.get_upd_of_ne _ _ _ h
@[simp] theorem State.upStrm_pending (i : Nat) (f : StreamRec → StreamRec) : (s.upStrm i f).pending = s.pending := (rfl)
@[simp] theorem State.upStrm_ub (i : Nat) (f : StreamRec → StreamRec) : (s.upStrm i f).ub = s.ub := (rfl)
@[simp] theorem State.upStrm_freeCount (i : Nat) (f : StreamRec → StreamRec) : (s.upStrm i f).freeCount = s.freeCount := (rfl)
@[simp] theorem State.upStrm_out (i : Nat) (f : StreamRec → StreamRec) : (s.upStrm i f).out = s.out := (rfl)
@[simp] theorem State.upStrm_glb (i : Nat) (f : StreamRec → StreamRec) : (s.upStrm i f).glb = s.glb := (rfl)
@[simp] theorem State.upStrm_tmb (i : Nat) (f : StreamRec → StreamRec) : (s.upStrm i f).tmb = s.tmb := (rfl)
@[simp] theorem State.upStrm_cfg (i : Nat) (f : StreamRec → StreamRec) : (s.upStrm i f).cfg = s.cfg := (rfl)
@[simp] theorem State.upStrm_lace (i : Nat) (f : StreamRec → StreamRec) : (s.upStrm i f).lace = s.lace := (rfl)
@[simp] theorem State.upStrm_crier (i : Nat) (f : StreamRec → StreamRec) : (s.upStrm i f).crier = s.crier := (rfl)
@[simp] theorem State.upStrm_cmd (i : Nat) (f : StreamRec → StreamRec) : (s.upStrm i f).cmd = s.cmd := (rfl)
@[simp] theorem State.upStrm_host (i : Nat) (f : StreamRec → StreamRec) : (s.upStrm i f).host = s.host := (rfl)
@[simp] theorem State.upStrm_mem (i : Nat) (f : StreamRec → StreamRec) : (s.upStrm i f).mem = s.mem := (rfl)
@[simp] theorem State.upStrm_cal (i : Nat) (f : StreamRec → StreamRec) : (s.upStrm i f).cal = s.cal := (rfl)
@[simp] theorem State.upStrm_hlt (i : Nat) (f : StreamRec → StreamRec) : (s.upStrm i f).hlt = s.hlt := (rfl)
@[simp] theorem State.upStrm_lnk (i : Nat) (f : StreamRec → StreamRec) : (s.upStrm i f).lnk = s.lnk := (rfl)
@[simp] theorem State.upStrm_tdm (i : Nat) (f : StreamRec → StreamRec) : (s.upStrm i f).tdm = s.tdm := (rfl)
@[simp] theorem State.upStrm_ldr (i : Nat) (f : StreamRec → StreamRec) : (s.upStrm i f).ldr = s.ldr := (rfl)
@[simp] theorem State.upStrm_snap (i : Nat) (f : StreamRec → StreamRec) : (s.upStrm i f).snap = s.snap := (rfl)
@[simp] theorem State.upStrm_spoke (i j : Nat) (f : StreamRec → StreamRec) : (s.upStrm i f).spoke j = s.spoke j := (rfl)
@[simp] theorem State.upStrm_look (i j : Nat) (f : StreamRec → StreamRec) : (s.upStrm i f).look j = s.look j := (rfl)
@[simp] theorem State.upStrm_modu (i j : Nat) (f : StreamRec → StreamRec) : (s.upStrm i f).modu j = s.modu j := (rfl)
@[simp] theorem State.upStrm_sw (i j : Nat) (f : StreamRec → StreamRec) : (s.upStrm i f).sw j = s.sw j := (rfl)
@[simp] theorem State.upStrm_trig (i j : Nat) (f : StreamRec → StreamRec) : (s.upStrm i f).trig j = s.trig j := (rfl)
@[simp] theorem State.upStrm_stall (i j : Nat) (f : StreamRec → StreamRec) : (s.upStrm i f).stall j = s.stall j := (rfl)
@[simp] theorem State.upStrm_job (i j : Nat) (f : StreamRec → StreamRec) : (s.upStrm i f).job j = s.job j := (rfl)
@[simp] theorem State.upStrm_engine (i j : Nat) (f : StreamRec → StreamRec) : (s.upStrm i f).engine j = s.engine j := (rfl)
@[simp] theorem State.upStrm_laceOf (i j : Nat) (f : StreamRec → StreamRec) : (s.upStrm i f).laceOf j = s.laceOf j := (rfl)
@[simp] theorem State.upStrm_que (i j : Nat) (f : StreamRec → StreamRec) : (s.upStrm i f).que j = s.que j := (rfl)
@[simp] theorem State.upStrm_ring (i j : Nat) (f : StreamRec → StreamRec) : (s.upStrm i f).ring j = s.ring j := (rfl)
@[simp] theorem State.upStrm_bank (i j : Nat) (f : StreamRec → StreamRec) : (s.upStrm i f).bank j = s.bank j := (rfl)
@[simp] theorem State.upStrm_memUnit (i j : Nat) (f : StreamRec → StreamRec) : (s.upStrm i f).memUnit j = s.memUnit j := (rfl)
@[simp] theorem State.upStrm_window (i j : Nat) (f : StreamRec → StreamRec) : (s.upStrm i f).window j = s.window j := (rfl)
@[simp] theorem State.upStrm_lane (i j : Nat) (f : StreamRec → StreamRec) : (s.upStrm i f).lane j = s.lane j := (rfl)
@[simp] theorem State.upStall_stall_self (i : Nat) (f : Stall → Stall) : (s.upStall i f).stall i = f (s.stall i) := SMap.get_upd_self _ _ _ _
theorem State.upStall_stall_ne {i j : Nat} (f : Stall → Stall) (h : j ≠ i) : (s.upStall i f).stall j = s.stall j := SMap.get_upd_of_ne _ _ _ h
@[simp] theorem State.upStall_pending (i : Nat) (f : Stall → Stall) : (s.upStall i f).pending = s.pending := (rfl)
@[simp] theorem State.upStall_ub (i : Nat) (f : Stall → Stall) : (s.upStall i f).ub = s.ub := (rfl)
@[simp] theorem State.upStall_freeCount (i : Nat) (f : Stall → Stall) : (s.upStall i f).freeCount = s.freeCount := (rfl)
@[simp] theorem State.upStall_out (i : Nat) (f : Stall → Stall) : (s.upStall i f).out = s.out := (rfl)
@[simp] theorem State.upStall_glb (i : Nat) (f : Stall → Stall) : (s.upStall i f).glb = s.glb := (rfl)
@[simp] theorem State.upStall_tmb (i : Nat) (f : Stall → Stall) : (s.upStall i f).tmb = s.tmb := (rfl)
@[simp] theorem State.upStall_cfg (i : Nat) (f : Stall → Stall) : (s.upStall i f).cfg = s.cfg := (rfl)
@[simp] theorem State.upStall_lace (i : Nat) (f : Stall → Stall) : (s.upStall i f).lace = s.lace := (rfl)
@[simp] theorem State.upStall_crier (i : Nat) (f : Stall → Stall) : (s.upStall i f).crier = s.crier := (rfl)
@[simp] theorem State.upStall_cmd (i : Nat) (f : Stall → Stall) : (s.upStall i f).cmd = s.cmd := (rfl)
@[simp] theorem State.upStall_host (i : Nat) (f : Stall → Stall) : (s.upStall i f).host = s.host := (rfl)
@[simp] theorem State.upStall_mem (i : Nat) (f : Stall → Stall) : (s.upStall i f).mem = s.mem := (rfl)
@[simp] theorem State.upStall_cal (i : Nat) (f : Stall → Stall) : (s.upStall i f).cal = s.cal := (rfl)
@[simp] theorem State.upStall_hlt (i : Nat) (f : Stall → Stall) : (s.upStall i f).hlt = s.hlt := (rfl)
@[simp] theorem State.upStall_lnk (i : Nat) (f : Stall → Stall) : (s.upStall i f).lnk = s.lnk := (rfl)
@[simp] theorem State.upStall_tdm (i : Nat) (f : Stall → Stall) : (s.upStall i f).tdm = s.tdm := (rfl)
@[simp] theorem State.upStall_ldr (i : Nat) (f : Stall → Stall) : (s.upStall i f).ldr = s.ldr := (rfl)
@[simp] theorem State.upStall_snap (i : Nat) (f : Stall → Stall) : (s.upStall i f).snap = s.snap := (rfl)
@[simp] theorem State.upStall_spoke (i j : Nat) (f : Stall → Stall) : (s.upStall i f).spoke j = s.spoke j := (rfl)
@[simp] theorem State.upStall_look (i j : Nat) (f : Stall → Stall) : (s.upStall i f).look j = s.look j := (rfl)
@[simp] theorem State.upStall_modu (i j : Nat) (f : Stall → Stall) : (s.upStall i f).modu j = s.modu j := (rfl)
@[simp] theorem State.upStall_sw (i j : Nat) (f : Stall → Stall) : (s.upStall i f).sw j = s.sw j := (rfl)
@[simp] theorem State.upStall_trig (i j : Nat) (f : Stall → Stall) : (s.upStall i f).trig j = s.trig j := (rfl)
@[simp] theorem State.upStall_strm (i j : Nat) (f : Stall → Stall) : (s.upStall i f).strm j = s.strm j := (rfl)
@[simp] theorem State.upStall_job (i j : Nat) (f : Stall → Stall) : (s.upStall i f).job j = s.job j := (rfl)
@[simp] theorem State.upStall_engine (i j : Nat) (f : Stall → Stall) : (s.upStall i f).engine j = s.engine j := (rfl)
@[simp] theorem State.upStall_laceOf (i j : Nat) (f : Stall → Stall) : (s.upStall i f).laceOf j = s.laceOf j := (rfl)
@[simp] theorem State.upStall_que (i j : Nat) (f : Stall → Stall) : (s.upStall i f).que j = s.que j := (rfl)
@[simp] theorem State.upStall_ring (i j : Nat) (f : Stall → Stall) : (s.upStall i f).ring j = s.ring j := (rfl)
@[simp] theorem State.upStall_bank (i j : Nat) (f : Stall → Stall) : (s.upStall i f).bank j = s.bank j := (rfl)
@[simp] theorem State.upStall_memUnit (i j : Nat) (f : Stall → Stall) : (s.upStall i f).memUnit j = s.memUnit j := (rfl)
@[simp] theorem State.upStall_window (i j : Nat) (f : Stall → Stall) : (s.upStall i f).window j = s.window j := (rfl)
@[simp] theorem State.upStall_lane (i j : Nat) (f : Stall → Stall) : (s.upStall i f).lane j = s.lane j := (rfl)
@[simp] theorem State.upJob_job_self (i : Nat) (f : Job → Job) : (s.upJob i f).job i = f (s.job i) := SMap.get_upd_self _ _ _ _
theorem State.upJob_job_ne {i j : Nat} (f : Job → Job) (h : j ≠ i) : (s.upJob i f).job j = s.job j := SMap.get_upd_of_ne _ _ _ h
@[simp] theorem State.upJob_pending (i : Nat) (f : Job → Job) : (s.upJob i f).pending = s.pending := (rfl)
@[simp] theorem State.upJob_ub (i : Nat) (f : Job → Job) : (s.upJob i f).ub = s.ub := (rfl)
@[simp] theorem State.upJob_freeCount (i : Nat) (f : Job → Job) : (s.upJob i f).freeCount = s.freeCount := (rfl)
@[simp] theorem State.upJob_out (i : Nat) (f : Job → Job) : (s.upJob i f).out = s.out := (rfl)
@[simp] theorem State.upJob_glb (i : Nat) (f : Job → Job) : (s.upJob i f).glb = s.glb := (rfl)
@[simp] theorem State.upJob_tmb (i : Nat) (f : Job → Job) : (s.upJob i f).tmb = s.tmb := (rfl)
@[simp] theorem State.upJob_cfg (i : Nat) (f : Job → Job) : (s.upJob i f).cfg = s.cfg := (rfl)
@[simp] theorem State.upJob_lace (i : Nat) (f : Job → Job) : (s.upJob i f).lace = s.lace := (rfl)
@[simp] theorem State.upJob_crier (i : Nat) (f : Job → Job) : (s.upJob i f).crier = s.crier := (rfl)
@[simp] theorem State.upJob_cmd (i : Nat) (f : Job → Job) : (s.upJob i f).cmd = s.cmd := (rfl)
@[simp] theorem State.upJob_host (i : Nat) (f : Job → Job) : (s.upJob i f).host = s.host := (rfl)
@[simp] theorem State.upJob_mem (i : Nat) (f : Job → Job) : (s.upJob i f).mem = s.mem := (rfl)
@[simp] theorem State.upJob_cal (i : Nat) (f : Job → Job) : (s.upJob i f).cal = s.cal := (rfl)
@[simp] theorem State.upJob_hlt (i : Nat) (f : Job → Job) : (s.upJob i f).hlt = s.hlt := (rfl)
@[simp] theorem State.upJob_lnk (i : Nat) (f : Job → Job) : (s.upJob i f).lnk = s.lnk := (rfl)
@[simp] theorem State.upJob_tdm (i : Nat) (f : Job → Job) : (s.upJob i f).tdm = s.tdm := (rfl)
@[simp] theorem State.upJob_ldr (i : Nat) (f : Job → Job) : (s.upJob i f).ldr = s.ldr := (rfl)
@[simp] theorem State.upJob_snap (i : Nat) (f : Job → Job) : (s.upJob i f).snap = s.snap := (rfl)
@[simp] theorem State.upJob_spoke (i j : Nat) (f : Job → Job) : (s.upJob i f).spoke j = s.spoke j := (rfl)
@[simp] theorem State.upJob_look (i j : Nat) (f : Job → Job) : (s.upJob i f).look j = s.look j := (rfl)
@[simp] theorem State.upJob_modu (i j : Nat) (f : Job → Job) : (s.upJob i f).modu j = s.modu j := (rfl)
@[simp] theorem State.upJob_sw (i j : Nat) (f : Job → Job) : (s.upJob i f).sw j = s.sw j := (rfl)
@[simp] theorem State.upJob_trig (i j : Nat) (f : Job → Job) : (s.upJob i f).trig j = s.trig j := (rfl)
@[simp] theorem State.upJob_strm (i j : Nat) (f : Job → Job) : (s.upJob i f).strm j = s.strm j := (rfl)
@[simp] theorem State.upJob_stall (i j : Nat) (f : Job → Job) : (s.upJob i f).stall j = s.stall j := (rfl)
@[simp] theorem State.upJob_engine (i j : Nat) (f : Job → Job) : (s.upJob i f).engine j = s.engine j := (rfl)
@[simp] theorem State.upJob_laceOf (i j : Nat) (f : Job → Job) : (s.upJob i f).laceOf j = s.laceOf j := (rfl)
@[simp] theorem State.upJob_que (i j : Nat) (f : Job → Job) : (s.upJob i f).que j = s.que j := (rfl)
@[simp] theorem State.upJob_ring (i j : Nat) (f : Job → Job) : (s.upJob i f).ring j = s.ring j := (rfl)
@[simp] theorem State.upJob_bank (i j : Nat) (f : Job → Job) : (s.upJob i f).bank j = s.bank j := (rfl)
@[simp] theorem State.upJob_memUnit (i j : Nat) (f : Job → Job) : (s.upJob i f).memUnit j = s.memUnit j := (rfl)
@[simp] theorem State.upJob_window (i j : Nat) (f : Job → Job) : (s.upJob i f).window j = s.window j := (rfl)
@[simp] theorem State.upJob_lane (i j : Nat) (f : Job → Job) : (s.upJob i f).lane j = s.lane j := (rfl)
@[simp] theorem State.upEngine_engine_self (i : Nat) (f : Engine → Engine) : (s.upEngine i f).engine i = f (s.engine i) := SMap.get_upd_self _ _ _ _
theorem State.upEngine_engine_ne {i j : Nat} (f : Engine → Engine) (h : j ≠ i) : (s.upEngine i f).engine j = s.engine j := SMap.get_upd_of_ne _ _ _ h
@[simp] theorem State.upEngine_pending (i : Nat) (f : Engine → Engine) : (s.upEngine i f).pending = s.pending := (rfl)
@[simp] theorem State.upEngine_ub (i : Nat) (f : Engine → Engine) : (s.upEngine i f).ub = s.ub := (rfl)
@[simp] theorem State.upEngine_freeCount (i : Nat) (f : Engine → Engine) : (s.upEngine i f).freeCount = s.freeCount := (rfl)
@[simp] theorem State.upEngine_out (i : Nat) (f : Engine → Engine) : (s.upEngine i f).out = s.out := (rfl)
@[simp] theorem State.upEngine_glb (i : Nat) (f : Engine → Engine) : (s.upEngine i f).glb = s.glb := (rfl)
@[simp] theorem State.upEngine_tmb (i : Nat) (f : Engine → Engine) : (s.upEngine i f).tmb = s.tmb := (rfl)
@[simp] theorem State.upEngine_cfg (i : Nat) (f : Engine → Engine) : (s.upEngine i f).cfg = s.cfg := (rfl)
@[simp] theorem State.upEngine_lace (i : Nat) (f : Engine → Engine) : (s.upEngine i f).lace = s.lace := (rfl)
@[simp] theorem State.upEngine_crier (i : Nat) (f : Engine → Engine) : (s.upEngine i f).crier = s.crier := (rfl)
@[simp] theorem State.upEngine_cmd (i : Nat) (f : Engine → Engine) : (s.upEngine i f).cmd = s.cmd := (rfl)
@[simp] theorem State.upEngine_host (i : Nat) (f : Engine → Engine) : (s.upEngine i f).host = s.host := (rfl)
@[simp] theorem State.upEngine_mem (i : Nat) (f : Engine → Engine) : (s.upEngine i f).mem = s.mem := (rfl)
@[simp] theorem State.upEngine_cal (i : Nat) (f : Engine → Engine) : (s.upEngine i f).cal = s.cal := (rfl)
@[simp] theorem State.upEngine_hlt (i : Nat) (f : Engine → Engine) : (s.upEngine i f).hlt = s.hlt := (rfl)
@[simp] theorem State.upEngine_lnk (i : Nat) (f : Engine → Engine) : (s.upEngine i f).lnk = s.lnk := (rfl)
@[simp] theorem State.upEngine_tdm (i : Nat) (f : Engine → Engine) : (s.upEngine i f).tdm = s.tdm := (rfl)
@[simp] theorem State.upEngine_ldr (i : Nat) (f : Engine → Engine) : (s.upEngine i f).ldr = s.ldr := (rfl)
@[simp] theorem State.upEngine_snap (i : Nat) (f : Engine → Engine) : (s.upEngine i f).snap = s.snap := (rfl)
@[simp] theorem State.upEngine_spoke (i j : Nat) (f : Engine → Engine) : (s.upEngine i f).spoke j = s.spoke j := (rfl)
@[simp] theorem State.upEngine_look (i j : Nat) (f : Engine → Engine) : (s.upEngine i f).look j = s.look j := (rfl)
@[simp] theorem State.upEngine_modu (i j : Nat) (f : Engine → Engine) : (s.upEngine i f).modu j = s.modu j := (rfl)
@[simp] theorem State.upEngine_sw (i j : Nat) (f : Engine → Engine) : (s.upEngine i f).sw j = s.sw j := (rfl)
@[simp] theorem State.upEngine_trig (i j : Nat) (f : Engine → Engine) : (s.upEngine i f).trig j = s.trig j := (rfl)
@[simp] theorem State.upEngine_strm (i j : Nat) (f : Engine → Engine) : (s.upEngine i f).strm j = s.strm j := (rfl)
@[simp] theorem State.upEngine_stall (i j : Nat) (f : Engine → Engine) : (s.upEngine i f).stall j = s.stall j := (rfl)
@[simp] theorem State.upEngine_job (i j : Nat) (f : Engine → Engine) : (s.upEngine i f).job j = s.job j := (rfl)
@[simp] theorem State.upEngine_laceOf (i j : Nat) (f : Engine → Engine) : (s.upEngine i f).laceOf j = s.laceOf j := (rfl)
@[simp] theorem State.upEngine_que (i j : Nat) (f : Engine → Engine) : (s.upEngine i f).que j = s.que j := (rfl)
@[simp] theorem State.upEngine_ring (i j : Nat) (f : Engine → Engine) : (s.upEngine i f).ring j = s.ring j := (rfl)
@[simp] theorem State.upEngine_bank (i j : Nat) (f : Engine → Engine) : (s.upEngine i f).bank j = s.bank j := (rfl)
@[simp] theorem State.upEngine_memUnit (i j : Nat) (f : Engine → Engine) : (s.upEngine i f).memUnit j = s.memUnit j := (rfl)
@[simp] theorem State.upEngine_window (i j : Nat) (f : Engine → Engine) : (s.upEngine i f).window j = s.window j := (rfl)
@[simp] theorem State.upEngine_lane (i j : Nat) (f : Engine → Engine) : (s.upEngine i f).lane j = s.lane j := (rfl)
@[simp] theorem State.upLaceOf_laceOf_self (i : Nat) (f : Lace → Lace) : (s.upLaceOf i f).laceOf i = f (s.laceOf i) := SMap.get_upd_self _ _ _ _
theorem State.upLaceOf_laceOf_ne {i j : Nat} (f : Lace → Lace) (h : j ≠ i) : (s.upLaceOf i f).laceOf j = s.laceOf j := SMap.get_upd_of_ne _ _ _ h
@[simp] theorem State.upLaceOf_pending (i : Nat) (f : Lace → Lace) : (s.upLaceOf i f).pending = s.pending := (rfl)
@[simp] theorem State.upLaceOf_ub (i : Nat) (f : Lace → Lace) : (s.upLaceOf i f).ub = s.ub := (rfl)
@[simp] theorem State.upLaceOf_freeCount (i : Nat) (f : Lace → Lace) : (s.upLaceOf i f).freeCount = s.freeCount := (rfl)
@[simp] theorem State.upLaceOf_out (i : Nat) (f : Lace → Lace) : (s.upLaceOf i f).out = s.out := (rfl)
@[simp] theorem State.upLaceOf_glb (i : Nat) (f : Lace → Lace) : (s.upLaceOf i f).glb = s.glb := (rfl)
@[simp] theorem State.upLaceOf_tmb (i : Nat) (f : Lace → Lace) : (s.upLaceOf i f).tmb = s.tmb := (rfl)
@[simp] theorem State.upLaceOf_cfg (i : Nat) (f : Lace → Lace) : (s.upLaceOf i f).cfg = s.cfg := (rfl)
@[simp] theorem State.upLaceOf_path (i : Nat) (f : Lace → Lace) : (s.upLaceOf i f).path = s.path := (rfl)
@[simp] theorem State.upLaceOf_crier (i : Nat) (f : Lace → Lace) : (s.upLaceOf i f).crier = s.crier := (rfl)
@[simp] theorem State.upLaceOf_cmd (i : Nat) (f : Lace → Lace) : (s.upLaceOf i f).cmd = s.cmd := (rfl)
@[simp] theorem State.upLaceOf_host (i : Nat) (f : Lace → Lace) : (s.upLaceOf i f).host = s.host := (rfl)
@[simp] theorem State.upLaceOf_mem (i : Nat) (f : Lace → Lace) : (s.upLaceOf i f).mem = s.mem := (rfl)
@[simp] theorem State.upLaceOf_cal (i : Nat) (f : Lace → Lace) : (s.upLaceOf i f).cal = s.cal := (rfl)
@[simp] theorem State.upLaceOf_hlt (i : Nat) (f : Lace → Lace) : (s.upLaceOf i f).hlt = s.hlt := (rfl)
@[simp] theorem State.upLaceOf_lnk (i : Nat) (f : Lace → Lace) : (s.upLaceOf i f).lnk = s.lnk := (rfl)
@[simp] theorem State.upLaceOf_tdm (i : Nat) (f : Lace → Lace) : (s.upLaceOf i f).tdm = s.tdm := (rfl)
@[simp] theorem State.upLaceOf_ldr (i : Nat) (f : Lace → Lace) : (s.upLaceOf i f).ldr = s.ldr := (rfl)
@[simp] theorem State.upLaceOf_snap (i : Nat) (f : Lace → Lace) : (s.upLaceOf i f).snap = s.snap := (rfl)
@[simp] theorem State.upLaceOf_spoke (i j : Nat) (f : Lace → Lace) : (s.upLaceOf i f).spoke j = s.spoke j := (rfl)
@[simp] theorem State.upLaceOf_look (i j : Nat) (f : Lace → Lace) : (s.upLaceOf i f).look j = s.look j := (rfl)
@[simp] theorem State.upLaceOf_modu (i j : Nat) (f : Lace → Lace) : (s.upLaceOf i f).modu j = s.modu j := (rfl)
@[simp] theorem State.upLaceOf_sw (i j : Nat) (f : Lace → Lace) : (s.upLaceOf i f).sw j = s.sw j := (rfl)
@[simp] theorem State.upLaceOf_trig (i j : Nat) (f : Lace → Lace) : (s.upLaceOf i f).trig j = s.trig j := (rfl)
@[simp] theorem State.upLaceOf_strm (i j : Nat) (f : Lace → Lace) : (s.upLaceOf i f).strm j = s.strm j := (rfl)
@[simp] theorem State.upLaceOf_stall (i j : Nat) (f : Lace → Lace) : (s.upLaceOf i f).stall j = s.stall j := (rfl)
@[simp] theorem State.upLaceOf_job (i j : Nat) (f : Lace → Lace) : (s.upLaceOf i f).job j = s.job j := (rfl)
@[simp] theorem State.upLaceOf_engine (i j : Nat) (f : Lace → Lace) : (s.upLaceOf i f).engine j = s.engine j := (rfl)
@[simp] theorem State.upLaceOf_que (i j : Nat) (f : Lace → Lace) : (s.upLaceOf i f).que j = s.que j := (rfl)
@[simp] theorem State.upLaceOf_ring (i j : Nat) (f : Lace → Lace) : (s.upLaceOf i f).ring j = s.ring j := (rfl)
@[simp] theorem State.upLaceOf_bank (i j : Nat) (f : Lace → Lace) : (s.upLaceOf i f).bank j = s.bank j := (rfl)
@[simp] theorem State.upLaceOf_memUnit (i j : Nat) (f : Lace → Lace) : (s.upLaceOf i f).memUnit j = s.memUnit j := (rfl)
@[simp] theorem State.upLaceOf_window (i j : Nat) (f : Lace → Lace) : (s.upLaceOf i f).window j = s.window j := (rfl)
@[simp] theorem State.upLaceOf_lane (i j : Nat) (f : Lace → Lace) : (s.upLaceOf i f).lane j = s.lane j := (rfl)
@[simp] theorem State.upQue_que_self (i : Nat) (f : Queue → Queue) : (s.upQue i f).que i = f (s.que i) := SMap.get_upd_self _ _ _ _
theorem State.upQue_que_ne {i j : Nat} (f : Queue → Queue) (h : j ≠ i) : (s.upQue i f).que j = s.que j := SMap.get_upd_of_ne _ _ _ h
@[simp] theorem State.upQue_pending (i : Nat) (f : Queue → Queue) : (s.upQue i f).pending = s.pending := (rfl)
@[simp] theorem State.upQue_ub (i : Nat) (f : Queue → Queue) : (s.upQue i f).ub = s.ub := (rfl)
@[simp] theorem State.upQue_freeCount (i : Nat) (f : Queue → Queue) : (s.upQue i f).freeCount = s.freeCount := (rfl)
@[simp] theorem State.upQue_out (i : Nat) (f : Queue → Queue) : (s.upQue i f).out = s.out := (rfl)
@[simp] theorem State.upQue_glb (i : Nat) (f : Queue → Queue) : (s.upQue i f).glb = s.glb := (rfl)
@[simp] theorem State.upQue_tmb (i : Nat) (f : Queue → Queue) : (s.upQue i f).tmb = s.tmb := (rfl)
@[simp] theorem State.upQue_cfg (i : Nat) (f : Queue → Queue) : (s.upQue i f).cfg = s.cfg := (rfl)
@[simp] theorem State.upQue_path (i : Nat) (f : Queue → Queue) : (s.upQue i f).path = s.path := (rfl)
@[simp] theorem State.upQue_lace (i : Nat) (f : Queue → Queue) : (s.upQue i f).lace = s.lace := (rfl)
@[simp] theorem State.upQue_cmd (i : Nat) (f : Queue → Queue) : (s.upQue i f).cmd = s.cmd := (rfl)
@[simp] theorem State.upQue_host (i : Nat) (f : Queue → Queue) : (s.upQue i f).host = s.host := (rfl)
@[simp] theorem State.upQue_mem (i : Nat) (f : Queue → Queue) : (s.upQue i f).mem = s.mem := (rfl)
@[simp] theorem State.upQue_cal (i : Nat) (f : Queue → Queue) : (s.upQue i f).cal = s.cal := (rfl)
@[simp] theorem State.upQue_hlt (i : Nat) (f : Queue → Queue) : (s.upQue i f).hlt = s.hlt := (rfl)
@[simp] theorem State.upQue_lnk (i : Nat) (f : Queue → Queue) : (s.upQue i f).lnk = s.lnk := (rfl)
@[simp] theorem State.upQue_tdm (i : Nat) (f : Queue → Queue) : (s.upQue i f).tdm = s.tdm := (rfl)
@[simp] theorem State.upQue_ldr (i : Nat) (f : Queue → Queue) : (s.upQue i f).ldr = s.ldr := (rfl)
@[simp] theorem State.upQue_snap (i : Nat) (f : Queue → Queue) : (s.upQue i f).snap = s.snap := (rfl)
@[simp] theorem State.upQue_spoke (i j : Nat) (f : Queue → Queue) : (s.upQue i f).spoke j = s.spoke j := (rfl)
@[simp] theorem State.upQue_look (i j : Nat) (f : Queue → Queue) : (s.upQue i f).look j = s.look j := (rfl)
@[simp] theorem State.upQue_modu (i j : Nat) (f : Queue → Queue) : (s.upQue i f).modu j = s.modu j := (rfl)
@[simp] theorem State.upQue_sw (i j : Nat) (f : Queue → Queue) : (s.upQue i f).sw j = s.sw j := (rfl)
@[simp] theorem State.upQue_trig (i j : Nat) (f : Queue → Queue) : (s.upQue i f).trig j = s.trig j := (rfl)
@[simp] theorem State.upQue_strm (i j : Nat) (f : Queue → Queue) : (s.upQue i f).strm j = s.strm j := (rfl)
@[simp] theorem State.upQue_stall (i j : Nat) (f : Queue → Queue) : (s.upQue i f).stall j = s.stall j := (rfl)
@[simp] theorem State.upQue_job (i j : Nat) (f : Queue → Queue) : (s.upQue i f).job j = s.job j := (rfl)
@[simp] theorem State.upQue_engine (i j : Nat) (f : Queue → Queue) : (s.upQue i f).engine j = s.engine j := (rfl)
@[simp] theorem State.upQue_laceOf (i j : Nat) (f : Queue → Queue) : (s.upQue i f).laceOf j = s.laceOf j := (rfl)
@[simp] theorem State.upQue_ring (i j : Nat) (f : Queue → Queue) : (s.upQue i f).ring j = s.ring j := (rfl)
@[simp] theorem State.upQue_bank (i j : Nat) (f : Queue → Queue) : (s.upQue i f).bank j = s.bank j := (rfl)
@[simp] theorem State.upQue_memUnit (i j : Nat) (f : Queue → Queue) : (s.upQue i f).memUnit j = s.memUnit j := (rfl)
@[simp] theorem State.upQue_window (i j : Nat) (f : Queue → Queue) : (s.upQue i f).window j = s.window j := (rfl)
@[simp] theorem State.upQue_lane (i j : Nat) (f : Queue → Queue) : (s.upQue i f).lane j = s.lane j := (rfl)
@[simp] theorem State.upRing_ring_self (i : Nat) (f : Ring → Ring) : (s.upRing i f).ring i = f (s.ring i) := SMap.get_upd_self _ _ _ _
theorem State.upRing_ring_ne {i j : Nat} (f : Ring → Ring) (h : j ≠ i) : (s.upRing i f).ring j = s.ring j := SMap.get_upd_of_ne _ _ _ h
@[simp] theorem State.upRing_pending (i : Nat) (f : Ring → Ring) : (s.upRing i f).pending = s.pending := (rfl)
@[simp] theorem State.upRing_ub (i : Nat) (f : Ring → Ring) : (s.upRing i f).ub = s.ub := (rfl)
@[simp] theorem State.upRing_freeCount (i : Nat) (f : Ring → Ring) : (s.upRing i f).freeCount = s.freeCount := (rfl)
@[simp] theorem State.upRing_out (i : Nat) (f : Ring → Ring) : (s.upRing i f).out = s.out := (rfl)
@[simp] theorem State.upRing_glb (i : Nat) (f : Ring → Ring) : (s.upRing i f).glb = s.glb := (rfl)
@[simp] theorem State.upRing_tmb (i : Nat) (f : Ring → Ring) : (s.upRing i f).tmb = s.tmb := (rfl)
@[simp] theorem State.upRing_cfg (i : Nat) (f : Ring → Ring) : (s.upRing i f).cfg = s.cfg := (rfl)
@[simp] theorem State.upRing_path (i : Nat) (f : Ring → Ring) : (s.upRing i f).path = s.path := (rfl)
@[simp] theorem State.upRing_lace (i : Nat) (f : Ring → Ring) : (s.upRing i f).lace = s.lace := (rfl)
@[simp] theorem State.upRing_crier (i : Nat) (f : Ring → Ring) : (s.upRing i f).crier = s.crier := (rfl)
@[simp] theorem State.upRing_cmd (i : Nat) (f : Ring → Ring) : (s.upRing i f).cmd = s.cmd := (rfl)
@[simp] theorem State.upRing_mem (i : Nat) (f : Ring → Ring) : (s.upRing i f).mem = s.mem := (rfl)
@[simp] theorem State.upRing_cal (i : Nat) (f : Ring → Ring) : (s.upRing i f).cal = s.cal := (rfl)
@[simp] theorem State.upRing_hlt (i : Nat) (f : Ring → Ring) : (s.upRing i f).hlt = s.hlt := (rfl)
@[simp] theorem State.upRing_lnk (i : Nat) (f : Ring → Ring) : (s.upRing i f).lnk = s.lnk := (rfl)
@[simp] theorem State.upRing_tdm (i : Nat) (f : Ring → Ring) : (s.upRing i f).tdm = s.tdm := (rfl)
@[simp] theorem State.upRing_ldr (i : Nat) (f : Ring → Ring) : (s.upRing i f).ldr = s.ldr := (rfl)
@[simp] theorem State.upRing_snap (i : Nat) (f : Ring → Ring) : (s.upRing i f).snap = s.snap := (rfl)
@[simp] theorem State.upRing_spoke (i j : Nat) (f : Ring → Ring) : (s.upRing i f).spoke j = s.spoke j := (rfl)
@[simp] theorem State.upRing_look (i j : Nat) (f : Ring → Ring) : (s.upRing i f).look j = s.look j := (rfl)
@[simp] theorem State.upRing_modu (i j : Nat) (f : Ring → Ring) : (s.upRing i f).modu j = s.modu j := (rfl)
@[simp] theorem State.upRing_sw (i j : Nat) (f : Ring → Ring) : (s.upRing i f).sw j = s.sw j := (rfl)
@[simp] theorem State.upRing_trig (i j : Nat) (f : Ring → Ring) : (s.upRing i f).trig j = s.trig j := (rfl)
@[simp] theorem State.upRing_strm (i j : Nat) (f : Ring → Ring) : (s.upRing i f).strm j = s.strm j := (rfl)
@[simp] theorem State.upRing_stall (i j : Nat) (f : Ring → Ring) : (s.upRing i f).stall j = s.stall j := (rfl)
@[simp] theorem State.upRing_job (i j : Nat) (f : Ring → Ring) : (s.upRing i f).job j = s.job j := (rfl)
@[simp] theorem State.upRing_engine (i j : Nat) (f : Ring → Ring) : (s.upRing i f).engine j = s.engine j := (rfl)
@[simp] theorem State.upRing_laceOf (i j : Nat) (f : Ring → Ring) : (s.upRing i f).laceOf j = s.laceOf j := (rfl)
@[simp] theorem State.upRing_que (i j : Nat) (f : Ring → Ring) : (s.upRing i f).que j = s.que j := (rfl)
@[simp] theorem State.upRing_bank (i j : Nat) (f : Ring → Ring) : (s.upRing i f).bank j = s.bank j := (rfl)
@[simp] theorem State.upRing_memUnit (i j : Nat) (f : Ring → Ring) : (s.upRing i f).memUnit j = s.memUnit j := (rfl)
@[simp] theorem State.upRing_window (i j : Nat) (f : Ring → Ring) : (s.upRing i f).window j = s.window j := (rfl)
@[simp] theorem State.upRing_lane (i j : Nat) (f : Ring → Ring) : (s.upRing i f).lane j = s.lane j := (rfl)
@[simp] theorem State.upBank_bank_self (i : Nat) (f : Bank → Bank) : (s.upBank i f).bank i = f (s.bank i) := SMap.get_upd_self _ _ _ _
theorem State.upBank_bank_ne {i j : Nat} (f : Bank → Bank) (h : j ≠ i) : (s.upBank i f).bank j = s.bank j := SMap.get_upd_of_ne _ _ _ h
@[simp] theorem State.upBank_pending (i : Nat) (f : Bank → Bank) : (s.upBank i f).pending = s.pending := (rfl)
@[simp] theorem State.upBank_ub (i : Nat) (f : Bank → Bank) : (s.upBank i f).ub = s.ub := (rfl)
@[simp] theorem State.upBank_freeCount (i : Nat) (f : Bank → Bank) : (s.upBank i f).freeCount = s.freeCount := (rfl)
@[simp] theorem State.upBank_out (i : Nat) (f : Bank → Bank) : (s.upBank i f).out = s.out := (rfl)
@[simp] theorem State.upBank_glb (i : Nat) (f : Bank → Bank) : (s.upBank i f).glb = s.glb := (rfl)
@[simp] theorem State.upBank_tmb (i : Nat) (f : Bank → Bank) : (s.upBank i f).tmb = s.tmb := (rfl)
@[simp] theorem State.upBank_cfg (i : Nat) (f : Bank → Bank) : (s.upBank i f).cfg = s.cfg := (rfl)
@[simp] theorem State.upBank_path (i : Nat) (f : Bank → Bank) : (s.upBank i f).path = s.path := (rfl)
@[simp] theorem State.upBank_lace (i : Nat) (f : Bank → Bank) : (s.upBank i f).lace = s.lace := (rfl)
@[simp] theorem State.upBank_crier (i : Nat) (f : Bank → Bank) : (s.upBank i f).crier = s.crier := (rfl)
@[simp] theorem State.upBank_cmd (i : Nat) (f : Bank → Bank) : (s.upBank i f).cmd = s.cmd := (rfl)
@[simp] theorem State.upBank_host (i : Nat) (f : Bank → Bank) : (s.upBank i f).host = s.host := (rfl)
@[simp] theorem State.upBank_cal (i : Nat) (f : Bank → Bank) : (s.upBank i f).cal = s.cal := (rfl)
@[simp] theorem State.upBank_hlt (i : Nat) (f : Bank → Bank) : (s.upBank i f).hlt = s.hlt := (rfl)
@[simp] theorem State.upBank_lnk (i : Nat) (f : Bank → Bank) : (s.upBank i f).lnk = s.lnk := (rfl)
@[simp] theorem State.upBank_tdm (i : Nat) (f : Bank → Bank) : (s.upBank i f).tdm = s.tdm := (rfl)
@[simp] theorem State.upBank_ldr (i : Nat) (f : Bank → Bank) : (s.upBank i f).ldr = s.ldr := (rfl)
@[simp] theorem State.upBank_snap (i : Nat) (f : Bank → Bank) : (s.upBank i f).snap = s.snap := (rfl)
@[simp] theorem State.upBank_spoke (i j : Nat) (f : Bank → Bank) : (s.upBank i f).spoke j = s.spoke j := (rfl)
@[simp] theorem State.upBank_look (i j : Nat) (f : Bank → Bank) : (s.upBank i f).look j = s.look j := (rfl)
@[simp] theorem State.upBank_modu (i j : Nat) (f : Bank → Bank) : (s.upBank i f).modu j = s.modu j := (rfl)
@[simp] theorem State.upBank_sw (i j : Nat) (f : Bank → Bank) : (s.upBank i f).sw j = s.sw j := (rfl)
@[simp] theorem State.upBank_trig (i j : Nat) (f : Bank → Bank) : (s.upBank i f).trig j = s.trig j := (rfl)
@[simp] theorem State.upBank_strm (i j : Nat) (f : Bank → Bank) : (s.upBank i f).strm j = s.strm j := (rfl)
@[simp] theorem State.upBank_stall (i j : Nat) (f : Bank → Bank) : (s.upBank i f).stall j = s.stall j := (rfl)
@[simp] theorem State.upBank_job (i j : Nat) (f : Bank → Bank) : (s.upBank i f).job j = s.job j := (rfl)
@[simp] theorem State.upBank_engine (i j : Nat) (f : Bank → Bank) : (s.upBank i f).engine j = s.engine j := (rfl)
@[simp] theorem State.upBank_laceOf (i j : Nat) (f : Bank → Bank) : (s.upBank i f).laceOf j = s.laceOf j := (rfl)
@[simp] theorem State.upBank_que (i j : Nat) (f : Bank → Bank) : (s.upBank i f).que j = s.que j := (rfl)
@[simp] theorem State.upBank_ring (i j : Nat) (f : Bank → Bank) : (s.upBank i f).ring j = s.ring j := (rfl)
@[simp] theorem State.upBank_memUnit (i j : Nat) (f : Bank → Bank) : (s.upBank i f).memUnit j = s.memUnit j := (rfl)
@[simp] theorem State.upBank_window (i j : Nat) (f : Bank → Bank) : (s.upBank i f).window j = s.window j := (rfl)
@[simp] theorem State.upBank_lane (i j : Nat) (f : Bank → Bank) : (s.upBank i f).lane j = s.lane j := (rfl)
@[simp] theorem State.upMemUnit_memUnit_self (i : Nat) (f : MemUnit → MemUnit) : (s.upMemUnit i f).memUnit i = f (s.memUnit i) := SMap.get_upd_self _ _ _ _
theorem State.upMemUnit_memUnit_ne {i j : Nat} (f : MemUnit → MemUnit) (h : j ≠ i) : (s.upMemUnit i f).memUnit j = s.memUnit j := SMap.get_upd_of_ne _ _ _ h
@[simp] theorem State.upMemUnit_pending (i : Nat) (f : MemUnit → MemUnit) : (s.upMemUnit i f).pending = s.pending := (rfl)
@[simp] theorem State.upMemUnit_ub (i : Nat) (f : MemUnit → MemUnit) : (s.upMemUnit i f).ub = s.ub := (rfl)
@[simp] theorem State.upMemUnit_freeCount (i : Nat) (f : MemUnit → MemUnit) : (s.upMemUnit i f).freeCount = s.freeCount := (rfl)
@[simp] theorem State.upMemUnit_out (i : Nat) (f : MemUnit → MemUnit) : (s.upMemUnit i f).out = s.out := (rfl)
@[simp] theorem State.upMemUnit_glb (i : Nat) (f : MemUnit → MemUnit) : (s.upMemUnit i f).glb = s.glb := (rfl)
@[simp] theorem State.upMemUnit_tmb (i : Nat) (f : MemUnit → MemUnit) : (s.upMemUnit i f).tmb = s.tmb := (rfl)
@[simp] theorem State.upMemUnit_cfg (i : Nat) (f : MemUnit → MemUnit) : (s.upMemUnit i f).cfg = s.cfg := (rfl)
@[simp] theorem State.upMemUnit_path (i : Nat) (f : MemUnit → MemUnit) : (s.upMemUnit i f).path = s.path := (rfl)
@[simp] theorem State.upMemUnit_lace (i : Nat) (f : MemUnit → MemUnit) : (s.upMemUnit i f).lace = s.lace := (rfl)
@[simp] theorem State.upMemUnit_crier (i : Nat) (f : MemUnit → MemUnit) : (s.upMemUnit i f).crier = s.crier := (rfl)
@[simp] theorem State.upMemUnit_cmd (i : Nat) (f : MemUnit → MemUnit) : (s.upMemUnit i f).cmd = s.cmd := (rfl)
@[simp] theorem State.upMemUnit_host (i : Nat) (f : MemUnit → MemUnit) : (s.upMemUnit i f).host = s.host := (rfl)
@[simp] theorem State.upMemUnit_cal (i : Nat) (f : MemUnit → MemUnit) : (s.upMemUnit i f).cal = s.cal := (rfl)
@[simp] theorem State.upMemUnit_hlt (i : Nat) (f : MemUnit → MemUnit) : (s.upMemUnit i f).hlt = s.hlt := (rfl)
@[simp] theorem State.upMemUnit_lnk (i : Nat) (f : MemUnit → MemUnit) : (s.upMemUnit i f).lnk = s.lnk := (rfl)
@[simp] theorem State.upMemUnit_tdm (i : Nat) (f : MemUnit → MemUnit) : (s.upMemUnit i f).tdm = s.tdm := (rfl)
@[simp] theorem State.upMemUnit_ldr (i : Nat) (f : MemUnit → MemUnit) : (s.upMemUnit i f).ldr = s.ldr := (rfl)
@[simp] theorem State.upMemUnit_snap (i : Nat) (f : MemUnit → MemUnit) : (s.upMemUnit i f).snap = s.snap := (rfl)
@[simp] theorem State.upMemUnit_spoke (i j : Nat) (f : MemUnit → MemUnit) : (s.upMemUnit i f).spoke j = s.spoke j := (rfl)
@[simp] theorem State.upMemUnit_look (i j : Nat) (f : MemUnit → MemUnit) : (s.upMemUnit i f).look j = s.look j := (rfl)
@[simp] theorem State.upMemUnit_modu (i j : Nat) (f : MemUnit → MemUnit) : (s.upMemUnit i f).modu j = s.modu j := (rfl)
@[simp] theorem State.upMemUnit_sw (i j : Nat) (f : MemUnit → MemUnit) : (s.upMemUnit i f).sw j = s.sw j := (rfl)
@[simp] theorem State.upMemUnit_trig (i j : Nat) (f : MemUnit → MemUnit) : (s.upMemUnit i f).trig j = s.trig j := (rfl)
@[simp] theorem State.upMemUnit_strm (i j : Nat) (f : MemUnit → MemUnit) : (s.upMemUnit i f).strm j = s.strm j := (rfl)
@[simp] theorem State.upMemUnit_stall (i j : Nat) (f : MemUnit → MemUnit) : (s.upMemUnit i f).stall j = s.stall j := (rfl)
@[simp] theorem State.upMemUnit_job (i j : Nat) (f : MemUnit → MemUnit) : (s.upMemUnit i f).job j = s.job j := (rfl)
@[simp] theorem State.upMemUnit_engine (i j : Nat) (f : MemUnit → MemUnit) : (s.upMemUnit i f).engine j = s.engine j := (rfl)
@[simp] theorem State.upMemUnit_laceOf (i j : Nat) (f : MemUnit → MemUnit) : (s.upMemUnit i f).laceOf j = s.laceOf j := (rfl)
@[simp] theorem State.upMemUnit_que (i j : Nat) (f : MemUnit → MemUnit) : (s.upMemUnit i f).que j = s.que j := (rfl)
@[simp] theorem State.upMemUnit_ring (i j : Nat) (f : MemUnit → MemUnit) : (s.upMemUnit i f).ring j = s.ring j := (rfl)
@[simp] theorem State.upMemUnit_bank (i j : Nat) (f : MemUnit → MemUnit) : (s.upMemUnit i f).bank j = s.bank j := (rfl)
@[simp] theorem State.upMemUnit_window (i j : Nat) (f : MemUnit → MemUnit) : (s.upMemUnit i f).window j = s.window j := (rfl)
@[simp] theorem State.upMemUnit_lane (i j : Nat) (f : MemUnit → MemUnit) : (s.upMemUnit i f).lane j = s.lane j := (rfl)
@[simp] theorem State.upWindow_window_self (i : Nat) (f : Window → Window) : (s.upWindow i f).window i = f (s.window i) := SMap.get_upd_self _ _ _ _
theorem State.upWindow_window_ne {i j : Nat} (f : Window → Window) (h : j ≠ i) : (s.upWindow i f).window j = s.window j := SMap.get_upd_of_ne _ _ _ h
@[simp] theorem State.upWindow_pending (i : Nat) (f : Window → Window) : (s.upWindow i f).pending = s.pending := (rfl)
@[simp] theorem State.upWindow_ub (i : Nat) (f : Window → Window) : (s.upWindow i f).ub = s.ub := (rfl)
@[simp] theorem State.upWindow_freeCount (i : Nat) (f : Window → Window) : (s.upWindow i f).freeCount = s.freeCount := (rfl)
@[simp] theorem State.upWindow_out (i : Nat) (f : Window → Window) : (s.upWindow i f).out = s.out := (rfl)
@[simp] theorem State.upWindow_glb (i : Nat) (f : Window → Window) : (s.upWindow i f).glb = s.glb := (rfl)
@[simp] theorem State.upWindow_tmb (i : Nat) (f : Window → Window) : (s.upWindow i f).tmb = s.tmb := (rfl)
@[simp] theorem State.upWindow_cfg (i : Nat) (f : Window → Window) : (s.upWindow i f).cfg = s.cfg := (rfl)
@[simp] theorem State.upWindow_path (i : Nat) (f : Window → Window) : (s.upWindow i f).path = s.path := (rfl)
@[simp] theorem State.upWindow_lace (i : Nat) (f : Window → Window) : (s.upWindow i f).lace = s.lace := (rfl)
@[simp] theorem State.upWindow_crier (i : Nat) (f : Window → Window) : (s.upWindow i f).crier = s.crier := (rfl)
@[simp] theorem State.upWindow_cmd (i : Nat) (f : Window → Window) : (s.upWindow i f).cmd = s.cmd := (rfl)
@[simp] theorem State.upWindow_host (i : Nat) (f : Window → Window) : (s.upWindow i f).host = s.host := (rfl)
@[simp] theorem State.upWindow_mem (i : Nat) (f : Window → Window) : (s.upWindow i f).mem = s.mem := (rfl)
@[simp] theorem State.upWindow_cal (i : Nat) (f : Window → Window) : (s.upWindow i f).cal = s.cal := (rfl)
@[simp] theorem State.upWindow_lnk (i : Nat) (f : Window → Window) : (s.upWindow i f).lnk = s.lnk := (rfl)
@[simp] theorem State.upWindow_tdm (i : Nat) (f : Window → Window) : (s.upWindow i f).tdm = s.tdm := (rfl)
@[simp] theorem State.upWindow_ldr (i : Nat) (f : Window → Window) : (s.upWindow i f).ldr = s.ldr := (rfl)
@[simp] theorem State.upWindow_snap (i : Nat) (f : Window → Window) : (s.upWindow i f).snap = s.snap := (rfl)
@[simp] theorem State.upWindow_spoke (i j : Nat) (f : Window → Window) : (s.upWindow i f).spoke j = s.spoke j := (rfl)
@[simp] theorem State.upWindow_look (i j : Nat) (f : Window → Window) : (s.upWindow i f).look j = s.look j := (rfl)
@[simp] theorem State.upWindow_modu (i j : Nat) (f : Window → Window) : (s.upWindow i f).modu j = s.modu j := (rfl)
@[simp] theorem State.upWindow_sw (i j : Nat) (f : Window → Window) : (s.upWindow i f).sw j = s.sw j := (rfl)
@[simp] theorem State.upWindow_trig (i j : Nat) (f : Window → Window) : (s.upWindow i f).trig j = s.trig j := (rfl)
@[simp] theorem State.upWindow_strm (i j : Nat) (f : Window → Window) : (s.upWindow i f).strm j = s.strm j := (rfl)
@[simp] theorem State.upWindow_stall (i j : Nat) (f : Window → Window) : (s.upWindow i f).stall j = s.stall j := (rfl)
@[simp] theorem State.upWindow_job (i j : Nat) (f : Window → Window) : (s.upWindow i f).job j = s.job j := (rfl)
@[simp] theorem State.upWindow_engine (i j : Nat) (f : Window → Window) : (s.upWindow i f).engine j = s.engine j := (rfl)
@[simp] theorem State.upWindow_laceOf (i j : Nat) (f : Window → Window) : (s.upWindow i f).laceOf j = s.laceOf j := (rfl)
@[simp] theorem State.upWindow_que (i j : Nat) (f : Window → Window) : (s.upWindow i f).que j = s.que j := (rfl)
@[simp] theorem State.upWindow_ring (i j : Nat) (f : Window → Window) : (s.upWindow i f).ring j = s.ring j := (rfl)
@[simp] theorem State.upWindow_bank (i j : Nat) (f : Window → Window) : (s.upWindow i f).bank j = s.bank j := (rfl)
@[simp] theorem State.upWindow_memUnit (i j : Nat) (f : Window → Window) : (s.upWindow i f).memUnit j = s.memUnit j := (rfl)
@[simp] theorem State.upWindow_lane (i j : Nat) (f : Window → Window) : (s.upWindow i f).lane j = s.lane j := (rfl)
@[simp] theorem State.upLane_lane_self (i : Nat) (f : Lane → Lane) : (s.upLane i f).lane i = f (s.lane i) := SMap.get_upd_self _ _ _ _
theorem State.upLane_lane_ne {i j : Nat} (f : Lane → Lane) (h : j ≠ i) : (s.upLane i f).lane j = s.lane j := SMap.get_upd_of_ne _ _ _ h
@[simp] theorem State.upLane_pending (i : Nat) (f : Lane → Lane) : (s.upLane i f).pending = s.pending := (rfl)
@[simp] theorem State.upLane_ub (i : Nat) (f : Lane → Lane) : (s.upLane i f).ub = s.ub := (rfl)
@[simp] theorem State.upLane_freeCount (i : Nat) (f : Lane → Lane) : (s.upLane i f).freeCount = s.freeCount := (rfl)
@[simp] theorem State.upLane_out (i : Nat) (f : Lane → Lane) : (s.upLane i f).out = s.out := (rfl)
@[simp] theorem State.upLane_glb (i : Nat) (f : Lane → Lane) : (s.upLane i f).glb = s.glb := (rfl)
@[simp] theorem State.upLane_tmb (i : Nat) (f : Lane → Lane) : (s.upLane i f).tmb = s.tmb := (rfl)
@[simp] theorem State.upLane_cfg (i : Nat) (f : Lane → Lane) : (s.upLane i f).cfg = s.cfg := (rfl)
@[simp] theorem State.upLane_path (i : Nat) (f : Lane → Lane) : (s.upLane i f).path = s.path := (rfl)
@[simp] theorem State.upLane_lace (i : Nat) (f : Lane → Lane) : (s.upLane i f).lace = s.lace := (rfl)
@[simp] theorem State.upLane_crier (i : Nat) (f : Lane → Lane) : (s.upLane i f).crier = s.crier := (rfl)
@[simp] theorem State.upLane_cmd (i : Nat) (f : Lane → Lane) : (s.upLane i f).cmd = s.cmd := (rfl)
@[simp] theorem State.upLane_host (i : Nat) (f : Lane → Lane) : (s.upLane i f).host = s.host := (rfl)
@[simp] theorem State.upLane_mem (i : Nat) (f : Lane → Lane) : (s.upLane i f).mem = s.mem := (rfl)
@[simp] theorem State.upLane_cal (i : Nat) (f : Lane → Lane) : (s.upLane i f).cal = s.cal := (rfl)
@[simp] theorem State.upLane_hlt (i : Nat) (f : Lane → Lane) : (s.upLane i f).hlt = s.hlt := (rfl)
@[simp] theorem State.upLane_tdm (i : Nat) (f : Lane → Lane) : (s.upLane i f).tdm = s.tdm := (rfl)
@[simp] theorem State.upLane_ldr (i : Nat) (f : Lane → Lane) : (s.upLane i f).ldr = s.ldr := (rfl)
@[simp] theorem State.upLane_snap (i : Nat) (f : Lane → Lane) : (s.upLane i f).snap = s.snap := (rfl)
@[simp] theorem State.upLane_spoke (i j : Nat) (f : Lane → Lane) : (s.upLane i f).spoke j = s.spoke j := (rfl)
@[simp] theorem State.upLane_look (i j : Nat) (f : Lane → Lane) : (s.upLane i f).look j = s.look j := (rfl)
@[simp] theorem State.upLane_modu (i j : Nat) (f : Lane → Lane) : (s.upLane i f).modu j = s.modu j := (rfl)
@[simp] theorem State.upLane_sw (i j : Nat) (f : Lane → Lane) : (s.upLane i f).sw j = s.sw j := (rfl)
@[simp] theorem State.upLane_trig (i j : Nat) (f : Lane → Lane) : (s.upLane i f).trig j = s.trig j := (rfl)
@[simp] theorem State.upLane_strm (i j : Nat) (f : Lane → Lane) : (s.upLane i f).strm j = s.strm j := (rfl)
@[simp] theorem State.upLane_stall (i j : Nat) (f : Lane → Lane) : (s.upLane i f).stall j = s.stall j := (rfl)
@[simp] theorem State.upLane_job (i j : Nat) (f : Lane → Lane) : (s.upLane i f).job j = s.job j := (rfl)
@[simp] theorem State.upLane_engine (i j : Nat) (f : Lane → Lane) : (s.upLane i f).engine j = s.engine j := (rfl)
@[simp] theorem State.upLane_laceOf (i j : Nat) (f : Lane → Lane) : (s.upLane i f).laceOf j = s.laceOf j := (rfl)
@[simp] theorem State.upLane_que (i j : Nat) (f : Lane → Lane) : (s.upLane i f).que j = s.que j := (rfl)
@[simp] theorem State.upLane_ring (i j : Nat) (f : Lane → Lane) : (s.upLane i f).ring j = s.ring j := (rfl)
@[simp] theorem State.upLane_bank (i j : Nat) (f : Lane → Lane) : (s.upLane i f).bank j = s.bank j := (rfl)
@[simp] theorem State.upLane_memUnit (i j : Nat) (f : Lane → Lane) : (s.upLane i f).memUnit j = s.memUnit j := (rfl)
@[simp] theorem State.upLane_window (i j : Nat) (f : Lane → Lane) : (s.upLane i f).window j = s.window j := (rfl)

/-! ### Entries after an update of a block -/

@[simp] theorem State.upGlb_spoke (f : Glb → Glb) (j : Nat) : (s.upGlb f).spoke j = s.spoke j := (rfl)
@[simp] theorem State.upGlb_look (f : Glb → Glb) (j : Nat) : (s.upGlb f).look j = s.look j := (rfl)
@[simp] theorem State.upGlb_modu (f : Glb → Glb) (j : Nat) : (s.upGlb f).modu j = s.modu j := (rfl)
@[simp] theorem State.upGlb_sw (f : Glb → Glb) (j : Nat) : (s.upGlb f).sw j = s.sw j := (rfl)
@[simp] theorem State.upGlb_trig (f : Glb → Glb) (j : Nat) : (s.upGlb f).trig j = s.trig j := (rfl)
@[simp] theorem State.upGlb_strm (f : Glb → Glb) (j : Nat) : (s.upGlb f).strm j = s.strm j := (rfl)
@[simp] theorem State.upGlb_stall (f : Glb → Glb) (j : Nat) : (s.upGlb f).stall j = s.stall j := (rfl)
@[simp] theorem State.upGlb_job (f : Glb → Glb) (j : Nat) : (s.upGlb f).job j = s.job j := (rfl)
@[simp] theorem State.upGlb_engine (f : Glb → Glb) (j : Nat) : (s.upGlb f).engine j = s.engine j := (rfl)
@[simp] theorem State.upGlb_laceOf (f : Glb → Glb) (j : Nat) : (s.upGlb f).laceOf j = s.laceOf j := (rfl)
@[simp] theorem State.upGlb_que (f : Glb → Glb) (j : Nat) : (s.upGlb f).que j = s.que j := (rfl)
@[simp] theorem State.upGlb_ring (f : Glb → Glb) (j : Nat) : (s.upGlb f).ring j = s.ring j := (rfl)
@[simp] theorem State.upGlb_bank (f : Glb → Glb) (j : Nat) : (s.upGlb f).bank j = s.bank j := (rfl)
@[simp] theorem State.upGlb_memUnit (f : Glb → Glb) (j : Nat) : (s.upGlb f).memUnit j = s.memUnit j := (rfl)
@[simp] theorem State.upGlb_window (f : Glb → Glb) (j : Nat) : (s.upGlb f).window j = s.window j := (rfl)
@[simp] theorem State.upGlb_lane (f : Glb → Glb) (j : Nat) : (s.upGlb f).lane j = s.lane j := (rfl)
@[simp] theorem State.upTmb_spoke (f : Tmb → Tmb) (j : Nat) : (s.upTmb f).spoke j = s.spoke j := (rfl)
@[simp] theorem State.upTmb_look (f : Tmb → Tmb) (j : Nat) : (s.upTmb f).look j = s.look j := (rfl)
@[simp] theorem State.upTmb_modu (f : Tmb → Tmb) (j : Nat) : (s.upTmb f).modu j = s.modu j := (rfl)
@[simp] theorem State.upTmb_sw (f : Tmb → Tmb) (j : Nat) : (s.upTmb f).sw j = s.sw j := (rfl)
@[simp] theorem State.upTmb_trig (f : Tmb → Tmb) (j : Nat) : (s.upTmb f).trig j = s.trig j := (rfl)
@[simp] theorem State.upTmb_strm (f : Tmb → Tmb) (j : Nat) : (s.upTmb f).strm j = s.strm j := (rfl)
@[simp] theorem State.upTmb_stall (f : Tmb → Tmb) (j : Nat) : (s.upTmb f).stall j = s.stall j := (rfl)
@[simp] theorem State.upTmb_job (f : Tmb → Tmb) (j : Nat) : (s.upTmb f).job j = s.job j := (rfl)
@[simp] theorem State.upTmb_engine (f : Tmb → Tmb) (j : Nat) : (s.upTmb f).engine j = s.engine j := (rfl)
@[simp] theorem State.upTmb_laceOf (f : Tmb → Tmb) (j : Nat) : (s.upTmb f).laceOf j = s.laceOf j := (rfl)
@[simp] theorem State.upTmb_que (f : Tmb → Tmb) (j : Nat) : (s.upTmb f).que j = s.que j := (rfl)
@[simp] theorem State.upTmb_ring (f : Tmb → Tmb) (j : Nat) : (s.upTmb f).ring j = s.ring j := (rfl)
@[simp] theorem State.upTmb_bank (f : Tmb → Tmb) (j : Nat) : (s.upTmb f).bank j = s.bank j := (rfl)
@[simp] theorem State.upTmb_memUnit (f : Tmb → Tmb) (j : Nat) : (s.upTmb f).memUnit j = s.memUnit j := (rfl)
@[simp] theorem State.upTmb_window (f : Tmb → Tmb) (j : Nat) : (s.upTmb f).window j = s.window j := (rfl)
@[simp] theorem State.upTmb_lane (f : Tmb → Tmb) (j : Nat) : (s.upTmb f).lane j = s.lane j := (rfl)
@[simp] theorem State.upCfg_spoke (f : Cfg → Cfg) (j : Nat) : (s.upCfg f).spoke j = s.spoke j := (rfl)
@[simp] theorem State.upCfg_look (f : Cfg → Cfg) (j : Nat) : (s.upCfg f).look j = s.look j := (rfl)
@[simp] theorem State.upCfg_modu (f : Cfg → Cfg) (j : Nat) : (s.upCfg f).modu j = s.modu j := (rfl)
@[simp] theorem State.upCfg_sw (f : Cfg → Cfg) (j : Nat) : (s.upCfg f).sw j = s.sw j := (rfl)
@[simp] theorem State.upCfg_trig (f : Cfg → Cfg) (j : Nat) : (s.upCfg f).trig j = s.trig j := (rfl)
@[simp] theorem State.upCfg_strm (f : Cfg → Cfg) (j : Nat) : (s.upCfg f).strm j = s.strm j := (rfl)
@[simp] theorem State.upCfg_stall (f : Cfg → Cfg) (j : Nat) : (s.upCfg f).stall j = s.stall j := (rfl)
@[simp] theorem State.upCfg_job (f : Cfg → Cfg) (j : Nat) : (s.upCfg f).job j = s.job j := (rfl)
@[simp] theorem State.upCfg_engine (f : Cfg → Cfg) (j : Nat) : (s.upCfg f).engine j = s.engine j := (rfl)
@[simp] theorem State.upCfg_laceOf (f : Cfg → Cfg) (j : Nat) : (s.upCfg f).laceOf j = s.laceOf j := (rfl)
@[simp] theorem State.upCfg_que (f : Cfg → Cfg) (j : Nat) : (s.upCfg f).que j = s.que j := (rfl)
@[simp] theorem State.upCfg_ring (f : Cfg → Cfg) (j : Nat) : (s.upCfg f).ring j = s.ring j := (rfl)
@[simp] theorem State.upCfg_bank (f : Cfg → Cfg) (j : Nat) : (s.upCfg f).bank j = s.bank j := (rfl)
@[simp] theorem State.upCfg_memUnit (f : Cfg → Cfg) (j : Nat) : (s.upCfg f).memUnit j = s.memUnit j := (rfl)
@[simp] theorem State.upCfg_window (f : Cfg → Cfg) (j : Nat) : (s.upCfg f).window j = s.window j := (rfl)
@[simp] theorem State.upCfg_lane (f : Cfg → Cfg) (j : Nat) : (s.upCfg f).lane j = s.lane j := (rfl)
@[simp] theorem State.upPath_laceOf (f : Path → Path) (j : Nat) : (s.upPath f).laceOf j = s.laceOf j := (rfl)
@[simp] theorem State.upPath_que (f : Path → Path) (j : Nat) : (s.upPath f).que j = s.que j := (rfl)
@[simp] theorem State.upPath_ring (f : Path → Path) (j : Nat) : (s.upPath f).ring j = s.ring j := (rfl)
@[simp] theorem State.upPath_bank (f : Path → Path) (j : Nat) : (s.upPath f).bank j = s.bank j := (rfl)
@[simp] theorem State.upPath_memUnit (f : Path → Path) (j : Nat) : (s.upPath f).memUnit j = s.memUnit j := (rfl)
@[simp] theorem State.upPath_window (f : Path → Path) (j : Nat) : (s.upPath f).window j = s.window j := (rfl)
@[simp] theorem State.upPath_lane (f : Path → Path) (j : Nat) : (s.upPath f).lane j = s.lane j := (rfl)
@[simp] theorem State.upLace_spoke (f : LaceBlock → LaceBlock) (j : Nat) : (s.upLace f).spoke j = s.spoke j := (rfl)
@[simp] theorem State.upLace_look (f : LaceBlock → LaceBlock) (j : Nat) : (s.upLace f).look j = s.look j := (rfl)
@[simp] theorem State.upLace_modu (f : LaceBlock → LaceBlock) (j : Nat) : (s.upLace f).modu j = s.modu j := (rfl)
@[simp] theorem State.upLace_sw (f : LaceBlock → LaceBlock) (j : Nat) : (s.upLace f).sw j = s.sw j := (rfl)
@[simp] theorem State.upLace_trig (f : LaceBlock → LaceBlock) (j : Nat) : (s.upLace f).trig j = s.trig j := (rfl)
@[simp] theorem State.upLace_strm (f : LaceBlock → LaceBlock) (j : Nat) : (s.upLace f).strm j = s.strm j := (rfl)
@[simp] theorem State.upLace_stall (f : LaceBlock → LaceBlock) (j : Nat) : (s.upLace f).stall j = s.stall j := (rfl)
@[simp] theorem State.upLace_job (f : LaceBlock → LaceBlock) (j : Nat) : (s.upLace f).job j = s.job j := (rfl)
@[simp] theorem State.upLace_engine (f : LaceBlock → LaceBlock) (j : Nat) : (s.upLace f).engine j = s.engine j := (rfl)
@[simp] theorem State.upLace_que (f : LaceBlock → LaceBlock) (j : Nat) : (s.upLace f).que j = s.que j := (rfl)
@[simp] theorem State.upLace_ring (f : LaceBlock → LaceBlock) (j : Nat) : (s.upLace f).ring j = s.ring j := (rfl)
@[simp] theorem State.upLace_bank (f : LaceBlock → LaceBlock) (j : Nat) : (s.upLace f).bank j = s.bank j := (rfl)
@[simp] theorem State.upLace_memUnit (f : LaceBlock → LaceBlock) (j : Nat) : (s.upLace f).memUnit j = s.memUnit j := (rfl)
@[simp] theorem State.upLace_window (f : LaceBlock → LaceBlock) (j : Nat) : (s.upLace f).window j = s.window j := (rfl)
@[simp] theorem State.upLace_lane (f : LaceBlock → LaceBlock) (j : Nat) : (s.upLace f).lane j = s.lane j := (rfl)
@[simp] theorem State.upCrier_spoke (f : Crier → Crier) (j : Nat) : (s.upCrier f).spoke j = s.spoke j := (rfl)
@[simp] theorem State.upCrier_look (f : Crier → Crier) (j : Nat) : (s.upCrier f).look j = s.look j := (rfl)
@[simp] theorem State.upCrier_modu (f : Crier → Crier) (j : Nat) : (s.upCrier f).modu j = s.modu j := (rfl)
@[simp] theorem State.upCrier_sw (f : Crier → Crier) (j : Nat) : (s.upCrier f).sw j = s.sw j := (rfl)
@[simp] theorem State.upCrier_trig (f : Crier → Crier) (j : Nat) : (s.upCrier f).trig j = s.trig j := (rfl)
@[simp] theorem State.upCrier_strm (f : Crier → Crier) (j : Nat) : (s.upCrier f).strm j = s.strm j := (rfl)
@[simp] theorem State.upCrier_stall (f : Crier → Crier) (j : Nat) : (s.upCrier f).stall j = s.stall j := (rfl)
@[simp] theorem State.upCrier_job (f : Crier → Crier) (j : Nat) : (s.upCrier f).job j = s.job j := (rfl)
@[simp] theorem State.upCrier_engine (f : Crier → Crier) (j : Nat) : (s.upCrier f).engine j = s.engine j := (rfl)
@[simp] theorem State.upCrier_laceOf (f : Crier → Crier) (j : Nat) : (s.upCrier f).laceOf j = s.laceOf j := (rfl)
@[simp] theorem State.upCrier_ring (f : Crier → Crier) (j : Nat) : (s.upCrier f).ring j = s.ring j := (rfl)
@[simp] theorem State.upCrier_bank (f : Crier → Crier) (j : Nat) : (s.upCrier f).bank j = s.bank j := (rfl)
@[simp] theorem State.upCrier_memUnit (f : Crier → Crier) (j : Nat) : (s.upCrier f).memUnit j = s.memUnit j := (rfl)
@[simp] theorem State.upCrier_window (f : Crier → Crier) (j : Nat) : (s.upCrier f).window j = s.window j := (rfl)
@[simp] theorem State.upCrier_lane (f : Crier → Crier) (j : Nat) : (s.upCrier f).lane j = s.lane j := (rfl)
@[simp] theorem State.upCmd_spoke (f : Cmd → Cmd) (j : Nat) : (s.upCmd f).spoke j = s.spoke j := (rfl)
@[simp] theorem State.upCmd_look (f : Cmd → Cmd) (j : Nat) : (s.upCmd f).look j = s.look j := (rfl)
@[simp] theorem State.upCmd_modu (f : Cmd → Cmd) (j : Nat) : (s.upCmd f).modu j = s.modu j := (rfl)
@[simp] theorem State.upCmd_sw (f : Cmd → Cmd) (j : Nat) : (s.upCmd f).sw j = s.sw j := (rfl)
@[simp] theorem State.upCmd_trig (f : Cmd → Cmd) (j : Nat) : (s.upCmd f).trig j = s.trig j := (rfl)
@[simp] theorem State.upCmd_strm (f : Cmd → Cmd) (j : Nat) : (s.upCmd f).strm j = s.strm j := (rfl)
@[simp] theorem State.upCmd_stall (f : Cmd → Cmd) (j : Nat) : (s.upCmd f).stall j = s.stall j := (rfl)
@[simp] theorem State.upCmd_job (f : Cmd → Cmd) (j : Nat) : (s.upCmd f).job j = s.job j := (rfl)
@[simp] theorem State.upCmd_engine (f : Cmd → Cmd) (j : Nat) : (s.upCmd f).engine j = s.engine j := (rfl)
@[simp] theorem State.upCmd_laceOf (f : Cmd → Cmd) (j : Nat) : (s.upCmd f).laceOf j = s.laceOf j := (rfl)
@[simp] theorem State.upCmd_que (f : Cmd → Cmd) (j : Nat) : (s.upCmd f).que j = s.que j := (rfl)
@[simp] theorem State.upCmd_ring (f : Cmd → Cmd) (j : Nat) : (s.upCmd f).ring j = s.ring j := (rfl)
@[simp] theorem State.upCmd_bank (f : Cmd → Cmd) (j : Nat) : (s.upCmd f).bank j = s.bank j := (rfl)
@[simp] theorem State.upCmd_memUnit (f : Cmd → Cmd) (j : Nat) : (s.upCmd f).memUnit j = s.memUnit j := (rfl)
@[simp] theorem State.upCmd_window (f : Cmd → Cmd) (j : Nat) : (s.upCmd f).window j = s.window j := (rfl)
@[simp] theorem State.upCmd_lane (f : Cmd → Cmd) (j : Nat) : (s.upCmd f).lane j = s.lane j := (rfl)
@[simp] theorem State.upHost_spoke (f : HostPorts → HostPorts) (j : Nat) : (s.upHost f).spoke j = s.spoke j := (rfl)
@[simp] theorem State.upHost_look (f : HostPorts → HostPorts) (j : Nat) : (s.upHost f).look j = s.look j := (rfl)
@[simp] theorem State.upHost_modu (f : HostPorts → HostPorts) (j : Nat) : (s.upHost f).modu j = s.modu j := (rfl)
@[simp] theorem State.upHost_sw (f : HostPorts → HostPorts) (j : Nat) : (s.upHost f).sw j = s.sw j := (rfl)
@[simp] theorem State.upHost_trig (f : HostPorts → HostPorts) (j : Nat) : (s.upHost f).trig j = s.trig j := (rfl)
@[simp] theorem State.upHost_strm (f : HostPorts → HostPorts) (j : Nat) : (s.upHost f).strm j = s.strm j := (rfl)
@[simp] theorem State.upHost_stall (f : HostPorts → HostPorts) (j : Nat) : (s.upHost f).stall j = s.stall j := (rfl)
@[simp] theorem State.upHost_job (f : HostPorts → HostPorts) (j : Nat) : (s.upHost f).job j = s.job j := (rfl)
@[simp] theorem State.upHost_engine (f : HostPorts → HostPorts) (j : Nat) : (s.upHost f).engine j = s.engine j := (rfl)
@[simp] theorem State.upHost_laceOf (f : HostPorts → HostPorts) (j : Nat) : (s.upHost f).laceOf j = s.laceOf j := (rfl)
@[simp] theorem State.upHost_que (f : HostPorts → HostPorts) (j : Nat) : (s.upHost f).que j = s.que j := (rfl)
@[simp] theorem State.upHost_bank (f : HostPorts → HostPorts) (j : Nat) : (s.upHost f).bank j = s.bank j := (rfl)
@[simp] theorem State.upHost_memUnit (f : HostPorts → HostPorts) (j : Nat) : (s.upHost f).memUnit j = s.memUnit j := (rfl)
@[simp] theorem State.upHost_window (f : HostPorts → HostPorts) (j : Nat) : (s.upHost f).window j = s.window j := (rfl)
@[simp] theorem State.upHost_lane (f : HostPorts → HostPorts) (j : Nat) : (s.upHost f).lane j = s.lane j := (rfl)
@[simp] theorem State.upMem_spoke (f : Mem → Mem) (j : Nat) : (s.upMem f).spoke j = s.spoke j := (rfl)
@[simp] theorem State.upMem_look (f : Mem → Mem) (j : Nat) : (s.upMem f).look j = s.look j := (rfl)
@[simp] theorem State.upMem_modu (f : Mem → Mem) (j : Nat) : (s.upMem f).modu j = s.modu j := (rfl)
@[simp] theorem State.upMem_sw (f : Mem → Mem) (j : Nat) : (s.upMem f).sw j = s.sw j := (rfl)
@[simp] theorem State.upMem_trig (f : Mem → Mem) (j : Nat) : (s.upMem f).trig j = s.trig j := (rfl)
@[simp] theorem State.upMem_strm (f : Mem → Mem) (j : Nat) : (s.upMem f).strm j = s.strm j := (rfl)
@[simp] theorem State.upMem_stall (f : Mem → Mem) (j : Nat) : (s.upMem f).stall j = s.stall j := (rfl)
@[simp] theorem State.upMem_job (f : Mem → Mem) (j : Nat) : (s.upMem f).job j = s.job j := (rfl)
@[simp] theorem State.upMem_engine (f : Mem → Mem) (j : Nat) : (s.upMem f).engine j = s.engine j := (rfl)
@[simp] theorem State.upMem_laceOf (f : Mem → Mem) (j : Nat) : (s.upMem f).laceOf j = s.laceOf j := (rfl)
@[simp] theorem State.upMem_que (f : Mem → Mem) (j : Nat) : (s.upMem f).que j = s.que j := (rfl)
@[simp] theorem State.upMem_ring (f : Mem → Mem) (j : Nat) : (s.upMem f).ring j = s.ring j := (rfl)
@[simp] theorem State.upMem_window (f : Mem → Mem) (j : Nat) : (s.upMem f).window j = s.window j := (rfl)
@[simp] theorem State.upMem_lane (f : Mem → Mem) (j : Nat) : (s.upMem f).lane j = s.lane j := (rfl)
@[simp] theorem State.upCal_spoke (f : Cal → Cal) (j : Nat) : (s.upCal f).spoke j = s.spoke j := (rfl)
@[simp] theorem State.upCal_look (f : Cal → Cal) (j : Nat) : (s.upCal f).look j = s.look j := (rfl)
@[simp] theorem State.upCal_modu (f : Cal → Cal) (j : Nat) : (s.upCal f).modu j = s.modu j := (rfl)
@[simp] theorem State.upCal_sw (f : Cal → Cal) (j : Nat) : (s.upCal f).sw j = s.sw j := (rfl)
@[simp] theorem State.upCal_trig (f : Cal → Cal) (j : Nat) : (s.upCal f).trig j = s.trig j := (rfl)
@[simp] theorem State.upCal_strm (f : Cal → Cal) (j : Nat) : (s.upCal f).strm j = s.strm j := (rfl)
@[simp] theorem State.upCal_stall (f : Cal → Cal) (j : Nat) : (s.upCal f).stall j = s.stall j := (rfl)
@[simp] theorem State.upCal_job (f : Cal → Cal) (j : Nat) : (s.upCal f).job j = s.job j := (rfl)
@[simp] theorem State.upCal_engine (f : Cal → Cal) (j : Nat) : (s.upCal f).engine j = s.engine j := (rfl)
@[simp] theorem State.upCal_laceOf (f : Cal → Cal) (j : Nat) : (s.upCal f).laceOf j = s.laceOf j := (rfl)
@[simp] theorem State.upCal_que (f : Cal → Cal) (j : Nat) : (s.upCal f).que j = s.que j := (rfl)
@[simp] theorem State.upCal_ring (f : Cal → Cal) (j : Nat) : (s.upCal f).ring j = s.ring j := (rfl)
@[simp] theorem State.upCal_bank (f : Cal → Cal) (j : Nat) : (s.upCal f).bank j = s.bank j := (rfl)
@[simp] theorem State.upCal_memUnit (f : Cal → Cal) (j : Nat) : (s.upCal f).memUnit j = s.memUnit j := (rfl)
@[simp] theorem State.upCal_window (f : Cal → Cal) (j : Nat) : (s.upCal f).window j = s.window j := (rfl)
@[simp] theorem State.upCal_lane (f : Cal → Cal) (j : Nat) : (s.upCal f).lane j = s.lane j := (rfl)
@[simp] theorem State.upHlt_spoke (f : Hlt → Hlt) (j : Nat) : (s.upHlt f).spoke j = s.spoke j := (rfl)
@[simp] theorem State.upHlt_look (f : Hlt → Hlt) (j : Nat) : (s.upHlt f).look j = s.look j := (rfl)
@[simp] theorem State.upHlt_modu (f : Hlt → Hlt) (j : Nat) : (s.upHlt f).modu j = s.modu j := (rfl)
@[simp] theorem State.upHlt_sw (f : Hlt → Hlt) (j : Nat) : (s.upHlt f).sw j = s.sw j := (rfl)
@[simp] theorem State.upHlt_trig (f : Hlt → Hlt) (j : Nat) : (s.upHlt f).trig j = s.trig j := (rfl)
@[simp] theorem State.upHlt_strm (f : Hlt → Hlt) (j : Nat) : (s.upHlt f).strm j = s.strm j := (rfl)
@[simp] theorem State.upHlt_stall (f : Hlt → Hlt) (j : Nat) : (s.upHlt f).stall j = s.stall j := (rfl)
@[simp] theorem State.upHlt_job (f : Hlt → Hlt) (j : Nat) : (s.upHlt f).job j = s.job j := (rfl)
@[simp] theorem State.upHlt_engine (f : Hlt → Hlt) (j : Nat) : (s.upHlt f).engine j = s.engine j := (rfl)
@[simp] theorem State.upHlt_laceOf (f : Hlt → Hlt) (j : Nat) : (s.upHlt f).laceOf j = s.laceOf j := (rfl)
@[simp] theorem State.upHlt_que (f : Hlt → Hlt) (j : Nat) : (s.upHlt f).que j = s.que j := (rfl)
@[simp] theorem State.upHlt_ring (f : Hlt → Hlt) (j : Nat) : (s.upHlt f).ring j = s.ring j := (rfl)
@[simp] theorem State.upHlt_bank (f : Hlt → Hlt) (j : Nat) : (s.upHlt f).bank j = s.bank j := (rfl)
@[simp] theorem State.upHlt_memUnit (f : Hlt → Hlt) (j : Nat) : (s.upHlt f).memUnit j = s.memUnit j := (rfl)
@[simp] theorem State.upHlt_lane (f : Hlt → Hlt) (j : Nat) : (s.upHlt f).lane j = s.lane j := (rfl)
@[simp] theorem State.upLnk_spoke (f : Lnk → Lnk) (j : Nat) : (s.upLnk f).spoke j = s.spoke j := (rfl)
@[simp] theorem State.upLnk_look (f : Lnk → Lnk) (j : Nat) : (s.upLnk f).look j = s.look j := (rfl)
@[simp] theorem State.upLnk_modu (f : Lnk → Lnk) (j : Nat) : (s.upLnk f).modu j = s.modu j := (rfl)
@[simp] theorem State.upLnk_sw (f : Lnk → Lnk) (j : Nat) : (s.upLnk f).sw j = s.sw j := (rfl)
@[simp] theorem State.upLnk_trig (f : Lnk → Lnk) (j : Nat) : (s.upLnk f).trig j = s.trig j := (rfl)
@[simp] theorem State.upLnk_strm (f : Lnk → Lnk) (j : Nat) : (s.upLnk f).strm j = s.strm j := (rfl)
@[simp] theorem State.upLnk_stall (f : Lnk → Lnk) (j : Nat) : (s.upLnk f).stall j = s.stall j := (rfl)
@[simp] theorem State.upLnk_job (f : Lnk → Lnk) (j : Nat) : (s.upLnk f).job j = s.job j := (rfl)
@[simp] theorem State.upLnk_engine (f : Lnk → Lnk) (j : Nat) : (s.upLnk f).engine j = s.engine j := (rfl)
@[simp] theorem State.upLnk_laceOf (f : Lnk → Lnk) (j : Nat) : (s.upLnk f).laceOf j = s.laceOf j := (rfl)
@[simp] theorem State.upLnk_que (f : Lnk → Lnk) (j : Nat) : (s.upLnk f).que j = s.que j := (rfl)
@[simp] theorem State.upLnk_ring (f : Lnk → Lnk) (j : Nat) : (s.upLnk f).ring j = s.ring j := (rfl)
@[simp] theorem State.upLnk_bank (f : Lnk → Lnk) (j : Nat) : (s.upLnk f).bank j = s.bank j := (rfl)
@[simp] theorem State.upLnk_memUnit (f : Lnk → Lnk) (j : Nat) : (s.upLnk f).memUnit j = s.memUnit j := (rfl)
@[simp] theorem State.upLnk_window (f : Lnk → Lnk) (j : Nat) : (s.upLnk f).window j = s.window j := (rfl)
@[simp] theorem State.upTdm_spoke (f : Tdm → Tdm) (j : Nat) : (s.upTdm f).spoke j = s.spoke j := (rfl)
@[simp] theorem State.upTdm_look (f : Tdm → Tdm) (j : Nat) : (s.upTdm f).look j = s.look j := (rfl)
@[simp] theorem State.upTdm_modu (f : Tdm → Tdm) (j : Nat) : (s.upTdm f).modu j = s.modu j := (rfl)
@[simp] theorem State.upTdm_sw (f : Tdm → Tdm) (j : Nat) : (s.upTdm f).sw j = s.sw j := (rfl)
@[simp] theorem State.upTdm_trig (f : Tdm → Tdm) (j : Nat) : (s.upTdm f).trig j = s.trig j := (rfl)
@[simp] theorem State.upTdm_strm (f : Tdm → Tdm) (j : Nat) : (s.upTdm f).strm j = s.strm j := (rfl)
@[simp] theorem State.upTdm_stall (f : Tdm → Tdm) (j : Nat) : (s.upTdm f).stall j = s.stall j := (rfl)
@[simp] theorem State.upTdm_job (f : Tdm → Tdm) (j : Nat) : (s.upTdm f).job j = s.job j := (rfl)
@[simp] theorem State.upTdm_engine (f : Tdm → Tdm) (j : Nat) : (s.upTdm f).engine j = s.engine j := (rfl)
@[simp] theorem State.upTdm_laceOf (f : Tdm → Tdm) (j : Nat) : (s.upTdm f).laceOf j = s.laceOf j := (rfl)
@[simp] theorem State.upTdm_que (f : Tdm → Tdm) (j : Nat) : (s.upTdm f).que j = s.que j := (rfl)
@[simp] theorem State.upTdm_ring (f : Tdm → Tdm) (j : Nat) : (s.upTdm f).ring j = s.ring j := (rfl)
@[simp] theorem State.upTdm_bank (f : Tdm → Tdm) (j : Nat) : (s.upTdm f).bank j = s.bank j := (rfl)
@[simp] theorem State.upTdm_memUnit (f : Tdm → Tdm) (j : Nat) : (s.upTdm f).memUnit j = s.memUnit j := (rfl)
@[simp] theorem State.upTdm_window (f : Tdm → Tdm) (j : Nat) : (s.upTdm f).window j = s.window j := (rfl)
@[simp] theorem State.upTdm_lane (f : Tdm → Tdm) (j : Nat) : (s.upTdm f).lane j = s.lane j := (rfl)
@[simp] theorem State.upLdr_spoke (f : Ldr → Ldr) (j : Nat) : (s.upLdr f).spoke j = s.spoke j := (rfl)
@[simp] theorem State.upLdr_look (f : Ldr → Ldr) (j : Nat) : (s.upLdr f).look j = s.look j := (rfl)
@[simp] theorem State.upLdr_modu (f : Ldr → Ldr) (j : Nat) : (s.upLdr f).modu j = s.modu j := (rfl)
@[simp] theorem State.upLdr_sw (f : Ldr → Ldr) (j : Nat) : (s.upLdr f).sw j = s.sw j := (rfl)
@[simp] theorem State.upLdr_trig (f : Ldr → Ldr) (j : Nat) : (s.upLdr f).trig j = s.trig j := (rfl)
@[simp] theorem State.upLdr_strm (f : Ldr → Ldr) (j : Nat) : (s.upLdr f).strm j = s.strm j := (rfl)
@[simp] theorem State.upLdr_stall (f : Ldr → Ldr) (j : Nat) : (s.upLdr f).stall j = s.stall j := (rfl)
@[simp] theorem State.upLdr_job (f : Ldr → Ldr) (j : Nat) : (s.upLdr f).job j = s.job j := (rfl)
@[simp] theorem State.upLdr_engine (f : Ldr → Ldr) (j : Nat) : (s.upLdr f).engine j = s.engine j := (rfl)
@[simp] theorem State.upLdr_laceOf (f : Ldr → Ldr) (j : Nat) : (s.upLdr f).laceOf j = s.laceOf j := (rfl)
@[simp] theorem State.upLdr_que (f : Ldr → Ldr) (j : Nat) : (s.upLdr f).que j = s.que j := (rfl)
@[simp] theorem State.upLdr_ring (f : Ldr → Ldr) (j : Nat) : (s.upLdr f).ring j = s.ring j := (rfl)
@[simp] theorem State.upLdr_bank (f : Ldr → Ldr) (j : Nat) : (s.upLdr f).bank j = s.bank j := (rfl)
@[simp] theorem State.upLdr_memUnit (f : Ldr → Ldr) (j : Nat) : (s.upLdr f).memUnit j = s.memUnit j := (rfl)
@[simp] theorem State.upLdr_window (f : Ldr → Ldr) (j : Nat) : (s.upLdr f).window j = s.window j := (rfl)
@[simp] theorem State.upLdr_lane (f : Ldr → Ldr) (j : Nat) : (s.upLdr f).lane j = s.lane j := (rfl)
@[simp] theorem State.upSnap_spoke (f : Snap → Snap) (j : Nat) : (s.upSnap f).spoke j = s.spoke j := (rfl)
@[simp] theorem State.upSnap_look (f : Snap → Snap) (j : Nat) : (s.upSnap f).look j = s.look j := (rfl)
@[simp] theorem State.upSnap_modu (f : Snap → Snap) (j : Nat) : (s.upSnap f).modu j = s.modu j := (rfl)
@[simp] theorem State.upSnap_sw (f : Snap → Snap) (j : Nat) : (s.upSnap f).sw j = s.sw j := (rfl)
@[simp] theorem State.upSnap_trig (f : Snap → Snap) (j : Nat) : (s.upSnap f).trig j = s.trig j := (rfl)
@[simp] theorem State.upSnap_strm (f : Snap → Snap) (j : Nat) : (s.upSnap f).strm j = s.strm j := (rfl)
@[simp] theorem State.upSnap_stall (f : Snap → Snap) (j : Nat) : (s.upSnap f).stall j = s.stall j := (rfl)
@[simp] theorem State.upSnap_job (f : Snap → Snap) (j : Nat) : (s.upSnap f).job j = s.job j := (rfl)
@[simp] theorem State.upSnap_engine (f : Snap → Snap) (j : Nat) : (s.upSnap f).engine j = s.engine j := (rfl)
@[simp] theorem State.upSnap_laceOf (f : Snap → Snap) (j : Nat) : (s.upSnap f).laceOf j = s.laceOf j := (rfl)
@[simp] theorem State.upSnap_que (f : Snap → Snap) (j : Nat) : (s.upSnap f).que j = s.que j := (rfl)
@[simp] theorem State.upSnap_ring (f : Snap → Snap) (j : Nat) : (s.upSnap f).ring j = s.ring j := (rfl)
@[simp] theorem State.upSnap_bank (f : Snap → Snap) (j : Nat) : (s.upSnap f).bank j = s.bank j := (rfl)
@[simp] theorem State.upSnap_memUnit (f : Snap → Snap) (j : Nat) : (s.upSnap f).memUnit j = s.memUnit j := (rfl)
@[simp] theorem State.upSnap_window (f : Snap → Snap) (j : Nat) : (s.upSnap f).window j = s.window j := (rfl)
@[simp] theorem State.upSnap_lane (f : Snap → Snap) (j : Nat) : (s.upSnap f).lane j = s.lane j := (rfl)
@[simp] theorem State.emit_spoke (o : Out) (j : Nat) : (s.emit o).spoke j = s.spoke j := (rfl)
@[simp] theorem State.emit_look (o : Out) (j : Nat) : (s.emit o).look j = s.look j := (rfl)
@[simp] theorem State.emit_modu (o : Out) (j : Nat) : (s.emit o).modu j = s.modu j := (rfl)
@[simp] theorem State.emit_sw (o : Out) (j : Nat) : (s.emit o).sw j = s.sw j := (rfl)
@[simp] theorem State.emit_trig (o : Out) (j : Nat) : (s.emit o).trig j = s.trig j := (rfl)
@[simp] theorem State.emit_strm (o : Out) (j : Nat) : (s.emit o).strm j = s.strm j := (rfl)
@[simp] theorem State.emit_stall (o : Out) (j : Nat) : (s.emit o).stall j = s.stall j := (rfl)
@[simp] theorem State.emit_job (o : Out) (j : Nat) : (s.emit o).job j = s.job j := (rfl)
@[simp] theorem State.emit_engine (o : Out) (j : Nat) : (s.emit o).engine j = s.engine j := (rfl)
@[simp] theorem State.emit_laceOf (o : Out) (j : Nat) : (s.emit o).laceOf j = s.laceOf j := (rfl)
@[simp] theorem State.emit_que (o : Out) (j : Nat) : (s.emit o).que j = s.que j := (rfl)
@[simp] theorem State.emit_ring (o : Out) (j : Nat) : (s.emit o).ring j = s.ring j := (rfl)
@[simp] theorem State.emit_bank (o : Out) (j : Nat) : (s.emit o).bank j = s.bank j := (rfl)
@[simp] theorem State.emit_memUnit (o : Out) (j : Nat) : (s.emit o).memUnit j = s.memUnit j := (rfl)
@[simp] theorem State.emit_window (o : Out) (j : Nat) : (s.emit o).window j = s.window j := (rfl)
@[simp] theorem State.emit_lane (o : Out) (j : Nat) : (s.emit o).lane j = s.lane j := (rfl)
@[simp] theorem State.draw_spoke  (j : Nat) : (s.draw).spoke j = s.spoke j := (rfl)
@[simp] theorem State.draw_look  (j : Nat) : (s.draw).look j = s.look j := (rfl)
@[simp] theorem State.draw_modu  (j : Nat) : (s.draw).modu j = s.modu j := (rfl)
@[simp] theorem State.draw_sw  (j : Nat) : (s.draw).sw j = s.sw j := (rfl)
@[simp] theorem State.draw_trig  (j : Nat) : (s.draw).trig j = s.trig j := (rfl)
@[simp] theorem State.draw_strm  (j : Nat) : (s.draw).strm j = s.strm j := (rfl)
@[simp] theorem State.draw_stall  (j : Nat) : (s.draw).stall j = s.stall j := (rfl)
@[simp] theorem State.draw_job  (j : Nat) : (s.draw).job j = s.job j := (rfl)
@[simp] theorem State.draw_engine  (j : Nat) : (s.draw).engine j = s.engine j := (rfl)
@[simp] theorem State.draw_laceOf  (j : Nat) : (s.draw).laceOf j = s.laceOf j := (rfl)
@[simp] theorem State.draw_que  (j : Nat) : (s.draw).que j = s.que j := (rfl)
@[simp] theorem State.draw_ring  (j : Nat) : (s.draw).ring j = s.ring j := (rfl)
@[simp] theorem State.draw_bank  (j : Nat) : (s.draw).bank j = s.bank j := (rfl)
@[simp] theorem State.draw_memUnit  (j : Nat) : (s.draw).memUnit j = s.memUnit j := (rfl)
@[simp] theorem State.draw_window  (j : Nat) : (s.draw).window j = s.window j := (rfl)
@[simp] theorem State.draw_lane  (j : Nat) : (s.draw).lane j = s.lane j := (rfl)
@[simp] theorem State.endSpan_spoke  (j : Nat) : (s.endSpan).spoke j = s.spoke j := (rfl)
@[simp] theorem State.endSpan_look  (j : Nat) : (s.endSpan).look j = s.look j := (rfl)
@[simp] theorem State.endSpan_modu  (j : Nat) : (s.endSpan).modu j = s.modu j := (rfl)
@[simp] theorem State.endSpan_sw  (j : Nat) : (s.endSpan).sw j = s.sw j := (rfl)
@[simp] theorem State.endSpan_trig  (j : Nat) : (s.endSpan).trig j = s.trig j := (rfl)
@[simp] theorem State.endSpan_strm  (j : Nat) : (s.endSpan).strm j = s.strm j := (rfl)
@[simp] theorem State.endSpan_stall  (j : Nat) : (s.endSpan).stall j = s.stall j := (rfl)
@[simp] theorem State.endSpan_job  (j : Nat) : (s.endSpan).job j = s.job j := (rfl)
@[simp] theorem State.endSpan_engine  (j : Nat) : (s.endSpan).engine j = s.engine j := (rfl)
@[simp] theorem State.endSpan_laceOf  (j : Nat) : (s.endSpan).laceOf j = s.laceOf j := (rfl)
@[simp] theorem State.endSpan_que  (j : Nat) : (s.endSpan).que j = s.que j := (rfl)
@[simp] theorem State.endSpan_ring  (j : Nat) : (s.endSpan).ring j = s.ring j := (rfl)
@[simp] theorem State.endSpan_bank  (j : Nat) : (s.endSpan).bank j = s.bank j := (rfl)
@[simp] theorem State.endSpan_memUnit  (j : Nat) : (s.endSpan).memUnit j = s.memUnit j := (rfl)
@[simp] theorem State.endSpan_window  (j : Nat) : (s.endSpan).window j = s.window j := (rfl)
@[simp] theorem State.endSpan_lane  (j : Nat) : (s.endSpan).lane j = s.lane j := (rfl)
@[simp] theorem State.undefinedUse_spoke (r j : Nat) : (s.undefinedUse r).spoke j = s.spoke j := by unfold State.undefinedUse; split <;> rfl
@[simp] theorem State.undefinedUse_look (r j : Nat) : (s.undefinedUse r).look j = s.look j := by unfold State.undefinedUse; split <;> rfl
@[simp] theorem State.undefinedUse_modu (r j : Nat) : (s.undefinedUse r).modu j = s.modu j := by unfold State.undefinedUse; split <;> rfl
@[simp] theorem State.undefinedUse_sw (r j : Nat) : (s.undefinedUse r).sw j = s.sw j := by unfold State.undefinedUse; split <;> rfl
@[simp] theorem State.undefinedUse_trig (r j : Nat) : (s.undefinedUse r).trig j = s.trig j := by unfold State.undefinedUse; split <;> rfl
@[simp] theorem State.undefinedUse_strm (r j : Nat) : (s.undefinedUse r).strm j = s.strm j := by unfold State.undefinedUse; split <;> rfl
@[simp] theorem State.undefinedUse_stall (r j : Nat) : (s.undefinedUse r).stall j = s.stall j := by unfold State.undefinedUse; split <;> rfl
@[simp] theorem State.undefinedUse_job (r j : Nat) : (s.undefinedUse r).job j = s.job j := by unfold State.undefinedUse; split <;> rfl
@[simp] theorem State.undefinedUse_engine (r j : Nat) : (s.undefinedUse r).engine j = s.engine j := by unfold State.undefinedUse; split <;> rfl
@[simp] theorem State.undefinedUse_laceOf (r j : Nat) : (s.undefinedUse r).laceOf j = s.laceOf j := by unfold State.undefinedUse; split <;> rfl
@[simp] theorem State.undefinedUse_que (r j : Nat) : (s.undefinedUse r).que j = s.que j := by unfold State.undefinedUse; split <;> rfl
@[simp] theorem State.undefinedUse_ring (r j : Nat) : (s.undefinedUse r).ring j = s.ring j := by unfold State.undefinedUse; split <;> rfl
@[simp] theorem State.undefinedUse_bank (r j : Nat) : (s.undefinedUse r).bank j = s.bank j := by unfold State.undefinedUse; split <;> rfl
@[simp] theorem State.undefinedUse_memUnit (r j : Nat) : (s.undefinedUse r).memUnit j = s.memUnit j := by unfold State.undefinedUse; split <;> rfl
@[simp] theorem State.undefinedUse_window (r j : Nat) : (s.undefinedUse r).window j = s.window j := by unfold State.undefinedUse; split <;> rfl
@[simp] theorem State.undefinedUse_lane (r j : Nat) : (s.undefinedUse r).lane j = s.lane j := by unfold State.undefinedUse; split <;> rfl

/-! ### Rim, ports and masters -/

@[simp] theorem State.upRim_pending (f : Rim → Rim) : (s.upRim f).pending = s.pending := (rfl)
@[simp] theorem State.upRim_ub (f : Rim → Rim) : (s.upRim f).ub = s.ub := (rfl)
@[simp] theorem State.upRim_freeCount (f : Rim → Rim) : (s.upRim f).freeCount = s.freeCount := (rfl)
@[simp] theorem State.upRim_out (f : Rim → Rim) : (s.upRim f).out = s.out := (rfl)
@[simp] theorem State.upRim_glb (f : Rim → Rim) : (s.upRim f).glb = s.glb := (rfl)
@[simp] theorem State.upRim_tmb (f : Rim → Rim) : (s.upRim f).tmb = s.tmb := (rfl)
@[simp] theorem State.upRim_cfg (f : Rim → Rim) : (s.upRim f).cfg = s.cfg := (rfl)
@[simp] theorem State.upRim_path (f : Rim → Rim) : (s.upRim f).path = s.path := (rfl)
@[simp] theorem State.upRim_lace (f : Rim → Rim) : (s.upRim f).lace = s.lace := (rfl)
@[simp] theorem State.upRim_crier (f : Rim → Rim) : (s.upRim f).crier = s.crier := (rfl)
@[simp] theorem State.upRim_cmd (f : Rim → Rim) : (s.upRim f).cmd = s.cmd := (rfl)
@[simp] theorem State.upRim_host (f : Rim → Rim) : (s.upRim f).host = s.host := (rfl)
@[simp] theorem State.upRim_mem (f : Rim → Rim) : (s.upRim f).mem = s.mem := (rfl)
@[simp] theorem State.upRim_cal (f : Rim → Rim) : (s.upRim f).cal = s.cal := (rfl)
@[simp] theorem State.upRim_hlt (f : Rim → Rim) : (s.upRim f).hlt = s.hlt := (rfl)
@[simp] theorem State.upRim_tdm (f : Rim → Rim) : (s.upRim f).tdm = s.tdm := (rfl)
@[simp] theorem State.upRim_ldr (f : Rim → Rim) : (s.upRim f).ldr = s.ldr := (rfl)
@[simp] theorem State.upRim_snap (f : Rim → Rim) : (s.upRim f).snap = s.snap := (rfl)
@[simp] theorem State.upRim_spoke (f : Rim → Rim) (j : Nat) : (s.upRim f).spoke j = s.spoke j := (rfl)
@[simp] theorem State.upRim_look (f : Rim → Rim) (j : Nat) : (s.upRim f).look j = s.look j := (rfl)
@[simp] theorem State.upRim_modu (f : Rim → Rim) (j : Nat) : (s.upRim f).modu j = s.modu j := (rfl)
@[simp] theorem State.upRim_sw (f : Rim → Rim) (j : Nat) : (s.upRim f).sw j = s.sw j := (rfl)
@[simp] theorem State.upRim_trig (f : Rim → Rim) (j : Nat) : (s.upRim f).trig j = s.trig j := (rfl)
@[simp] theorem State.upRim_strm (f : Rim → Rim) (j : Nat) : (s.upRim f).strm j = s.strm j := (rfl)
@[simp] theorem State.upRim_stall (f : Rim → Rim) (j : Nat) : (s.upRim f).stall j = s.stall j := (rfl)
@[simp] theorem State.upRim_job (f : Rim → Rim) (j : Nat) : (s.upRim f).job j = s.job j := (rfl)
@[simp] theorem State.upRim_engine (f : Rim → Rim) (j : Nat) : (s.upRim f).engine j = s.engine j := (rfl)
@[simp] theorem State.upRim_laceOf (f : Rim → Rim) (j : Nat) : (s.upRim f).laceOf j = s.laceOf j := (rfl)
@[simp] theorem State.upRim_que (f : Rim → Rim) (j : Nat) : (s.upRim f).que j = s.que j := (rfl)
@[simp] theorem State.upRim_ring (f : Rim → Rim) (j : Nat) : (s.upRim f).ring j = s.ring j := (rfl)
@[simp] theorem State.upRim_bank (f : Rim → Rim) (j : Nat) : (s.upRim f).bank j = s.bank j := (rfl)
@[simp] theorem State.upRim_memUnit (f : Rim → Rim) (j : Nat) : (s.upRim f).memUnit j = s.memUnit j := (rfl)
@[simp] theorem State.upRim_window (f : Rim → Rim) (j : Nat) : (s.upRim f).window j = s.window j := (rfl)
@[simp] theorem State.upRim_lane (f : Rim → Rim) (j : Nat) : (s.upRim f).lane j = s.lane j := (rfl)
@[simp] theorem State.upPort_pending (p : Port) (f : RimPort → RimPort) : (s.upPort p f).pending = s.pending := (rfl)
@[simp] theorem State.upPort_ub (p : Port) (f : RimPort → RimPort) : (s.upPort p f).ub = s.ub := (rfl)
@[simp] theorem State.upPort_freeCount (p : Port) (f : RimPort → RimPort) : (s.upPort p f).freeCount = s.freeCount := (rfl)
@[simp] theorem State.upPort_out (p : Port) (f : RimPort → RimPort) : (s.upPort p f).out = s.out := (rfl)
@[simp] theorem State.upPort_glb (p : Port) (f : RimPort → RimPort) : (s.upPort p f).glb = s.glb := (rfl)
@[simp] theorem State.upPort_tmb (p : Port) (f : RimPort → RimPort) : (s.upPort p f).tmb = s.tmb := (rfl)
@[simp] theorem State.upPort_cfg (p : Port) (f : RimPort → RimPort) : (s.upPort p f).cfg = s.cfg := (rfl)
@[simp] theorem State.upPort_path (p : Port) (f : RimPort → RimPort) : (s.upPort p f).path = s.path := (rfl)
@[simp] theorem State.upPort_lace (p : Port) (f : RimPort → RimPort) : (s.upPort p f).lace = s.lace := (rfl)
@[simp] theorem State.upPort_crier (p : Port) (f : RimPort → RimPort) : (s.upPort p f).crier = s.crier := (rfl)
@[simp] theorem State.upPort_cmd (p : Port) (f : RimPort → RimPort) : (s.upPort p f).cmd = s.cmd := (rfl)
@[simp] theorem State.upPort_host (p : Port) (f : RimPort → RimPort) : (s.upPort p f).host = s.host := (rfl)
@[simp] theorem State.upPort_mem (p : Port) (f : RimPort → RimPort) : (s.upPort p f).mem = s.mem := (rfl)
@[simp] theorem State.upPort_cal (p : Port) (f : RimPort → RimPort) : (s.upPort p f).cal = s.cal := (rfl)
@[simp] theorem State.upPort_hlt (p : Port) (f : RimPort → RimPort) : (s.upPort p f).hlt = s.hlt := (rfl)
@[simp] theorem State.upPort_tdm (p : Port) (f : RimPort → RimPort) : (s.upPort p f).tdm = s.tdm := (rfl)
@[simp] theorem State.upPort_ldr (p : Port) (f : RimPort → RimPort) : (s.upPort p f).ldr = s.ldr := (rfl)
@[simp] theorem State.upPort_snap (p : Port) (f : RimPort → RimPort) : (s.upPort p f).snap = s.snap := (rfl)
@[simp] theorem State.upPort_spoke (p : Port) (f : RimPort → RimPort) (j : Nat) : (s.upPort p f).spoke j = s.spoke j := (rfl)
@[simp] theorem State.upPort_look (p : Port) (f : RimPort → RimPort) (j : Nat) : (s.upPort p f).look j = s.look j := (rfl)
@[simp] theorem State.upPort_modu (p : Port) (f : RimPort → RimPort) (j : Nat) : (s.upPort p f).modu j = s.modu j := (rfl)
@[simp] theorem State.upPort_sw (p : Port) (f : RimPort → RimPort) (j : Nat) : (s.upPort p f).sw j = s.sw j := (rfl)
@[simp] theorem State.upPort_trig (p : Port) (f : RimPort → RimPort) (j : Nat) : (s.upPort p f).trig j = s.trig j := (rfl)
@[simp] theorem State.upPort_strm (p : Port) (f : RimPort → RimPort) (j : Nat) : (s.upPort p f).strm j = s.strm j := (rfl)
@[simp] theorem State.upPort_stall (p : Port) (f : RimPort → RimPort) (j : Nat) : (s.upPort p f).stall j = s.stall j := (rfl)
@[simp] theorem State.upPort_job (p : Port) (f : RimPort → RimPort) (j : Nat) : (s.upPort p f).job j = s.job j := (rfl)
@[simp] theorem State.upPort_engine (p : Port) (f : RimPort → RimPort) (j : Nat) : (s.upPort p f).engine j = s.engine j := (rfl)
@[simp] theorem State.upPort_laceOf (p : Port) (f : RimPort → RimPort) (j : Nat) : (s.upPort p f).laceOf j = s.laceOf j := (rfl)
@[simp] theorem State.upPort_que (p : Port) (f : RimPort → RimPort) (j : Nat) : (s.upPort p f).que j = s.que j := (rfl)
@[simp] theorem State.upPort_ring (p : Port) (f : RimPort → RimPort) (j : Nat) : (s.upPort p f).ring j = s.ring j := (rfl)
@[simp] theorem State.upPort_bank (p : Port) (f : RimPort → RimPort) (j : Nat) : (s.upPort p f).bank j = s.bank j := (rfl)
@[simp] theorem State.upPort_memUnit (p : Port) (f : RimPort → RimPort) (j : Nat) : (s.upPort p f).memUnit j = s.memUnit j := (rfl)
@[simp] theorem State.upPort_window (p : Port) (f : RimPort → RimPort) (j : Nat) : (s.upPort p f).window j = s.window j := (rfl)
@[simp] theorem State.upPort_lane (p : Port) (f : RimPort → RimPort) (j : Nat) : (s.upPort p f).lane j = s.lane j := (rfl)
@[simp] theorem State.upPtp_pending (p : Port) (f : PtpPort → PtpPort) : (s.upPtp p f).pending = s.pending := (rfl)
@[simp] theorem State.upPtp_ub (p : Port) (f : PtpPort → PtpPort) : (s.upPtp p f).ub = s.ub := (rfl)
@[simp] theorem State.upPtp_freeCount (p : Port) (f : PtpPort → PtpPort) : (s.upPtp p f).freeCount = s.freeCount := (rfl)
@[simp] theorem State.upPtp_out (p : Port) (f : PtpPort → PtpPort) : (s.upPtp p f).out = s.out := (rfl)
@[simp] theorem State.upPtp_glb (p : Port) (f : PtpPort → PtpPort) : (s.upPtp p f).glb = s.glb := (rfl)
@[simp] theorem State.upPtp_cfg (p : Port) (f : PtpPort → PtpPort) : (s.upPtp p f).cfg = s.cfg := (rfl)
@[simp] theorem State.upPtp_path (p : Port) (f : PtpPort → PtpPort) : (s.upPtp p f).path = s.path := (rfl)
@[simp] theorem State.upPtp_lace (p : Port) (f : PtpPort → PtpPort) : (s.upPtp p f).lace = s.lace := (rfl)
@[simp] theorem State.upPtp_crier (p : Port) (f : PtpPort → PtpPort) : (s.upPtp p f).crier = s.crier := (rfl)
@[simp] theorem State.upPtp_cmd (p : Port) (f : PtpPort → PtpPort) : (s.upPtp p f).cmd = s.cmd := (rfl)
@[simp] theorem State.upPtp_host (p : Port) (f : PtpPort → PtpPort) : (s.upPtp p f).host = s.host := (rfl)
@[simp] theorem State.upPtp_mem (p : Port) (f : PtpPort → PtpPort) : (s.upPtp p f).mem = s.mem := (rfl)
@[simp] theorem State.upPtp_cal (p : Port) (f : PtpPort → PtpPort) : (s.upPtp p f).cal = s.cal := (rfl)
@[simp] theorem State.upPtp_hlt (p : Port) (f : PtpPort → PtpPort) : (s.upPtp p f).hlt = s.hlt := (rfl)
@[simp] theorem State.upPtp_lnk (p : Port) (f : PtpPort → PtpPort) : (s.upPtp p f).lnk = s.lnk := (rfl)
@[simp] theorem State.upPtp_tdm (p : Port) (f : PtpPort → PtpPort) : (s.upPtp p f).tdm = s.tdm := (rfl)
@[simp] theorem State.upPtp_ldr (p : Port) (f : PtpPort → PtpPort) : (s.upPtp p f).ldr = s.ldr := (rfl)
@[simp] theorem State.upPtp_snap (p : Port) (f : PtpPort → PtpPort) : (s.upPtp p f).snap = s.snap := (rfl)
@[simp] theorem State.upPtp_spoke (p : Port) (f : PtpPort → PtpPort) (j : Nat) : (s.upPtp p f).spoke j = s.spoke j := (rfl)
@[simp] theorem State.upPtp_look (p : Port) (f : PtpPort → PtpPort) (j : Nat) : (s.upPtp p f).look j = s.look j := (rfl)
@[simp] theorem State.upPtp_modu (p : Port) (f : PtpPort → PtpPort) (j : Nat) : (s.upPtp p f).modu j = s.modu j := (rfl)
@[simp] theorem State.upPtp_sw (p : Port) (f : PtpPort → PtpPort) (j : Nat) : (s.upPtp p f).sw j = s.sw j := (rfl)
@[simp] theorem State.upPtp_trig (p : Port) (f : PtpPort → PtpPort) (j : Nat) : (s.upPtp p f).trig j = s.trig j := (rfl)
@[simp] theorem State.upPtp_strm (p : Port) (f : PtpPort → PtpPort) (j : Nat) : (s.upPtp p f).strm j = s.strm j := (rfl)
@[simp] theorem State.upPtp_stall (p : Port) (f : PtpPort → PtpPort) (j : Nat) : (s.upPtp p f).stall j = s.stall j := (rfl)
@[simp] theorem State.upPtp_job (p : Port) (f : PtpPort → PtpPort) (j : Nat) : (s.upPtp p f).job j = s.job j := (rfl)
@[simp] theorem State.upPtp_engine (p : Port) (f : PtpPort → PtpPort) (j : Nat) : (s.upPtp p f).engine j = s.engine j := (rfl)
@[simp] theorem State.upPtp_laceOf (p : Port) (f : PtpPort → PtpPort) (j : Nat) : (s.upPtp p f).laceOf j = s.laceOf j := (rfl)
@[simp] theorem State.upPtp_que (p : Port) (f : PtpPort → PtpPort) (j : Nat) : (s.upPtp p f).que j = s.que j := (rfl)
@[simp] theorem State.upPtp_ring (p : Port) (f : PtpPort → PtpPort) (j : Nat) : (s.upPtp p f).ring j = s.ring j := (rfl)
@[simp] theorem State.upPtp_bank (p : Port) (f : PtpPort → PtpPort) (j : Nat) : (s.upPtp p f).bank j = s.bank j := (rfl)
@[simp] theorem State.upPtp_memUnit (p : Port) (f : PtpPort → PtpPort) (j : Nat) : (s.upPtp p f).memUnit j = s.memUnit j := (rfl)
@[simp] theorem State.upPtp_window (p : Port) (f : PtpPort → PtpPort) (j : Nat) : (s.upPtp p f).window j = s.window j := (rfl)
@[simp] theorem State.upPtp_lane (p : Port) (f : PtpPort → PtpPort) (j : Nat) : (s.upPtp p f).lane j = s.lane j := (rfl)
@[simp] theorem State.upMst_pending (m : Master) (f : MasterRec → MasterRec) : (s.upMst m f).pending = s.pending := (rfl)
@[simp] theorem State.upMst_ub (m : Master) (f : MasterRec → MasterRec) : (s.upMst m f).ub = s.ub := (rfl)
@[simp] theorem State.upMst_freeCount (m : Master) (f : MasterRec → MasterRec) : (s.upMst m f).freeCount = s.freeCount := (rfl)
@[simp] theorem State.upMst_out (m : Master) (f : MasterRec → MasterRec) : (s.upMst m f).out = s.out := (rfl)
@[simp] theorem State.upMst_glb (m : Master) (f : MasterRec → MasterRec) : (s.upMst m f).glb = s.glb := (rfl)
@[simp] theorem State.upMst_tmb (m : Master) (f : MasterRec → MasterRec) : (s.upMst m f).tmb = s.tmb := (rfl)
@[simp] theorem State.upMst_cfg (m : Master) (f : MasterRec → MasterRec) : (s.upMst m f).cfg = s.cfg := (rfl)
@[simp] theorem State.upMst_path (m : Master) (f : MasterRec → MasterRec) : (s.upMst m f).path = s.path := (rfl)
@[simp] theorem State.upMst_lace (m : Master) (f : MasterRec → MasterRec) : (s.upMst m f).lace = s.lace := (rfl)
@[simp] theorem State.upMst_crier (m : Master) (f : MasterRec → MasterRec) : (s.upMst m f).crier = s.crier := (rfl)
@[simp] theorem State.upMst_host (m : Master) (f : MasterRec → MasterRec) : (s.upMst m f).host = s.host := (rfl)
@[simp] theorem State.upMst_mem (m : Master) (f : MasterRec → MasterRec) : (s.upMst m f).mem = s.mem := (rfl)
@[simp] theorem State.upMst_cal (m : Master) (f : MasterRec → MasterRec) : (s.upMst m f).cal = s.cal := (rfl)
@[simp] theorem State.upMst_hlt (m : Master) (f : MasterRec → MasterRec) : (s.upMst m f).hlt = s.hlt := (rfl)
@[simp] theorem State.upMst_lnk (m : Master) (f : MasterRec → MasterRec) : (s.upMst m f).lnk = s.lnk := (rfl)
@[simp] theorem State.upMst_tdm (m : Master) (f : MasterRec → MasterRec) : (s.upMst m f).tdm = s.tdm := (rfl)
@[simp] theorem State.upMst_ldr (m : Master) (f : MasterRec → MasterRec) : (s.upMst m f).ldr = s.ldr := (rfl)
@[simp] theorem State.upMst_snap (m : Master) (f : MasterRec → MasterRec) : (s.upMst m f).snap = s.snap := (rfl)
@[simp] theorem State.upMst_spoke (m : Master) (f : MasterRec → MasterRec) (j : Nat) : (s.upMst m f).spoke j = s.spoke j := (rfl)
@[simp] theorem State.upMst_look (m : Master) (f : MasterRec → MasterRec) (j : Nat) : (s.upMst m f).look j = s.look j := (rfl)
@[simp] theorem State.upMst_modu (m : Master) (f : MasterRec → MasterRec) (j : Nat) : (s.upMst m f).modu j = s.modu j := (rfl)
@[simp] theorem State.upMst_sw (m : Master) (f : MasterRec → MasterRec) (j : Nat) : (s.upMst m f).sw j = s.sw j := (rfl)
@[simp] theorem State.upMst_trig (m : Master) (f : MasterRec → MasterRec) (j : Nat) : (s.upMst m f).trig j = s.trig j := (rfl)
@[simp] theorem State.upMst_strm (m : Master) (f : MasterRec → MasterRec) (j : Nat) : (s.upMst m f).strm j = s.strm j := (rfl)
@[simp] theorem State.upMst_stall (m : Master) (f : MasterRec → MasterRec) (j : Nat) : (s.upMst m f).stall j = s.stall j := (rfl)
@[simp] theorem State.upMst_job (m : Master) (f : MasterRec → MasterRec) (j : Nat) : (s.upMst m f).job j = s.job j := (rfl)
@[simp] theorem State.upMst_engine (m : Master) (f : MasterRec → MasterRec) (j : Nat) : (s.upMst m f).engine j = s.engine j := (rfl)
@[simp] theorem State.upMst_laceOf (m : Master) (f : MasterRec → MasterRec) (j : Nat) : (s.upMst m f).laceOf j = s.laceOf j := (rfl)
@[simp] theorem State.upMst_que (m : Master) (f : MasterRec → MasterRec) (j : Nat) : (s.upMst m f).que j = s.que j := (rfl)
@[simp] theorem State.upMst_ring (m : Master) (f : MasterRec → MasterRec) (j : Nat) : (s.upMst m f).ring j = s.ring j := (rfl)
@[simp] theorem State.upMst_bank (m : Master) (f : MasterRec → MasterRec) (j : Nat) : (s.upMst m f).bank j = s.bank j := (rfl)
@[simp] theorem State.upMst_memUnit (m : Master) (f : MasterRec → MasterRec) (j : Nat) : (s.upMst m f).memUnit j = s.memUnit j := (rfl)
@[simp] theorem State.upMst_window (m : Master) (f : MasterRec → MasterRec) (j : Nat) : (s.upMst m f).window j = s.window j := (rfl)
@[simp] theorem State.upMst_lane (m : Master) (f : MasterRec → MasterRec) (j : Nat) : (s.upMst m f).lane j = s.lane j := (rfl)
@[simp] theorem State.upLnk_rim (f : Lnk → Lnk) : (s.upLnk f).lnk.rim = (f s.lnk).rim := (rfl)
@[simp] theorem State.upRim_rim (f : Rim → Rim) : (s.upRim f).lnk.rim = f s.lnk.rim := (rfl)
@[simp] theorem State.upLane_rim (i : Nat) (f : Lane → Lane) : (s.upLane i f).lnk.rim = s.lnk.rim := (rfl)
@[simp] theorem State.upPort_self (p : Port) (f : RimPort → RimPort) : (s.upPort p f).rimPort p = f (s.rimPort p) := by cases p <;> rfl
@[simp] theorem State.upPtp_self (p : Port) (f : PtpPort → PtpPort) : (s.upPtp p f).ptpPort p = f (s.ptpPort p) := by cases p <;> rfl
@[simp] theorem State.upMst_self (m : Master) (f : MasterRec → MasterRec) : (s.upMst m f).mst m = f (s.mst m) := by cases m <;> rfl
theorem State.upMst_ne {m k : Master} (f : MasterRec → MasterRec) (h : k ≠ m) : (s.upMst m f).mst k = s.mst k := by
  cases m <;> cases k <;> first | rfl | exact absurd rfl h
@[simp] theorem State.upMst_queue (m : Master) (f : MasterRec → MasterRec) : (s.upMst m f).cmd.queue = s.cmd.queue := by cases m <;> rfl
@[simp] theorem State.upMst_long (m : Master) (f : MasterRec → MasterRec) : (s.upMst m f).cmd.long = s.cmd.long := by cases m <;> rfl

end Sys2Proof.Machine
end

