-- ==== Sys2Proof/Laws/Items.lean ====
section
/-! SUPPORT. The laws of the terms that statements use: frames from masks, items in the journal, how a command answers. -/

namespace Sys2Proof.Machine

open Sys2Proof.Safety

/-! ### Frames -/

/-- The bit of a part in the masks of `blank`. -/
def partBit : Part → Nat
  | .ub => 0
  | .freeCount => 1
  | .out => 2
  | .mode => 3
  | .intStatus => 4
  | .glb => 5
  | .counter => 6
  | .tmb => 7
  | .committed => 8
  | .cfg => 9
  | .spokes => 10
  | .looks => 11
  | .mods => 12
  | .switches => 13
  | .units => 14
  | .streams => 15
  | .stalls => 16
  | .jobs => 17
  | .path => 18
  | .lace => 19
  | .crier => 20
  | .queue => 21
  | .credit => 22
  | .cmd => 23
  | .host => 24
  | .pad => 25
  | .store => 26
  | .mem => 27
  | .cal => 28
  | .hlt => 29
  | .lanes => 30
  | .rim => 31
  | .tdm => 32
  | .ldr => 33
  | .snap => 34

theorem part_same_of_blank {M : Nat} {s t : State} (h : blank M t = blank M s) (p : Part) (hp : M.testBit (partBit p) = false) : p.same s t := by
  cases p
  · have hb : M.testBit 0 = false := hp
    have e := congrArg (fun x : State => x.ub) h
    simp only [blank, masked, hb, cond_false] at e
    exact e
  · have hb : M.testBit 1 = false := hp
    have e := congrArg (fun x : State => x.freeCount) h
    simp only [blank, masked, hb, cond_false] at e
    exact e
  · have hb : M.testBit 2 = false := hp
    have e := congrArg (fun x : State => x.out) h
    simp only [blank, masked, hb, cond_false] at e
    exact e
  · have hb : M.testBit 3 = false := hp
    have e := congrArg (fun x : State => (x.glb.state, x.glb.prev)) h
    simp only [blank, blankGlb, masked, hb, cond_false, Prod.mk.injEq] at e
    exact e
  · have hb : M.testBit 4 = false := hp
    have e := congrArg (fun x : State => (x.glb.intStatus, x.glb.fresh, x.glb.vecTick, x.glb.msixPending)) h
    simp only [blank, blankGlb, masked, hb, cond_false, Prod.mk.injEq] at e
    obtain ⟨e1, e2, e3, e4⟩ := e
    exact ⟨e1, e2, e3, e4⟩
  · have hb : M.testBit 5 = false := hp
    have e := congrArg State.glb h
    simp only [blank, blankGlb, masked, hb, cond_false, Glb.mk.injEq] at e
    show _ = _
    generalize s.glb = x at *
    generalize t.glb = y at *
    cases x; cases y
    simp_all only
  · have hb : M.testBit 6 = false := hp
    have e := congrArg (fun x : State => x.tmb.counter) h
    simp only [blank, blankTmb, masked, hb, cond_false] at e
    exact e
  · have hb : M.testBit 7 = false := hp
    have e := congrArg State.tmb h
    simp only [blank, blankTmb, masked, hb, cond_false, Tmb.mk.injEq] at e
    show _ = _
    generalize s.tmb = x at *
    generalize t.tmb = y at *
    cases x; cases y
    simp_all only
  · have hb : M.testBit 8 = false := hp
    have e := congrArg (fun x : State => x.cfg.committed) h
    simp only [blank, blankCfg, masked, hb, cond_false] at e
    exact e
  · have hb : M.testBit 9 = false := hp
    have e := congrArg State.cfg h
    simp only [blank, blankCfg, masked, hb, cond_false, Cfg.mk.injEq] at e
    show _ = _
    generalize s.cfg = x at *
    generalize t.cfg = y at *
    cases x; cases y
    simp_all only
  · have hb : M.testBit 10 = false := hp
    have e := congrArg (fun x : State => x.path.spokes) h
    simp only [blank, blankPath, masked, hb, cond_false] at e
    exact e
  · have hb : M.testBit 11 = false := hp
    have e := congrArg (fun x : State => x.path.looks) h
    simp only [blank, blankPath, masked, hb, cond_false] at e
    exact e
  · have hb : M.testBit 12 = false := hp
    have e := congrArg (fun x : State => x.path.mods) h
    simp only [blank, blankPath, masked, hb, cond_false] at e
    exact e
  · have hb : M.testBit 13 = false := hp
    have e := congrArg (fun x : State => x.path.switches) h
    simp only [blank, blankPath, masked, hb, cond_false] at e
    exact e
  · have hb : M.testBit 14 = false := hp
    have e := congrArg (fun x : State => x.path.units) h
    simp only [blank, blankPath, masked, hb, cond_false] at e
    exact e
  · have hb : M.testBit 15 = false := hp
    have e := congrArg (fun x : State => x.path.streams) h
    simp only [blank, blankPath, masked, hb, cond_false] at e
    exact e
  · have hb : M.testBit 16 = false := hp
    have e := congrArg (fun x : State => x.path.stalls) h
    simp only [blank, blankPath, masked, hb, cond_false] at e
    exact e
  · have hb : M.testBit 17 = false := hp
    have e := congrArg (fun x : State => x.path.jobs) h
    simp only [blank, blankPath, masked, hb, cond_false] at e
    exact e
  · have hb : M.testBit 18 = false := hp
    have e := congrArg State.path h
    simp only [blank, blankPath, masked, hb, cond_false, Path.mk.injEq] at e
    show _ = _
    generalize s.path = x at *
    generalize t.path = y at *
    cases x; cases y
    simp_all only
  · have hb : M.testBit 19 = false := hp
    have e := congrArg (fun x : State => x.lace) h
    simp only [blank, masked, hb, cond_false] at e
    exact e
  · have hb : M.testBit 20 = false := hp
    have e := congrArg (fun x : State => x.crier) h
    simp only [blank, masked, hb, cond_false] at e
    exact e
  · have hb : M.testBit 21 = false := hp
    have e := congrArg (fun x : State => (x.cmd.queue, x.cmd.long)) h
    simp only [blank, blankCmd, masked, hb, cond_false, Prod.mk.injEq] at e
    exact e
  · have hb : M.testBit 22 = false := hp
    intro m
    have e := congrArg (fun x : State => (x.mst m).credit) h
    cases m <;> simpa only [blank, blankCmd, blankMst, State.mst, masked, hb, cond_false] using e
  · have hb : M.testBit 23 = false := hp
    intro m
    have e := congrArg (fun x : State => x.mst m) h
    have e' : blankMst M (t.mst m) = blankMst M (s.mst m) := by cases m <;> exact e
    clear e
    generalize s.mst m = x at *
    generalize t.mst m = y at *
    simp only [blankMst, masked, hb, cond_false, MasterRec.mk.injEq] at e'
    cases x; cases y
    simp_all only
  · have hb : M.testBit 24 = false := hp
    have e := congrArg (fun x : State => x.host) h
    simp only [blank, masked, hb, cond_false] at e
    exact e
  · have hb : M.testBit 25 = false := hp
    have e := congrArg (fun x : State => x.mem.pad) h
    simp only [blank, blankMem, masked, hb, cond_false] at e
    exact e
  · have hb : M.testBit 26 = false := hp
    have e := congrArg (fun x : State => x.mem.store) h
    simp only [blank, blankMem, masked, hb, cond_false] at e
    exact e
  · have hb : M.testBit 27 = false := hp
    have e := congrArg State.mem h
    simp only [blank, blankMem, masked, hb, cond_false, Mem.mk.injEq] at e
    show _ = _
    generalize s.mem = x at *
    generalize t.mem = y at *
    cases x; cases y
    simp_all only
  · have hb : M.testBit 28 = false := hp
    have e := congrArg (fun x : State => x.cal) h
    simp only [blank, masked, hb, cond_false] at e
    exact e
  · have hb : M.testBit 29 = false := hp
    have e := congrArg (fun x : State => x.hlt) h
    simp only [blank, masked, hb, cond_false] at e
    exact e
  · have hb : M.testBit 30 = false := hp
    have e := congrArg (fun x : State => x.lnk.lanes) h
    simp only [blank, blankLnk, masked, hb, cond_false] at e
    exact e
  · have hb : M.testBit 31 = false := hp
    have e := congrArg (fun x : State => x.lnk.rim) h
    simp only [blank, blankLnk, masked, hb, cond_false] at e
    exact e
  · have hb : M.testBit 32 = false := hp
    have e := congrArg (fun x : State => x.tdm) h
    simp only [blank, masked, hb, cond_false] at e
    exact e
  · have hb : M.testBit 33 = false := hp
    have e := congrArg (fun x : State => x.ldr) h
    simp only [blank, masked, hb, cond_false] at e
    exact e
  · have hb : M.testBit 34 = false := hp
    have e := congrArg (fun x : State => x.snap) h
    simp only [blank, masked, hb, cond_false] at e
    exact e

theorem pending_of_blank {M : Nat} {s t : State} (h : blank M t = blank M s) : t.pending = s.pending := by
  have e := congrArg State.pending h
  exact e

/-- A frame from a mask: the parts whose bit the mask has are among those listed. -/
theorem unchangedBut_of_blank {M : Nat} {ps : List Part} {s t : State} (h : blank M t = blank M s)
    (hp : ∀ p, p ∈ ps ∨ M.testBit (partBit p) = false) : UnchangedBut ps s t :=
  ⟨pending_of_blank h, fun p hn => part_same_of_blank h p ((hp p).resolve_left hn)⟩

theorem keeps_of_blank {M : Nat} {ps : List Part} {s t : State} (h : blank M t = blank M s) (hp : ∀ p ∈ ps, M.testBit (partBit p) = false) :
    Keeps ps s t :=
  ⟨pending_of_blank h, fun p hn => part_same_of_blank h p (hp p hn)⟩

/-! ### A whole block that a mask leaves alone: `hk` says that no bit of the block is in the mask. `X_frame (Nat.and_self _)` gives the mask of `X`. -/

theorem testBit_of_and {M k : Nat} (hk : M &&& k = 0) (i : Nat) (hi : k.testBit i = true) : M.testBit i = false := by
  have := congrArg (fun x => x.testBit i) hk
  simpa only [Nat.testBit_and, hi, Bool.and_true, Nat.zero_testBit] using this

theorem glb_of_blank {M : Nat} {s t : State} (h : blank M t = blank M s) (hk : M &&& 56 = 0) : t.glb = s.glb := by
  have h_mode := part_same_of_blank h .mode (testBit_of_and hk 3 (by decide))
  have h_intStatus := part_same_of_blank h .intStatus (testBit_of_and hk 4 (by decide))
  have h_glb := part_same_of_blank h .glb (testBit_of_and hk 5 (by decide))
  unfold Part.same at h_mode h_intStatus h_glb
  obtain ⟨h_state, h_prev⟩ := h_mode
  generalize t.glb = y at *
  generalize s.glb = x at *
  cases x; cases y
  simp_all only [Glb.mk.injEq]
theorem tmb_of_blank {M : Nat} {s t : State} (h : blank M t = blank M s) (hk : M &&& 192 = 0) : t.tmb = s.tmb := by
  have h_counter := part_same_of_blank h .counter (testBit_of_and hk 6 (by decide))
  have h_tmb := part_same_of_blank h .tmb (testBit_of_and hk 7 (by decide))
  unfold Part.same at h_counter h_tmb
  generalize t.tmb = y at *
  generalize s.tmb = x at *
  cases x; cases y
  simp_all only [Tmb.mk.injEq]
theorem cfg_of_blank {M : Nat} {s t : State} (h : blank M t = blank M s) (hk : M &&& 768 = 0) : t.cfg = s.cfg := by
  have h_committed := part_same_of_blank h .committed (testBit_of_and hk 8 (by decide))
  have h_cfg := part_same_of_blank h .cfg (testBit_of_and hk 9 (by decide))
  unfold Part.same at h_committed h_cfg
  generalize t.cfg = y at *
  generalize s.cfg = x at *
  cases x; cases y
  simp_all only [Cfg.mk.injEq]
theorem path_of_blank {M : Nat} {s t : State} (h : blank M t = blank M s) (hk : M &&& 523264 = 0) : t.path = s.path := by
  have h_spokes := part_same_of_blank h .spokes (testBit_of_and hk 10 (by decide))
  have h_looks := part_same_of_blank h .looks (testBit_of_and hk 11 (by decide))
  have h_mods := part_same_of_blank h .mods (testBit_of_and hk 12 (by decide))
  have h_switches := part_same_of_blank h .switches (testBit_of_and hk 13 (by decide))
  have h_units := part_same_of_blank h .units (testBit_of_and hk 14 (by decide))
  have h_streams := part_same_of_blank h .streams (testBit_of_and hk 15 (by decide))
  have h_stalls := part_same_of_blank h .stalls (testBit_of_and hk 16 (by decide))
  have h_jobs := part_same_of_blank h .jobs (testBit_of_and hk 17 (by decide))
  have h_path := part_same_of_blank h .path (testBit_of_and hk 18 (by decide))
  unfold Part.same at h_spokes h_looks h_mods h_switches h_units h_streams h_stalls h_jobs h_path
  generalize t.path = y at *
  generalize s.path = x at *
  cases x; cases y
  simp_all only [Path.mk.injEq]
theorem cmd_of_blank {M : Nat} {s t : State} (h : blank M t = blank M s) (hk : M &&& 14680064 = 0) : t.cmd = s.cmd := by
  have h_queue := part_same_of_blank h .queue (testBit_of_and hk 21 (by decide))
  have h_credit := part_same_of_blank h .credit (testBit_of_and hk 22 (by decide))
  have h_cmd := part_same_of_blank h .cmd (testBit_of_and hk 23 (by decide))
  have h1 : ∀ m, t.mst m = s.mst m := fun m => by
    have a := h_cmd m
    have c := h_credit m
    rw [← c] at a
    exact a
  have hs := h1 .spi
  have hp := h1 .pcie
  have hr := h1 .rim
  have ht := h1 .tandem
  unfold State.mst at hs hp hr ht
  obtain ⟨hq, hl⟩ := h_queue
  generalize t.cmd = y at *
  generalize s.cmd = x at *
  cases x; cases y
  simp_all only
theorem mem_of_blank {M : Nat} {s t : State} (h : blank M t = blank M s) (hk : M &&& 234881024 = 0) : t.mem = s.mem := by
  have h_pad := part_same_of_blank h .pad (testBit_of_and hk 25 (by decide))
  have h_store := part_same_of_blank h .store (testBit_of_and hk 26 (by decide))
  have h_mem := part_same_of_blank h .mem (testBit_of_and hk 27 (by decide))
  unfold Part.same at h_pad h_store h_mem
  generalize t.mem = y at *
  generalize s.mem = x at *
  cases x; cases y
  simp_all only [Mem.mk.injEq]
theorem lnk_of_blank {M : Nat} {s t : State} (h : blank M t = blank M s) (hk : M &&& 3221225472 = 0) : t.lnk = s.lnk := by
  have h_lanes := part_same_of_blank h .lanes (testBit_of_and hk 30 (by decide))
  have h_rim := part_same_of_blank h .rim (testBit_of_and hk 31 (by decide))
  have a : t.lnk.lanes = s.lnk.lanes := h_lanes
  have c : t.lnk.rim = s.lnk.rim := h_rim
  generalize t.lnk = y at *
  generalize s.lnk = x at *
  cases x; cases y
  simp_all only
theorem lace_of_blank {M : Nat} {s t : State} (h : blank M t = blank M s) (hk : M &&& 524288 = 0) : t.lace = s.lace := by
  have h_lace := part_same_of_blank h .lace (testBit_of_and hk 19 (by decide))
  exact h_lace
theorem crier_of_blank {M : Nat} {s t : State} (h : blank M t = blank M s) (hk : M &&& 1048576 = 0) : t.crier = s.crier := by
  have h_crier := part_same_of_blank h .crier (testBit_of_and hk 20 (by decide))
  exact h_crier
theorem host_of_blank {M : Nat} {s t : State} (h : blank M t = blank M s) (hk : M &&& 16777216 = 0) : t.host = s.host := by
  have h_host := part_same_of_blank h .host (testBit_of_and hk 24 (by decide))
  exact h_host
theorem cal_of_blank {M : Nat} {s t : State} (h : blank M t = blank M s) (hk : M &&& 268435456 = 0) : t.cal = s.cal := by
  have h_cal := part_same_of_blank h .cal (testBit_of_and hk 28 (by decide))
  exact h_cal
theorem hlt_of_blank {M : Nat} {s t : State} (h : blank M t = blank M s) (hk : M &&& 536870912 = 0) : t.hlt = s.hlt := by
  have h_hlt := part_same_of_blank h .hlt (testBit_of_and hk 29 (by decide))
  exact h_hlt
theorem tdm_of_blank {M : Nat} {s t : State} (h : blank M t = blank M s) (hk : M &&& 4294967296 = 0) : t.tdm = s.tdm := by
  have h_tdm := part_same_of_blank h .tdm (testBit_of_and hk 32 (by decide))
  exact h_tdm
theorem ldr_of_blank {M : Nat} {s t : State} (h : blank M t = blank M s) (hk : M &&& 8589934592 = 0) : t.ldr = s.ldr := by
  have h_ldr := part_same_of_blank h .ldr (testBit_of_and hk 33 (by decide))
  exact h_ldr
theorem snap_of_blank {M : Nat} {s t : State} (h : blank M t = blank M s) (hk : M &&& 17179869184 = 0) : t.snap = s.snap := by
  have h_snap := part_same_of_blank h .snap (testBit_of_and hk 34 (by decide))
  exact h_snap
theorem out_of_blank {M : Nat} {s t : State} (h : blank M t = blank M s) (hk : M &&& 4 = 0) : t.out = s.out := by
  have h_out := part_same_of_blank h .out (testBit_of_and hk 2 (by decide))
  exact h_out
theorem ub_of_blank {M : Nat} {s t : State} (h : blank M t = blank M s) (hk : M &&& 1 = 0) : t.ub = s.ub := by
  have h_ub := part_same_of_blank h .ub (testBit_of_and hk 0 (by decide))
  exact h_ub
theorem freeCount_of_blank {M : Nat} {s t : State} (h : blank M t = blank M s) (hk : M &&& 2 = 0) : t.freeCount = s.freeCount := by
  have h_freeCount := part_same_of_blank h .freeCount (testBit_of_and hk 1 (by decide))
  exact h_freeCount

/-! ### How a command answers -/

theorem havoc_of_none {s : State} (h : s.ub = none) : s.havoc = s := by unfold State.havoc; rw [h]
theorem act_next {s t : State} {f : State → State} (h : f s = t) (hu : t.ub = none) : act s f = .next t := by
  unfold act; rw [h, havoc_of_none hu]
theorem actIf_next {s t : State} {f : State → State} {b : Bool} (hb : b = true) (h : f s = t) (hu : t.ub = none) : actIf b s f = .next t := by
  unfold actIf; rw [if_pos hb]; exact act_next h hu

/-- A command that opens no span answers its effect. -/
theorem act_of_blank {M : Nat} {s : State} {f : State → State} (h : blank M (f s) = blank M s) (hp : M &&& 1 = 0) (hu : s.ub = none) :
    act s f = .next (f s) := act_next rfl ((ub_of_blank h hp).trans hu)

/-- What an open span leaves alone: everything but the parts that it makes free. -/
theorem havoc_frame {M : Nat} {s : State} (hM : 10835984162 &&& M = 10835984162) : blank M s.havoc = blank M s := by
  unfold State.havoc
  split
  · rfl
  · refine blank_mono hM ?_
    rfl

/-! ### Items -/

theorem journalSlot_ne {q q' n n' : Nat} (h : q' ≠ q ∨ n' % 65536 ≠ n % 65536) :
    journalSlot q' n' ≠ journalSlot q n ∧ journalSlot q' n' ≠ journalSlot q n + 1 ∧ journalSlot q' n' + 1 ≠ journalSlot q n ∧
      journalSlot q' n' + 1 ≠ journalSlot q n + 1 := by
  unfold journalSlot
  omega

theorem setWidth_low (a b : Word) : (BitVec.ofNat 64 (a.toNat + b.toNat * 2 ^ 32)).setWidth 32 = a := by
  apply BitVec.eq_of_toNat_eq
  simp only [BitVec.toNat_setWidth, BitVec.toNat_ofNat]
  have := a.isLt
  have := b.isLt
  omega

theorem setWidth_high (a b : Word) : (BitVec.ofNat 64 (a.toNat + b.toNat * 2 ^ 32) >>> 32).setWidth 32 = b := by
  apply BitVec.eq_of_toNat_eq
  simp only [BitVec.toNat_setWidth, BitVec.toNat_ushiftRight, BitVec.toNat_ofNat, Nat.shiftRight_eq_div_pow]
  have := a.isLt
  have := b.isLt
  omega

/-- A codeword written again keeps every codeword's data. -/
theorem Mem.refresh_data (m : Mem) (cw k : Nat) : ((m.refresh cw).store.get {} k).data = (m.store.get {} k).data := by
  unfold Mem.refresh
  dsimp only
  split
  · rfl
  · show (((m.store.set {} cw { m.store.get {} cw with flips := 0 } : SMap StoreWord)).get {} k).data = _
    rw [SMap.get_set]
    split
    · subst k; rfl
    · rfl

theorem put_two_data (m : Mem) (a b k : Nat) (x y : DWord) :
    (((m.putStore a x).putStore b y).store.get {} k).data =
      if k = b then y else if k = a then x else (m.store.get {} k).data := by
  show ((((m.store.set {} a { data := x }).set {} b { data := y } : SMap StoreWord)).get {} k).data = _
  rw [SMap.get_set, SMap.get_set]
  split
  · rfl
  · split <;> rfl

theorem writeJournal_data (s : State) (q n k : Nat) (i : Item) :
    ((s.writeJournal q n i).mem.store.get {} k).data =
      if k = journalSlot q n + 1 then BitVec.ofNat 64 (i.w2.toNat + i.w3.toNat * 2 ^ 32)
      else if k = journalSlot q n then BitVec.ofNat 64 (i.w0.toNat + i.w1.toNat * 2 ^ 32) else (s.mem.store.get {} k).data := by
  unfold State.writeJournal
  exact (put_two_data _ _ _ _ _ _).trans (by rw [Mem.refresh_data, Mem.refresh_data])

/-- The item just written is the one that the journal holds. -/
theorem itemAt_writeJournal_self (s : State) (q n : Nat) (i : Item) : itemAt (s.writeJournal q n i) q n = i := by
  unfold itemAt
  simp only [writeJournal_data]
  rw [if_neg (by omega), if_true, if_true]
  simp only [setWidth_low, setWidth_high]

/-- Another slot keeps its item. -/
theorem itemAt_writeJournal_ne (s : State) {q n q' n' : Nat} (i : Item) (h : q' ≠ q ∨ n' % 65536 ≠ n % 65536) : itemAt (s.writeJournal q n i) q' n' = itemAt s q' n' := by
  obtain ⟨k00, k01, k10, k11⟩ := journalSlot_ne h
  unfold itemAt
  simp only [writeJournal_data]
  rw [if_neg k01, if_neg k00, if_neg k11, if_neg k10]

theorem Queue.posting_posted (c : Queue) (n : Nat) (i : Item) (p : Nat) (d : Drain) (r k : Nat) : (c.posting n i p d r k).posted = n + 1 := by
  unfold Queue.posting
  dsimp only
  split
  · rfl
  · rw [apply_ite Queue.posted, ite_self]

theorem State.post_posted_self (s : State) (q : Nat) (a : Bool) (l : Nat) (x y z : Word) :
    ((s.post q a l x y z).que q).posted = (s.que q).posted + 1 := by
  unfold State.post
  simp only [State.upQue_que_self, Queue.posting_posted]

theorem State.post_que_ne (s : State) {q q' : Nat} (a : Bool) (l : Nat) (x y z : Word) (h : q' ≠ q) : (s.post q a l x y z).que q' = s.que q' := by
  unfold State.post
  rw [State.upQue_que_ne _ h]
  unfold State.writeJournal
  rw [State.upMem_que]

theorem itemAt_congr {s t : State} (q n : Nat) (h : t.mem.store = s.mem.store) : itemAt t q n = itemAt s q n := by
  unfold itemAt; rw [h]

theorem itemAt_upQue (s : State) (k : Nat) (f : Queue → Queue) (q n : Nat) : itemAt (s.upQue k f) q n = itemAt s q n := by
  unfold itemAt; rw [State.upQue_mem]

theorem itemAt_post_self (s : State) (q : Nat) (a : Bool) (l : Nat) (x y z : Word) :
    itemAt (s.post q a l x y z) q (s.que q).posted =
      { w0 := wordOf (((s.que q).posted % 65536) * 65536 + l), w1 := x, w2 := y, w3 := z } := by
  unfold State.post
  rw [itemAt_upQue, itemAt_writeJournal_self]

theorem itemAt_post_ne (s : State) {q q' n : Nat} (a : Bool) (l : Nat) (x y z : Word) (h : q' ≠ q ∨ n % 65536 ≠ (s.que q).posted % 65536) : itemAt (s.post q a l x y z) q' n = itemAt s q' n := by
  unfold State.post
  rw [itemAt_upQue, itemAt_writeJournal_ne _ _ h]

end Sys2Proof.Machine
end

