-- ==== Sys2Proof/Laws/Ops.lean ====
section
/-! SUPPORT. What the operations shared by all families leave as it was: posting, notices, interrupt bits, mode changes, completions. -/

namespace Sys2Proof.Machine

open Sys2Proof.Safety

variable {s : State}

/-! ### `writeJournal` -/

@[simp] theorem Mem.putStore_pad (m : Mem) (a : Nat) (d : DWord) : (m.putStore a d).pad = m.pad := (rfl)
@[simp] theorem Mem.putStore_banks (m : Mem) (a : Nat) (d : DWord) : (m.putStore a d).banks = m.banks := (rfl)

@[simp] theorem Mem.refresh_pad (m : Mem) (a : Nat) : (m.refresh a).pad = m.pad := by unfold Mem.refresh; dsimp only; split <;> rfl
@[simp] theorem Mem.refresh_banks (m : Mem) (a : Nat) : (m.refresh a).banks = m.banks := by unfold Mem.refresh; dsimp only; split <;> rfl

@[simp] theorem State.writeJournal_pending (q n : Nat) (i : Item) : (s.writeJournal q n i).pending = s.pending := by unfold State.writeJournal; rw [State.upMem_pending]
@[simp] theorem State.writeJournal_ub (q n : Nat) (i : Item) : (s.writeJournal q n i).ub = s.ub := by unfold State.writeJournal; rw [State.upMem_ub]
@[simp] theorem State.writeJournal_freeCount (q n : Nat) (i : Item) : (s.writeJournal q n i).freeCount = s.freeCount := by unfold State.writeJournal; rw [State.upMem_freeCount]
@[simp] theorem State.writeJournal_out (q n : Nat) (i : Item) : (s.writeJournal q n i).out = s.out := by unfold State.writeJournal; rw [State.upMem_out]
@[simp] theorem State.writeJournal_glb (q n : Nat) (i : Item) : (s.writeJournal q n i).glb = s.glb := by unfold State.writeJournal; rw [State.upMem_glb]
@[simp] theorem State.writeJournal_tmb (q n : Nat) (i : Item) : (s.writeJournal q n i).tmb = s.tmb := by unfold State.writeJournal; rw [State.upMem_tmb]
@[simp] theorem State.writeJournal_cfg (q n : Nat) (i : Item) : (s.writeJournal q n i).cfg = s.cfg := by unfold State.writeJournal; rw [State.upMem_cfg]
@[simp] theorem State.writeJournal_path (q n : Nat) (i : Item) : (s.writeJournal q n i).path = s.path := by unfold State.writeJournal; rw [State.upMem_path]
@[simp] theorem State.writeJournal_lace (q n : Nat) (i : Item) : (s.writeJournal q n i).lace = s.lace := by unfold State.writeJournal; rw [State.upMem_lace]
@[simp] theorem State.writeJournal_crier (q n : Nat) (i : Item) : (s.writeJournal q n i).crier = s.crier := by unfold State.writeJournal; rw [State.upMem_crier]
@[simp] theorem State.writeJournal_cmd (q n : Nat) (i : Item) : (s.writeJournal q n i).cmd = s.cmd := by unfold State.writeJournal; rw [State.upMem_cmd]
@[simp] theorem State.writeJournal_host (q n : Nat) (i : Item) : (s.writeJournal q n i).host = s.host := by unfold State.writeJournal; rw [State.upMem_host]
@[simp] theorem State.writeJournal_cal (q n : Nat) (i : Item) : (s.writeJournal q n i).cal = s.cal := by unfold State.writeJournal; rw [State.upMem_cal]
@[simp] theorem State.writeJournal_hlt (q n : Nat) (i : Item) : (s.writeJournal q n i).hlt = s.hlt := by unfold State.writeJournal; rw [State.upMem_hlt]
@[simp] theorem State.writeJournal_lnk (q n : Nat) (i : Item) : (s.writeJournal q n i).lnk = s.lnk := by unfold State.writeJournal; rw [State.upMem_lnk]
@[simp] theorem State.writeJournal_tdm (q n : Nat) (i : Item) : (s.writeJournal q n i).tdm = s.tdm := by unfold State.writeJournal; rw [State.upMem_tdm]
@[simp] theorem State.writeJournal_ldr (q n : Nat) (i : Item) : (s.writeJournal q n i).ldr = s.ldr := by unfold State.writeJournal; rw [State.upMem_ldr]
@[simp] theorem State.writeJournal_snap (q n : Nat) (i : Item) : (s.writeJournal q n i).snap = s.snap := by unfold State.writeJournal; rw [State.upMem_snap]
@[simp] theorem State.writeJournal_spoke (q n : Nat) (i : Item) (j : Nat) : (s.writeJournal q n i).spoke j = s.spoke j := by unfold State.writeJournal; rw [State.upMem_spoke]
@[simp] theorem State.writeJournal_look (q n : Nat) (i : Item) (j : Nat) : (s.writeJournal q n i).look j = s.look j := by unfold State.writeJournal; rw [State.upMem_look]
@[simp] theorem State.writeJournal_modu (q n : Nat) (i : Item) (j : Nat) : (s.writeJournal q n i).modu j = s.modu j := by unfold State.writeJournal; rw [State.upMem_modu]
@[simp] theorem State.writeJournal_sw (q n : Nat) (i : Item) (j : Nat) : (s.writeJournal q n i).sw j = s.sw j := by unfold State.writeJournal; rw [State.upMem_sw]
@[simp] theorem State.writeJournal_trig (q n : Nat) (i : Item) (j : Nat) : (s.writeJournal q n i).trig j = s.trig j := by unfold State.writeJournal; rw [State.upMem_trig]
@[simp] theorem State.writeJournal_strm (q n : Nat) (i : Item) (j : Nat) : (s.writeJournal q n i).strm j = s.strm j := by unfold State.writeJournal; rw [State.upMem_strm]
@[simp] theorem State.writeJournal_stall (q n : Nat) (i : Item) (j : Nat) : (s.writeJournal q n i).stall j = s.stall j := by unfold State.writeJournal; rw [State.upMem_stall]
@[simp] theorem State.writeJournal_job (q n : Nat) (i : Item) (j : Nat) : (s.writeJournal q n i).job j = s.job j := by unfold State.writeJournal; rw [State.upMem_job]
@[simp] theorem State.writeJournal_engine (q n : Nat) (i : Item) (j : Nat) : (s.writeJournal q n i).engine j = s.engine j := by unfold State.writeJournal; rw [State.upMem_engine]
@[simp] theorem State.writeJournal_laceOf (q n : Nat) (i : Item) (j : Nat) : (s.writeJournal q n i).laceOf j = s.laceOf j := by unfold State.writeJournal; rw [State.upMem_laceOf]
@[simp] theorem State.writeJournal_que (q n : Nat) (i : Item) (j : Nat) : (s.writeJournal q n i).que j = s.que j := by unfold State.writeJournal; rw [State.upMem_que]
@[simp] theorem State.writeJournal_ring (q n : Nat) (i : Item) (j : Nat) : (s.writeJournal q n i).ring j = s.ring j := by unfold State.writeJournal; rw [State.upMem_ring]
@[simp] theorem State.writeJournal_window (q n : Nat) (i : Item) (j : Nat) : (s.writeJournal q n i).window j = s.window j := by unfold State.writeJournal; rw [State.upMem_window]
@[simp] theorem State.writeJournal_lane (q n : Nat) (i : Item) (j : Nat) : (s.writeJournal q n i).lane j = s.lane j := by unfold State.writeJournal; rw [State.upMem_lane]
@[simp] theorem State.writeJournal_pad (q n : Nat) (i : Item) : (s.writeJournal q n i).mem.pad = s.mem.pad := by unfold State.writeJournal; simp only [State.upMem_mem, Mem.putStore_pad, Mem.refresh_pad]
@[simp] theorem State.writeJournal_banks (q n : Nat) (i : Item) : (s.writeJournal q n i).mem.banks = s.mem.banks := by unfold State.writeJournal; simp only [State.upMem_mem, Mem.putStore_banks, Mem.refresh_banks]

/-! ### `post` -/

@[simp] theorem State.post_pending (q : Nat) (a : Bool) (l : Nat) (x y z : Word) : (s.post q a l x y z).pending = s.pending := by unfold State.post; rw [State.upQue_pending, State.writeJournal_pending]
@[simp] theorem State.post_ub (q : Nat) (a : Bool) (l : Nat) (x y z : Word) : (s.post q a l x y z).ub = s.ub := by unfold State.post; rw [State.upQue_ub, State.writeJournal_ub]
@[simp] theorem State.post_freeCount (q : Nat) (a : Bool) (l : Nat) (x y z : Word) : (s.post q a l x y z).freeCount = s.freeCount := by unfold State.post; rw [State.upQue_freeCount, State.writeJournal_freeCount]
@[simp] theorem State.post_out (q : Nat) (a : Bool) (l : Nat) (x y z : Word) : (s.post q a l x y z).out = s.out := by unfold State.post; rw [State.upQue_out, State.writeJournal_out]
@[simp] theorem State.post_glb (q : Nat) (a : Bool) (l : Nat) (x y z : Word) : (s.post q a l x y z).glb = s.glb := by unfold State.post; rw [State.upQue_glb, State.writeJournal_glb]
@[simp] theorem State.post_tmb (q : Nat) (a : Bool) (l : Nat) (x y z : Word) : (s.post q a l x y z).tmb = s.tmb := by unfold State.post; rw [State.upQue_tmb, State.writeJournal_tmb]
@[simp] theorem State.post_cfg (q : Nat) (a : Bool) (l : Nat) (x y z : Word) : (s.post q a l x y z).cfg = s.cfg := by unfold State.post; rw [State.upQue_cfg, State.writeJournal_cfg]
@[simp] theorem State.post_path (q : Nat) (a : Bool) (l : Nat) (x y z : Word) : (s.post q a l x y z).path = s.path := by unfold State.post; rw [State.upQue_path, State.writeJournal_path]
@[simp] theorem State.post_lace (q : Nat) (a : Bool) (l : Nat) (x y z : Word) : (s.post q a l x y z).lace = s.lace := by unfold State.post; rw [State.upQue_lace, State.writeJournal_lace]
@[simp] theorem State.post_cmd (q : Nat) (a : Bool) (l : Nat) (x y z : Word) : (s.post q a l x y z).cmd = s.cmd := by unfold State.post; rw [State.upQue_cmd, State.writeJournal_cmd]
@[simp] theorem State.post_host (q : Nat) (a : Bool) (l : Nat) (x y z : Word) : (s.post q a l x y z).host = s.host := by unfold State.post; rw [State.upQue_host, State.writeJournal_host]
@[simp] theorem State.post_cal (q : Nat) (a : Bool) (l : Nat) (x y z : Word) : (s.post q a l x y z).cal = s.cal := by unfold State.post; rw [State.upQue_cal, State.writeJournal_cal]
@[simp] theorem State.post_hlt (q : Nat) (a : Bool) (l : Nat) (x y z : Word) : (s.post q a l x y z).hlt = s.hlt := by unfold State.post; rw [State.upQue_hlt, State.writeJournal_hlt]
@[simp] theorem State.post_lnk (q : Nat) (a : Bool) (l : Nat) (x y z : Word) : (s.post q a l x y z).lnk = s.lnk := by unfold State.post; rw [State.upQue_lnk, State.writeJournal_lnk]
@[simp] theorem State.post_tdm (q : Nat) (a : Bool) (l : Nat) (x y z : Word) : (s.post q a l x y z).tdm = s.tdm := by unfold State.post; rw [State.upQue_tdm, State.writeJournal_tdm]
@[simp] theorem State.post_ldr (q : Nat) (a : Bool) (l : Nat) (x y z : Word) : (s.post q a l x y z).ldr = s.ldr := by unfold State.post; rw [State.upQue_ldr, State.writeJournal_ldr]
@[simp] theorem State.post_snap (q : Nat) (a : Bool) (l : Nat) (x y z : Word) : (s.post q a l x y z).snap = s.snap := by unfold State.post; rw [State.upQue_snap, State.writeJournal_snap]
@[simp] theorem State.post_spoke (q : Nat) (a : Bool) (l : Nat) (x y z : Word) (j : Nat) : (s.post q a l x y z).spoke j = s.spoke j := by unfold State.post; rw [State.upQue_spoke, State.writeJournal_spoke]
@[simp] theorem State.post_look (q : Nat) (a : Bool) (l : Nat) (x y z : Word) (j : Nat) : (s.post q a l x y z).look j = s.look j := by unfold State.post; rw [State.upQue_look, State.writeJournal_look]
@[simp] theorem State.post_modu (q : Nat) (a : Bool) (l : Nat) (x y z : Word) (j : Nat) : (s.post q a l x y z).modu j = s.modu j := by unfold State.post; rw [State.upQue_modu, State.writeJournal_modu]
@[simp] theorem State.post_sw (q : Nat) (a : Bool) (l : Nat) (x y z : Word) (j : Nat) : (s.post q a l x y z).sw j = s.sw j := by unfold State.post; rw [State.upQue_sw, State.writeJournal_sw]
@[simp] theorem State.post_trig (q : Nat) (a : Bool) (l : Nat) (x y z : Word) (j : Nat) : (s.post q a l x y z).trig j = s.trig j := by unfold State.post; rw [State.upQue_trig, State.writeJournal_trig]
@[simp] theorem State.post_strm (q : Nat) (a : Bool) (l : Nat) (x y z : Word) (j : Nat) : (s.post q a l x y z).strm j = s.strm j := by unfold State.post; rw [State.upQue_strm, State.writeJournal_strm]
@[simp] theorem State.post_stall (q : Nat) (a : Bool) (l : Nat) (x y z : Word) (j : Nat) : (s.post q a l x y z).stall j = s.stall j := by unfold State.post; rw [State.upQue_stall, State.writeJournal_stall]
@[simp] theorem State.post_job (q : Nat) (a : Bool) (l : Nat) (x y z : Word) (j : Nat) : (s.post q a l x y z).job j = s.job j := by unfold State.post; rw [State.upQue_job, State.writeJournal_job]
@[simp] theorem State.post_engine (q : Nat) (a : Bool) (l : Nat) (x y z : Word) (j : Nat) : (s.post q a l x y z).engine j = s.engine j := by unfold State.post; rw [State.upQue_engine, State.writeJournal_engine]
@[simp] theorem State.post_laceOf (q : Nat) (a : Bool) (l : Nat) (x y z : Word) (j : Nat) : (s.post q a l x y z).laceOf j = s.laceOf j := by unfold State.post; rw [State.upQue_laceOf, State.writeJournal_laceOf]
@[simp] theorem State.post_ring (q : Nat) (a : Bool) (l : Nat) (x y z : Word) (j : Nat) : (s.post q a l x y z).ring j = s.ring j := by unfold State.post; rw [State.upQue_ring, State.writeJournal_ring]
@[simp] theorem State.post_window (q : Nat) (a : Bool) (l : Nat) (x y z : Word) (j : Nat) : (s.post q a l x y z).window j = s.window j := by unfold State.post; rw [State.upQue_window, State.writeJournal_window]
@[simp] theorem State.post_lane (q : Nat) (a : Bool) (l : Nat) (x y z : Word) (j : Nat) : (s.post q a l x y z).lane j = s.lane j := by unfold State.post; rw [State.upQue_lane, State.writeJournal_lane]
@[simp] theorem State.post_pad (q : Nat) (a : Bool) (l : Nat) (x y z : Word) : (s.post q a l x y z).mem.pad = s.mem.pad := by unfold State.post; rw [State.upQue_mem, State.writeJournal_pad]
@[simp] theorem State.post_banks (q : Nat) (a : Bool) (l : Nat) (x y z : Word) : (s.post q a l x y z).mem.banks = s.mem.banks := by unfold State.post; rw [State.upQue_mem, State.writeJournal_banks]

/-! ### `notify` -/

@[simp] theorem State.notify_pending (q code id d a k : Nat) : (s.notify q code id d a k).pending = s.pending := by unfold State.notify; dsimp only; split <;> simp only [State.upCrier_pending, State.post_pending]
@[simp] theorem State.notify_ub (q code id d a k : Nat) : (s.notify q code id d a k).ub = s.ub := by unfold State.notify; dsimp only; split <;> simp only [State.upCrier_ub, State.post_ub]
@[simp] theorem State.notify_freeCount (q code id d a k : Nat) : (s.notify q code id d a k).freeCount = s.freeCount := by unfold State.notify; dsimp only; split <;> simp only [State.upCrier_freeCount, State.post_freeCount]
@[simp] theorem State.notify_out (q code id d a k : Nat) : (s.notify q code id d a k).out = s.out := by unfold State.notify; dsimp only; split <;> simp only [State.upCrier_out, State.post_out]
@[simp] theorem State.notify_glb (q code id d a k : Nat) : (s.notify q code id d a k).glb = s.glb := by unfold State.notify; dsimp only; split <;> simp only [State.upCrier_glb, State.post_glb]
@[simp] theorem State.notify_tmb (q code id d a k : Nat) : (s.notify q code id d a k).tmb = s.tmb := by unfold State.notify; dsimp only; split <;> simp only [State.upCrier_tmb, State.post_tmb]
@[simp] theorem State.notify_cfg (q code id d a k : Nat) : (s.notify q code id d a k).cfg = s.cfg := by unfold State.notify; dsimp only; split <;> simp only [State.upCrier_cfg, State.post_cfg]
@[simp] theorem State.notify_path (q code id d a k : Nat) : (s.notify q code id d a k).path = s.path := by unfold State.notify; dsimp only; split <;> simp only [State.upCrier_path, State.post_path]
@[simp] theorem State.notify_lace (q code id d a k : Nat) : (s.notify q code id d a k).lace = s.lace := by unfold State.notify; dsimp only; split <;> simp only [State.upCrier_lace, State.post_lace]
@[simp] theorem State.notify_cmd (q code id d a k : Nat) : (s.notify q code id d a k).cmd = s.cmd := by unfold State.notify; dsimp only; split <;> simp only [State.upCrier_cmd, State.post_cmd]
@[simp] theorem State.notify_host (q code id d a k : Nat) : (s.notify q code id d a k).host = s.host := by unfold State.notify; dsimp only; split <;> simp only [State.upCrier_host, State.post_host]
@[simp] theorem State.notify_cal (q code id d a k : Nat) : (s.notify q code id d a k).cal = s.cal := by unfold State.notify; dsimp only; split <;> simp only [State.upCrier_cal, State.post_cal]
@[simp] theorem State.notify_hlt (q code id d a k : Nat) : (s.notify q code id d a k).hlt = s.hlt := by unfold State.notify; dsimp only; split <;> simp only [State.upCrier_hlt, State.post_hlt]
@[simp] theorem State.notify_lnk (q code id d a k : Nat) : (s.notify q code id d a k).lnk = s.lnk := by unfold State.notify; dsimp only; split <;> simp only [State.upCrier_lnk, State.post_lnk]
@[simp] theorem State.notify_tdm (q code id d a k : Nat) : (s.notify q code id d a k).tdm = s.tdm := by unfold State.notify; dsimp only; split <;> simp only [State.upCrier_tdm, State.post_tdm]
@[simp] theorem State.notify_ldr (q code id d a k : Nat) : (s.notify q code id d a k).ldr = s.ldr := by unfold State.notify; dsimp only; split <;> simp only [State.upCrier_ldr, State.post_ldr]
@[simp] theorem State.notify_snap (q code id d a k : Nat) : (s.notify q code id d a k).snap = s.snap := by unfold State.notify; dsimp only; split <;> simp only [State.upCrier_snap, State.post_snap]
@[simp] theorem State.notify_spoke (q code id d a k : Nat) (j : Nat) : (s.notify q code id d a k).spoke j = s.spoke j := by unfold State.notify; dsimp only; split <;> simp only [State.upCrier_spoke, State.post_spoke]
@[simp] theorem State.notify_look (q code id d a k : Nat) (j : Nat) : (s.notify q code id d a k).look j = s.look j := by unfold State.notify; dsimp only; split <;> simp only [State.upCrier_look, State.post_look]
@[simp] theorem State.notify_modu (q code id d a k : Nat) (j : Nat) : (s.notify q code id d a k).modu j = s.modu j := by unfold State.notify; dsimp only; split <;> simp only [State.upCrier_modu, State.post_modu]
@[simp] theorem State.notify_sw (q code id d a k : Nat) (j : Nat) : (s.notify q code id d a k).sw j = s.sw j := by unfold State.notify; dsimp only; split <;> simp only [State.upCrier_sw, State.post_sw]
@[simp] theorem State.notify_trig (q code id d a k : Nat) (j : Nat) : (s.notify q code id d a k).trig j = s.trig j := by unfold State.notify; dsimp only; split <;> simp only [State.upCrier_trig, State.post_trig]
@[simp] theorem State.notify_strm (q code id d a k : Nat) (j : Nat) : (s.notify q code id d a k).strm j = s.strm j := by unfold State.notify; dsimp only; split <;> simp only [State.upCrier_strm, State.post_strm]
@[simp] theorem State.notify_stall (q code id d a k : Nat) (j : Nat) : (s.notify q code id d a k).stall j = s.stall j := by unfold State.notify; dsimp only; split <;> simp only [State.upCrier_stall, State.post_stall]
@[simp] theorem State.notify_job (q code id d a k : Nat) (j : Nat) : (s.notify q code id d a k).job j = s.job j := by unfold State.notify; dsimp only; split <;> simp only [State.upCrier_job, State.post_job]
@[simp] theorem State.notify_engine (q code id d a k : Nat) (j : Nat) : (s.notify q code id d a k).engine j = s.engine j := by unfold State.notify; dsimp only; split <;> simp only [State.upCrier_engine, State.post_engine]
@[simp] theorem State.notify_laceOf (q code id d a k : Nat) (j : Nat) : (s.notify q code id d a k).laceOf j = s.laceOf j := by unfold State.notify; dsimp only; split <;> simp only [State.upCrier_laceOf, State.post_laceOf]
@[simp] theorem State.notify_ring (q code id d a k : Nat) (j : Nat) : (s.notify q code id d a k).ring j = s.ring j := by unfold State.notify; dsimp only; split <;> simp only [State.upCrier_ring, State.post_ring]
@[simp] theorem State.notify_window (q code id d a k : Nat) (j : Nat) : (s.notify q code id d a k).window j = s.window j := by unfold State.notify; dsimp only; split <;> simp only [State.upCrier_window, State.post_window]
@[simp] theorem State.notify_lane (q code id d a k : Nat) (j : Nat) : (s.notify q code id d a k).lane j = s.lane j := by unfold State.notify; dsimp only; split <;> simp only [State.upCrier_lane, State.post_lane]
@[simp] theorem State.notify_pad (q code id d a k : Nat) : (s.notify q code id d a k).mem.pad = s.mem.pad := by unfold State.notify; dsimp only; split <;> simp only [State.upCrier_mem, State.post_pad]
@[simp] theorem State.notify_banks (q code id d a k : Nat) : (s.notify q code id d a k).mem.banks = s.mem.banks := by unfold State.notify; dsimp only; split <;> simp only [State.upCrier_mem, State.post_banks]

/-! ### `intr` -/

/-- A vector sent changes what is handed outside and the pending bits alone. -/
theorem State.sendVector_eq (v : Nat) : ∃ g o, s.sendVector v = { s with glb := g, out := o } := by
  unfold State.sendVector
  split
  · exact ⟨_, _, rfl⟩
  · exact ⟨_, _, rfl⟩

/-- So does the summary vector. -/
theorem State.summaryVector_eq : ∃ g o, s.summaryVector = { s with glb := g, out := o } := by
  unfold State.summaryVector
  split
  · exact ⟨_, _, rfl⟩
  · obtain ⟨g, o, h⟩ := State.sendVector_eq (s := s.upGlb fun g => { g with vecTick := some s.tick }) 64
    exact ⟨g, o, h⟩

/-- An interrupt bit set changes the GLB registers and what is handed outside alone. -/
theorem State.intr_eq (s : State) (b : Nat) : ∃ g o, s.intr b = { s with glb := g, out := o } := by
  unfold State.intr
  dsimp only
  split
  · obtain ⟨g, o, h⟩ := State.summaryVector_eq
      (s := s.upGlb fun g => { g with intStatus := g.intStatus ||| wordOf (2 ^ b), fresh := (s.tick, s.freshBits ||| wordOf (2 ^ b)) })
    exact ⟨g, o, h⟩
  · exact ⟨_, _, rfl⟩

@[simp] theorem State.intr_pending (b : Nat) : (s.intr b).pending = s.pending := by obtain ⟨g, o, h⟩ := s.intr_eq b; exact congrArg (·.pending) h
@[simp] theorem State.intr_ub (b : Nat) : (s.intr b).ub = s.ub := by obtain ⟨g, o, h⟩ := s.intr_eq b; exact congrArg (·.ub) h
@[simp] theorem State.intr_freeCount (b : Nat) : (s.intr b).freeCount = s.freeCount := by obtain ⟨g, o, h⟩ := s.intr_eq b; exact congrArg (·.freeCount) h
@[simp] theorem State.intr_tmb (b : Nat) : (s.intr b).tmb = s.tmb := by obtain ⟨g, o, h⟩ := s.intr_eq b; exact congrArg (·.tmb) h
@[simp] theorem State.intr_cfg (b : Nat) : (s.intr b).cfg = s.cfg := by obtain ⟨g, o, h⟩ := s.intr_eq b; exact congrArg (·.cfg) h
@[simp] theorem State.intr_path (b : Nat) : (s.intr b).path = s.path := by obtain ⟨g, o, h⟩ := s.intr_eq b; exact congrArg (·.path) h
@[simp] theorem State.intr_lace (b : Nat) : (s.intr b).lace = s.lace := by obtain ⟨g, o, h⟩ := s.intr_eq b; exact congrArg (·.lace) h
@[simp] theorem State.intr_crier (b : Nat) : (s.intr b).crier = s.crier := by obtain ⟨g, o, h⟩ := s.intr_eq b; exact congrArg (·.crier) h
@[simp] theorem State.intr_cmd (b : Nat) : (s.intr b).cmd = s.cmd := by obtain ⟨g, o, h⟩ := s.intr_eq b; exact congrArg (·.cmd) h
@[simp] theorem State.intr_host (b : Nat) : (s.intr b).host = s.host := by obtain ⟨g, o, h⟩ := s.intr_eq b; exact congrArg (·.host) h
@[simp] theorem State.intr_mem (b : Nat) : (s.intr b).mem = s.mem := by obtain ⟨g, o, h⟩ := s.intr_eq b; exact congrArg (·.mem) h
@[simp] theorem State.intr_cal (b : Nat) : (s.intr b).cal = s.cal := by obtain ⟨g, o, h⟩ := s.intr_eq b; exact congrArg (·.cal) h
@[simp] theorem State.intr_hlt (b : Nat) : (s.intr b).hlt = s.hlt := by obtain ⟨g, o, h⟩ := s.intr_eq b; exact congrArg (·.hlt) h
@[simp] theorem State.intr_lnk (b : Nat) : (s.intr b).lnk = s.lnk := by obtain ⟨g, o, h⟩ := s.intr_eq b; exact congrArg (·.lnk) h
@[simp] theorem State.intr_tdm (b : Nat) : (s.intr b).tdm = s.tdm := by obtain ⟨g, o, h⟩ := s.intr_eq b; exact congrArg (·.tdm) h
@[simp] theorem State.intr_ldr (b : Nat) : (s.intr b).ldr = s.ldr := by obtain ⟨g, o, h⟩ := s.intr_eq b; exact congrArg (·.ldr) h
@[simp] theorem State.intr_snap (b : Nat) : (s.intr b).snap = s.snap := by obtain ⟨g, o, h⟩ := s.intr_eq b; exact congrArg (·.snap) h
@[simp] theorem State.intr_spoke (b : Nat) (j : Nat) : (s.intr b).spoke j = s.spoke j := by obtain ⟨g, o, h⟩ := s.intr_eq b; exact congrArg (·.spoke j) h
@[simp] theorem State.intr_look (b : Nat) (j : Nat) : (s.intr b).look j = s.look j := by obtain ⟨g, o, h⟩ := s.intr_eq b; exact congrArg (·.look j) h
@[simp] theorem State.intr_modu (b : Nat) (j : Nat) : (s.intr b).modu j = s.modu j := by obtain ⟨g, o, h⟩ := s.intr_eq b; exact congrArg (·.modu j) h
@[simp] theorem State.intr_sw (b : Nat) (j : Nat) : (s.intr b).sw j = s.sw j := by obtain ⟨g, o, h⟩ := s.intr_eq b; exact congrArg (·.sw j) h
@[simp] theorem State.intr_trig (b : Nat) (j : Nat) : (s.intr b).trig j = s.trig j := by obtain ⟨g, o, h⟩ := s.intr_eq b; exact congrArg (·.trig j) h
@[simp] theorem State.intr_strm (b : Nat) (j : Nat) : (s.intr b).strm j = s.strm j := by obtain ⟨g, o, h⟩ := s.intr_eq b; exact congrArg (·.strm j) h
@[simp] theorem State.intr_stall (b : Nat) (j : Nat) : (s.intr b).stall j = s.stall j := by obtain ⟨g, o, h⟩ := s.intr_eq b; exact congrArg (·.stall j) h
@[simp] theorem State.intr_job (b : Nat) (j : Nat) : (s.intr b).job j = s.job j := by obtain ⟨g, o, h⟩ := s.intr_eq b; exact congrArg (·.job j) h
@[simp] theorem State.intr_engine (b : Nat) (j : Nat) : (s.intr b).engine j = s.engine j := by obtain ⟨g, o, h⟩ := s.intr_eq b; exact congrArg (·.engine j) h
@[simp] theorem State.intr_laceOf (b : Nat) (j : Nat) : (s.intr b).laceOf j = s.laceOf j := by obtain ⟨g, o, h⟩ := s.intr_eq b; exact congrArg (·.laceOf j) h
@[simp] theorem State.intr_que (b : Nat) (j : Nat) : (s.intr b).que j = s.que j := by obtain ⟨g, o, h⟩ := s.intr_eq b; exact congrArg (·.que j) h
@[simp] theorem State.intr_ring (b : Nat) (j : Nat) : (s.intr b).ring j = s.ring j := by obtain ⟨g, o, h⟩ := s.intr_eq b; exact congrArg (·.ring j) h
@[simp] theorem State.intr_bank (b : Nat) (j : Nat) : (s.intr b).bank j = s.bank j := by obtain ⟨g, o, h⟩ := s.intr_eq b; exact congrArg (·.bank j) h
@[simp] theorem State.intr_memUnit (b : Nat) (j : Nat) : (s.intr b).memUnit j = s.memUnit j := by obtain ⟨g, o, h⟩ := s.intr_eq b; exact congrArg (·.memUnit j) h
@[simp] theorem State.intr_window (b : Nat) (j : Nat) : (s.intr b).window j = s.window j := by obtain ⟨g, o, h⟩ := s.intr_eq b; exact congrArg (·.window j) h
@[simp] theorem State.intr_lane (b : Nat) (j : Nat) : (s.intr b).lane j = s.lane j := by obtain ⟨g, o, h⟩ := s.intr_eq b; exact congrArg (·.lane j) h

/-! ### `enter` -/

@[simp] theorem State.enter_pending (g : GlbState) : (s.enter g).pending = s.pending := by unfold State.enter; split <;> simp
@[simp] theorem State.enter_ub (g : GlbState) : (s.enter g).ub = s.ub := by unfold State.enter; split <;> simp
@[simp] theorem State.enter_freeCount (g : GlbState) : (s.enter g).freeCount = s.freeCount := by unfold State.enter; split <;> simp
@[simp] theorem State.enter_tmb (g : GlbState) : (s.enter g).tmb = s.tmb := by unfold State.enter; split <;> simp
@[simp] theorem State.enter_cfg (g : GlbState) : (s.enter g).cfg = s.cfg := by unfold State.enter; split <;> simp
@[simp] theorem State.enter_path (g : GlbState) : (s.enter g).path = s.path := by unfold State.enter; split <;> simp
@[simp] theorem State.enter_lace (g : GlbState) : (s.enter g).lace = s.lace := by unfold State.enter; split <;> simp
@[simp] theorem State.enter_crier (g : GlbState) : (s.enter g).crier = s.crier := by unfold State.enter; split <;> simp
@[simp] theorem State.enter_cmd (g : GlbState) : (s.enter g).cmd = s.cmd := by unfold State.enter; split <;> simp
@[simp] theorem State.enter_host (g : GlbState) : (s.enter g).host = s.host := by unfold State.enter; split <;> simp
@[simp] theorem State.enter_mem (g : GlbState) : (s.enter g).mem = s.mem := by unfold State.enter; split <;> simp
@[simp] theorem State.enter_cal (g : GlbState) : (s.enter g).cal = s.cal := by unfold State.enter; split <;> simp
@[simp] theorem State.enter_hlt (g : GlbState) : (s.enter g).hlt = s.hlt := by unfold State.enter; split <;> simp
@[simp] theorem State.enter_lnk (g : GlbState) : (s.enter g).lnk = s.lnk := by unfold State.enter; split <;> simp
@[simp] theorem State.enter_tdm (g : GlbState) : (s.enter g).tdm = s.tdm := by unfold State.enter; split <;> simp
@[simp] theorem State.enter_ldr (g : GlbState) : (s.enter g).ldr = s.ldr := by unfold State.enter; split <;> simp
@[simp] theorem State.enter_snap (g : GlbState) : (s.enter g).snap = s.snap := by unfold State.enter; split <;> simp
@[simp] theorem State.enter_spoke (g : GlbState) (j : Nat) : (s.enter g).spoke j = s.spoke j := by unfold State.enter; split <;> simp
@[simp] theorem State.enter_look (g : GlbState) (j : Nat) : (s.enter g).look j = s.look j := by unfold State.enter; split <;> simp
@[simp] theorem State.enter_modu (g : GlbState) (j : Nat) : (s.enter g).modu j = s.modu j := by unfold State.enter; split <;> simp
@[simp] theorem State.enter_sw (g : GlbState) (j : Nat) : (s.enter g).sw j = s.sw j := by unfold State.enter; split <;> simp
@[simp] theorem State.enter_trig (g : GlbState) (j : Nat) : (s.enter g).trig j = s.trig j := by unfold State.enter; split <;> simp
@[simp] theorem State.enter_strm (g : GlbState) (j : Nat) : (s.enter g).strm j = s.strm j := by unfold State.enter; split <;> simp
@[simp] theorem State.enter_stall (g : GlbState) (j : Nat) : (s.enter g).stall j = s.stall j := by unfold State.enter; split <;> simp
@[simp] theorem State.enter_job (g : GlbState) (j : Nat) : (s.enter g).job j = s.job j := by unfold State.enter; split <;> simp
@[simp] theorem State.enter_engine (g : GlbState) (j : Nat) : (s.enter g).engine j = s.engine j := by unfold State.enter; split <;> simp
@[simp] theorem State.enter_laceOf (g : GlbState) (j : Nat) : (s.enter g).laceOf j = s.laceOf j := by unfold State.enter; split <;> simp
@[simp] theorem State.enter_que (g : GlbState) (j : Nat) : (s.enter g).que j = s.que j := by unfold State.enter; split <;> simp
@[simp] theorem State.enter_ring (g : GlbState) (j : Nat) : (s.enter g).ring j = s.ring j := by unfold State.enter; split <;> simp
@[simp] theorem State.enter_bank (g : GlbState) (j : Nat) : (s.enter g).bank j = s.bank j := by unfold State.enter; split <;> simp
@[simp] theorem State.enter_memUnit (g : GlbState) (j : Nat) : (s.enter g).memUnit j = s.memUnit j := by unfold State.enter; split <;> simp
@[simp] theorem State.enter_window (g : GlbState) (j : Nat) : (s.enter g).window j = s.window j := by unfold State.enter; split <;> simp
@[simp] theorem State.enter_lane (g : GlbState) (j : Nat) : (s.enter g).lane j = s.lane j := by unfold State.enter; split <;> simp

/-! ### `enterTime` -/

@[simp] theorem State.enterTime_pending (g : TimeState) : (s.enterTime g).pending = s.pending := by unfold State.enterTime; split <;> simp
@[simp] theorem State.enterTime_ub (g : TimeState) : (s.enterTime g).ub = s.ub := by unfold State.enterTime; split <;> simp
@[simp] theorem State.enterTime_freeCount (g : TimeState) : (s.enterTime g).freeCount = s.freeCount := by unfold State.enterTime; split <;> simp
@[simp] theorem State.enterTime_cfg (g : TimeState) : (s.enterTime g).cfg = s.cfg := by unfold State.enterTime; split <;> simp
@[simp] theorem State.enterTime_path (g : TimeState) : (s.enterTime g).path = s.path := by unfold State.enterTime; split <;> simp
@[simp] theorem State.enterTime_lace (g : TimeState) : (s.enterTime g).lace = s.lace := by unfold State.enterTime; split <;> simp
@[simp] theorem State.enterTime_crier (g : TimeState) : (s.enterTime g).crier = s.crier := by unfold State.enterTime; split <;> simp
@[simp] theorem State.enterTime_cmd (g : TimeState) : (s.enterTime g).cmd = s.cmd := by unfold State.enterTime; split <;> simp
@[simp] theorem State.enterTime_host (g : TimeState) : (s.enterTime g).host = s.host := by unfold State.enterTime; split <;> simp
@[simp] theorem State.enterTime_mem (g : TimeState) : (s.enterTime g).mem = s.mem := by unfold State.enterTime; split <;> simp
@[simp] theorem State.enterTime_cal (g : TimeState) : (s.enterTime g).cal = s.cal := by unfold State.enterTime; split <;> simp
@[simp] theorem State.enterTime_hlt (g : TimeState) : (s.enterTime g).hlt = s.hlt := by unfold State.enterTime; split <;> simp
@[simp] theorem State.enterTime_lnk (g : TimeState) : (s.enterTime g).lnk = s.lnk := by unfold State.enterTime; split <;> simp
@[simp] theorem State.enterTime_tdm (g : TimeState) : (s.enterTime g).tdm = s.tdm := by unfold State.enterTime; split <;> simp
@[simp] theorem State.enterTime_ldr (g : TimeState) : (s.enterTime g).ldr = s.ldr := by unfold State.enterTime; split <;> simp
@[simp] theorem State.enterTime_snap (g : TimeState) : (s.enterTime g).snap = s.snap := by unfold State.enterTime; split <;> simp
@[simp] theorem State.enterTime_spoke (g : TimeState) (j : Nat) : (s.enterTime g).spoke j = s.spoke j := by unfold State.enterTime; split <;> simp
@[simp] theorem State.enterTime_look (g : TimeState) (j : Nat) : (s.enterTime g).look j = s.look j := by unfold State.enterTime; split <;> simp
@[simp] theorem State.enterTime_modu (g : TimeState) (j : Nat) : (s.enterTime g).modu j = s.modu j := by unfold State.enterTime; split <;> simp
@[simp] theorem State.enterTime_sw (g : TimeState) (j : Nat) : (s.enterTime g).sw j = s.sw j := by unfold State.enterTime; split <;> simp
@[simp] theorem State.enterTime_trig (g : TimeState) (j : Nat) : (s.enterTime g).trig j = s.trig j := by unfold State.enterTime; split <;> simp
@[simp] theorem State.enterTime_strm (g : TimeState) (j : Nat) : (s.enterTime g).strm j = s.strm j := by unfold State.enterTime; split <;> simp
@[simp] theorem State.enterTime_stall (g : TimeState) (j : Nat) : (s.enterTime g).stall j = s.stall j := by unfold State.enterTime; split <;> simp
@[simp] theorem State.enterTime_job (g : TimeState) (j : Nat) : (s.enterTime g).job j = s.job j := by unfold State.enterTime; split <;> simp
@[simp] theorem State.enterTime_engine (g : TimeState) (j : Nat) : (s.enterTime g).engine j = s.engine j := by unfold State.enterTime; split <;> simp
@[simp] theorem State.enterTime_laceOf (g : TimeState) (j : Nat) : (s.enterTime g).laceOf j = s.laceOf j := by unfold State.enterTime; split <;> simp
@[simp] theorem State.enterTime_que (g : TimeState) (j : Nat) : (s.enterTime g).que j = s.que j := by unfold State.enterTime; split <;> simp
@[simp] theorem State.enterTime_ring (g : TimeState) (j : Nat) : (s.enterTime g).ring j = s.ring j := by unfold State.enterTime; split <;> simp
@[simp] theorem State.enterTime_bank (g : TimeState) (j : Nat) : (s.enterTime g).bank j = s.bank j := by unfold State.enterTime; split <;> simp
@[simp] theorem State.enterTime_memUnit (g : TimeState) (j : Nat) : (s.enterTime g).memUnit j = s.memUnit j := by unfold State.enterTime; split <;> simp
@[simp] theorem State.enterTime_window (g : TimeState) (j : Nat) : (s.enterTime g).window j = s.window j := by unfold State.enterTime; split <;> simp
@[simp] theorem State.enterTime_lane (g : TimeState) (j : Nat) : (s.enterTime g).lane j = s.lane j := by unfold State.enterTime; split <;> simp

/-! ### `enterRole` -/

@[simp] theorem State.enterRole_pending (r : Role) : (s.enterRole r).pending = s.pending := by unfold State.enterRole; split <;> simp
@[simp] theorem State.enterRole_ub (r : Role) : (s.enterRole r).ub = s.ub := by unfold State.enterRole; split <;> simp
@[simp] theorem State.enterRole_freeCount (r : Role) : (s.enterRole r).freeCount = s.freeCount := by unfold State.enterRole; split <;> simp
@[simp] theorem State.enterRole_tmb (r : Role) : (s.enterRole r).tmb = s.tmb := by unfold State.enterRole; split <;> simp
@[simp] theorem State.enterRole_cfg (r : Role) : (s.enterRole r).cfg = s.cfg := by unfold State.enterRole; split <;> simp
@[simp] theorem State.enterRole_path (r : Role) : (s.enterRole r).path = s.path := by unfold State.enterRole; split <;> simp
@[simp] theorem State.enterRole_lace (r : Role) : (s.enterRole r).lace = s.lace := by unfold State.enterRole; split <;> simp
@[simp] theorem State.enterRole_crier (r : Role) : (s.enterRole r).crier = s.crier := by unfold State.enterRole; split <;> simp
@[simp] theorem State.enterRole_cmd (r : Role) : (s.enterRole r).cmd = s.cmd := by unfold State.enterRole; split <;> simp
@[simp] theorem State.enterRole_host (r : Role) : (s.enterRole r).host = s.host := by unfold State.enterRole; split <;> simp
@[simp] theorem State.enterRole_mem (r : Role) : (s.enterRole r).mem = s.mem := by unfold State.enterRole; split <;> simp
@[simp] theorem State.enterRole_cal (r : Role) : (s.enterRole r).cal = s.cal := by unfold State.enterRole; split <;> simp
@[simp] theorem State.enterRole_hlt (r : Role) : (s.enterRole r).hlt = s.hlt := by unfold State.enterRole; split <;> simp
@[simp] theorem State.enterRole_lnk (r : Role) : (s.enterRole r).lnk = s.lnk := by unfold State.enterRole; split <;> simp
@[simp] theorem State.enterRole_ldr (r : Role) : (s.enterRole r).ldr = s.ldr := by unfold State.enterRole; split <;> simp
@[simp] theorem State.enterRole_snap (r : Role) : (s.enterRole r).snap = s.snap := by unfold State.enterRole; split <;> simp
@[simp] theorem State.enterRole_spoke (r : Role) (j : Nat) : (s.enterRole r).spoke j = s.spoke j := by unfold State.enterRole; split <;> simp
@[simp] theorem State.enterRole_look (r : Role) (j : Nat) : (s.enterRole r).look j = s.look j := by unfold State.enterRole; split <;> simp
@[simp] theorem State.enterRole_modu (r : Role) (j : Nat) : (s.enterRole r).modu j = s.modu j := by unfold State.enterRole; split <;> simp
@[simp] theorem State.enterRole_sw (r : Role) (j : Nat) : (s.enterRole r).sw j = s.sw j := by unfold State.enterRole; split <;> simp
@[simp] theorem State.enterRole_trig (r : Role) (j : Nat) : (s.enterRole r).trig j = s.trig j := by unfold State.enterRole; split <;> simp
@[simp] theorem State.enterRole_strm (r : Role) (j : Nat) : (s.enterRole r).strm j = s.strm j := by unfold State.enterRole; split <;> simp
@[simp] theorem State.enterRole_stall (r : Role) (j : Nat) : (s.enterRole r).stall j = s.stall j := by unfold State.enterRole; split <;> simp
@[simp] theorem State.enterRole_job (r : Role) (j : Nat) : (s.enterRole r).job j = s.job j := by unfold State.enterRole; split <;> simp
@[simp] theorem State.enterRole_engine (r : Role) (j : Nat) : (s.enterRole r).engine j = s.engine j := by unfold State.enterRole; split <;> simp
@[simp] theorem State.enterRole_laceOf (r : Role) (j : Nat) : (s.enterRole r).laceOf j = s.laceOf j := by unfold State.enterRole; split <;> simp
@[simp] theorem State.enterRole_que (r : Role) (j : Nat) : (s.enterRole r).que j = s.que j := by unfold State.enterRole; split <;> simp
@[simp] theorem State.enterRole_ring (r : Role) (j : Nat) : (s.enterRole r).ring j = s.ring j := by unfold State.enterRole; split <;> simp
@[simp] theorem State.enterRole_bank (r : Role) (j : Nat) : (s.enterRole r).bank j = s.bank j := by unfold State.enterRole; split <;> simp
@[simp] theorem State.enterRole_memUnit (r : Role) (j : Nat) : (s.enterRole r).memUnit j = s.memUnit j := by unfold State.enterRole; split <;> simp
@[simp] theorem State.enterRole_window (r : Role) (j : Nat) : (s.enterRole r).window j = s.window j := by unfold State.enterRole; split <;> simp
@[simp] theorem State.enterRole_lane (r : Role) (j : Nat) : (s.enterRole r).lane j = s.lane j := by unfold State.enterRole; split <;> simp

/-! ### `loadBit` -/

@[simp] theorem State.loadBit_pending (c : CmdItem) : (s.loadBit c).pending = s.pending := by unfold State.loadBit; split <;> simp
@[simp] theorem State.loadBit_ub (c : CmdItem) : (s.loadBit c).ub = s.ub := by unfold State.loadBit; split <;> simp
@[simp] theorem State.loadBit_freeCount (c : CmdItem) : (s.loadBit c).freeCount = s.freeCount := by unfold State.loadBit; split <;> simp
@[simp] theorem State.loadBit_tmb (c : CmdItem) : (s.loadBit c).tmb = s.tmb := by unfold State.loadBit; split <;> simp
@[simp] theorem State.loadBit_cfg (c : CmdItem) : (s.loadBit c).cfg = s.cfg := by unfold State.loadBit; split <;> simp
@[simp] theorem State.loadBit_path (c : CmdItem) : (s.loadBit c).path = s.path := by unfold State.loadBit; split <;> simp
@[simp] theorem State.loadBit_lace (c : CmdItem) : (s.loadBit c).lace = s.lace := by unfold State.loadBit; split <;> simp
@[simp] theorem State.loadBit_crier (c : CmdItem) : (s.loadBit c).crier = s.crier := by unfold State.loadBit; split <;> simp
@[simp] theorem State.loadBit_cmd (c : CmdItem) : (s.loadBit c).cmd = s.cmd := by unfold State.loadBit; split <;> simp
@[simp] theorem State.loadBit_host (c : CmdItem) : (s.loadBit c).host = s.host := by unfold State.loadBit; split <;> simp
@[simp] theorem State.loadBit_mem (c : CmdItem) : (s.loadBit c).mem = s.mem := by unfold State.loadBit; split <;> simp
@[simp] theorem State.loadBit_cal (c : CmdItem) : (s.loadBit c).cal = s.cal := by unfold State.loadBit; split <;> simp
@[simp] theorem State.loadBit_hlt (c : CmdItem) : (s.loadBit c).hlt = s.hlt := by unfold State.loadBit; split <;> simp
@[simp] theorem State.loadBit_lnk (c : CmdItem) : (s.loadBit c).lnk = s.lnk := by unfold State.loadBit; split <;> simp
@[simp] theorem State.loadBit_tdm (c : CmdItem) : (s.loadBit c).tdm = s.tdm := by unfold State.loadBit; split <;> simp
@[simp] theorem State.loadBit_ldr (c : CmdItem) : (s.loadBit c).ldr = s.ldr := by unfold State.loadBit; split <;> simp
@[simp] theorem State.loadBit_snap (c : CmdItem) : (s.loadBit c).snap = s.snap := by unfold State.loadBit; split <;> simp
@[simp] theorem State.loadBit_spoke (c : CmdItem) (j : Nat) : (s.loadBit c).spoke j = s.spoke j := by unfold State.loadBit; split <;> simp
@[simp] theorem State.loadBit_look (c : CmdItem) (j : Nat) : (s.loadBit c).look j = s.look j := by unfold State.loadBit; split <;> simp
@[simp] theorem State.loadBit_modu (c : CmdItem) (j : Nat) : (s.loadBit c).modu j = s.modu j := by unfold State.loadBit; split <;> simp
@[simp] theorem State.loadBit_sw (c : CmdItem) (j : Nat) : (s.loadBit c).sw j = s.sw j := by unfold State.loadBit; split <;> simp
@[simp] theorem State.loadBit_trig (c : CmdItem) (j : Nat) : (s.loadBit c).trig j = s.trig j := by unfold State.loadBit; split <;> simp
@[simp] theorem State.loadBit_strm (c : CmdItem) (j : Nat) : (s.loadBit c).strm j = s.strm j := by unfold State.loadBit; split <;> simp
@[simp] theorem State.loadBit_stall (c : CmdItem) (j : Nat) : (s.loadBit c).stall j = s.stall j := by unfold State.loadBit; split <;> simp
@[simp] theorem State.loadBit_job (c : CmdItem) (j : Nat) : (s.loadBit c).job j = s.job j := by unfold State.loadBit; split <;> simp
@[simp] theorem State.loadBit_engine (c : CmdItem) (j : Nat) : (s.loadBit c).engine j = s.engine j := by unfold State.loadBit; split <;> simp
@[simp] theorem State.loadBit_laceOf (c : CmdItem) (j : Nat) : (s.loadBit c).laceOf j = s.laceOf j := by unfold State.loadBit; split <;> simp
@[simp] theorem State.loadBit_que (c : CmdItem) (j : Nat) : (s.loadBit c).que j = s.que j := by unfold State.loadBit; split <;> simp
@[simp] theorem State.loadBit_ring (c : CmdItem) (j : Nat) : (s.loadBit c).ring j = s.ring j := by unfold State.loadBit; split <;> simp
@[simp] theorem State.loadBit_bank (c : CmdItem) (j : Nat) : (s.loadBit c).bank j = s.bank j := by unfold State.loadBit; split <;> simp
@[simp] theorem State.loadBit_memUnit (c : CmdItem) (j : Nat) : (s.loadBit c).memUnit j = s.memUnit j := by unfold State.loadBit; split <;> simp
@[simp] theorem State.loadBit_window (c : CmdItem) (j : Nat) : (s.loadBit c).window j = s.window j := by unfold State.loadBit; split <;> simp
@[simp] theorem State.loadBit_lane (c : CmdItem) (j : Nat) : (s.loadBit c).lane j = s.lane j := by unfold State.loadBit; split <;> simp

/-! ### `finish` -/

@[simp] theorem State.finish_pending (c : CmdItem) (st r : Nat) : (s.finish c st r).pending = s.pending := by unfold State.finish; dsimp only; split <;> simp only [State.upMst_pending, State.upQue_pending, State.post_pending, State.loadBit_pending]
@[simp] theorem State.finish_ub (c : CmdItem) (st r : Nat) : (s.finish c st r).ub = s.ub := by unfold State.finish; dsimp only; split <;> simp only [State.upMst_ub, State.upQue_ub, State.post_ub, State.loadBit_ub]
@[simp] theorem State.finish_freeCount (c : CmdItem) (st r : Nat) : (s.finish c st r).freeCount = s.freeCount := by unfold State.finish; dsimp only; split <;> simp only [State.upMst_freeCount, State.upQue_freeCount, State.post_freeCount, State.loadBit_freeCount]
@[simp] theorem State.finish_tmb (c : CmdItem) (st r : Nat) : (s.finish c st r).tmb = s.tmb := by unfold State.finish; dsimp only; split <;> simp only [State.upMst_tmb, State.upQue_tmb, State.post_tmb, State.loadBit_tmb]
@[simp] theorem State.finish_cfg (c : CmdItem) (st r : Nat) : (s.finish c st r).cfg = s.cfg := by unfold State.finish; dsimp only; split <;> simp only [State.upMst_cfg, State.upQue_cfg, State.post_cfg, State.loadBit_cfg]
@[simp] theorem State.finish_path (c : CmdItem) (st r : Nat) : (s.finish c st r).path = s.path := by unfold State.finish; dsimp only; split <;> simp only [State.upMst_path, State.upQue_path, State.post_path, State.loadBit_path]
@[simp] theorem State.finish_lace (c : CmdItem) (st r : Nat) : (s.finish c st r).lace = s.lace := by unfold State.finish; dsimp only; split <;> simp only [State.upMst_lace, State.upQue_lace, State.post_lace, State.loadBit_lace]
@[simp] theorem State.finish_host (c : CmdItem) (st r : Nat) : (s.finish c st r).host = s.host := by unfold State.finish; dsimp only; split <;> simp only [State.upMst_host, State.upQue_host, State.post_host, State.loadBit_host]
@[simp] theorem State.finish_cal (c : CmdItem) (st r : Nat) : (s.finish c st r).cal = s.cal := by unfold State.finish; dsimp only; split <;> simp only [State.upMst_cal, State.upQue_cal, State.post_cal, State.loadBit_cal]
@[simp] theorem State.finish_hlt (c : CmdItem) (st r : Nat) : (s.finish c st r).hlt = s.hlt := by unfold State.finish; dsimp only; split <;> simp only [State.upMst_hlt, State.upQue_hlt, State.post_hlt, State.loadBit_hlt]
@[simp] theorem State.finish_lnk (c : CmdItem) (st r : Nat) : (s.finish c st r).lnk = s.lnk := by unfold State.finish; dsimp only; split <;> simp only [State.upMst_lnk, State.upQue_lnk, State.post_lnk, State.loadBit_lnk]
@[simp] theorem State.finish_tdm (c : CmdItem) (st r : Nat) : (s.finish c st r).tdm = s.tdm := by unfold State.finish; dsimp only; split <;> simp only [State.upMst_tdm, State.upQue_tdm, State.post_tdm, State.loadBit_tdm]
@[simp] theorem State.finish_ldr (c : CmdItem) (st r : Nat) : (s.finish c st r).ldr = s.ldr := by unfold State.finish; dsimp only; split <;> simp only [State.upMst_ldr, State.upQue_ldr, State.post_ldr, State.loadBit_ldr]
@[simp] theorem State.finish_snap (c : CmdItem) (st r : Nat) : (s.finish c st r).snap = s.snap := by unfold State.finish; dsimp only; split <;> simp only [State.upMst_snap, State.upQue_snap, State.post_snap, State.loadBit_snap]
@[simp] theorem State.finish_spoke (c : CmdItem) (st r : Nat) (j : Nat) : (s.finish c st r).spoke j = s.spoke j := by unfold State.finish; dsimp only; split <;> simp only [State.upMst_spoke, State.upQue_spoke, State.post_spoke, State.loadBit_spoke]
@[simp] theorem State.finish_look (c : CmdItem) (st r : Nat) (j : Nat) : (s.finish c st r).look j = s.look j := by unfold State.finish; dsimp only; split <;> simp only [State.upMst_look, State.upQue_look, State.post_look, State.loadBit_look]
@[simp] theorem State.finish_modu (c : CmdItem) (st r : Nat) (j : Nat) : (s.finish c st r).modu j = s.modu j := by unfold State.finish; dsimp only; split <;> simp only [State.upMst_modu, State.upQue_modu, State.post_modu, State.loadBit_modu]
@[simp] theorem State.finish_sw (c : CmdItem) (st r : Nat) (j : Nat) : (s.finish c st r).sw j = s.sw j := by unfold State.finish; dsimp only; split <;> simp only [State.upMst_sw, State.upQue_sw, State.post_sw, State.loadBit_sw]
@[simp] theorem State.finish_trig (c : CmdItem) (st r : Nat) (j : Nat) : (s.finish c st r).trig j = s.trig j := by unfold State.finish; dsimp only; split <;> simp only [State.upMst_trig, State.upQue_trig, State.post_trig, State.loadBit_trig]
@[simp] theorem State.finish_strm (c : CmdItem) (st r : Nat) (j : Nat) : (s.finish c st r).strm j = s.strm j := by unfold State.finish; dsimp only; split <;> simp only [State.upMst_strm, State.upQue_strm, State.post_strm, State.loadBit_strm]
@[simp] theorem State.finish_stall (c : CmdItem) (st r : Nat) (j : Nat) : (s.finish c st r).stall j = s.stall j := by unfold State.finish; dsimp only; split <;> simp only [State.upMst_stall, State.upQue_stall, State.post_stall, State.loadBit_stall]
@[simp] theorem State.finish_job (c : CmdItem) (st r : Nat) (j : Nat) : (s.finish c st r).job j = s.job j := by unfold State.finish; dsimp only; split <;> simp only [State.upMst_job, State.upQue_job, State.post_job, State.loadBit_job]
@[simp] theorem State.finish_engine (c : CmdItem) (st r : Nat) (j : Nat) : (s.finish c st r).engine j = s.engine j := by unfold State.finish; dsimp only; split <;> simp only [State.upMst_engine, State.upQue_engine, State.post_engine, State.loadBit_engine]
@[simp] theorem State.finish_laceOf (c : CmdItem) (st r : Nat) (j : Nat) : (s.finish c st r).laceOf j = s.laceOf j := by unfold State.finish; dsimp only; split <;> simp only [State.upMst_laceOf, State.upQue_laceOf, State.post_laceOf, State.loadBit_laceOf]
@[simp] theorem State.finish_ring (c : CmdItem) (st r : Nat) (j : Nat) : (s.finish c st r).ring j = s.ring j := by unfold State.finish; dsimp only; split <;> simp only [State.upMst_ring, State.upQue_ring, State.post_ring, State.loadBit_ring]
@[simp] theorem State.finish_window (c : CmdItem) (st r : Nat) (j : Nat) : (s.finish c st r).window j = s.window j := by unfold State.finish; dsimp only; split <;> simp only [State.upMst_window, State.upQue_window, State.post_window, State.loadBit_window]
@[simp] theorem State.finish_lane (c : CmdItem) (st r : Nat) (j : Nat) : (s.finish c st r).lane j = s.lane j := by unfold State.finish; dsimp only; split <;> simp only [State.upMst_lane, State.upQue_lane, State.post_lane, State.loadBit_lane]
@[simp] theorem State.finish_pad (c : CmdItem) (st r : Nat) : (s.finish c st r).mem.pad = s.mem.pad := by unfold State.finish; dsimp only; split <;> simp only [State.upMst_mem, State.upQue_mem, State.post_pad, State.loadBit_mem]
@[simp] theorem State.finish_banks (c : CmdItem) (st r : Nat) : (s.finish c st r).mem.banks = s.mem.banks := by unfold State.finish; dsimp only; split <;> simp only [State.upMst_mem, State.upQue_mem, State.post_banks, State.loadBit_mem]

/-! ### `complete` -/

@[simp] theorem State.complete_pending (c : CmdItem) (st r : Nat) : (s.complete c st r).pending = s.pending := by unfold State.complete; split <;> simp only [State.finish_pending, State.undefinedUse_pending]
@[simp] theorem State.complete_freeCount (c : CmdItem) (st r : Nat) : (s.complete c st r).freeCount = s.freeCount := by unfold State.complete; split <;> simp only [State.finish_freeCount, State.undefinedUse_freeCount]
@[simp] theorem State.complete_tmb (c : CmdItem) (st r : Nat) : (s.complete c st r).tmb = s.tmb := by unfold State.complete; split <;> simp only [State.finish_tmb, State.undefinedUse_tmb]
@[simp] theorem State.complete_cfg (c : CmdItem) (st r : Nat) : (s.complete c st r).cfg = s.cfg := by unfold State.complete; split <;> simp only [State.finish_cfg, State.undefinedUse_cfg]
@[simp] theorem State.complete_path (c : CmdItem) (st r : Nat) : (s.complete c st r).path = s.path := by unfold State.complete; split <;> simp only [State.finish_path, State.undefinedUse_path]
@[simp] theorem State.complete_lace (c : CmdItem) (st r : Nat) : (s.complete c st r).lace = s.lace := by unfold State.complete; split <;> simp only [State.finish_lace, State.undefinedUse_lace]
@[simp] theorem State.complete_host (c : CmdItem) (st r : Nat) : (s.complete c st r).host = s.host := by unfold State.complete; split <;> simp only [State.finish_host, State.undefinedUse_host]
@[simp] theorem State.complete_cal (c : CmdItem) (st r : Nat) : (s.complete c st r).cal = s.cal := by unfold State.complete; split <;> simp only [State.finish_cal, State.undefinedUse_cal]
@[simp] theorem State.complete_hlt (c : CmdItem) (st r : Nat) : (s.complete c st r).hlt = s.hlt := by unfold State.complete; split <;> simp only [State.finish_hlt, State.undefinedUse_hlt]
@[simp] theorem State.complete_lnk (c : CmdItem) (st r : Nat) : (s.complete c st r).lnk = s.lnk := by unfold State.complete; split <;> simp only [State.finish_lnk, State.undefinedUse_lnk]
@[simp] theorem State.complete_tdm (c : CmdItem) (st r : Nat) : (s.complete c st r).tdm = s.tdm := by unfold State.complete; split <;> simp only [State.finish_tdm, State.undefinedUse_tdm]
@[simp] theorem State.complete_ldr (c : CmdItem) (st r : Nat) : (s.complete c st r).ldr = s.ldr := by unfold State.complete; split <;> simp only [State.finish_ldr, State.undefinedUse_ldr]
@[simp] theorem State.complete_snap (c : CmdItem) (st r : Nat) : (s.complete c st r).snap = s.snap := by unfold State.complete; split <;> simp only [State.finish_snap, State.undefinedUse_snap]
@[simp] theorem State.complete_spoke (c : CmdItem) (st r : Nat) (j : Nat) : (s.complete c st r).spoke j = s.spoke j := by unfold State.complete; split <;> simp only [State.finish_spoke, State.undefinedUse_spoke]
@[simp] theorem State.complete_look (c : CmdItem) (st r : Nat) (j : Nat) : (s.complete c st r).look j = s.look j := by unfold State.complete; split <;> simp only [State.finish_look, State.undefinedUse_look]
@[simp] theorem State.complete_modu (c : CmdItem) (st r : Nat) (j : Nat) : (s.complete c st r).modu j = s.modu j := by unfold State.complete; split <;> simp only [State.finish_modu, State.undefinedUse_modu]
@[simp] theorem State.complete_sw (c : CmdItem) (st r : Nat) (j : Nat) : (s.complete c st r).sw j = s.sw j := by unfold State.complete; split <;> simp only [State.finish_sw, State.undefinedUse_sw]
@[simp] theorem State.complete_trig (c : CmdItem) (st r : Nat) (j : Nat) : (s.complete c st r).trig j = s.trig j := by unfold State.complete; split <;> simp only [State.finish_trig, State.undefinedUse_trig]
@[simp] theorem State.complete_strm (c : CmdItem) (st r : Nat) (j : Nat) : (s.complete c st r).strm j = s.strm j := by unfold State.complete; split <;> simp only [State.finish_strm, State.undefinedUse_strm]
@[simp] theorem State.complete_stall (c : CmdItem) (st r : Nat) (j : Nat) : (s.complete c st r).stall j = s.stall j := by unfold State.complete; split <;> simp only [State.finish_stall, State.undefinedUse_stall]
@[simp] theorem State.complete_job (c : CmdItem) (st r : Nat) (j : Nat) : (s.complete c st r).job j = s.job j := by unfold State.complete; split <;> simp only [State.finish_job, State.undefinedUse_job]
@[simp] theorem State.complete_engine (c : CmdItem) (st r : Nat) (j : Nat) : (s.complete c st r).engine j = s.engine j := by unfold State.complete; split <;> simp only [State.finish_engine, State.undefinedUse_engine]
@[simp] theorem State.complete_laceOf (c : CmdItem) (st r : Nat) (j : Nat) : (s.complete c st r).laceOf j = s.laceOf j := by unfold State.complete; split <;> simp only [State.finish_laceOf, State.undefinedUse_laceOf]
@[simp] theorem State.complete_ring (c : CmdItem) (st r : Nat) (j : Nat) : (s.complete c st r).ring j = s.ring j := by unfold State.complete; split <;> simp only [State.finish_ring, State.undefinedUse_ring]
@[simp] theorem State.complete_window (c : CmdItem) (st r : Nat) (j : Nat) : (s.complete c st r).window j = s.window j := by unfold State.complete; split <;> simp only [State.finish_window, State.undefinedUse_window]
@[simp] theorem State.complete_lane (c : CmdItem) (st r : Nat) (j : Nat) : (s.complete c st r).lane j = s.lane j := by unfold State.complete; split <;> simp only [State.finish_lane, State.undefinedUse_lane]
@[simp] theorem State.complete_pad (c : CmdItem) (st r : Nat) : (s.complete c st r).mem.pad = s.mem.pad := by unfold State.complete; split <;> simp only [State.finish_pad, State.undefinedUse_mem]
@[simp] theorem State.complete_banks (c : CmdItem) (st r : Nat) : (s.complete c st r).mem.banks = s.mem.banks := by unfold State.complete; split <;> simp only [State.finish_banks, State.undefinedUse_mem]

/-! ### `startLong` -/

@[simp] theorem State.startLong_pending (c : CmdItem) (op : LongOp) : (s.startLong c op).pending = s.pending := by unfold State.startLong; split <;> simp only [State.upCmd_pending, State.undefinedUse_pending]
@[simp] theorem State.startLong_freeCount (c : CmdItem) (op : LongOp) : (s.startLong c op).freeCount = s.freeCount := by unfold State.startLong; split <;> simp only [State.upCmd_freeCount, State.undefinedUse_freeCount]
@[simp] theorem State.startLong_out (c : CmdItem) (op : LongOp) : (s.startLong c op).out = s.out := by unfold State.startLong; split <;> simp only [State.upCmd_out, State.undefinedUse_out]
@[simp] theorem State.startLong_glb (c : CmdItem) (op : LongOp) : (s.startLong c op).glb = s.glb := by unfold State.startLong; split <;> simp only [State.upCmd_glb, State.undefinedUse_glb]
@[simp] theorem State.startLong_tmb (c : CmdItem) (op : LongOp) : (s.startLong c op).tmb = s.tmb := by unfold State.startLong; split <;> simp only [State.upCmd_tmb, State.undefinedUse_tmb]
@[simp] theorem State.startLong_cfg (c : CmdItem) (op : LongOp) : (s.startLong c op).cfg = s.cfg := by unfold State.startLong; split <;> simp only [State.upCmd_cfg, State.undefinedUse_cfg]
@[simp] theorem State.startLong_path (c : CmdItem) (op : LongOp) : (s.startLong c op).path = s.path := by unfold State.startLong; split <;> simp only [State.upCmd_path, State.undefinedUse_path]
@[simp] theorem State.startLong_lace (c : CmdItem) (op : LongOp) : (s.startLong c op).lace = s.lace := by unfold State.startLong; split <;> simp only [State.upCmd_lace, State.undefinedUse_lace]
@[simp] theorem State.startLong_crier (c : CmdItem) (op : LongOp) : (s.startLong c op).crier = s.crier := by unfold State.startLong; split <;> simp only [State.upCmd_crier, State.undefinedUse_crier]
@[simp] theorem State.startLong_host (c : CmdItem) (op : LongOp) : (s.startLong c op).host = s.host := by unfold State.startLong; split <;> simp only [State.upCmd_host, State.undefinedUse_host]
@[simp] theorem State.startLong_mem (c : CmdItem) (op : LongOp) : (s.startLong c op).mem = s.mem := by unfold State.startLong; split <;> simp only [State.upCmd_mem, State.undefinedUse_mem]
@[simp] theorem State.startLong_cal (c : CmdItem) (op : LongOp) : (s.startLong c op).cal = s.cal := by unfold State.startLong; split <;> simp only [State.upCmd_cal, State.undefinedUse_cal]
@[simp] theorem State.startLong_hlt (c : CmdItem) (op : LongOp) : (s.startLong c op).hlt = s.hlt := by unfold State.startLong; split <;> simp only [State.upCmd_hlt, State.undefinedUse_hlt]
@[simp] theorem State.startLong_lnk (c : CmdItem) (op : LongOp) : (s.startLong c op).lnk = s.lnk := by unfold State.startLong; split <;> simp only [State.upCmd_lnk, State.undefinedUse_lnk]
@[simp] theorem State.startLong_tdm (c : CmdItem) (op : LongOp) : (s.startLong c op).tdm = s.tdm := by unfold State.startLong; split <;> simp only [State.upCmd_tdm, State.undefinedUse_tdm]
@[simp] theorem State.startLong_ldr (c : CmdItem) (op : LongOp) : (s.startLong c op).ldr = s.ldr := by unfold State.startLong; split <;> simp only [State.upCmd_ldr, State.undefinedUse_ldr]
@[simp] theorem State.startLong_snap (c : CmdItem) (op : LongOp) : (s.startLong c op).snap = s.snap := by unfold State.startLong; split <;> simp only [State.upCmd_snap, State.undefinedUse_snap]
@[simp] theorem State.startLong_spoke (c : CmdItem) (op : LongOp) (j : Nat) : (s.startLong c op).spoke j = s.spoke j := by unfold State.startLong; split <;> simp only [State.upCmd_spoke, State.undefinedUse_spoke]
@[simp] theorem State.startLong_look (c : CmdItem) (op : LongOp) (j : Nat) : (s.startLong c op).look j = s.look j := by unfold State.startLong; split <;> simp only [State.upCmd_look, State.undefinedUse_look]
@[simp] theorem State.startLong_modu (c : CmdItem) (op : LongOp) (j : Nat) : (s.startLong c op).modu j = s.modu j := by unfold State.startLong; split <;> simp only [State.upCmd_modu, State.undefinedUse_modu]
@[simp] theorem State.startLong_sw (c : CmdItem) (op : LongOp) (j : Nat) : (s.startLong c op).sw j = s.sw j := by unfold State.startLong; split <;> simp only [State.upCmd_sw, State.undefinedUse_sw]
@[simp] theorem State.startLong_trig (c : CmdItem) (op : LongOp) (j : Nat) : (s.startLong c op).trig j = s.trig j := by unfold State.startLong; split <;> simp only [State.upCmd_trig, State.undefinedUse_trig]
@[simp] theorem State.startLong_strm (c : CmdItem) (op : LongOp) (j : Nat) : (s.startLong c op).strm j = s.strm j := by unfold State.startLong; split <;> simp only [State.upCmd_strm, State.undefinedUse_strm]
@[simp] theorem State.startLong_stall (c : CmdItem) (op : LongOp) (j : Nat) : (s.startLong c op).stall j = s.stall j := by unfold State.startLong; split <;> simp only [State.upCmd_stall, State.undefinedUse_stall]
@[simp] theorem State.startLong_job (c : CmdItem) (op : LongOp) (j : Nat) : (s.startLong c op).job j = s.job j := by unfold State.startLong; split <;> simp only [State.upCmd_job, State.undefinedUse_job]
@[simp] theorem State.startLong_engine (c : CmdItem) (op : LongOp) (j : Nat) : (s.startLong c op).engine j = s.engine j := by unfold State.startLong; split <;> simp only [State.upCmd_engine, State.undefinedUse_engine]
@[simp] theorem State.startLong_laceOf (c : CmdItem) (op : LongOp) (j : Nat) : (s.startLong c op).laceOf j = s.laceOf j := by unfold State.startLong; split <;> simp only [State.upCmd_laceOf, State.undefinedUse_laceOf]
@[simp] theorem State.startLong_que (c : CmdItem) (op : LongOp) (j : Nat) : (s.startLong c op).que j = s.que j := by unfold State.startLong; split <;> simp only [State.upCmd_que, State.undefinedUse_que]
@[simp] theorem State.startLong_ring (c : CmdItem) (op : LongOp) (j : Nat) : (s.startLong c op).ring j = s.ring j := by unfold State.startLong; split <;> simp only [State.upCmd_ring, State.undefinedUse_ring]
@[simp] theorem State.startLong_bank (c : CmdItem) (op : LongOp) (j : Nat) : (s.startLong c op).bank j = s.bank j := by unfold State.startLong; split <;> simp only [State.upCmd_bank, State.undefinedUse_bank]
@[simp] theorem State.startLong_memUnit (c : CmdItem) (op : LongOp) (j : Nat) : (s.startLong c op).memUnit j = s.memUnit j := by unfold State.startLong; split <;> simp only [State.upCmd_memUnit, State.undefinedUse_memUnit]
@[simp] theorem State.startLong_window (c : CmdItem) (op : LongOp) (j : Nat) : (s.startLong c op).window j = s.window j := by unfold State.startLong; split <;> simp only [State.upCmd_window, State.undefinedUse_window]
@[simp] theorem State.startLong_lane (c : CmdItem) (op : LongOp) (j : Nat) : (s.startLong c op).lane j = s.lane j := by unfold State.startLong; split <;> simp only [State.upCmd_lane, State.undefinedUse_lane]

/-! ### `endLong` -/

@[simp] theorem State.endLong_pending (l : LongCmd) (st r : Nat) : (s.endLong l st r).pending = s.pending := by unfold State.endLong; rw [State.finish_pending, State.upCmd_pending]
@[simp] theorem State.endLong_ub (l : LongCmd) (st r : Nat) : (s.endLong l st r).ub = s.ub := by unfold State.endLong; rw [State.finish_ub, State.upCmd_ub]
@[simp] theorem State.endLong_freeCount (l : LongCmd) (st r : Nat) : (s.endLong l st r).freeCount = s.freeCount := by unfold State.endLong; rw [State.finish_freeCount, State.upCmd_freeCount]
@[simp] theorem State.endLong_tmb (l : LongCmd) (st r : Nat) : (s.endLong l st r).tmb = s.tmb := by unfold State.endLong; rw [State.finish_tmb, State.upCmd_tmb]
@[simp] theorem State.endLong_cfg (l : LongCmd) (st r : Nat) : (s.endLong l st r).cfg = s.cfg := by unfold State.endLong; rw [State.finish_cfg, State.upCmd_cfg]
@[simp] theorem State.endLong_path (l : LongCmd) (st r : Nat) : (s.endLong l st r).path = s.path := by unfold State.endLong; rw [State.finish_path, State.upCmd_path]
@[simp] theorem State.endLong_lace (l : LongCmd) (st r : Nat) : (s.endLong l st r).lace = s.lace := by unfold State.endLong; rw [State.finish_lace, State.upCmd_lace]
@[simp] theorem State.endLong_host (l : LongCmd) (st r : Nat) : (s.endLong l st r).host = s.host := by unfold State.endLong; rw [State.finish_host, State.upCmd_host]
@[simp] theorem State.endLong_cal (l : LongCmd) (st r : Nat) : (s.endLong l st r).cal = s.cal := by unfold State.endLong; rw [State.finish_cal, State.upCmd_cal]
@[simp] theorem State.endLong_hlt (l : LongCmd) (st r : Nat) : (s.endLong l st r).hlt = s.hlt := by unfold State.endLong; rw [State.finish_hlt, State.upCmd_hlt]
@[simp] theorem State.endLong_lnk (l : LongCmd) (st r : Nat) : (s.endLong l st r).lnk = s.lnk := by unfold State.endLong; rw [State.finish_lnk, State.upCmd_lnk]
@[simp] theorem State.endLong_tdm (l : LongCmd) (st r : Nat) : (s.endLong l st r).tdm = s.tdm := by unfold State.endLong; rw [State.finish_tdm, State.upCmd_tdm]
@[simp] theorem State.endLong_ldr (l : LongCmd) (st r : Nat) : (s.endLong l st r).ldr = s.ldr := by unfold State.endLong; rw [State.finish_ldr, State.upCmd_ldr]
@[simp] theorem State.endLong_snap (l : LongCmd) (st r : Nat) : (s.endLong l st r).snap = s.snap := by unfold State.endLong; rw [State.finish_snap, State.upCmd_snap]
@[simp] theorem State.endLong_spoke (l : LongCmd) (st r : Nat) (j : Nat) : (s.endLong l st r).spoke j = s.spoke j := by unfold State.endLong; rw [State.finish_spoke, State.upCmd_spoke]
@[simp] theorem State.endLong_look (l : LongCmd) (st r : Nat) (j : Nat) : (s.endLong l st r).look j = s.look j := by unfold State.endLong; rw [State.finish_look, State.upCmd_look]
@[simp] theorem State.endLong_modu (l : LongCmd) (st r : Nat) (j : Nat) : (s.endLong l st r).modu j = s.modu j := by unfold State.endLong; rw [State.finish_modu, State.upCmd_modu]
@[simp] theorem State.endLong_sw (l : LongCmd) (st r : Nat) (j : Nat) : (s.endLong l st r).sw j = s.sw j := by unfold State.endLong; rw [State.finish_sw, State.upCmd_sw]
@[simp] theorem State.endLong_trig (l : LongCmd) (st r : Nat) (j : Nat) : (s.endLong l st r).trig j = s.trig j := by unfold State.endLong; rw [State.finish_trig, State.upCmd_trig]
@[simp] theorem State.endLong_strm (l : LongCmd) (st r : Nat) (j : Nat) : (s.endLong l st r).strm j = s.strm j := by unfold State.endLong; rw [State.finish_strm, State.upCmd_strm]
@[simp] theorem State.endLong_stall (l : LongCmd) (st r : Nat) (j : Nat) : (s.endLong l st r).stall j = s.stall j := by unfold State.endLong; rw [State.finish_stall, State.upCmd_stall]
@[simp] theorem State.endLong_job (l : LongCmd) (st r : Nat) (j : Nat) : (s.endLong l st r).job j = s.job j := by unfold State.endLong; rw [State.finish_job, State.upCmd_job]
@[simp] theorem State.endLong_engine (l : LongCmd) (st r : Nat) (j : Nat) : (s.endLong l st r).engine j = s.engine j := by unfold State.endLong; rw [State.finish_engine, State.upCmd_engine]
@[simp] theorem State.endLong_laceOf (l : LongCmd) (st r : Nat) (j : Nat) : (s.endLong l st r).laceOf j = s.laceOf j := by unfold State.endLong; rw [State.finish_laceOf, State.upCmd_laceOf]
@[simp] theorem State.endLong_ring (l : LongCmd) (st r : Nat) (j : Nat) : (s.endLong l st r).ring j = s.ring j := by unfold State.endLong; rw [State.finish_ring, State.upCmd_ring]
@[simp] theorem State.endLong_window (l : LongCmd) (st r : Nat) (j : Nat) : (s.endLong l st r).window j = s.window j := by unfold State.endLong; rw [State.finish_window, State.upCmd_window]
@[simp] theorem State.endLong_lane (l : LongCmd) (st r : Nat) (j : Nat) : (s.endLong l st r).lane j = s.lane j := by unfold State.endLong; rw [State.finish_lane, State.upCmd_lane]
@[simp] theorem State.endLong_pad (l : LongCmd) (st r : Nat) : (s.endLong l st r).mem.pad = s.mem.pad := by unfold State.endLong; rw [State.finish_pad, State.upCmd_mem]
@[simp] theorem State.endLong_banks (l : LongCmd) (st r : Nat) : (s.endLong l st r).mem.banks = s.mem.banks := by unfold State.endLong; rw [State.finish_banks, State.upCmd_mem]

end Sys2Proof.Machine
end

