-- ==== Sys2Proof/Laws/Commands.lean ====
section
/-! SUPPORT. What commands, completions and notices do: one lemma for each shared operation. -/

namespace Sys2Proof.Machine

open Sys2Proof.Safety

/-- With a command of the command set at the front of the queue no item is skipped. -/
theorem skipUnknown_of_known {s : State} {c : CmdItem} (hq : s.cmd.queue.head? = some c) (hk : knownOpcode c.opcode.toNat = true) :
    s.skipUnknown = s := by
  have hb : s.cmd.queue.takeWhile (fun c => !knownOpcode c.opcode.toNat) = [] := by
    cases hl : s.cmd.queue with
    | nil => rfl
    | cons d r =>
      rw [hl] at hq; cases hq
      rw [List.takeWhile_cons, hk]; rfl
  unfold State.skipUnknown
  split
  · rfl
  · simp only [hb]; rfl

/-- A command that starts has its effect on the state whose queue it has left. -/
theorem start_of_starts {s : State} {op : Nat} {c : CmdItem} (h : Starts s op c) (f : CmdItem → State → State)
    (hk : knownOpcode op = true := by decide) : s.start op f = f c (taken s) := by
  obtain ⟨hq, ho, _, ha, _⟩ := h
  have hs := skipUnknown_of_known hq (by rw [ho]; exact hk)
  unfold State.start
  rw [hs]
  dsimp only
  cases hk : s.cmd.queue with
  | nil => rw [hk] at hq; cases hq
  | cons d rest =>
    rw [hk] at hq; cases hq
    have hh : ¬s.holds = true := by
      unfold State.accepts at ha
      unfold State.holds
      cases hc : s.ldr.coresHalted <;> cases hg : s.glb.state <;> simp [hc, hg] at ha ⊢
    have e : taken s = s.upCmd fun k => { k with queue := rest } := by
      unfold taken State.upCmd; simp only [hk, List.tail_cons]
    have ha' : (s.upCmd fun k => { k with queue := rest }).accepts op = true := ha
    simp only [ho, ne_eq, not_true_eq_false, hh, Bool.false_eq_true, or_self, if_false, ha', if_true, e]

/-- A command of the command set changes nothing while another, or none, is at the front. -/
theorem act_start {s : State} {op : Nat} {c : CmdItem} (h : Starts s op c) (f : CmdItem → State → State) (hu : (f c (taken s)).ub = none)
    (hk : knownOpcode op = true := by decide) : act s (fun s => s.start op f) = .next (f c (taken s)) := act_next (start_of_starts h f hk) hu

@[simp] theorem taken_que (s : State) (q : Nat) : (taken s).que q = s.que q := rfl
@[simp] theorem taken_mst (s : State) (m : Master) : (taken s).mst m = s.mst m := by cases m <;> rfl

theorem mst_congr {s t : State} (h : t.cmd = s.cmd) (m : Master) : t.mst m = s.mst m := by
  cases m <;> unfold State.mst <;> rw [h]

theorem loadBit_que (s : State) (c : CmdItem) (q : Nat) : (s.loadBit c).que q = s.que q := by unfold State.loadBit; split <;> first | rfl | exact State.intr_que ..
theorem loadBit_mst (s : State) (c : CmdItem) (m : Master) : (s.loadBit c).mst m = s.mst m := by unfold State.loadBit; split <;> first | rfl | exact mst_congr (State.intr_cmd ..) m

/-- The completion of a command stands in the journal of its master's queue, and its credit is free again. -/
theorem finish_completes (s : State) (c : CmdItem) (st r : Nat) : Completes s (s.finish c st r) c st r := by
  unfold State.finish
  dsimp only
  rw [loadBit_mst]
  unfold Completes cplQueue
  generalize (s.mst c.master).cplQ % 64 = q
  generalize hp : (s.loadBit c).post q false (masterNum c.master * 64 + q) (wordOf (c.cseq.toNat * 65536 + c.tag.toNat * 256 + st)) (wordOf (r % 2 ^ 32))
    (wordOf (r / 2 ^ 32)) = p
  have hpost : (p.que q).posted = (s.que q).posted + 1 := by rw [← hp, State.post_posted_self, loadBit_que]
  have hitem : itemAt p q (s.que q).posted = completionItem q c st r (s.que q).posted := by
    rw [← hp, show (s.que q).posted = ((s.loadBit c).que q).posted by rw [loadBit_que], itemAt_post_self]; rfl
  have hm : ∀ m, p.mst m = s.mst m := fun m => by rw [← hp, mst_congr (State.post_cmd ..), loadBit_mst]
  refine ⟨⟨(s.que q).posted, Nat.le_refl _, ?_, ?_⟩, ?_⟩
  · rw [State.upMst_que]
    show _ < (State.que _ q).posted
    split
    · rw [State.upQue_que_self]; show _ < (p.que q).posted; omega
    · rw [hpost]; exact Nat.lt_succ_self _
  · rw [itemAt_congr (t := State.upMst _ _ _) _ _ (congrArg Mem.store (State.upMst_mem ..))]
    split
    · rw [itemAt_upQue]; exact hitem
    · exact hitem
  · rw [State.upMst_self]
    split
    · show ((State.upQue _ _ _).mst _).inFlight - 1 = _; rw [mst_congr (State.upQue_cmd ..), hm]
    · show (p.mst _).inFlight - 1 = _; rw [hm]

theorem complete_eq {s : State} {c : CmdItem} {st r : Nat} (h : c.reservedClear = true) : s.complete c st r = s.finish c st r := by
  unfold State.complete; rw [if_pos (Or.inr h)]

theorem complete_eq_of_ne {s : State} {c : CmdItem} {st r : Nat} (h : st ≠ 0) : s.complete c st r = s.finish c st r := by
  unfold State.complete; rw [if_pos (Or.inl h)]

theorem completes_from {s u t : State} {c : CmdItem} {st r : Nat} (h : Completes u t c st r) (hq : ∀ q, u.que q = s.que q)
    (hm : u.mst c.master = s.mst c.master) : Completes s t c st r := by
  unfold Completes cplQueue at *
  unfold Posts at *
  simp only [hq, hm] at h
  exact h

/-- A completion after an effect that posts nothing itself. -/
theorem complete_completes {s u : State} {c : CmdItem} {st r : Nat} (h : c.reservedClear = true) (hq : ∀ q, u.que q = s.que q)
    (hm : u.mst c.master = s.mst c.master) : Completes s (u.complete c st r) c st r := by
  rw [complete_eq h]; exact completes_from (finish_completes u c st r) hq hm

theorem complete_posts {s u : State} {c : CmdItem} {st r : Nat} (h : c.reservedClear = true) (hq : ∀ q, (s.que q).posted ≤ (u.que q).posted)
    (hm : u.mst c.master = s.mst c.master) : Posts s (u.complete c st r) (cplQueue s c.master) (completionItem (cplQueue s c.master) c st r) := by
  rw [complete_eq h]
  obtain ⟨⟨n, h1, h2, h3⟩, _⟩ := finish_completes u c st r
  have e : cplQueue u c.master = cplQueue s c.master := by unfold cplQueue; rw [hm]
  rw [e] at h1 h2 h3
  exact ⟨n, Nat.le_trans (hq _) h1, h2, h3⟩

theorem complete_ub {s : State} {c : CmdItem} {st r : Nat} (h : c.reservedClear = true) : (s.complete c st r).ub = s.ub := by
  rw [complete_eq h, State.finish_ub]

theorem post_posts (s : State) (q low : Nat) (al : Bool) (x y z : Word) :
    Posts s (s.post q al low x y z) q fun n => { w0 := wordOf (n % 65536 * 65536 + low), w1 := x, w2 := y, w3 := z } :=
  ⟨(s.que q).posted, Nat.le_refl _, by rw [State.post_posted_self]; exact Nat.lt_succ_self _, itemAt_post_self ..⟩

/-- What was posted stands while neither the queues' counts nor the store change. -/
theorem posts_congr {s t u : State} {q : Nat} {i : Nat → Item} (h : Posts s t q i) (hq : (u.que q).posted = (t.que q).posted)
    (hm : u.mem.store = t.mem.store) : Posts s u q i := by
  obtain ⟨n, h1, h2, h3⟩ := h
  exact ⟨n, h1, by rw [hq]; exact h2, by rw [itemAt_congr _ _ hm]; exact h3⟩

/-- A notice is one item posted; one that reports autonomous acts counts them too. -/
theorem notify_eq (s : State) (q code id detail arg : Nat) : s.notify q code id detail arg = s.post q (alarmClass code) (code * 256 + q)
    (wordOf (satField 16 detail * 65536 + satField 16 id)) (wordOf (arg % 2 ^ 32)) (wordOf (arg / 2 ^ 32)) := by
  unfold State.notify
  simp only [if_true]

theorem notify_acts_eq (s : State) (q code id detail arg acts : Nat) (ha : acts ≠ 0) : s.notify q code id detail arg acts =
    (s.notify q code id detail arg).upCrier fun c => { c with acts := satAdd c.acts acts, lastAct := q * 65536 + (s.que q).posted % 65536 } := by
  rw [notify_eq]
  unfold State.notify
  simp only [ha, if_false]

theorem acts_posts {s t : State} {q n k : Nat} {i : Nat → Item} (h : Posts s t q i) :
    Posts s (t.upCrier fun c => { c with acts := n, lastAct := k }) q i := h

/-- A notice stands in the journal of its queue. -/
theorem notify_notices (s : State) (q code id detail arg acts : Nat) : Notices s (s.notify q code id detail arg acts) q code id detail arg := by
  have h : Notices s (s.notify q code id detail arg) q code id detail arg := by
    rw [notify_eq]
    unfold Notices
    have e : noticeItem q code id detail arg = fun n => { w0 := wordOf (n % 65536 * 65536 + (code * 256 + q)), w1 := wordOf (satField 16 detail * 65536 + satField 16 id), w2 := wordOf (arg % 2 ^ 32), w3 := wordOf (arg / 2 ^ 32) } := by
      funext n
      unfold noticeItem
      rfl
    rw [e]
    exact post_posts ..
  by_cases ha : acts = 0
  · rw [ha]; exact h
  · rw [notify_acts_eq _ _ _ _ _ _ _ ha]
    exact acts_posts h

/-! ### Completions alone -/

theorem loadBit_of_ne {s : State} {c : CmdItem} (h : c.opcode.toNat ≠ 0x10) : s.loadBit c = s := by
  unfold State.loadBit
  rw [if_neg]
  intro e
  rw [e] at h
  exact h rfl

/-- A completion of any command but LOAD_STRUCTURE touches the journal, the queues and its master's record alone. -/
theorem finish_frame_plain {M : Nat} {s : State} {c : CmdItem} {st r : Nat} (h : c.opcode.toNat ≠ 0x10) (hM : 76546048 &&& M = 76546048) :
    blank M (s.finish c st r) = blank M s := blank_mono hM (by
  unfold State.finish
  rw [loadBit_of_ne h]
  dsimp only
  refine (upMst_frame (m := 76546048) (by decide) (Or.inr ?_)).trans ?_
  · intro r
    rfl
  split
  · exact (upQue_frame (by decide)).trans (State.post_frame (by decide))
  · exact State.post_frame (by decide))

theorem complete_frame_plain {M : Nat} {s : State} {c : CmdItem} {st r : Nat} (hc : c.reservedClear = true) (h : c.opcode.toNat ≠ 0x10)
    (hM : 76546048 &&& M = 76546048) : blank M (s.complete c st r) = blank M s := by
  rw [complete_eq hc]
  exact finish_frame_plain h hM

theorem taken_frame {M : Nat} {s : State} (hM : 2097152 &&& M = 2097152) : blank M (taken s) = blank M s := by
  unfold taken
  exact upCmd_frame rfl rfl rfl rfl (Or.inl (bit_mono hM 21 (by decide))) (Or.inr rfl)

/-- A command that only completes. -/
theorem completesOnly_of {i : Instr} {s : State} {op : Nat} {c : CmdItem} {st : Nat} {f : CmdItem → State → State} (h : Starts s op c)
    (ho : op ≠ 0x10) (hi : exec i s = act s fun s => s.start op f) (hf : f c (taken s) = (taken s).complete c st)
    (hk : knownOpcode op = true := by decide) : CompletesOnly i s c st := by
  have ho : c.opcode.toNat ≠ 0x10 := by rw [h.2.1]; exact ho
  have hu : (f c (taken s)).ub = none := by rw [hf, complete_ub h.2.2.1]; exact h.2.2.2.2
  refine ⟨_, hi.trans (act_start h f hu hk), ?_, ?_⟩
  · rw [hf]
    exact complete_completes h.2.2.1 (fun _ => rfl) rfl
  · rw [hf]
    exact unchangedBut_of_blank (M := 78643200) ((complete_frame_plain h.2.2.1 ho (by decide)).trans (taken_frame (by decide)))
      (by intro p; cases p <;> decide)

/-! ### Fault events -/

/-- A fault event that no window watches is counted in its class alone. -/
theorem faultEvent_unwatched {s : State} {cls inst : Nat} (h : s.st.watching cls inst = []) :
    s.faultEvent cls inst = s.upHlt fun h => { h with classes := h.classes.upd 0 cls satInc } := by
  have e : (s.upHlt fun h => { h with classes := h.classes.upd 0 cls satInc }).st = s.st := rfl
  unfold State.faultEvent
  simp only [e, h]
  rfl

theorem raised_faultEvent (s : State) (cls inst : Nat) : Raised s (s.faultEvent cls inst) cls inst := by
  have e : (s.upHlt fun h => { h with classes := h.classes.upd 0 cls satInc }).st = s.st := rfl
  unfold State.faultEvent Raised
  by_cases h : s.st.watching cls inst = []
  · simp only [e, h, if_true, List.append_nil]
    exact ⟨SMap.get_upd_self _ _ _ _, rfl⟩
  · simp only [e, h, if_false]
    exact ⟨SMap.get_upd_self _ _ _ _, rfl⟩

end Sys2Proof.Machine
end

