-- ==== Sys2Proof/Laws/FrameTimebase.lean ====
section
/-! SUPPORT. Frames of the operations of Machine/Timebase.lean: what each leaves as it was. -/

namespace Sys2Proof.Machine

theorem State.schedule_frame {M : Nat} {s : State} {k : SchedKind} {target : Nat} (hM : 128 &&& M = 128) : blank M (State.schedule s k target) = blank M s := blank_mono hM (by
  unfold State.schedule
  repeat'
    first
    | with_reducible rfl
    | with_reducible refine (upTmb_frame ?_ ?_).trans ?_
    | exact Or.inl rfl
    | exact Or.inr rfl
    | exact Or.inr fun _ => rfl
    | exact (rfl : (_ : MasterRec) = _)
    | split
    | dsimp only)

theorem State.unschedule_frame {M : Nat} {s : State} {k : SchedKind} (hM : 128 &&& M = 128) : blank M (State.unschedule s k) = blank M s := blank_mono hM (by
  unfold State.unschedule
  repeat'
    first
    | with_reducible rfl
    | with_reducible refine (upTmb_frame ?_ ?_).trans ?_
    | exact Or.inl rfl
    | exact Or.inr rfl
    | exact Or.inr fun _ => rfl
    | exact (rfl : (_ : MasterRec) = _)
    | split
    | dsimp only)

theorem State.upSched_frame {M : Nat} {s : State} {id : Nat} {f : SchedEvent → SchedEvent} (hM : 128 &&& M = 128) : blank M (State.upSched s id f) = blank M s := blank_mono hM (by
  unfold State.upSched
  repeat'
    first
    | with_reducible rfl
    | with_reducible refine (upTmb_frame ?_ ?_).trans ?_
    | exact Or.inl rfl
    | exact Or.inr rfl
    | exact Or.inr fun _ => rfl
    | exact (rfl : (_ : MasterRec) = _)
    | with_reducible refine ite_both_frame ?_ ?_
    | with_reducible refine ite_both_fst_frame ?_ ?_
    | split
    | dsimp only)

theorem fireEvent_frame {M : Nat} {id : Nat} {s : State} (hM : 128 &&& M = 128) : blank M (fireEvent id s) = blank M s := blank_mono hM (by
  unfold fireEvent
  repeat'
    first
    | with_reducible rfl
    | with_reducible refine (State.upSched_frame (by decide)).trans ?_
    | with_reducible refine ite_both_frame ?_ ?_
    | with_reducible refine ite_both_fst_frame ?_ ?_
    | split
    | dsimp only)

theorem armEvent_frame {M : Nat} {id : Nat} {s : State} (hM : 68157568 &&& M = 68157568) : blank M (armEvent id s) = blank M s := blank_mono hM (by
  unfold armEvent
  repeat'
    first
    | with_reducible rfl
    | with_reducible refine (State.upSched_frame (by decide)).trans ?_
    | with_reducible refine (State.notify_frame (by decide)).trans ?_
    | with_reducible refine ite_both_frame ?_ ?_
    | with_reducible refine ite_both_fst_frame ?_ ?_
    | split
    | dsimp only)

theorem State.ppsPassed_frame {M : Nat} {s : State} (hM : 128 &&& M = 128) : blank M (State.ppsPassed s) = blank M s := blank_mono hM (by
  unfold State.ppsPassed
  repeat'
    first
    | with_reducible rfl
    | with_reducible refine (upTmb_frame ?_ ?_).trans ?_
    | exact Or.inl rfl
    | exact Or.inr rfl
    | exact Or.inr fun _ => rfl
    | exact (rfl : (_ : MasterRec) = _)
    | with_reducible refine ite_both_frame ?_ ?_
    | with_reducible refine ite_both_fst_frame ?_ ?_
    | split
    | dsimp only)

theorem State.restartAt_frame {M : Nat} {s : State} (hM : 128 &&& M = 128) : blank M (State.restartAt s) = blank M s := blank_mono hM (by
  unfold State.restartAt
  repeat'
    first
    | with_reducible rfl
    | with_reducible refine (upTmb_frame ?_ ?_).trans ?_
    | exact Or.inl rfl
    | exact Or.inr rfl
    | exact Or.inr fun _ => rfl
    | exact (rfl : (_ : MasterRec) = _)
    | with_reducible refine ite_both_frame ?_ ?_
    | with_reducible refine ite_both_fst_frame ?_ ?_
    | split
    | dsimp only)

theorem State.stepTime_frame {M : Nat} {s : State} {d : Int} (hM : 128 &&& M = 128) : blank M (State.stepTime s d) = blank M s := blank_mono hM (by
  unfold State.stepTime
  repeat'
    first
    | with_reducible rfl
    | with_reducible refine (upTmb_frame ?_ ?_).trans ?_
    | with_reducible refine (State.ppsPassed_frame (by decide)).trans ?_
    | with_reducible refine (State.restartAt_frame (by decide)).trans ?_
    | exact Or.inl rfl
    | exact Or.inr rfl
    | exact Or.inr fun _ => rfl
    | exact (rfl : (_ : MasterRec) = _)
    | with_reducible refine ite_both_frame ?_ ?_
    | with_reducible refine ite_both_fst_frame ?_ ?_
    | split
    | dsimp only)

theorem State.freeStart_frame {M : Nat} {s : State} (hM : 128 &&& M = 128) : blank M (State.freeStart s) = blank M s := blank_mono hM (by
  unfold State.freeStart
  repeat'
    first
    | with_reducible rfl
    | with_reducible refine (upTmb_frame ?_ ?_).trans ?_
    | exact Or.inl rfl
    | exact Or.inr rfl
    | exact Or.inr fun _ => rfl
    | exact (rfl : (_ : MasterRec) = _)
    | with_reducible refine ite_both_frame ?_ ?_
    | with_reducible refine ite_both_fst_frame ?_ ?_
    | split
    | dsimp only)

theorem State.lock_frame {M : Nat} {s : State} (hM : 68157588 &&& M = 68157588) : blank M (State.lock s) = blank M s := blank_mono hM (by
  unfold State.lock
  repeat'
    first
    | with_reducible rfl
    | with_reducible refine (upTmb_frame ?_ ?_).trans ?_
    | with_reducible refine (State.setRate_frame (by decide)).trans ?_
    | with_reducible refine (State.enterTime_frame (by decide)).trans ?_
    | with_reducible refine (State.notify_frame (by decide)).trans ?_
    | exact Or.inl rfl
    | exact Or.inr rfl
    | exact Or.inr fun _ => rfl
    | exact (rfl : (_ : MasterRec) = _)
    | with_reducible refine ite_both_frame ?_ ?_
    | with_reducible refine ite_both_fst_frame ?_ ?_
    | split
    | dsimp only)

theorem State.acquire_frame {M : Nat} {s : State} {rebase : Bool} (hM : 148 &&& M = 148) : blank M (State.acquire s rebase) = blank M s := blank_mono hM (by
  unfold State.acquire
  repeat'
    first
    | with_reducible rfl
    | with_reducible refine (upTmb_frame ?_ ?_).trans ?_
    | with_reducible refine (State.enterTime_frame (by decide)).trans ?_
    | exact Or.inl rfl
    | exact Or.inr rfl
    | exact Or.inr fun _ => rfl
    | exact (rfl : (_ : MasterRec) = _)
    | with_reducible refine ite_both_frame ?_ ?_
    | with_reducible refine ite_both_fst_frame ?_ ?_
    | split
    | dsimp only)

theorem State.sourceValid_frame {M : Nat} {s : State} (hM : 68157588 &&& M = 68157588) : blank M (State.sourceValid s) = blank M s := blank_mono hM (by
  unfold State.sourceValid
  repeat'
    first
    | with_reducible rfl
    | with_reducible refine (upTmb_frame ?_ ?_).trans ?_
    | with_reducible refine (State.acquire_frame (by decide)).trans ?_
    | with_reducible refine (State.notify_frame (by decide)).trans ?_
    | exact Or.inl rfl
    | exact Or.inr rfl
    | exact Or.inr fun _ => rfl
    | exact (rfl : (_ : MasterRec) = _)
    | with_reducible refine ite_both_frame ?_ ?_
    | with_reducible refine ite_both_fst_frame ?_ ?_
    | split
    | dsimp only)

theorem State.sourceLost_frame {M : Nat} {s : State} (hM : 68157588 &&& M = 68157588) : blank M (State.sourceLost s) = blank M s := blank_mono hM (by
  unfold State.sourceLost
  repeat'
    first
    | with_reducible rfl
    | with_reducible refine (upTmb_frame ?_ ?_).trans ?_
    | with_reducible refine (State.enterTime_frame (by decide)).trans ?_
    | with_reducible refine (State.enterHoldover_frame (by decide)).trans ?_
    | exact Or.inl rfl
    | exact Or.inr rfl
    | exact Or.inr fun _ => rfl
    | exact (rfl : (_ : MasterRec) = _)
    | with_reducible refine ite_both_frame ?_ ?_
    | with_reducible refine ite_both_fst_frame ?_ ?_
    | split
    | dsimp only)

theorem State.servoStep_frame {M : Nat} {s : State} (hM : 128 &&& M = 128) : blank M (State.servoStep s) = blank M s := blank_mono hM (by
  unfold State.servoStep
  repeat'
    first
    | with_reducible rfl
    | with_reducible refine (upTmb_frame ?_ ?_).trans ?_
    | with_reducible refine (State.setRate_frame (by decide)).trans ?_
    | exact Or.inl rfl
    | exact Or.inr rfl
    | exact Or.inr fun _ => rfl
    | exact (rfl : (_ : MasterRec) = _)
    | with_reducible refine ite_both_frame ?_ ?_
    | with_reducible refine ite_both_fst_frame ?_ ?_
    | split
    | dsimp only)

theorem State.removeOffset_frame {M : Nat} {s : State} {d : Int} (hM : 128 &&& M = 128) : blank M (State.removeOffset s d) = blank M s := blank_mono hM (by
  unfold State.removeOffset
  repeat'
    first
    | with_reducible rfl
    | with_reducible refine (upTmb_frame ?_ ?_).trans ?_
    | with_reducible refine (State.stepTime_frame (by decide)).trans ?_
    | with_reducible refine (State.setRate_frame (by decide)).trans ?_
    | exact Or.inl rfl
    | exact Or.inr rfl
    | exact Or.inr fun _ => rfl
    | exact (rfl : (_ : MasterRec) = _)
    | with_reducible refine ite_both_frame ?_ ?_
    | with_reducible refine ite_both_fst_frame ?_ ?_
    | split
    | dsimp only)

theorem State.acceptMeasure_frame {M : Nat} {s : State} {d : Int} (hM : 68157588 &&& M = 68157588) : blank M (State.acceptMeasure s d) = blank M s := blank_mono hM (by
  unfold State.acceptMeasure
  repeat'
    first
    | with_reducible rfl
    | with_reducible refine (upTmb_frame ?_ ?_).trans ?_
    | with_reducible refine (State.stepTime_frame (by decide)).trans ?_
    | with_reducible refine (State.lock_frame (by decide)).trans ?_
    | with_reducible refine (State.acquire_frame (by decide)).trans ?_
    | with_reducible refine (State.servoStep_frame (by decide)).trans ?_
    | with_reducible refine (State.removeOffset_frame (by decide)).trans ?_
    | exact Or.inl rfl
    | exact Or.inr rfl
    | exact Or.inr fun _ => rfl
    | exact (rfl : (_ : MasterRec) = _)
    | with_reducible refine ite_both_frame ?_ ?_
    | with_reducible refine ite_both_fst_frame ?_ ?_
    | split
    | dsimp only)

theorem State.discardMeasure_frame {M : Nat} {s : State} {d : Int} (hM : 536871040 &&& M = 536871040) : blank M (State.discardMeasure s d) = blank M s := blank_mono hM (by
  unfold State.discardMeasure
  repeat'
    first
    | with_reducible rfl
    | with_reducible refine (upTmb_frame ?_ ?_).trans ?_
    | with_reducible refine (State.removeOffset_frame (by decide)).trans ?_
    | with_reducible refine (State.faultEvent_frame (by decide)).trans ?_
    | exact Or.inl rfl
    | exact Or.inr rfl
    | exact Or.inr fun _ => rfl
    | exact (rfl : (_ : MasterRec) = _)
    | with_reducible refine ite_both_frame ?_ ?_
    | with_reducible refine ite_both_fst_frame ?_ ?_
    | split
    | dsimp only)

theorem State.takeMeasure_frame {M : Nat} {s : State} {d : Int} (hM : 605028500 &&& M = 605028500) : blank M (State.takeMeasure s d) = blank M s := blank_mono hM (by
  unfold State.takeMeasure
  repeat'
    first
    | with_reducible rfl
    | with_reducible refine (State.acceptMeasure_frame (by decide)).trans ?_
    | with_reducible refine (State.discardMeasure_frame (by decide)).trans ?_
    | with_reducible refine ite_both_frame ?_ ?_
    | with_reducible refine ite_both_fst_frame ?_ ?_
    | split
    | dsimp only)

theorem State.measure_frame {M : Nat} {s : State} {d : Int} (hM : 605028500 &&& M = 605028500) : blank M (State.measure s d) = blank M s := blank_mono hM (by
  unfold State.measure
  repeat'
    first
    | with_reducible rfl
    | with_reducible refine (upTmb_frame ?_ ?_).trans ?_
    | with_reducible refine (State.takeMeasure_frame (by decide)).trans ?_
    | exact Or.inl rfl
    | exact Or.inr rfl
    | exact Or.inr fun _ => rfl
    | exact (rfl : (_ : MasterRec) = _)
    | with_reducible refine ite_both_frame ?_ ?_
    | with_reducible refine ite_both_fst_frame ?_ ?_
    | split
    | dsimp only)

theorem State.consumeBuffered_frame {M : Nat} {s : State} (hM : 605028500 &&& M = 605028500) : blank M (State.consumeBuffered s) = blank M s := blank_mono hM (by
  unfold State.consumeBuffered
  repeat'
    first
    | with_reducible rfl
    | with_reducible refine (upTmb_frame ?_ ?_).trans ?_
    | with_reducible refine (State.takeMeasure_frame (by decide)).trans ?_
    | with_reducible refine (forEach_frame fun _ _ => ?_).trans ?_
    | with_reducible refine (forEach_fst_frame fun _ _ => ?_).trans ?_
    | exact Or.inl rfl
    | exact Or.inr rfl
    | exact Or.inr fun _ => rfl
    | exact (rfl : (_ : MasterRec) = _)
    | split
    | dsimp only)

theorem State.setSlave_frame {M : Nat} {s : State} {p : Option Port} (hM : 68157568 &&& M = 68157568) : blank M (State.setSlave s p) = blank M s := blank_mono hM (by
  unfold State.setSlave
  repeat'
    first
    | with_reducible rfl
    | with_reducible refine (upPtp_frame (by decide)).trans ?_
    | with_reducible refine (upTmb_frame ?_ ?_).trans ?_
    | with_reducible refine (State.notify_frame (by decide)).trans ?_
    | exact Or.inl rfl
    | exact Or.inr rfl
    | exact Or.inr fun _ => rfl
    | exact (rfl : (_ : MasterRec) = _)
    | with_reducible refine ite_both_frame ?_ ?_
    | with_reducible refine ite_both_fst_frame ?_ ?_
    | split
    | dsimp only)

theorem State.selectPorts_frame {M : Nat} {s : State} (hM : 68157588 &&& M = 68157588) : blank M (State.selectPorts s) = blank M s := blank_mono hM (by
  unfold State.selectPorts
  repeat'
    first
    | with_reducible rfl
    | with_reducible refine (upPtp_frame (by decide)).trans ?_
    | with_reducible refine (State.sourceValid_frame (by decide)).trans ?_
    | with_reducible refine (State.sourceLost_frame (by decide)).trans ?_
    | with_reducible refine (State.setSlave_frame (by decide)).trans ?_
    | with_reducible refine ite_both_frame ?_ ?_
    | with_reducible refine ite_both_fst_frame ?_ ?_
    | split
    | dsimp only)

theorem finePhase_frame {M : Nat} {p : Port} {rate : Nat} {s : State} (hM : 128 &&& M = 128) : blank M (finePhase p rate s) = blank M s := blank_mono hM (by
  unfold finePhase
  repeat'
    first
    | with_reducible rfl
    | with_reducible refine (upPtp_frame (by decide)).trans ?_
    | with_reducible refine ite_both_frame ?_ ?_
    | with_reducible refine ite_both_fst_frame ?_ ?_
    | split
    | dsimp only)

theorem State.syncDone_frame {M : Nat} {s : State} {p : Port} {t1 : Int} {t2 : Int} (hM : 605028500 &&& M = 605028500) : blank M (State.syncDone s p t1 t2) = blank M s := blank_mono hM (by
  unfold State.syncDone
  repeat'
    first
    | with_reducible rfl
    | with_reducible refine (upPtp_frame (by decide)).trans ?_
    | with_reducible refine (State.sourceValid_frame (by decide)).trans ?_
    | with_reducible refine (State.measure_frame (by decide)).trans ?_
    | with_reducible refine ite_both_frame ?_ ?_
    | with_reducible refine ite_both_fst_frame ?_ ?_
    | split
    | dsimp only)

theorem receiveSync_frame {M : Nat} {p : Port} {h : PtpHdr} {frac : Nat} {twoStep : Bool} {origin : Int} {s : State} (hM : 605028500 &&& M = 605028500) : blank M (receiveSync p h frac twoStep origin s) = blank M s := blank_mono hM (by
  unfold receiveSync
  repeat'
    first
    | with_reducible rfl
    | with_reducible refine (upPtp_frame (by decide)).trans ?_
    | with_reducible refine (State.syncDone_frame (by decide)).trans ?_
    | with_reducible refine ite_both_frame ?_ ?_
    | with_reducible refine ite_both_fst_frame ?_ ?_
    | split
    | dsimp only)

theorem receiveFollowUp_frame {M : Nat} {p : Port} {h : PtpHdr} {origin : Int} {s : State} (hM : 605028500 &&& M = 605028500) : blank M (receiveFollowUp p h origin s) = blank M s := blank_mono hM (by
  unfold receiveFollowUp
  repeat'
    first
    | with_reducible rfl
    | with_reducible refine (State.syncDone_frame (by decide)).trans ?_
    | with_reducible refine ite_both_frame ?_ ?_
    | with_reducible refine ite_both_fst_frame ?_ ?_
    | split
    | dsimp only)

theorem State.sendPtp_frame {M : Nat} {s : State} {p : Port} {o : Out} (hM : 2147483652 &&& M = 2147483652) : blank M (State.sendPtp s p o) = blank M s := blank_mono hM (by
  unfold State.sendPtp
  repeat'
    first
    | with_reducible rfl
    | with_reducible refine (upPort_frame (by decide)).trans ?_
    | with_reducible refine (emit_frame (by decide)).trans ?_
    | with_reducible refine ite_both_frame ?_ ?_
    | with_reducible refine ite_both_fst_frame ?_ ?_
    | split
    | dsimp only)

theorem receiveDelayReq_frame {M : Nat} {p : Port} {h : PtpHdr} {frac : Nat} {s : State} (hM : 2147483652 &&& M = 2147483652) : blank M (receiveDelayReq p h frac s) = blank M s := blank_mono hM (by
  unfold receiveDelayReq
  repeat'
    first
    | with_reducible rfl
    | with_reducible refine (State.sendPtp_frame (by decide)).trans ?_
    | with_reducible refine ite_both_frame ?_ ?_
    | with_reducible refine ite_both_fst_frame ?_ ?_
    | split
    | dsimp only)

theorem receiveDelayResp_frame {M : Nat} {p : Port} {h : PtpHdr} {requester : DWord} {received : Int} {s : State} (hM : 605028502 &&& M = 605028502) : blank M (receiveDelayResp p h requester received s) = blank M s := blank_mono hM (by
  unfold receiveDelayResp
  repeat'
    first
    | with_reducible rfl
    | with_reducible refine (upPtp_frame (by decide)).trans ?_
    | with_reducible refine (draw_frame (by decide)).trans ?_
    | with_reducible refine (State.measure_frame (by decide)).trans ?_
    | with_reducible refine ite_both_frame ?_ ?_
    | with_reducible refine ite_both_fst_frame ?_ ?_
    | split
    | dsimp only)

theorem receiveAnnounce_frame {M : Nat} {p : Port} {h : PtpHdr} {a : PtpAnnounce} {s : State} (hM : 68157588 &&& M = 68157588) : blank M (receiveAnnounce p h a s) = blank M s := blank_mono hM (by
  unfold receiveAnnounce
  repeat'
    first
    | with_reducible rfl
    | with_reducible refine (upPtp_frame (by decide)).trans ?_
    | with_reducible refine (State.selectPorts_frame (by decide)).trans ?_
    | with_reducible refine ite_both_frame ?_ ?_
    | with_reducible refine ite_both_fst_frame ?_ ?_
    | split
    | dsimp only)

theorem sendSync_frame {M : Nat} {p : Port} {frac : Nat} {s : State} (hM : 132 &&& M = 132) : blank M (sendSync p frac s) = blank M s := blank_mono hM (by
  unfold sendSync
  repeat'
    first
    | with_reducible rfl
    | with_reducible refine (upPtp_frame (by decide)).trans ?_
    | with_reducible refine (emit_frame (by decide)).trans ?_
    | with_reducible refine ite_both_frame ?_ ?_
    | with_reducible refine ite_both_fst_frame ?_ ?_
    | split
    | dsimp only)

theorem sendAnnounce_frame {M : Nat} {p : Port} {s : State} (hM : 132 &&& M = 132) : blank M (sendAnnounce p s) = blank M s := blank_mono hM (by
  unfold sendAnnounce
  repeat'
    first
    | with_reducible rfl
    | with_reducible refine (upPtp_frame (by decide)).trans ?_
    | with_reducible refine (emit_frame (by decide)).trans ?_
    | with_reducible refine ite_both_frame ?_ ?_
    | with_reducible refine ite_both_fst_frame ?_ ?_
    | split
    | dsimp only)

theorem sendDelayReq_frame {M : Nat} {p : Port} {frac : Nat} {s : State} (hM : 132 &&& M = 132) : blank M (sendDelayReq p frac s) = blank M s := blank_mono hM (by
  unfold sendDelayReq
  repeat'
    first
    | with_reducible rfl
    | with_reducible refine (upPtp_frame (by decide)).trans ?_
    | with_reducible refine (emit_frame (by decide)).trans ?_
    | with_reducible refine ite_both_frame ?_ ?_
    | with_reducible refine ite_both_fst_frame ?_ ?_
    | split
    | dsimp only)

theorem announceLost_frame {M : Nat} {p : Port} {s : State} (hM : 68157588 &&& M = 68157588) : blank M (announceLost p s) = blank M s := blank_mono hM (by
  unfold announceLost
  repeat'
    first
    | with_reducible rfl
    | with_reducible refine (upPtp_frame (by decide)).trans ?_
    | with_reducible refine (State.selectPorts_frame (by decide)).trans ?_
    | with_reducible refine ite_both_frame ?_ ?_
    | with_reducible refine ite_both_fst_frame ?_ ?_
    | split
    | dsimp only)

theorem syncLost_frame {M : Nat} {s : State} (hM : 68157588 &&& M = 68157588) : blank M (syncLost s) = blank M s := blank_mono hM (by
  unfold syncLost
  repeat'
    first
    | with_reducible rfl
    | with_reducible refine (State.sourceLost_frame (by decide)).trans ?_
    | with_reducible refine ite_both_frame ?_ ?_
    | with_reducible refine ite_both_fst_frame ?_ ?_
    | split
    | dsimp only)

theorem State.measureOutlier_frame {M : Nat} {s : State} {d : Int} (hM : 605028500 &&& M = 605028500) : blank M (State.measureOutlier s d) = blank M s := blank_mono hM (by
  unfold State.measureOutlier
  repeat'
    first
    | with_reducible rfl
    | with_reducible refine (State.discardMeasure_frame (by decide)).trans ?_
    | with_reducible refine (State.measure_frame (by decide)).trans ?_
    | with_reducible refine ite_both_frame ?_ ?_
    | with_reducible refine ite_both_fst_frame ?_ ?_
    | split
    | dsimp only)

theorem State.ppsStamped_frame {M : Nat} {s : State} {at_ : Nat} {stamp : Int} (hM : 605028500 &&& M = 605028500) : blank M (State.ppsStamped s at_ stamp) = blank M s := blank_mono hM (by
  unfold State.ppsStamped
  repeat'
    first
    | with_reducible rfl
    | with_reducible refine (upTmb_frame ?_ ?_).trans ?_
    | with_reducible refine (State.measure_frame (by decide)).trans ?_
    | with_reducible refine (State.measureOutlier_frame (by decide)).trans ?_
    | with_reducible refine (State.faultEvent_frame (by decide)).trans ?_
    | exact Or.inl rfl
    | exact Or.inr rfl
    | exact Or.inr fun _ => rfl
    | exact (rfl : (_ : MasterRec) = _)
    | with_reducible refine ite_both_frame ?_ ?_
    | with_reducible refine ite_both_fst_frame ?_ ?_
    | split
    | dsimp only)

theorem ppsEdge_frame {M : Nat} {rising : Bool} {frac : Nat} {s : State} (hM : 605028501 &&& M = 605028501) : blank M (ppsEdge rising frac s) = blank M s := blank_mono hM (by
  unfold ppsEdge
  repeat'
    first
    | with_reducible rfl
    | with_reducible refine (undefinedUse_frame (by decide)).trans ?_
    | with_reducible refine (upTmb_frame ?_ ?_).trans ?_
    | with_reducible refine (State.ppsStamped_frame (by decide)).trans ?_
    | exact Or.inl rfl
    | exact Or.inr rfl
    | exact Or.inr fun _ => rfl
    | exact (rfl : (_ : MasterRec) = _)
    | with_reducible refine ite_both_frame ?_ ?_
    | with_reducible refine ite_both_fst_frame ?_ ?_
    | split
    | dsimp only)

theorem zdaReceived_frame {M : Nat} {bytes : List Byte} {s : State} (hM : 68157588 &&& M = 68157588) : blank M (zdaReceived bytes s) = blank M s := blank_mono hM (by
  unfold zdaReceived
  repeat'
    first
    | with_reducible rfl
    | with_reducible refine (upTmb_frame ?_ ?_).trans ?_
    | with_reducible refine (State.sourceValid_frame (by decide)).trans ?_
    | exact Or.inl rfl
    | exact Or.inr rfl
    | exact Or.inr fun _ => rfl
    | exact (rfl : (_ : MasterRec) = _)
    | with_reducible refine ite_both_frame ?_ ?_
    | with_reducible refine ite_both_fst_frame ?_ ?_
    | split
    | dsimp only)

theorem ppsLost_frame {M : Nat} {s : State} (hM : 68157588 &&& M = 68157588) : blank M (ppsLost s) = blank M s := blank_mono hM (by
  unfold ppsLost
  repeat'
    first
    | with_reducible rfl
    | with_reducible refine (upTmb_frame ?_ ?_).trans ?_
    | with_reducible refine (State.sourceLost_frame (by decide)).trans ?_
    | exact Or.inl rfl
    | exact Or.inr rfl
    | exact Or.inr fun _ => rfl
    | exact (rfl : (_ : MasterRec) = _)
    | with_reducible refine ite_both_frame ?_ ?_
    | with_reducible refine ite_both_fst_frame ?_ ?_
    | split
    | dsimp only)

theorem ppsRise_frame {M : Nat} {s : State} (hM : 128 &&& M = 128) : blank M (ppsRise s) = blank M s := blank_mono hM (by
  unfold ppsRise
  repeat'
    first
    | with_reducible rfl
    | with_reducible refine (upTmb_frame ?_ ?_).trans ?_
    | exact Or.inl rfl
    | exact Or.inr rfl
    | exact Or.inr fun _ => rfl
    | exact (rfl : (_ : MasterRec) = _)
    | with_reducible refine ite_both_frame ?_ ?_
    | with_reducible refine ite_both_fst_frame ?_ ?_
    | split
    | dsimp only)

theorem ppsFall_frame {M : Nat} {s : State} (hM : 128 &&& M = 128) : blank M (ppsFall s) = blank M s := blank_mono hM (by
  unfold ppsFall
  repeat'
    first
    | with_reducible rfl
    | with_reducible refine (upTmb_frame ?_ ?_).trans ?_
    | exact Or.inl rfl
    | exact Or.inr rfl
    | exact Or.inr fun _ => rfl
    | exact (rfl : (_ : MasterRec) = _)
    | with_reducible refine ite_both_frame ?_ ?_
    | with_reducible refine ite_both_fst_frame ?_ ?_
    | split
    | dsimp only)

theorem todSend_frame {M : Nat} {s : State} (hM : 132 &&& M = 132) : blank M (todSend s) = blank M s := blank_mono hM (by
  unfold todSend
  repeat'
    first
    | with_reducible rfl
    | with_reducible refine (emit_frame (by decide)).trans ?_
    | with_reducible refine (upTmb_frame ?_ ?_).trans ?_
    | exact Or.inl rfl
    | exact Or.inr rfl
    | exact Or.inr fun _ => rfl
    | exact (rfl : (_ : MasterRec) = _)
    | with_reducible refine ite_both_frame ?_ ?_
    | with_reducible refine ite_both_fst_frame ?_ ?_
    | split
    | dsimp only)

theorem setTime_frame {M : Nat} {s : State} (hM : 78643349 &&& M = 78643349) : blank M (setTime s) = blank M s := blank_mono hM (by
  unfold setTime
  repeat'
    first
    | with_reducible rfl
    | with_reducible refine (upTmb_frame ?_ ?_).trans ?_
    | with_reducible refine (State.stepTime_frame (by decide)).trans ?_
    | with_reducible refine (State.freeStart_frame (by decide)).trans ?_
    | with_reducible refine (State.complete_frame (by decide)).trans ?_
    | with_reducible refine (State.start_frame (by decide) (fun _ _ => ?_)).trans ?_
    | exact Or.inl rfl
    | exact Or.inr rfl
    | exact Or.inr fun _ => rfl
    | exact (rfl : (_ : MasterRec) = _)
    | with_reducible refine ite_both_frame ?_ ?_
    | with_reducible refine ite_both_fst_frame ?_ ?_
    | split
    | dsimp only)

theorem clockUnlock_frame {M : Nat} {s : State} (hM : 68157568 &&& M = 68157568) : blank M (clockUnlock s) = blank M s := blank_mono hM (by
  unfold clockUnlock
  repeat'
    first
    | with_reducible rfl
    | with_reducible refine (upTmb_frame ?_ ?_).trans ?_
    | with_reducible refine (State.notify_frame (by decide)).trans ?_
    | exact Or.inl rfl
    | exact Or.inr rfl
    | exact Or.inr fun _ => rfl
    | exact (rfl : (_ : MasterRec) = _)
    | with_reducible refine ite_both_frame ?_ ?_
    | with_reducible refine ite_both_fst_frame ?_ ?_
    | split
    | dsimp only)

theorem clockRelock_frame {M : Nat} {s : State} (hM : 128 &&& M = 128) : blank M (clockRelock s) = blank M s := blank_mono hM (by
  unfold clockRelock
  repeat'
    first
    | with_reducible rfl
    | with_reducible refine (upTmb_frame ?_ ?_).trans ?_
    | exact Or.inl rfl
    | exact Or.inr rfl
    | exact Or.inr fun _ => rfl
    | exact (rfl : (_ : MasterRec) = _)
    | with_reducible refine ite_both_frame ?_ ?_
    | with_reducible refine ite_both_fst_frame ?_ ?_
    | split
    | dsimp only)

end Sys2Proof.Machine
end

