-- ==== Sys2Proof/Laws/FrameFrontEnd.lean ====
section
/-! SUPPORT. Frames of the operations of Machine/FrontEnd.lean: what each leaves as it was. -/

namespace Sys2Proof.Machine

theorem State.shiftGear_frame {M : Nat} {s : State} {i : Nat} {stream : Nat} {g : Nat} {w : Nat} {before : Int} {word : Int} (hM : 2052 &&& M = 2052) : blank M (State.shiftGear s i stream g w before word) = blank M s := blank_mono hM (by
  unfold State.shiftGear
  repeat'
    first
    | with_reducible rfl
    | with_reducible refine (upLook_frame (by decide)).trans ?_
    | with_reducible refine (emit_frame (by decide)).trans ?_
    | with_reducible refine (State.addSpan_frame (by decide)).trans ?_
    | split
    | dsimp only)

theorem State.shiftDue_frame {M : Nat} {s : State} {i : Nat} {stream : Nat} {g : Nat} {w : Nat} {before : Int} {word : Int} (hM : 2052 &&& M = 2052) : blank M (State.shiftDue s i stream g w before word) = blank M s := blank_mono hM (by
  unfold State.shiftDue
  repeat'
    first
    | with_reducible rfl
    | with_reducible refine (upLook_frame (by decide)).trans ?_
    | with_reducible refine (State.shiftGear_frame (by decide)).trans ?_
    | with_reducible refine ite_both_frame ?_ ?_
    | with_reducible refine ite_both_fst_frame ?_ ?_
    | split
    | dsimp only)

theorem shiftUp_frame {M : Nat} {i : Nat} {before : Int} {word : Int} {overload : Bool} {s : State} (hM : 2052 &&& M = 2052) : blank M (shiftUp i before word overload s) = blank M s := blank_mono hM (by
  unfold shiftUp
  repeat'
    first
    | with_reducible rfl
    | with_reducible refine (State.shiftDue_frame (by decide)).trans ?_
    | with_reducible refine ite_both_frame ?_ ?_
    | with_reducible refine ite_both_fst_frame ?_ ?_
    | split
    | dsimp only)

theorem shiftDown_frame {M : Nat} {i : Nat} {before : Int} {word : Int} {peak : Nat} {s : State} (hM : 2052 &&& M = 2052) : blank M (shiftDown i before word peak s) = blank M s := blank_mono hM (by
  unfold shiftDown
  repeat'
    first
    | with_reducible rfl
    | with_reducible refine (State.shiftDue_frame (by decide)).trans ?_
    | with_reducible refine ite_both_frame ?_ ?_
    | with_reducible refine ite_both_fst_frame ?_ ?_
    | split
    | dsimp only)

theorem State.noteShifts_frame {M : Nat} {s : State} {stream : Nat} (hM : 68159488 &&& M = 68159488) : blank M (State.noteShifts s stream) = blank M s := blank_mono hM (by
  unfold State.noteShifts
  repeat'
    first
    | with_reducible rfl
    | with_reducible refine (upLook_frame (by decide)).trans ?_
    | with_reducible refine (State.notify_frame (by decide)).trans ?_
    | with_reducible refine ite_both_frame ?_ ?_
    | with_reducible refine ite_both_fst_frame ?_ ?_
    | split
    | dsimp only)

theorem mendDone_frame {M : Nat} {i : Nat} {w5 : Int} {w6 : Int} {s : State} (hM : 3076 &&& M = 3076) : blank M (mendDone i w5 w6 s) = blank M s := blank_mono hM (by
  unfold mendDone
  repeat'
    first
    | with_reducible rfl
    | with_reducible refine (upLook_frame (by decide)).trans ?_
    | with_reducible refine (emit_frame (by decide)).trans ?_
    | with_reducible refine (State.countShift_frame (by decide)).trans ?_
    | with_reducible refine ite_both_frame ?_ ?_
    | with_reducible refine ite_both_fst_frame ?_ ?_
    | split
    | dsimp only)

theorem overRange_frame {M : Nat} {i : Nat} {word : Int} {s : State} (hM : 536873984 &&& M = 536873984) : blank M (overRange i word s) = blank M s := blank_mono hM (by
  unfold overRange
  repeat'
    first
    | with_reducible rfl
    | with_reducible refine (upSpoke_frame (by decide)).trans ?_
    | with_reducible refine (upLook_frame (by decide)).trans ?_
    | with_reducible refine (State.addSpan_frame (by decide)).trans ?_
    | with_reducible refine (State.faultEvent_frame (by decide)).trans ?_
    | with_reducible refine ite_both_frame ?_ ?_
    | with_reducible refine ite_both_fst_frame ?_ ?_
    | split
    | dsimp only)

theorem State.openWire_frame {M : Nat} {s : State} {i : Nat} {m : OwMethod} {d : Nat} (hM : 605031424 &&& M = 605031424) : blank M (State.openWire s i m d) = blank M s := blank_mono hM (by
  unfold State.openWire
  repeat'
    first
    | with_reducible rfl
    | with_reducible refine (State.openWireSpan_frame (by decide)).trans ?_
    | with_reducible refine (upSpoke_frame (by decide)).trans ?_
    | with_reducible refine (State.notify_frame (by decide)).trans ?_
    | with_reducible refine (State.addSpan_frame (by decide)).trans ?_
    | with_reducible refine (State.faultEvent_frame (by decide)).trans ?_
    | with_reducible refine (forEach_frame fun _ _ => ?_).trans ?_
    | with_reducible refine (forEach_fst_frame fun _ _ => ?_).trans ?_
    | with_reducible refine ite_both_frame ?_ ?_
    | split
    | dsimp only)

theorem openWireFound_frame {M : Nat} {i : Nat} {m : OwMethod} {d : Nat} {codes : List Int} {s : State} (hM : 605031424 &&& M = 605031424) : blank M (openWireFound i m d codes s) = blank M s := blank_mono hM (by
  unfold openWireFound
  repeat'
    first
    | with_reducible rfl
    | with_reducible refine (State.openWire_frame (by decide)).trans ?_
    | with_reducible refine (forEach_frame fun _ _ => ?_).trans ?_
    | with_reducible refine (forEach_fst_frame fun _ _ => ?_).trans ?_
    | with_reducible refine ite_both_frame ?_ ?_
    | with_reducible refine ite_both_fst_frame ?_ ?_
    | split
    | dsimp only)

theorem wireBack_frame {M : Nat} {i : Nat} {quietCodes : Nat} {quietCycles : Nat} {s : State} (hM : 68160512 &&& M = 68160512) : blank M (wireBack i quietCodes quietCycles s) = blank M s := blank_mono hM (by
  unfold wireBack
  repeat'
    first
    | with_reducible rfl
    | with_reducible refine (upSpoke_frame (by decide)).trans ?_
    | with_reducible refine (State.closeSpans_frame (by decide)).trans ?_
    | with_reducible refine (State.notify_frame (by decide)).trans ?_
    | with_reducible refine (forEach_frame fun _ _ => ?_).trans ?_
    | with_reducible refine (forEach_fst_frame fun _ _ => ?_).trans ?_
    | with_reducible refine ite_both_frame ?_ ?_
    | with_reducible refine ite_both_fst_frame ?_ ?_
    | split
    | dsimp only)

theorem releaseSpoke_frame {M : Nat} {s : State} (hM : 78644245 &&& M = 78644245) : blank M (releaseSpoke s) = blank M s := blank_mono hM (by
  unfold releaseSpoke
  repeat'
    first
    | with_reducible rfl
    | with_reducible refine (State.release_frame (by decide)).trans ?_
    | with_reducible refine (State.complete_frame (by decide)).trans ?_
    | with_reducible refine (State.start_frame (by decide) (fun _ _ => ?_)).trans ?_
    | with_reducible refine ite_both_frame ?_ ?_
    | with_reducible refine ite_both_fst_frame ?_ ?_
    | split
    | dsimp only)

theorem releaseReset_frame {M : Nat} {i : Nat} {n : Nat} {s : State} (hM : 3072 &&& M = 3072) : blank M (releaseReset i n s) = blank M s := blank_mono hM (by
  unfold releaseReset
  repeat'
    first
    | with_reducible rfl
    | with_reducible refine (State.closeSpans_frame (by decide)).trans ?_
    | with_reducible refine (State.syncResetAt_frame (by decide)).trans ?_
    | with_reducible refine ite_both_frame ?_ ?_
    | with_reducible refine ite_both_fst_frame ?_ ?_
    | split
    | dsimp only)

end Sys2Proof.Machine
end

