-- ==== Sys2Proof/Laws/FrameCalibration.lean ====
section
/-! SUPPORT. Frames of the operations of Machine/Calibration.lean: what each leaves as it was. -/

namespace Sys2Proof.Machine

theorem State.putCal_frame {M : Nat} {s : State} {c : SpokeCal} (hM : 268435456 &&& M = 268435456) : blank M (State.putCal s c) = blank M s := blank_mono hM (by
  unfold State.putCal
  repeat'
    first
    | with_reducible rfl
    | with_reducible refine (upCal_frame (by decide)).trans ?_
    | with_reducible refine (forEach_frame fun _ _ => ?_).trans ?_
    | with_reducible refine (forEach_fst_frame fun _ _ => ?_).trans ?_
    | with_reducible refine (foldl_frame fun _ _ => ?_).trans ?_
    | with_reducible refine (foldl_fst_frame fun _ _ => ?_).trans ?_
    | with_reducible refine ite_both_frame ?_ ?_
    | with_reducible refine ite_both_fst_frame ?_ ?_
    | split
    | dsimp only)

theorem State.countFails_frame {M : Nat} {s : State} (hM : 268435456 &&& M = 268435456) : blank M (State.countFails s) = blank M s := blank_mono hM (by
  unfold State.countFails
  repeat'
    first
    | with_reducible rfl
    | with_reducible refine (upCal_frame (by decide)).trans ?_
    | split
    | dsimp only)

theorem State.noteCalFail_frame {M : Nat} {s : State} {i : Nat} (hM : 68157440 &&& M = 68157440) : blank M (State.noteCalFail s i) = blank M s := blank_mono hM (by
  unfold State.noteCalFail
  repeat'
    first
    | with_reducible rfl
    | with_reducible refine (State.notify_frame (by decide)).trans ?_
    | with_reducible refine ite_both_frame ?_ ?_
    | with_reducible refine ite_both_fst_frame ?_ ?_
    | split
    | dsimp only)

theorem State.setCodes_frame {M : Nat} {s : State} {i : Nat} {g : Nat} {o : Int} {n : Int} (hM : 268435456 &&& M = 268435456) : blank M (State.setCodes s i g o n) = blank M s := blank_mono hM (by
  unfold State.setCodes
  repeat'
    first
    | with_reducible rfl
    | with_reducible refine (upCal_frame (by decide)).trans ?_
    | split
    | dsimp only)

theorem setTrim_frame {M : Nat} {s : State} (hM : 347078677 &&& M = 347078677) : blank M (setTrim s) = blank M s := blank_mono hM (by
  unfold setTrim
  repeat'
    first
    | with_reducible rfl
    | with_reducible refine (upCal_frame (by decide)).trans ?_
    | with_reducible refine (State.notify_frame (by decide)).trans ?_
    | with_reducible refine (State.complete_frame (by decide)).trans ?_
    | with_reducible refine (State.setCodes_frame (by decide)).trans ?_
    | with_reducible refine (State.start_frame (by decide) (fun _ _ => ?_)).trans ?_
    | with_reducible refine ite_both_frame ?_ ?_
    | with_reducible refine ite_both_fst_frame ?_ ?_
    | split
    | dsimp only)

theorem State.endRamp_frame {M : Nat} {s : State} {i : Nat} {g : Nat} (hM : 336592896 &&& M = 336592896) : blank M (State.endRamp s i g) = blank M s := blank_mono hM (by
  unfold State.endRamp
  repeat'
    first
    | with_reducible rfl
    | with_reducible refine (upCal_frame (by decide)).trans ?_
    | with_reducible refine (State.notify_frame (by decide)).trans ?_
    | with_reducible refine (State.setCodes_frame (by decide)).trans ?_
    | with_reducible refine ite_both_frame ?_ ?_
    | with_reducible refine ite_both_fst_frame ?_ ?_
    | split
    | dsimp only)

theorem recalibrate_frame {M : Nat} {s : State} (hM : 347081749 &&& M = 347081749) : blank M (recalibrate s) = blank M s := blank_mono hM (by
  unfold recalibrate
  repeat'
    first
    | with_reducible rfl
    | with_reducible refine (upCal_frame (by decide)).trans ?_
    | with_reducible refine (State.quarantine_frame (by decide)).trans ?_
    | with_reducible refine (State.noteQuarantine_frame (by decide)).trans ?_
    | with_reducible refine (State.complete_frame (by decide)).trans ?_
    | with_reducible refine (State.startLong_frame (by decide)).trans ?_
    | with_reducible refine (State.start_frame (by decide) (fun _ _ => ?_)).trans ?_
    | with_reducible refine ite_both_frame ?_ ?_
    | with_reducible refine ite_both_fst_frame ?_ ?_
    | split
    | dsimp only)

theorem State.rampFound_frame {M : Nat} {s : State} {c : SpokeCal} (hM : 268435456 &&& M = 268435456) : blank M (State.rampFound s c) = blank M s := blank_mono hM (by
  unfold State.rampFound
  repeat'
    first
    | with_reducible rfl
    | with_reducible refine (upCal_frame (by decide)).trans ?_
    | with_reducible refine ite_both_frame ?_ ?_
    | with_reducible refine ite_both_fst_frame ?_ ?_
    | split
    | dsimp only)

theorem recalibrated_frame {M : Nat} {c : SpokeCal} {s : State} (hM : 347079700 &&& M = 347079700) : blank M (recalibrated c s) = blank M s := blank_mono hM (by
  unfold recalibrated
  repeat'
    first
    | with_reducible rfl
    | with_reducible refine (upSpoke_frame (by decide)).trans ?_
    | with_reducible refine (upCal_frame (by decide)).trans ?_
    | with_reducible refine (State.release_frame (by decide)).trans ?_
    | with_reducible refine (State.endLong_frame (by decide)).trans ?_
    | with_reducible refine (State.putCal_frame (by decide)).trans ?_
    | with_reducible refine (State.countFails_frame (by decide)).trans ?_
    | with_reducible refine (State.noteCalFail_frame (by decide)).trans ?_
    | with_reducible refine (State.rampFound_frame (by decide)).trans ?_
    | with_reducible refine ite_both_frame ?_ ?_
    | with_reducible refine ite_both_fst_frame ?_ ?_
    | split
    | dsimp only)

theorem clearWindow_frame {M : Nat} {s : State} (hM : 615514133 &&& M = 615514133) : blank M (clearWindow s) = blank M s := blank_mono hM (by
  unfold clearWindow
  repeat'
    first
    | with_reducible rfl
    | with_reducible refine (State.complete_frame (by decide)).trans ?_
    | with_reducible refine (State.rearm_frame (by decide)).trans ?_
    | with_reducible refine (State.start_frame (by decide) (fun _ _ => ?_)).trans ?_
    | with_reducible refine ite_both_frame ?_ ?_
    | with_reducible refine ite_both_fst_frame ?_ ?_
    | split
    | dsimp only)

theorem windowRearm_frame {M : Nat} {w : Nat} {s : State} (hM : 605028352 &&& M = 605028352) : blank M (windowRearm w s) = blank M s := blank_mono hM (by
  unfold windowRearm
  repeat'
    first
    | with_reducible rfl
    | with_reducible refine (State.rearm_frame (by decide)).trans ?_
    | with_reducible refine ite_both_frame ?_ ?_
    | with_reducible refine ite_both_fst_frame ?_ ?_
    | split
    | dsimp only)

theorem lockstepMismatch_frame {M : Nat} {s : State} (hM : 15917223612 &&& M = 15917223612) : blank M (lockstepMismatch s) = blank M s := blank_mono hM (by
  unfold lockstepMismatch
  repeat'
    first
    | with_reducible rfl
    | with_reducible refine (State.watchdogEvent_frame (by decide)).trans ?_
    | with_reducible refine ite_both_frame ?_ ?_
    | with_reducible refine ite_both_fst_frame ?_ ?_
    | split
    | dsimp only)

theorem watchdogExpiry_frame {M : Nat} {s : State} (hM : 15917223612 &&& M = 15917223612) : blank M (watchdogExpiry s) = blank M s := blank_mono hM (by
  unfold watchdogExpiry
  repeat'
    first
    | with_reducible rfl
    | with_reducible refine (upHlt_frame (by decide)).trans ?_
    | with_reducible refine (State.watchdogEvent_frame (by decide)).trans ?_
    | with_reducible refine ite_both_frame ?_ ?_
    | with_reducible refine ite_both_fst_frame ?_ ?_
    | split
    | dsimp only)

end Sys2Proof.Machine
end

