-- ==== Sys2Proof/Laws/FrameCoding.lean ====
section
/-! SUPPORT. Frames of the operations of Machine/Coding.lean: what each leaves as it was. -/

namespace Sys2Proof.Machine

theorem State.mismatch_frame {M : Nat} {s : State} {i : Nat} {b : OpenBlock} (hM : 605323264 &&& M = 605323264) : blank M (State.mismatch s i b) = blank M s := blank_mono hM (by
  unfold State.mismatch
  repeat'
    first
    | with_reducible rfl
    | with_reducible refine (upStrm_frame (by decide)).trans ?_
    | with_reducible refine (upPath_frame ?_ ?_ ?_ ?_ ?_ ?_ ?_ ?_ ?_).trans ?_
    | with_reducible refine (State.notify_frame (by decide)).trans ?_
    | with_reducible refine (State.faultEvent_frame (by decide)).trans ?_
    | exact Or.inl rfl
    | exact Or.inr rfl
    | exact Or.inr fun _ => rfl
    | exact (rfl : (_ : MasterRec) = _)
    | with_reducible refine ite_both_frame ?_ ?_
    | with_reducible refine ite_both_fst_frame ?_ ?_
    | split
    | dsimp only)

theorem State.setCtx_frame {M : Nat} {s : State} {i : Nat} {w : Nat} {v : Word} (hM : 17180131328 &&& M = 17180131328) : blank M (State.setCtx s i w v) = blank M s := blank_mono hM (by
  unfold State.setCtx
  repeat'
    first
    | with_reducible rfl
    | with_reducible refine (upSnap_frame (by decide)).trans ?_
    | with_reducible refine (upPath_frame ?_ ?_ ?_ ?_ ?_ ?_ ?_ ?_ ?_).trans ?_
    | exact Or.inl rfl
    | exact Or.inr rfl
    | exact Or.inr fun _ => rfl
    | exact (rfl : (_ : MasterRec) = _)
    | with_reducible refine ite_both_frame ?_ ?_
    | with_reducible refine ite_both_fst_frame ?_ ?_
    | split
    | dsimp only)

theorem State.saveCtx_frame {M : Nat} {s : State} {i : Nat} {b : OpenBlock} {c : CodeState} {keyDist : Nat} (hM : 17180131328 &&& M = 17180131328) : blank M (State.saveCtx s i b c keyDist) = blank M s := blank_mono hM (by
  unfold State.saveCtx
  repeat'
    first
    | with_reducible rfl
    | with_reducible refine (State.setCtx_frame (by decide)).trans ?_
    | with_reducible refine (forEach_frame fun _ _ => ?_).trans ?_
    | with_reducible refine (forEach_fst_frame fun _ _ => ?_).trans ?_
    | split
    | dsimp only)

theorem State.compareMeans_frame {M : Nat} {s : State} {i : Nat} {seq : Nat} {own : Word} {partner : Word} (hM : 4899995648 &&& M = 4899995648) : blank M (State.compareMeans s i seq own partner) = blank M s := blank_mono hM (by
  unfold State.compareMeans
  repeat'
    first
    | with_reducible rfl
    | with_reducible refine (upTdm_frame (by decide)).trans ?_
    | with_reducible refine (State.notify_frame (by decide)).trans ?_
    | with_reducible refine (State.faultEvent_frame (by decide)).trans ?_
    | with_reducible refine ite_both_frame ?_ ?_
    | with_reducible refine ite_both_fst_frame ?_ ?_
    | split
    | dsimp only)

theorem State.ownMean_frame {M : Nat} {s : State} {i : Nat} {b : OpenBlock} (hM : 4899995648 &&& M = 4899995648) : blank M (State.ownMean s i b) = blank M s := blank_mono hM (by
  unfold State.ownMean
  repeat'
    first
    | with_reducible rfl
    | with_reducible refine (upTdm_frame (by decide)).trans ?_
    | with_reducible refine (State.compareMeans_frame (by decide)).trans ?_
    | with_reducible refine ite_both_frame ?_ ?_
    | with_reducible refine ite_both_fst_frame ?_ ?_
    | split
    | dsimp only)

theorem closeBlock_frame {M : Nat} {i : Nat} {s : State} (hM : 5067800598 &&& M = 5067800598) : blank M (closeBlock i s) = blank M s := blank_mono hM (by
  unfold closeBlock
  repeat'
    first
    | with_reducible rfl
    | with_reducible refine (upStrm_frame (by decide)).trans ?_
    | with_reducible refine (State.readBuffer_frame (by decide)).trans ?_
    | with_reducible refine (State.ownMean_frame (by decide)).trans ?_
    | with_reducible refine ite_both_frame ?_ ?_
    | with_reducible refine ite_both_fst_frame ?_ ?_
    | split
    | dsimp only)

theorem flush_frame {M : Nat} {s : State} (hM : 78675989 &&& M = 78675989) : blank M (flush s) = blank M s := blank_mono hM (by
  unfold flush
  repeat'
    first
    | with_reducible rfl
    | with_reducible refine (upStrm_frame (by decide)).trans ?_
    | with_reducible refine (undefinedUse_frame (by decide)).trans ?_
    | with_reducible refine (State.complete_frame (by decide)).trans ?_
    | with_reducible refine (State.start_frame (by decide) (fun _ _ => ?_)).trans ?_
    | with_reducible refine ite_both_frame ?_ ?_
    | with_reducible refine ite_both_fst_frame ?_ ?_
    | split
    | dsimp only)

theorem saveContext_frame {M : Nat} {s : State} (hM : 78675989 &&& M = 78675989) : blank M (saveContext s) = blank M s := blank_mono hM (by
  unfold saveContext
  repeat'
    first
    | with_reducible rfl
    | with_reducible refine (upStrm_frame (by decide)).trans ?_
    | with_reducible refine (State.complete_frame (by decide)).trans ?_
    | with_reducible refine (State.startLong_frame (by decide)).trans ?_
    | with_reducible refine (State.start_frame (by decide) (fun _ _ => ?_)).trans ?_
    | with_reducible refine ite_both_frame ?_ ?_
    | with_reducible refine ite_both_fst_frame ?_ ?_
    | split
    | dsimp only)

theorem restoreContext_frame {M : Nat} {s : State} (hM : 78675989 &&& M = 78675989) : blank M (restoreContext s) = blank M s := blank_mono hM (by
  unfold restoreContext
  repeat'
    first
    | with_reducible rfl
    | with_reducible refine (upStrm_frame (by decide)).trans ?_
    | with_reducible refine (State.complete_frame (by decide)).trans ?_
    | with_reducible refine (State.startLong_frame (by decide)).trans ?_
    | with_reducible refine (State.start_frame (by decide) (fun _ _ => ?_)).trans ?_
    | with_reducible refine ite_both_frame ?_ ?_
    | with_reducible refine ite_both_fst_frame ?_ ?_
    | split
    | dsimp only)

theorem State.finishItem_frame {M : Nat} {s : State} {c : CmdItem} {status : Nat} {result : Nat} (hM : 78643220 &&& M = 78643220) : blank M (State.finishItem s c status result) = blank M s := blank_mono hM (by
  unfold State.finishItem
  repeat'
    first
    | with_reducible rfl
    | with_reducible refine (State.endLong_frame (by decide)).trans ?_
    | split
    | dsimp only)

end Sys2Proof.Machine
end

