-- ==== Sys2Proof/Laws/FrameCommands.lean ====
section
/-! SUPPORT. Frames of the operations of Machine/Commands.lean: what each leaves as it was. -/

namespace Sys2Proof.Machine

theorem State.sequence_frame {M : Nat} {s : State} {c : CmdItem} (hM : 76546048 &&& M = 76546048) : blank M (State.sequence s c) = blank M s := blank_mono hM (by
  unfold State.sequence
  repeat'
    first
    | with_reducible rfl
    | with_reducible refine (upMst_frame (by decide) ?_).trans ?_
    | with_reducible refine (State.notify_frame (by decide)).trans ?_
    | exact Or.inl rfl
    | exact Or.inr rfl
    | exact Or.inr fun _ => rfl
    | exact (rfl : (_ : MasterRec) = _)
    | with_reducible refine ite_both_frame ?_ ?_
    | with_reducible refine ite_both_fst_frame ?_ ?_
    | split
    | dsimp only)

theorem State.takeItem_frame {M : Nat} {s : State} {c : CmdItem} (hM : 78643220 &&& M = 78643220) : blank M (State.takeItem s c) = blank M s := blank_mono hM (by
  unfold State.takeItem
  repeat'
    first
    | with_reducible rfl
    | with_reducible refine (upCmd_frame ?_ ?_ ?_ ?_ ?_ ?_).trans ?_
    | with_reducible refine (upMst_frame (by decide) ?_).trans ?_
    | with_reducible refine (State.finish_frame (by decide)).trans ?_
    | exact Or.inl rfl
    | exact Or.inr rfl
    | exact Or.inr fun _ => rfl
    | exact (rfl : (_ : MasterRec) = _)
    | with_reducible refine ite_both_frame ?_ ?_
    | with_reducible refine ite_both_fst_frame ?_ ?_
    | split
    | dsimp only)

theorem State.receive_frame {M : Nat} {s : State} {item : CmdItem} (hM : 78643220 &&& M = 78643220) : blank M (State.receive s item) = blank M s := blank_mono hM (by
  unfold State.receive
  repeat'
    first
    | with_reducible rfl
    | with_reducible refine (upMst_frame (by decide) ?_).trans ?_
    | with_reducible refine (State.sequence_frame (by decide)).trans ?_
    | with_reducible refine (State.takeItem_frame (by decide)).trans ?_
    | with_reducible refine (State.refuseItem_frame (by decide)).trans ?_
    | exact Or.inl rfl
    | exact Or.inr rfl
    | exact Or.inr fun _ => rfl
    | exact (rfl : (_ : MasterRec) = _)
    | with_reducible refine ite_both_frame ?_ ?_
    | with_reducible refine ite_both_fst_frame ?_ ?_
    | split
    | dsimp only)

theorem cmdItemWrite_frame {M : Nat} {writer : Master} {target : Nat} {w3 : Word} {s : State} (hM : 78643220 &&& M = 78643220) : blank M (cmdItemWrite writer target w3 s) = blank M s := blank_mono hM (by
  unfold cmdItemWrite
  repeat'
    first
    | with_reducible rfl
    | with_reducible refine (State.receive_frame (by decide)).trans ?_
    | with_reducible refine ite_both_frame ?_ ?_
    | with_reducible refine ite_both_fst_frame ?_ ?_
    | split
    | dsimp only)

theorem cmdInWord_frame {M : Nat} {writer : Master} {target : Nat} {w : Nat} {v : Word} {s : State} (hM : 8388608 &&& M = 8388608) : blank M (cmdInWord writer target w v s) = blank M s := blank_mono hM (by
  unfold cmdInWord
  repeat'
    first
    | with_reducible rfl
    | with_reducible refine (upMst_frame (by decide) ?_).trans ?_
    | exact Or.inl rfl
    | exact Or.inr rfl
    | exact Or.inr fun _ => rfl
    | exact (rfl : (_ : MasterRec) = _)
    | split
    | dsimp only)

theorem commandFrameIn_frame {M : Nat} {service : Bool} {items : List ItemWords} {s : State} (hM : 78643220 &&& M = 78643220) : blank M (commandFrameIn service items s) = blank M s := blank_mono hM (by
  unfold commandFrameIn
  repeat'
    first
    | with_reducible rfl
    | with_reducible refine (State.receive_frame (by decide)).trans ?_
    | with_reducible refine (forEach_frame fun _ _ => ?_).trans ?_
    | with_reducible refine (forEach_fst_frame fun _ _ => ?_).trans ?_
    | with_reducible refine ite_both_frame ?_ ?_
    | with_reducible refine ite_both_fst_frame ?_ ?_
    | split
    | dsimp only)

theorem nopCommand_frame {M : Nat} {s : State} (hM : 78643221 &&& M = 78643221) : blank M (nopCommand s) = blank M s := blank_mono hM (by
  unfold nopCommand
  repeat'
    first
    | with_reducible rfl
    | with_reducible refine (State.complete_frame (by decide)).trans ?_
    | with_reducible refine (State.start_frame (by decide) (fun _ _ => ?_)).trans ?_
    | split
    | dsimp only)

theorem resync_frame {M : Nat} {s : State} (hM : 78643221 &&& M = 78643221) : blank M (resync s) = blank M s := blank_mono hM (by
  unfold resync
  repeat'
    first
    | with_reducible rfl
    | with_reducible refine (upMst_frame (by decide) ?_).trans ?_
    | with_reducible refine (State.complete_frame (by decide)).trans ?_
    | with_reducible refine (State.start_frame (by decide) (fun _ _ => ?_)).trans ?_
    | exact Or.inl rfl
    | exact Or.inr rfl
    | exact Or.inr fun _ => rfl
    | exact (rfl : (_ : MasterRec) = _)
    | split
    | dsimp only)

theorem cmdCfgWrite_frame {M : Nat} {m : Nat} {v : Word} {s : State} (hM : 2160066561 &&& M = 2160066561) : blank M (cmdCfgWrite m v s) = blank M s := blank_mono hM (by
  unfold cmdCfgWrite
  repeat'
    first
    | with_reducible rfl
    | with_reducible refine (undefinedUse_frame (by decide)).trans ?_
    | with_reducible refine (upMst_frame (by decide) ?_).trans ?_
    | with_reducible refine (credit_frame (by decide)).trans ?_
    | exact Or.inl rfl
    | exact Or.inr rfl
    | exact Or.inr fun _ => rfl
    | exact (rfl : (_ : MasterRec) = _)
    | with_reducible refine ite_both_frame ?_ ?_
    | with_reducible refine ite_both_fst_frame ?_ ?_
    | split
    | dsimp only)

theorem leaseWrite_frame {M : Nat} {m : Nat} {v : Word} {s : State} (hM : 8388608 &&& M = 8388608) : blank M (leaseWrite m v s) = blank M s := blank_mono hM (by
  unfold leaseWrite
  repeat'
    first
    | with_reducible rfl
    | with_reducible refine (upMst_frame (by decide) ?_).trans ?_
    | exact Or.inl rfl
    | exact Or.inr rfl
    | exact Or.inr fun _ => rfl
    | exact (rfl : (_ : MasterRec) = _)
    | split
    | dsimp only)

theorem leaseLapse_frame {M : Nat} {m : Nat} {s : State} (hM : 8388608 &&& M = 8388608) : blank M (leaseLapse m s) = blank M s := blank_mono hM (by
  unfold leaseLapse
  repeat'
    first
    | with_reducible rfl
    | with_reducible refine (upMst_frame (by decide) ?_).trans ?_
    | exact Or.inl rfl
    | exact Or.inr rfl
    | exact Or.inr fun _ => rfl
    | exact (rfl : (_ : MasterRec) = _)
    | with_reducible refine ite_both_frame ?_ ?_
    | with_reducible refine ite_both_fst_frame ?_ ?_
    | split
    | dsimp only)

theorem intEnableWrite_frame {M : Nat} {v : Word} {s : State} (hM : 53 &&& M = 53) : blank M (intEnableWrite v s) = blank M s := blank_mono hM (by
  unfold intEnableWrite
  repeat'
    first
    | with_reducible rfl
    | with_reducible refine (undefinedUse_frame (by decide)).trans ?_
    | with_reducible refine (upGlb_frame ?_ ?_ ?_ ?_).trans ?_
    | with_reducible refine (State.sendVector_frame (by decide)).trans ?_
    | exact Or.inl rfl
    | exact Or.inr rfl
    | exact Or.inr fun _ => rfl
    | exact (rfl : (_ : MasterRec) = _)
    | with_reducible refine ite_both_frame ?_ ?_
    | with_reducible refine ite_both_fst_frame ?_ ?_
    | split
    | dsimp only)

theorem intStatusWrite_frame {M : Nat} {v : Word} {s : State} (hM : 20 &&& M = 20) : blank M (intStatusWrite v s) = blank M s := blank_mono hM (by
  unfold intStatusWrite
  repeat'
    first
    | with_reducible rfl
    | with_reducible refine (upGlb_frame ?_ ?_ ?_ ?_).trans ?_
    | with_reducible refine (State.summaryVector_frame (by decide)).trans ?_
    | exact Or.inl rfl
    | exact Or.inr rfl
    | exact Or.inr fun _ => rfl
    | exact (rfl : (_ : MasterRec) = _)
    | with_reducible refine ite_both_frame ?_ ?_
    | with_reducible refine ite_both_fst_frame ?_ ?_
    | split
    | dsimp only)

end Sys2Proof.Machine
end

