-- ==== Sys2Proof/Laws/FrameFrames.lean ====
section
/-! SUPPORT. Frames of the operations of Machine/Frames.lean: what each leaves as it was. -/

namespace Sys2Proof.Machine

theorem State.enqueue_frame {M : Nat} {s : State} {p : Port} {f : OutFrame} (hM : 2147483648 &&& M = 2147483648) : blank M (State.enqueue s p f) = blank M s := blank_mono hM (by
  unfold State.enqueue
  repeat'
    first
    | with_reducible rfl
    | with_reducible refine (upPort_frame (by decide)).trans ?_
    | with_reducible refine ite_both_frame ?_ ?_
    | with_reducible refine ite_both_fst_frame ?_ ?_
    | split
    | dsimp only)

theorem State.putAssoc_frame {M : Nat} {s : State} {a : Assoc} (hM : 2147483648 &&& M = 2147483648) : blank M (State.putAssoc s a) = blank M s := blank_mono hM (by
  unfold State.putAssoc
  repeat'
    first
    | with_reducible rfl
    | with_reducible refine (upRim_frame (by decide)).trans ?_
    | split
    | dsimp only)

theorem State.number_frame {M : Nat} {s : State} {src : Nat} {peer : Nat} {cls : Nat} (hM : 2147483648 &&& M = 2147483648) : blank M (State.number s src peer cls).1 = blank M s := blank_mono hM (by
  unfold State.number
  repeat'
    first
    | with_reducible rfl
    | with_reducible refine (State.putAssoc_frame (by decide)).trans ?_
    | split
    | dsimp only)

theorem State.sendExpress_frame {M : Nat} {s : State} {dst : Nat} {body : FrameBody} (hM : 2147483648 &&& M = 2147483648) : blank M (State.sendExpress s dst body) = blank M s := blank_mono hM (by
  unfold State.sendExpress
  repeat'
    first
    | with_reducible rfl
    | with_reducible refine (State.enqueue_frame (by decide)).trans ?_
    | with_reducible refine (State.number_frame (by decide)).trans ?_
    | with_reducible refine ite_both_frame ?_ ?_
    | with_reducible refine ite_both_fst_frame ?_ ?_
    | split
    | dsimp only)

theorem State.sendControl_frame {M : Nat} {s : State} {src : Nat} {dst : Nat} {body : FrameBody} (hM : 2147483648 &&& M = 2147483648) : blank M (State.sendControl s src dst body) = blank M s := blank_mono hM (by
  unfold State.sendControl
  repeat'
    first
    | with_reducible rfl
    | with_reducible refine (upRim_frame (by decide)).trans ?_
    | with_reducible refine (State.enqueue_frame (by decide)).trans ?_
    | with_reducible refine (State.putAssoc_frame (by decide)).trans ?_
    | with_reducible refine (State.number_frame (by decide)).trans ?_
    | split
    | dsimp only)

theorem State.sendTime_frame {M : Nat} {s : State} {p : Port} {dst : Nat} {body : FrameBody} (hM : 2147483648 &&& M = 2147483648) : blank M (State.sendTime s p dst body) = blank M s := blank_mono hM (by
  unfold State.sendTime
  repeat'
    first
    | with_reducible rfl
    | with_reducible refine (State.enqueue_frame (by decide)).trans ?_
    | split
    | dsimp only)

theorem State.sendTimeBoth_frame {M : Nat} {s : State} {dst : Nat} {body : FrameBody} (hM : 2147483648 &&& M = 2147483648) : blank M (State.sendTimeBoth s dst body) = blank M s := blank_mono hM (by
  unfold State.sendTimeBoth
  repeat'
    first
    | with_reducible rfl
    | with_reducible refine (State.enqueue_frame (by decide)).trans ?_
    | with_reducible refine (State.number_frame (by decide)).trans ?_
    | split
    | dsimp only)

theorem State.sendBeacon_frame {M : Nat} {s : State} {epochTime : Nat} {detail : Nat} (hM : 2147483648 &&& M = 2147483648) : blank M (State.sendBeacon s epochTime detail) = blank M s := blank_mono hM (by
  unfold State.sendBeacon
  repeat'
    first
    | with_reducible rfl
    | with_reducible refine (State.sendTimeBoth_frame (by decide)).trans ?_
    | with_reducible refine ite_both_frame ?_ ?_
    | with_reducible refine ite_both_fst_frame ?_ ?_
    | split
    | dsimp only)

theorem State.resetAssocs_frame {M : Nat} {s : State} (hM : 2147549184 &&& M = 2147549184) : blank M (State.resetAssocs s) = blank M s := blank_mono hM (by
  unfold State.resetAssocs
  repeat'
    first
    | with_reducible rfl
    | with_reducible refine (upRim_frame (by decide)).trans ?_
    | with_reducible refine (upPort_frame (by decide)).trans ?_
    | with_reducible refine (State.declareLost_frame (by decide)).trans ?_
    | with_reducible refine (State.recordsUnsent_frame (by decide)).trans ?_
    | split
    | dsimp only)

end Sys2Proof.Machine
end

