-- ==== Sys2Proof/Laws/FrameCrier.lean ====
section
/-! SUPPORT. Frames of the operations of Machine/Crier.lean: what each leaves as it was. -/

namespace Sys2Proof.Machine

theorem State.lostNotice_frame {M : Nat} {s : State} {q : Nat} {first : Nat} {count : Nat} (hM : 68157440 &&& M = 68157440) : blank M (State.lostNotice s q first count).1 = blank M s := blank_mono hM (by
  unfold State.lostNotice
  repeat'
    first
    | with_reducible rfl
    | with_reducible refine (upQue_frame (by decide)).trans ?_
    | with_reducible refine (State.writeJournal_frame (by decide)).trans ?_
    | split
    | dsimp only)

theorem State.enterWaiting_frame {M : Nat} {s : State} {q : Nat} {w : WaitItem} (hM : 2903506965 &&& M = 2903506965) : blank M (State.enterWaiting s q w) = blank M s := blank_mono hM (by
  unfold State.enterWaiting
  repeat'
    first
    | with_reducible rfl
    | with_reducible refine (upQue_frame (by decide)).trans ?_
    | with_reducible refine (State.readJournal_frame (by decide)).trans ?_
    | with_reducible refine (drain_frame (by decide)).trans ?_
    | split
    | dsimp only)

theorem State.enterReplayed_frame {M : Nat} {s : State} {q : Nat} {n : Nat} {i : Item} (hM : 2903506965 &&& M = 2903506965) : blank M (State.enterReplayed s q n i) = blank M s := blank_mono hM (by
  unfold State.enterReplayed
  repeat'
    first
    | with_reducible rfl
    | with_reducible refine (upQue_frame (by decide)).trans ?_
    | with_reducible refine (drain_frame (by decide)).trans ?_
    | split
    | dsimp only)

theorem State.stepReplay_frame {M : Nat} {s : State} {q : Nat} {n : Nat} {last : Nat} (hM : 2903506965 &&& M = 2903506965) : blank M (State.stepReplay s q n last) = blank M s := blank_mono hM (by
  unfold State.stepReplay
  repeat'
    first
    | with_reducible rfl
    | with_reducible refine (upQue_frame (by decide)).trans ?_
    | with_reducible refine (State.readJournal_frame (by decide)).trans ?_
    | with_reducible refine (State.lostNotice_frame (by decide)).trans ?_
    | with_reducible refine (State.enterReplayed_frame (by decide)).trans ?_
    | with_reducible refine ite_both_frame ?_ ?_
    | with_reducible refine ite_both_fst_frame ?_ ?_
    | split
    | dsimp only)

theorem chainEntry_frame {M : Nat} {q : Nat} {s : State} (hM : 2914058261 &&& M = 2914058261) : blank M (chainEntry q s) = blank M s := blank_mono hM (by
  unfold chainEntry
  repeat'
    first
    | with_reducible rfl
    | with_reducible refine (upQue_frame (by decide)).trans ?_
    | with_reducible refine (replay_frame (by decide)).trans ?_
    | with_reducible refine (State.enterWaiting_frame (by decide)).trans ?_
    | with_reducible refine (State.stepReplay_frame (by decide)).trans ?_
    | with_reducible refine ite_both_frame ?_ ?_
    | with_reducible refine ite_both_fst_frame ?_ ?_
    | split
    | dsimp only)

theorem aging_frame {M : Nat} {q : Nat} {s : State} (hM : 1048576 &&& M = 1048576) : blank M (aging q s) = blank M s := blank_mono hM (by
  unfold aging
  repeat'
    first
    | with_reducible rfl
    | with_reducible refine (upQue_frame (by decide)).trans ?_
    | split
    | dsimp only)

theorem State.journalCopy_frame {M : Nat} {s : State} {q : Nat} {n : Nat} (hM : 739246100 &&& M = 739246100) : blank M (State.journalCopy s q n).1 = blank M s := blank_mono hM (by
  unfold State.journalCopy
  repeat'
    first
    | with_reducible rfl
    | with_reducible refine (State.readJournal_frame (by decide)).trans ?_
    | with_reducible refine ite_both_frame ?_ ?_
    | with_reducible refine ite_both_fst_frame ?_ ?_
    | split
    | dsimp only)

theorem State.soundHead_frame {M : Nat} {ok : State → ChainItem → Bool} {q : Nat} (hM : 739246100 &&& M = 739246100) (n : Nat) (s : State) :
    blank M (State.soundHead ok q n s).1 = blank M s := by
  induction n generalizing s with
  | zero => rfl
  | succ n ih =>
    unfold State.soundHead
    have hu : ∀ (s : State) (f : Queue → Queue), blank M (s.upQue q f) = blank M s := fun s f => blank_mono hM (upQue_frame (by decide))
    have hj : ∀ (s : State) (k : Nat), blank M (s.journalCopy q k).1 = blank M s := fun s k => blank_mono hM (State.journalCopy_frame (by decide))
    split
    · rfl
    · split
      · dsimp only
        split
        · exact hu _ _
        · rfl
      · dsimp only
        split
        · exact (hu _ _).trans (hj _ _)
        · exact (ih _).trans ((hu _ _).trans (hj _ _))

theorem State.takeHead_frame {M : Nat} {s : State} {q : Nat} {ok : State → ChainItem → Bool} (hM : 739246100 &&& M = 739246100) :
    blank M (State.takeHead s q ok).1 = blank M s := State.soundHead_frame hM _ _

theorem State.leaveChain_frame {M : Nat} {s : State} {q : Nat} {x : ChainItem} (hM : 68157440 &&& M = 68157440) : blank M (State.leaveChain s q x).1 = blank M s := blank_mono hM (by
  unfold State.leaveChain
  repeat'
    first
    | with_reducible rfl
    | with_reducible refine (upQue_frame (by decide)).trans ?_
    | with_reducible refine (State.lostNotice_frame (by decide)).trans ?_
    | split
    | dsimp only)

theorem queuePop_frame {M : Nat} {m : Master} {q : Nat} {s : State} (hM : 747634708 &&& M = 747634708) : blank M (queuePop m q s) = blank M s := blank_mono hM (by
  unfold queuePop
  repeat'
    first
    | with_reducible rfl
    | with_reducible refine (upMst_frame (by decide) ?_).trans ?_
    | with_reducible refine (State.takeHead_frame (by decide)).trans ?_
    | with_reducible refine (State.leaveChain_frame (by decide)).trans ?_
    | exact Or.inl rfl
    | exact Or.inr rfl
    | exact Or.inr fun _ => rfl
    | exact (rfl : (_ : MasterRec) = _)
    | split
    | dsimp only)

theorem drain_frame {M : Nat} {q : Nat} {s : State} (hM : 2903506965 &&& M = 2903506965) : blank M (drain q s) = blank M s := blank_mono hM (by
  unfold drain
  repeat'
    first
    | with_reducible rfl
    | with_reducible refine (upRing_frame (by decide)).trans ?_
    | with_reducible refine (undefinedUse_frame (by decide)).trans ?_
    | with_reducible refine (State.sendExpress_frame (by decide)).trans ?_
    | with_reducible refine (State.sendControl_frame (by decide)).trans ?_
    | with_reducible refine (State.takeHead_frame (by decide)).trans ?_
    | with_reducible refine (State.leaveChain_frame (by decide)).trans ?_
    | with_reducible refine ite_both_frame ?_ ?_
    | with_reducible refine ite_both_fst_frame ?_ ?_
    | split
    | dsimp only)

theorem replayStart_frame {M : Nat} {q : Nat} {v : Word} {s : State} (hM : 78708757 &&& M = 78708757) : blank M (replayStart q v s) = blank M s := blank_mono hM (by
  unfold replayStart
  repeat'
    first
    | with_reducible rfl
    | with_reducible refine (upQue_frame (by decide)).trans ?_
    | with_reducible refine (undefinedUse_frame (by decide)).trans ?_
    | with_reducible refine (replay_frame (by decide)).trans ?_
    | with_reducible refine ite_both_frame ?_ ?_
    | with_reducible refine ite_both_fst_frame ?_ ?_
    | split
    | dsimp only)

end Sys2Proof.Machine
end

