-- ==== Sys2Proof/Laws/FrameSpool.lean ====
section
/-! SUPPORT. Frames of the operations of Machine/Spool.lean: what each leaves as it was. -/

namespace Sys2Proof.Machine

theorem State.checkWater_frame {M : Nat} {s : State} {k : Nat} (hM : 68222976 &&& M = 68222976) : blank M (State.checkWater s k) = blank M s := blank_mono hM (by
  unfold State.checkWater
  repeat'
    first
    | with_reducible rfl
    | with_reducible refine (upStall_frame (by decide)).trans ?_
    | with_reducible refine (State.notify_frame (by decide)).trans ?_
    | with_reducible refine ite_both_frame ?_ ?_
    | with_reducible refine ite_both_fst_frame ?_ ?_
    | split
    | dsimp only)

theorem State.checkWaters_frame {M : Nat} {s : State} {ks : List Nat} (hM : 68222976 &&& M = 68222976) : blank M (State.checkWaters s ks) = blank M s := blank_mono hM (by
  unfold State.checkWaters
  repeat'
    first
    | with_reducible rfl
    | with_reducible refine (State.checkWater_frame (by decide)).trans ?_
    | with_reducible refine (forEach_frame fun _ _ => ?_).trans ?_
    | with_reducible refine (forEach_fst_frame fun _ _ => ?_).trans ?_
    | split
    | dsimp only)

theorem State.overrun_frame {M : Nat} {s : State} {k : Nat} {i : Nat} {lost : List HeldBlock} (hM : 68222976 &&& M = 68222976) : blank M (State.overrun s k i lost) = blank M s := blank_mono hM (by
  unfold State.overrun
  repeat'
    first
    | with_reducible rfl
    | with_reducible refine (upStall_frame (by decide)).trans ?_
    | with_reducible refine (State.notify_frame (by decide)).trans ?_
    | with_reducible refine (foldl_frame fun _ _ => ?_).trans ?_
    | with_reducible refine (foldl_fst_frame fun _ _ => ?_).trans ?_
    | with_reducible refine ite_both_frame ?_ ?_
    | with_reducible refine ite_both_fst_frame ?_ ?_
    | split
    | dsimp only)

theorem State.overtake_frame {M : Nat} {s : State} {k : Nat} {gone : List HeldBlock} (hM : 68222976 &&& M = 68222976) : blank M (State.overtake s k gone) = blank M s := blank_mono hM (by
  unfold State.overtake
  repeat'
    first
    | with_reducible rfl
    | with_reducible refine (upStall_frame (by decide)).trans ?_
    | with_reducible refine (State.notify_frame (by decide)).trans ?_
    | with_reducible refine (forEach_frame fun _ _ => ?_).trans ?_
    | with_reducible refine (forEach_fst_frame fun _ _ => ?_).trans ?_
    | with_reducible refine ite_both_frame ?_ ?_
    | with_reducible refine ite_both_fst_frame ?_ ?_
    | split
    | dsimp only)

theorem State.startPage_frame {M : Nat} {s : State} {k : Nat} {p : Nat} (hM : 68222976 &&& M = 68222976) : blank M (State.startPage s k p) = blank M s := blank_mono hM (by
  unfold State.startPage
  repeat'
    first
    | with_reducible rfl
    | with_reducible refine (upStall_frame (by decide)).trans ?_
    | with_reducible refine (State.overrun_frame (by decide)).trans ?_
    | with_reducible refine (State.overtake_frame (by decide)).trans ?_
    | with_reducible refine ite_both_frame ?_ ?_
    | with_reducible refine ite_both_fst_frame ?_ ?_
    | split
    | dsimp only)

theorem State.layBytes_frame {M : Nat} {s : State} {addr : Nat} {bs : List Byte} {poison : Bool} (hM : 67108864 &&& M = 67108864) : blank M (State.layBytes s addr bs poison) = blank M s := blank_mono hM (by
  unfold State.layBytes
  repeat'
    first
    | with_reducible rfl
    | with_reducible refine (State.writeWords_frame (by decide)).trans ?_
    | split
    | dsimp only)

theorem State.fetchBytes_frame {M : Nat} {s : State} {addr : Nat} {n : Nat} (hM : 739246100 &&& M = 739246100) : blank M (State.fetchBytes s addr n).1 = blank M s := blank_mono hM (by
  unfold State.fetchBytes
  repeat'
    first
    | with_reducible rfl
    | with_reducible refine (State.readWords_frame (by decide)).trans ?_
    | split
    | dsimp only)

theorem State.rewrite_frame {M : Nat} {s : State} {k : Nat} {r : Record} (hM : 67174400 &&& M = 67174400) : blank M (State.rewrite s k r) = blank M s := blank_mono hM (by
  unfold State.rewrite
  repeat'
    first
    | with_reducible rfl
    | with_reducible refine (upStall_frame (by decide)).trans ?_
    | with_reducible refine (State.layBytes_frame (by decide)).trans ?_
    | with_reducible refine ite_both_frame ?_ ?_
    | with_reducible refine ite_both_fst_frame ?_ ?_
    | split
    | dsimp only)

theorem State.placeDescriptor_frame {M : Nat} {s t : State} {k size p a : Nat} (hM : 68222976 &&& M = 68222976)
    (h : s.placeDescriptor k size = some (t, p, a)) : blank M t = blank M s := by
  unfold State.placeDescriptor at h
  obtain ⟨⟨p', off, fresh⟩, -, he⟩ := Option.map_eq_some_iff.mp h
  simp only [Prod.mk.injEq] at he
  rw [← he.1]
  refine blank_mono hM ((upStall_frame (by decide)).trans ?_)
  split
  · exact State.startPage_frame (by decide)
  · rfl

theorem State.refit_frame {M : Nat} {s t : State} {k : Nat} {r q : Record} {es : List RecEntry} (hM : 68222976 &&& M = 68222976)
    (h : s.refit k r es = some (t, q)) : blank M t = blank M s := by
  unfold State.refit at h
  dsimp only at h
  split at h
  · simp only [Option.some.injEq, Prod.mk.injEq] at h
    rw [h.1]
  · obtain ⟨⟨t', p, a⟩, hp, he⟩ := Option.map_eq_some_iff.mp h
    simp only [Prod.mk.injEq] at he
    rw [← he.1]
    exact State.placeDescriptor_frame hM hp

theorem State.tryComplete_frame {M : Nat} {s : State} {k : Nat} {r : Record} (hM : 68222976 &&& M = 68222976) : blank M (State.tryComplete s k r) = blank M s := blank_mono hM (by
  unfold State.tryComplete
  repeat'
    first
    | with_reducible rfl
    | with_reducible refine (upStall_frame (by decide)).trans ?_
    | with_reducible refine (State.notify_frame (by decide)).trans ?_
    | with_reducible refine (State.checkWaters_frame (by decide)).trans ?_
    | with_reducible refine (State.rewrite_frame (by decide)).trans ?_
    | with_reducible refine ite_both_frame ?_ ?_
    | with_reducible refine ite_both_fst_frame ?_ ?_
    | split
    | dsimp only)

theorem State.completeRecords_frame {M : Nat} {s : State} {i : Nat} (hM : 68222976 &&& M = 68222976) : blank M (State.completeRecords s i) = blank M s := blank_mono hM (by
  unfold State.completeRecords
  repeat'
    first
    | with_reducible rfl
    | with_reducible refine (State.tryComplete_frame (by decide)).trans ?_
    | with_reducible refine (forEach_frame fun _ _ => ?_).trans ?_
    | with_reducible refine (forEach_fst_frame fun _ _ => ?_).trans ?_
    | split
    | dsimp only)

theorem State.manyEntries_frame {M : Nat} {s : State} {es : List RecEntry} (hM : 1 &&& M = 1) : blank M (State.manyEntries s es) = blank M s := blank_mono hM (by
  unfold State.manyEntries
  repeat'
    first
    | with_reducible rfl
    | with_reducible refine (undefinedUse_frame (by decide)).trans ?_
    | with_reducible refine ite_both_frame ?_ ?_
    | with_reducible refine ite_both_fst_frame ?_ ?_
    | split
    | dsimp only)

theorem State.refuseCapture_frame {M : Nat} {s : State} {k : Nat} {u : Nat} {point : Nat} (hM : 68222976 &&& M = 68222976) : blank M (State.refuseCapture s k u point) = blank M s := blank_mono hM (by
  unfold State.refuseCapture
  repeat'
    first
    | with_reducible rfl
    | with_reducible refine (upStall_frame (by decide)).trans ?_
    | with_reducible refine (State.notify_frame (by decide)).trans ?_
    | split
    | dsimp only)

theorem State.openRecord_frame {M : Nat} {s : State} {u : Nat} {point : Nat} {a : Nat} {b : Nat} {remote : Option (Nat × Nat)} (hM : 68222977 &&& M = 68222977) : blank M (State.openRecord s u point a b remote).1 = blank M s := blank_mono hM (by
  unfold State.openRecord
  repeat'
    first
    | with_reducible rfl
    | with_reducible refine (upStall_frame (by decide)).trans ?_
    | with_reducible refine (State.checkWaters_frame (by decide)).trans ?_
    | with_reducible refine (State.rewrite_frame (by decide)).trans ?_
    | with_reducible refine (State.tryComplete_frame (by decide)).trans ?_
    | with_reducible refine (State.manyEntries_frame (by decide)).trans ?_
    | with_reducible refine (State.refuseCapture_frame (by decide)).trans ?_
    | with_reducible refine (State.placeDescriptor_frame (by decide) (by assumption)).trans ?_
    | split
    | dsimp only)

theorem State.extendRecord_frame {M : Nat} {s : State} {k : Nat} {r : Record} {b : Nat} (hM : 68222977 &&& M = 68222977) : blank M (State.extendRecord s k r b).1 = blank M s := blank_mono hM (by
  unfold State.extendRecord
  repeat'
    first
    | with_reducible rfl
    | with_reducible refine (State.checkWaters_frame (by decide)).trans ?_
    | with_reducible refine (State.rewrite_frame (by decide)).trans ?_
    | with_reducible refine (State.tryComplete_frame (by decide)).trans ?_
    | with_reducible refine (State.manyEntries_frame (by decide)).trans ?_
    | with_reducible refine (State.refit_frame (by decide) (by assumption)).trans ?_
    | with_reducible refine ite_both_frame ?_ ?_
    | with_reducible refine ite_both_fst_frame ?_ ?_
    | split
    | dsimp only)

theorem State.releaseRec_frame {M : Nat} {s : State} {k : Nat} {r : Record} (hM : 68222976 &&& M = 68222976) : blank M (State.releaseRec s k r) = blank M s := blank_mono hM (by
  unfold State.releaseRec
  repeat'
    first
    | with_reducible rfl
    | with_reducible refine (State.checkWaters_frame (by decide)).trans ?_
    | with_reducible refine (State.rewrite_frame (by decide)).trans ?_
    | split
    | dsimp only)

theorem State.reopened_frame {M : Nat} {s : State} (hM : 68222976 &&& M = 68222976) : blank M (State.reopened s) = blank M s := blank_mono hM (by
  unfold State.reopened
  repeat'
    first
    | with_reducible rfl
    | with_reducible refine (State.rewrite_frame (by decide)).trans ?_
    | with_reducible refine (State.refit_frame (by decide) (by assumption)).trans ?_
    | with_reducible refine (forEach_frame fun _ _ => ?_).trans ?_
    | with_reducible refine (forEach_fst_frame fun _ _ => ?_).trans ?_
    | with_reducible refine ite_both_frame ?_ ?_
    | with_reducible refine ite_both_fst_frame ?_ ?_
    | split
    | dsimp only)

theorem State.writeBlock_frame {M : Nat} {s : State} {k : Nat} {i : Nat} {b : OpenBlock} {interim : Bool} {key : Bool} {bytes : List Byte} {newPage : Bool} (hM : 68222976 &&& M = 68222976) : blank M (State.writeBlock s k i b interim key bytes newPage) = blank M s := blank_mono hM (by
  unfold State.writeBlock
  repeat'
    first
    | with_reducible rfl
    | with_reducible refine (upStall_frame (by decide)).trans ?_
    | with_reducible refine (State.followAck_frame (by decide)).trans ?_
    | with_reducible refine (State.checkWater_frame (by decide)).trans ?_
    | with_reducible refine (State.startPage_frame (by decide)).trans ?_
    | with_reducible refine (State.layBytes_frame (by decide)).trans ?_
    | with_reducible refine (State.reopened_frame (by decide)).trans ?_
    | with_reducible refine ite_both_frame ?_ ?_
    | with_reducible refine ite_both_fst_frame ?_ ?_
    | split
    | dsimp only)

theorem State.resetGap_frame {M : Nat} {s : State} {k : Nat} {i : Nat} {b : OpenBlock} (hM : 98304 &&& M = 98304) : blank M (State.resetGap s k i b) = blank M s := blank_mono hM (by
  unfold State.resetGap
  repeat'
    first
    | with_reducible rfl
    | with_reducible refine (upStrm_frame (by decide)).trans ?_
    | with_reducible refine (upStall_frame (by decide)).trans ?_
    | with_reducible refine ite_both_frame ?_ ?_
    | with_reducible refine ite_both_fst_frame ?_ ?_
    | split
    | dsimp only)

theorem State.placeInterim_frame {M : Nat} {s : State} {k : Nat} {i : Nat} {c : ClosedBlock} (hM : 605388800 &&& M = 605388800) : blank M (State.placeInterim s k i c) = blank M s := blank_mono hM (by
  unfold State.placeInterim
  repeat'
    first
    | with_reducible rfl
    | with_reducible refine (upStrm_frame (by decide)).trans ?_
    | with_reducible refine (State.mismatch_frame (by decide)).trans ?_
    | with_reducible refine (State.writeBlock_frame (by decide)).trans ?_
    | with_reducible refine (State.resetGap_frame (by decide)).trans ?_
    | with_reducible refine ite_both_frame ?_ ?_
    | with_reducible refine ite_both_fst_frame ?_ ?_
    | split
    | dsimp only)

theorem State.placeFinal_frame {M : Nat} {s : State} {k : Nat} {i : Nat} {c : ClosedBlock} (hM : 17795743764 &&& M = 17795743764) : blank M (State.placeFinal s k i c) = blank M s := blank_mono hM (by
  unfold State.placeFinal
  repeat'
    first
    | with_reducible rfl
    | with_reducible refine (upStrm_frame (by decide)).trans ?_
    | with_reducible refine (upStall_frame (by decide)).trans ?_
    | with_reducible refine (State.mismatch_frame (by decide)).trans ?_
    | with_reducible refine (State.saveCtx_frame (by decide)).trans ?_
    | with_reducible refine (State.finishItem_frame (by decide)).trans ?_
    | with_reducible refine (State.completeRecords_frame (by decide)).trans ?_
    | with_reducible refine (State.writeBlock_frame (by decide)).trans ?_
    | with_reducible refine (State.resetGap_frame (by decide)).trans ?_
    | with_reducible refine (forEach_frame fun _ _ => ?_).trans ?_
    | with_reducible refine (forEach_fst_frame fun _ _ => ?_).trans ?_
    | with_reducible refine ite_both_frame ?_ ?_
    | with_reducible refine ite_both_fst_frame ?_ ?_
    | split
    | dsimp only)

theorem placeBlock_frame {M : Nat} {i : Nat} {s : State} (hM : 17795743764 &&& M = 17795743764) : blank M (placeBlock i s) = blank M s := blank_mono hM (by
  unfold placeBlock
  repeat'
    first
    | with_reducible rfl
    | with_reducible refine (upStrm_frame (by decide)).trans ?_
    | with_reducible refine (State.finishItem_frame (by decide)).trans ?_
    | with_reducible refine (State.placeInterim_frame (by decide)).trans ?_
    | with_reducible refine (State.placeFinal_frame (by decide)).trans ?_
    | with_reducible refine (forEach_frame fun _ _ => ?_).trans ?_
    | with_reducible refine (forEach_fst_frame fun _ _ => ?_).trans ?_
    | with_reducible refine ite_both_frame ?_ ?_
    | with_reducible refine ite_both_fst_frame ?_ ?_
    | split
    | dsimp only)

theorem State.ackNumbers_frame {M : Nat} {s : State} {i : Nat} {w3 : Nat} {first : Nat} {last : Nat} (hM : 68222976 &&& M = 68222976) : blank M (State.ackNumbers s i w3 first last) = blank M s := blank_mono hM (by
  unfold State.ackNumbers
  repeat'
    first
    | with_reducible rfl
    | with_reducible refine (upStall_frame (by decide)).trans ?_
    | with_reducible refine (State.checkWater_frame (by decide)).trans ?_
    | split
    | dsimp only)

theorem ackBlocks_frame {M : Nat} {s : State} (hM : 78708757 &&& M = 78708757) : blank M (ackBlocks s) = blank M s := blank_mono hM (by
  unfold ackBlocks
  repeat'
    first
    | with_reducible rfl
    | with_reducible refine (upStall_frame (by decide)).trans ?_
    | with_reducible refine (undefinedUse_frame (by decide)).trans ?_
    | with_reducible refine (State.complete_frame (by decide)).trans ?_
    | with_reducible refine (State.checkWater_frame (by decide)).trans ?_
    | with_reducible refine (State.start_frame (by decide) (fun _ _ => ?_)).trans ?_
    | with_reducible refine ite_both_frame ?_ ?_
    | with_reducible refine ite_both_fst_frame ?_ ?_
    | split
    | dsimp only)

theorem expireRecord_frame {M : Nat} {k : Nat} {n : Nat} {s : State} (hM : 68222976 &&& M = 68222976) : blank M (expireRecord k n s) = blank M s := blank_mono hM (by
  unfold expireRecord
  repeat'
    first
    | with_reducible rfl
    | with_reducible refine (State.notify_frame (by decide)).trans ?_
    | with_reducible refine (State.releaseRec_frame (by decide)).trans ?_
    | with_reducible refine ite_both_frame ?_ ?_
    | with_reducible refine ite_both_fst_frame ?_ ?_
    | split
    | dsimp only)

theorem releaseRecord_frame {M : Nat} {s : State} (hM : 78708757 &&& M = 78708757) : blank M (releaseRecord s) = blank M s := blank_mono hM (by
  unfold releaseRecord
  repeat'
    first
    | with_reducible rfl
    | with_reducible refine (State.complete_frame (by decide)).trans ?_
    | with_reducible refine (State.releaseRec_frame (by decide)).trans ?_
    | with_reducible refine (expireRecord_frame (by decide)).trans ?_
    | with_reducible refine (State.start_frame (by decide) (fun _ _ => ?_)).trans ?_
    | split
    | dsimp only)

theorem rearmWater_frame {M : Nat} {k : Nat} {v : Word} {s : State} (hM : 65536 &&& M = 65536) : blank M (rearmWater k v s) = blank M s := blank_mono hM (by
  unfold rearmWater
  repeat'
    first
    | with_reducible rfl
    | with_reducible refine (upStall_frame (by decide)).trans ?_
    | with_reducible refine ite_both_frame ?_ ?_
    | with_reducible refine ite_both_fst_frame ?_ ?_
    | split
    | dsimp only)

theorem setMark_frame {M : Nat} {s : State} (hM : 78708757 &&& M = 78708757) : blank M (setMark s) = blank M s := blank_mono hM (by
  unfold setMark
  repeat'
    first
    | with_reducible rfl
    | with_reducible refine (upStall_frame (by decide)).trans ?_
    | with_reducible refine (State.complete_frame (by decide)).trans ?_
    | with_reducible refine (State.start_frame (by decide) (fun _ _ => ?_)).trans ?_
    | with_reducible refine ite_both_frame ?_ ?_
    | with_reducible refine ite_both_fst_frame ?_ ?_
    | split
    | dsimp only)

theorem clearMark_frame {M : Nat} {s : State} (hM : 78708757 &&& M = 78708757) : blank M (clearMark s) = blank M s := blank_mono hM (by
  unfold clearMark
  repeat'
    first
    | with_reducible rfl
    | with_reducible refine (upStall_frame (by decide)).trans ?_
    | with_reducible refine (State.complete_frame (by decide)).trans ?_
    | with_reducible refine (State.start_frame (by decide) (fun _ _ => ?_)).trans ?_
    | split
    | dsimp only)

theorem replay_frame {M : Nat} {s : State} (hM : 78708757 &&& M = 78708757) : blank M (replay s) = blank M s := blank_mono hM (by
  unfold replay
  repeat'
    first
    | with_reducible rfl
    | with_reducible refine (upStall_frame (by decide)).trans ?_
    | with_reducible refine (State.complete_frame (by decide)).trans ?_
    | with_reducible refine (State.startLong_frame (by decide)).trans ?_
    | with_reducible refine (State.start_frame (by decide) (fun _ _ => ?_)).trans ?_
    | with_reducible refine ite_both_frame ?_ ?_
    | with_reducible refine ite_both_fst_frame ?_ ?_
    | split
    | dsimp only)

theorem replayEnd_frame {M : Nat} {k : Nat} {s : State} (hM : 78708756 &&& M = 78708756) : blank M (replayEnd k s) = blank M s := blank_mono hM (by
  unfold replayEnd
  repeat'
    first
    | with_reducible rfl
    | with_reducible refine (upStall_frame (by decide)).trans ?_
    | with_reducible refine (State.finishItem_frame (by decide)).trans ?_
    | split
    | dsimp only)

theorem readRecord_frame {M : Nat} {s : State} (hM : 749797397 &&& M = 749797397) : blank M (readRecord s) = blank M s := blank_mono hM (by
  unfold readRecord
  repeat'
    first
    | with_reducible rfl
    | with_reducible refine (upStall_frame (by decide)).trans ?_
    | with_reducible refine (State.complete_frame (by decide)).trans ?_
    | with_reducible refine (State.startLong_frame (by decide)).trans ?_
    | with_reducible refine (State.fetchBytes_frame (by decide)).trans ?_
    | with_reducible refine (State.start_frame (by decide) (fun _ _ => ?_)).trans ?_
    | with_reducible refine ite_both_frame ?_ ?_
    | with_reducible refine ite_both_fst_frame ?_ ?_
    | split
    | dsimp only)

theorem readRecordEnd_frame {M : Nat} {k : Nat} {s : State} (hM : 78708756 &&& M = 78708756) : blank M (readRecordEnd k s) = blank M s := blank_mono hM (by
  unfold readRecordEnd
  repeat'
    first
    | with_reducible rfl
    | with_reducible refine (upStall_frame (by decide)).trans ?_
    | with_reducible refine (State.finishItem_frame (by decide)).trans ?_
    | split
    | dsimp only)

end Sys2Proof.Machine
end

