-- ==== Sys2Proof/Laws/FrameHandover.lean ====
section
/-! SUPPORT. Frames of the operations of Machine/Handover.lean: what each leaves as it was. -/

namespace Sys2Proof.Machine

theorem State.handBlock_frame {M : Nat} {s : State} {b : HeldBlock} {flags : Nat} (hM : 739246100 &&& M = 739246100) : blank M (State.handBlock s b flags).1 = blank M s := blank_mono hM (by
  unfold State.handBlock
  repeat'
    first
    | with_reducible rfl
    | with_reducible refine (State.fetchBytes_frame (by decide)).trans ?_
    | with_reducible refine ite_both_frame ?_ ?_
    | with_reducible refine ite_both_fst_frame ?_ ?_
    | split
    | dsimp only)

theorem State.handBlocks_frame {M : Nat} {s : State} {bs : List HeldBlock} {flags : Nat} (hM : 739246100 &&& M = 739246100) : blank M (State.handBlocks s bs flags).1 = blank M s := blank_mono hM (by
  unfold State.handBlocks
  repeat'
    first
    | with_reducible rfl
    | with_reducible refine (State.handBlock_frame (by decide)).trans ?_
    | with_reducible refine (foldl_frame fun _ _ => ?_).trans ?_
    | with_reducible refine (foldl_fst_frame fun _ _ => ?_).trans ?_
    | split
    | dsimp only)

theorem State.handNext_frame {M : Nat} {s : State} {k : Nat} (hM : 739311636 &&& M = 739311636) : blank M (State.handNext s k).1 = blank M s := blank_mono hM (by
  unfold State.handNext
  repeat'
    first
    | with_reducible rfl
    | with_reducible refine (upStall_frame (by decide)).trans ?_
    | with_reducible refine (State.handBlock_frame (by decide)).trans ?_
    | with_reducible refine ite_both_frame ?_ ?_
    | with_reducible refine ite_both_fst_frame ?_ ?_
    | split
    | dsimp only)

theorem State.handReplay_frame {M : Nat} {s : State} {k : Nat} {toHost : Bool} (hM : 739311636 &&& M = 739311636) : blank M (State.handReplay s k toHost).1 = blank M s := blank_mono hM (by
  unfold State.handReplay
  repeat'
    first
    | with_reducible rfl
    | with_reducible refine (upStall_frame (by decide)).trans ?_
    | with_reducible refine (State.handBlocks_frame (by decide)).trans ?_
    | with_reducible refine ite_both_frame ?_ ?_
    | with_reducible refine ite_both_fst_frame ?_ ?_
    | split
    | dsimp only)

theorem State.handFresh_frame {M : Nat} {s : State} {k : Nat} {x : SentItem} {flags : Nat} {whole : Bool} (hM : 739246100 &&& M = 739246100) : blank M (State.handFresh s k x flags whole).1 = blank M s := blank_mono hM (by
  unfold State.handFresh
  repeat'
    first
    | with_reducible rfl
    | with_reducible refine (State.handBlocks_frame (by decide)).trans ?_
    | with_reducible refine ite_both_frame ?_ ?_
    | with_reducible refine ite_both_fst_frame ?_ ?_
    | split
    | dsimp only)

theorem State.handAgain_frame {M : Nat} {s : State} {x : SentItem} (hM : 739246100 &&& M = 739246100) : blank M (State.handAgain s x).1 = blank M s := blank_mono hM (by
  unfold State.handAgain
  repeat'
    first
    | with_reducible rfl
    | with_reducible refine (State.handFresh_frame (by decide)).trans ?_
    | split
    | dsimp only)

theorem State.ackItem_frame {M : Nat} {s : State} {x : SentItem} (hM : 2215706624 &&& M = 2215706624) : blank M (State.ackItem s x) = blank M s := blank_mono hM (by
  unfold State.ackItem
  repeat'
    first
    | with_reducible rfl
    | with_reducible refine (upRim_frame (by decide)).trans ?_
    | with_reducible refine (State.ackNumbers_frame (by decide)).trans ?_
    | with_reducible refine ite_both_frame ?_ ?_
    | with_reducible refine ite_both_fst_frame ?_ ?_
    | split
    | dsimp only)

end Sys2Proof.Machine
end

