-- ==== Sys2Proof/Laws/FrameHostRings.lean ====
section
/-! SUPPORT. Frames of the operations of Machine/HostRings.lean: what each leaves as it was. -/

namespace Sys2Proof.Machine

theorem State.ringPut_frame {M : Nat} {s t : State} {r : Nat} {w : RingWrite} (hM : 16777220 &&& M = 16777220) (h : s.ringPut r w = some t) :
    blank M t = blank M s := blank_mono hM (by
  unfold State.ringPut at h
  dsimp only at h
  split at h
  · cases h
  · cases h
    refine (upRing_frame (by decide)).trans ((emit_frame (by decide)).trans ?_)
    split
    · rfl
    · exact emit_frame (by decide))

theorem State.ringPutAll_frame {M : Nat} {s t : State} {r : Nat} {ws : List RingWrite} (hM : 16777220 &&& M = 16777220)
    (h : s.ringPutAll r ws = some t) : blank M t = blank M s := by
  unfold State.ringPutAll at h
  exact foldl_option_frame (fun _ _ _ => State.ringPut_frame (blank_mask hM (by decide))) h

theorem State.ringBurst_frame {M : Nat} {s : State} {r : Nat} (hM : 16777236 &&& M = 16777236) : blank M (State.ringBurst s r) = blank M s := blank_mono hM (by
  unfold State.ringBurst
  repeat'
    first
    | with_reducible rfl
    | with_reducible refine (upRing_frame (by decide)).trans ?_
    | with_reducible refine (emit_frame (by decide)).trans ?_
    | with_reducible refine (State.sendVector_frame (by decide)).trans ?_
    | with_reducible refine ite_both_frame ?_ ?_
    | with_reducible refine ite_both_fst_frame ?_ ?_
    | split
    | dsimp only)

theorem State.setBacklog_frame {M : Nat} {s : State} {r : Nat} {l : List (RingRef × Bool)} (hM : 16777216 &&& M = 16777216) : blank M (State.setBacklog s r l) = blank M s := blank_mono hM (by
  unfold State.setBacklog
  repeat'
    first
    | with_reducible rfl
    | with_reducible refine (upRing_frame (by decide)).trans ?_
    | split
    | dsimp only)

theorem State.tellLost_frame {M : Nat} {s : State} {q : Nat} {ranges : List (Nat × Nat)} (hM : 68157440 &&& M = 68157440) : blank M (State.tellLost s q ranges).1 = blank M s := blank_mono hM (by
  unfold State.tellLost
  repeat'
    first
    | with_reducible rfl
    | with_reducible refine (State.lostNotice_frame (by decide)).trans ?_
    | with_reducible refine (foldl_frame fun _ _ => ?_).trans ?_
    | with_reducible refine (foldl_fst_frame fun _ _ => ?_).trans ?_
    | split
    | dsimp only)

theorem State.ringAgain_frame {M : Nat} {s : State} {r : Nat} {x : RingRef} {rest : List (RingRef × Bool)} (hM : 756023316 &&& M = 756023316) : blank M (State.ringAgain s r x rest).1 = blank M s := blank_mono hM (by
  unfold State.ringAgain
  split
  · dsimp only
    split
    · exact (State.tellLost_frame (by decide)).trans (State.setBacklog_frame (by decide))
    · split
      · exact (State.setBacklog_frame (by decide)).trans (State.readJournal_frame (by decide))
      · exact (State.lostNotice_frame (by decide)).trans ((State.setBacklog_frame (by decide)).trans (State.readJournal_frame (by decide)))
  · exact (State.handFresh_frame (by decide)).trans (State.setBacklog_frame (by decide))
  · dsimp only
    split
    · exact State.setBacklog_frame (by decide)
    · exact (State.fetchBytes_frame (by decide)).trans (State.setBacklog_frame (by decide)))

theorem State.ringChoice_frame {M : Nat} {s : State} {r : Nat} {c : Nat × Nat} (hM : 739311636 &&& M = 739311636) : blank M (State.ringChoice s r c).1 = blank M s := blank_mono hM (by
  unfold State.ringChoice
  repeat'
    first
    | with_reducible rfl
    | with_reducible refine (upStall_frame (by decide)).trans ?_
    | with_reducible refine (State.handNext_frame (by decide)).trans ?_
    | with_reducible refine (State.handReplay_frame (by decide)).trans ?_
    | with_reducible refine ite_both_frame ?_ ?_
    | with_reducible refine ite_both_fst_frame ?_ ?_
    | split
    | dsimp only)

theorem State.ringNext_frame {M : Nat} {s : State} {r : Nat} (hM : 756088855 &&& M = 756088855) : blank M (State.ringNext s r).1 = blank M s := blank_mono hM (by
  unfold State.ringNext
  repeat'
    first
    | with_reducible rfl
    | with_reducible refine (draw_frame (by decide)).trans ?_
    | with_reducible refine (undefinedUse_frame (by decide)).trans ?_
    | with_reducible refine (State.setBacklog_frame (by decide)).trans ?_
    | with_reducible refine (State.ringAgain_frame (by decide)).trans ?_
    | with_reducible refine (State.ringChoice_frame (by decide)).trans ?_
    | with_reducible refine ite_both_frame ?_ ?_
    | with_reducible refine ite_both_fst_frame ?_ ?_
    | split
    | dsimp only)

theorem ringWrite_frame {M : Nat} {r : Nat} {s : State} (hM : 756088855 &&& M = 756088855) : blank M (ringWrite r s) = blank M s := blank_mono hM (by
  unfold ringWrite
  split
  · rfl
  · dsimp only
    split
    · exact State.ringNext_frame (by decide)
    · split
      · rfl
      · rename_i h
        exact (State.ringBurst_frame (by decide)).trans ((State.ringPutAll_frame (by decide) h).trans (State.ringNext_frame (by decide))))

theorem ringConsume_frame {M : Nat} {r : Nat} {v : Word} {s : State} (hM : 16777217 &&& M = 16777217) : blank M (ringConsume r v s) = blank M s := blank_mono hM (by
  unfold ringConsume
  repeat'
    first
    | with_reducible rfl
    | with_reducible refine (upRing_frame (by decide)).trans ?_
    | with_reducible refine (undefinedUse_frame (by decide)).trans ?_
    | with_reducible refine ite_both_frame ?_ ?_
    | with_reducible refine ite_both_fst_frame ?_ ?_
    | split
    | dsimp only)

theorem msixGap_frame {M : Nat} {r : Nat} {s : State} (hM : 16777236 &&& M = 16777236) : blank M (msixGap r s) = blank M s := blank_mono hM (by
  unfold msixGap
  repeat'
    first
    | with_reducible rfl
    | with_reducible refine (upRing_frame (by decide)).trans ?_
    | with_reducible refine (State.sendVector_frame (by decide)).trans ?_
    | with_reducible refine ite_both_frame ?_ ?_
    | with_reducible refine ite_both_fst_frame ?_ ?_
    | split
    | dsimp only)

theorem ringEnable_frame {M : Nat} {r : Nat} {v : Word} {s : State} (hM : 16777217 &&& M = 16777217) : blank M (ringEnable r v s) = blank M s := blank_mono hM (by
  unfold ringEnable
  repeat'
    first
    | with_reducible rfl
    | with_reducible refine (upRing_frame (by decide)).trans ?_
    | with_reducible refine (undefinedUse_frame (by decide)).trans ?_
    | with_reducible refine ite_both_frame ?_ ?_
    | with_reducible refine ite_both_fst_frame ?_ ?_
    | split
    | dsimp only)

theorem ringDisable_frame {M : Nat} {r : Nat} {v : Word} {s : State} (hM : 16777217 &&& M = 16777217) : blank M (ringDisable r v s) = blank M s := blank_mono hM (by
  unfold ringDisable
  repeat'
    first
    | with_reducible rfl
    | with_reducible refine (upRing_frame (by decide)).trans ?_
    | with_reducible refine (undefinedUse_frame (by decide)).trans ?_
    | with_reducible refine ite_both_frame ?_ ?_
    | with_reducible refine ite_both_fst_frame ?_ ?_
    | split
    | dsimp only)

end Sys2Proof.Machine
end

