-- ==== Sys2Proof/Laws/FrameLace.lean ====
section
/-! SUPPORT. Frames of the operations of Machine/Lace.lean: what each leaves as it was. -/

namespace Sys2Proof.Machine

theorem State.rampTo_frame {M : Nat} {s : State} {l : Nat} {source : Nat} {target : Nat} {ticks : Nat} (hM : 524288 &&& M = 524288) : blank M (State.rampTo s l source target ticks) = blank M s := blank_mono hM (by
  unfold State.rampTo
  repeat'
    first
    | with_reducible rfl
    | with_reducible refine (upLaceOf_frame (by decide)).trans ?_
    | with_reducible refine ite_both_frame ?_ ?_
    | with_reducible refine ite_both_fst_frame ?_ ?_
    | split
    | dsimp only)

theorem State.rampUp_frame {M : Nat} {s : State} {l : Nat} (hM : 526336 &&& M = 526336) : blank M (State.rampUp s l) = blank M s := blank_mono hM (by
  unfold State.rampUp
  repeat'
    first
    | with_reducible rfl
    | with_reducible refine (upLaceOf_frame (by decide)).trans ?_
    | with_reducible refine (State.endLimit_frame (by decide)).trans ?_
    | with_reducible refine (State.rampTo_frame (by decide)).trans ?_
    | with_reducible refine ite_both_frame ?_ ?_
    | with_reducible refine ite_both_fst_frame ?_ ?_
    | split
    | dsimp only)

theorem State.restartUp_frame {M : Nat} {s : State} {l : Nat} (hM : 526336 &&& M = 526336) : blank M (State.restartUp s l) = blank M s := blank_mono hM (by
  unfold State.restartUp
  repeat'
    first
    | with_reducible rfl
    | with_reducible refine (State.rampTo_frame (by decide)).trans ?_
    | with_reducible refine (State.rampUp_frame (by decide)).trans ?_
    | with_reducible refine ite_both_frame ?_ ?_
    | with_reducible refine ite_both_fst_frame ?_ ?_
    | split
    | dsimp only)

theorem State.dropOrder_frame {M : Nat} {s : State} {l : Nat} (hM : 524288 &&& M = 524288) : blank M (State.dropOrder s l) = blank M s := blank_mono hM (by
  unfold State.dropOrder
  repeat'
    first
    | with_reducible rfl
    | with_reducible refine (upLace_frame (by decide)).trans ?_
    | with_reducible refine ite_both_frame ?_ ?_
    | with_reducible refine ite_both_fst_frame ?_ ?_
    | split
    | dsimp only)

theorem State.redrive_frame {M : Nat} {s : State} {old : Struct} {run : Struct} {t : Nat} {l : Nat} {p : Lace} (hM : 526336 &&& M = 526336) : blank M (State.redrive s old run t l p) = blank M s := blank_mono hM (by
  unfold State.redrive
  repeat'
    first
    | with_reducible rfl
    | with_reducible refine (upLaceOf_frame (by decide)).trans ?_
    | with_reducible refine (State.openSpans_frame (by decide)).trans ?_
    | with_reducible refine (State.rampTo_frame (by decide)).trans ?_
    | with_reducible refine (State.rampUp_frame (by decide)).trans ?_
    | with_reducible refine ite_both_frame ?_ ?_
    | with_reducible refine ite_both_fst_frame ?_ ?_
    | split
    | dsimp only)

theorem State.laceCommitted_frame {M : Nat} {s : State} {old : Struct} {t : Nat} {l : Nat} (hM : 526336 &&& M = 526336) : blank M (State.laceCommitted s old t l) = blank M s := blank_mono hM (by
  unfold State.laceCommitted
  repeat'
    first
    | with_reducible rfl
    | with_reducible refine (upLaceOf_frame (by decide)).trans ?_
    | with_reducible refine (State.lowSpans_frame (by decide)).trans ?_
    | with_reducible refine (State.dropOrder_frame (by decide)).trans ?_
    | with_reducible refine (State.redrive_frame (by decide)).trans ?_
    | with_reducible refine ite_both_frame ?_ ?_
    | with_reducible refine ite_both_fst_frame ?_ ?_
    | split
    | dsimp only)

theorem State.laceStopped_frame {M : Nat} {s : State} {l : Nat} (hM : 526336 &&& M = 526336) : blank M (State.laceStopped s l) = blank M s := blank_mono hM (by
  unfold State.laceStopped
  repeat'
    first
    | with_reducible rfl
    | with_reducible refine (upLaceOf_frame (by decide)).trans ?_
    | with_reducible refine (State.endSpans_frame (by decide)).trans ?_
    | with_reducible refine (State.lowSpans_frame (by decide)).trans ?_
    | with_reducible refine (State.rampSettled_frame (by decide)).trans ?_
    | with_reducible refine (State.endLimit_frame (by decide)).trans ?_
    | with_reducible refine ite_both_frame ?_ ?_
    | with_reducible refine ite_both_fst_frame ?_ ?_
    | split
    | dsimp only)

theorem rampDone_frame {M : Nat} {l : Nat} {s : State} (hM : 526336 &&& M = 526336) : blank M (rampDone l s) = blank M s := blank_mono hM (by
  unfold rampDone
  repeat'
    first
    | with_reducible rfl
    | with_reducible refine (upLaceOf_frame (by decide)).trans ?_
    | with_reducible refine (upLace_frame (by decide)).trans ?_
    | with_reducible refine (State.endSpans_frame (by decide)).trans ?_
    | with_reducible refine (State.rampSettled_frame (by decide)).trans ?_
    | with_reducible refine (State.rampUp_frame (by decide)).trans ?_
    | with_reducible refine (State.laceStopped_frame (by decide)).trans ?_
    | with_reducible refine ite_both_frame ?_ ?_
    | with_reducible refine ite_both_fst_frame ?_ ?_
    | split
    | dsimp only)

theorem State.limitCheck_frame {M : Nat} {s : State} {l : Nat} {present : Bool} (hM : 537397248 &&& M = 537397248) : blank M (State.limitCheck s l present) = blank M s := blank_mono hM (by
  unfold State.limitCheck
  repeat'
    first
    | with_reducible rfl
    | with_reducible refine (upLaceOf_frame (by decide)).trans ?_
    | with_reducible refine (State.openSpans_frame (by decide)).trans ?_
    | with_reducible refine (State.endSpans_frame (by decide)).trans ?_
    | with_reducible refine (State.faultEvent_frame (by decide)).trans ?_
    | with_reducible refine ite_both_frame ?_ ?_
    | with_reducible refine ite_both_fst_frame ?_ ?_
    | split
    | dsimp only)

theorem senseEnd_frame {M : Nat} {l : Nat} {amp : Nat} {phase : Int} {peak : Nat} {share : Nat} {s : State} (hM : 7048103956 &&& M = 7048103956) : blank M (senseEnd l amp phase peak share s) = blank M s := blank_mono hM (by
  unfold senseEnd
  repeat'
    first
    | with_reducible rfl
    | with_reducible refine (upLaceOf_frame (by decide)).trans ?_
    | with_reducible refine (State.markExc_frame (by decide)).trans ?_
    | with_reducible refine (State.lowSpans_frame (by decide)).trans ?_
    | with_reducible refine (State.takeoverRule_frame (by decide)).trans ?_
    | with_reducible refine (State.limitCheck_frame (by decide)).trans ?_
    | with_reducible refine ite_both_frame ?_ ?_
    | with_reducible refine ite_both_fst_frame ?_ ?_
    | split
    | dsimp only)

theorem State.tripLace_frame {M : Nat} {s : State} {l : Nat} (hM : 68683776 &&& M = 68683776) : blank M (State.tripLace s l) = blank M s := blank_mono hM (by
  unfold State.tripLace
  repeat'
    first
    | with_reducible rfl
    | with_reducible refine (upLaceOf_frame (by decide)).trans ?_
    | with_reducible refine (State.endSpans_frame (by decide)).trans ?_
    | with_reducible refine (State.rampSettled_frame (by decide)).trans ?_
    | with_reducible refine (State.endLimit_frame (by decide)).trans ?_
    | with_reducible refine (State.notify_frame (by decide)).trans ?_
    | with_reducible refine (State.dropOrder_frame (by decide)).trans ?_
    | split
    | dsimp only)

theorem excTrip_frame {M : Nat} {l : Nat} {s : State} (hM : 68683776 &&& M = 68683776) : blank M (excTrip l s) = blank M s := blank_mono hM (by
  unfold excTrip
  repeat'
    first
    | with_reducible rfl
    | with_reducible refine (State.tripLace_frame (by decide)).trans ?_
    | with_reducible refine ite_both_frame ?_ ?_
    | with_reducible refine ite_both_fst_frame ?_ ?_
    | split
    | dsimp only)

theorem restartLace_frame {M : Nat} {s : State} (hM : 79169557 &&& M = 79169557) : blank M (restartLace s) = blank M s := blank_mono hM (by
  unfold restartLace
  repeat'
    first
    | with_reducible rfl
    | with_reducible refine (upLaceOf_frame (by decide)).trans ?_
    | with_reducible refine (State.complete_frame (by decide)).trans ?_
    | with_reducible refine (State.rampTo_frame (by decide)).trans ?_
    | with_reducible refine (State.restartUp_frame (by decide)).trans ?_
    | with_reducible refine (State.dropOrder_frame (by decide)).trans ?_
    | with_reducible refine (State.start_frame (by decide) (fun _ _ => ?_)).trans ?_
    | with_reducible refine ite_both_frame ?_ ?_
    | with_reducible refine ite_both_fst_frame ?_ ?_
    | split
    | dsimp only)

theorem vexcTick_frame {M : Nat} {measured : Nat} {peaks : List (Nat × Nat)} {s : State} (hM : 524288 &&& M = 524288) : blank M (vexcTick measured peaks s) = blank M s := blank_mono hM (by
  unfold vexcTick
  repeat'
    first
    | with_reducible rfl
    | with_reducible refine (upLaceOf_frame (by decide)).trans ?_
    | with_reducible refine (upLace_frame (by decide)).trans ?_
    | with_reducible refine (forEach_frame fun _ _ => ?_).trans ?_
    | with_reducible refine (forEach_fst_frame fun _ _ => ?_).trans ?_
    | with_reducible refine ite_both_frame ?_ ?_
    | with_reducible refine ite_both_fst_frame ?_ ?_
    | split
    | dsimp only)

theorem vexcFault_frame {M : Nat} {measured : Nat} {s : State} (hM : 68681728 &&& M = 68681728) : blank M (vexcFault measured s) = blank M s := blank_mono hM (by
  unfold vexcFault
  repeat'
    first
    | with_reducible rfl
    | with_reducible refine (upLace_frame (by decide)).trans ?_
    | with_reducible refine (State.notify_frame (by decide)).trans ?_
    | with_reducible refine ite_both_frame ?_ ?_
    | with_reducible refine ite_both_fst_frame ?_ ?_
    | split
    | dsimp only)

theorem State.budgetAct_frame {M : Nat} {s : State} (hM : 68683776 &&& M = 68683776) : blank M (State.budgetAct s) = blank M s := blank_mono hM (by
  unfold State.budgetAct
  repeat'
    first
    | with_reducible rfl
    | with_reducible refine (upLaceOf_frame (by decide)).trans ?_
    | with_reducible refine (upLace_frame (by decide)).trans ?_
    | with_reducible refine (State.openSpans_frame (by decide)).trans ?_
    | with_reducible refine (State.notify_frame (by decide)).trans ?_
    | with_reducible refine (State.rampTo_frame (by decide)).trans ?_
    | with_reducible refine (State.dropOrder_frame (by decide)).trans ?_
    | with_reducible refine ite_both_frame ?_ ?_
    | with_reducible refine ite_both_fst_frame ?_ ?_
    | split
    | dsimp only)

theorem dissipation_frame {M : Nat} {estimates : List (Nat × Nat)} {s : State} (hM : 68683776 &&& M = 68683776) : blank M (dissipation estimates s) = blank M s := blank_mono hM (by
  unfold dissipation
  repeat'
    first
    | with_reducible rfl
    | with_reducible refine (upLaceOf_frame (by decide)).trans ?_
    | with_reducible refine (upLace_frame (by decide)).trans ?_
    | with_reducible refine (State.budgetAct_frame (by decide)).trans ?_
    | with_reducible refine (forEach_frame fun _ _ => ?_).trans ?_
    | with_reducible refine (forEach_fst_frame fun _ _ => ?_).trans ?_
    | with_reducible refine (foldl_frame fun _ _ => ?_).trans ?_
    | with_reducible refine (foldl_fst_frame fun _ _ => ?_).trans ?_
    | with_reducible refine ite_both_frame ?_ ?_
    | with_reducible refine ite_both_fst_frame ?_ ?_
    | split
    | dsimp only)

theorem excRestore_frame {M : Nat} {s : State} (hM : 68681728 &&& M = 68681728) : blank M (excRestore s) = blank M s := blank_mono hM (by
  unfold excRestore
  repeat'
    first
    | with_reducible rfl
    | with_reducible refine (upLaceOf_frame (by decide)).trans ?_
    | with_reducible refine (upLace_frame (by decide)).trans ?_
    | with_reducible refine (State.notify_frame (by decide)).trans ?_
    | with_reducible refine (State.rampTo_frame (by decide)).trans ?_
    | with_reducible refine ite_both_frame ?_ ?_
    | with_reducible refine ite_both_fst_frame ?_ ?_
    | split
    | dsimp only)

end Sys2Proof.Machine
end

