-- ==== Sys2Proof/Laws/FrameRim.lean ====
section
/-! SUPPORT. Frames of the operations of Machine/Rim.lean: what each leaves as it was. -/

namespace Sys2Proof.Machine

theorem linkHbOut_frame {M : Nat} {p : Port} {s : State} (hM : 2147483648 &&& M = 2147483648) : blank M (linkHbOut p s) = blank M s := blank_mono hM (by
  unfold linkHbOut
  repeat'
    first
    | with_reducible rfl
    | with_reducible refine (upPort_frame (by decide)).trans ?_
    | with_reducible refine (State.sendTime_frame (by decide)).trans ?_
    | with_reducible refine ite_both_frame ?_ ?_
    | with_reducible refine ite_both_fst_frame ?_ ?_
    | split
    | dsimp only)

theorem linkHbIn_frame {M : Nat} {p : Port} {heFar : Bool} {fromE : Bool} {hops : Nat} {s : State} (hM : 2215641088 &&& M = 2215641088) : blank M (linkHbIn p heFar fromE hops s) = blank M s := blank_mono hM (by
  unfold linkHbIn
  repeat'
    first
    | with_reducible rfl
    | with_reducible refine (upRim_frame (by decide)).trans ?_
    | with_reducible refine (upPort_frame (by decide)).trans ?_
    | with_reducible refine (State.rimUpdate_frame (by decide)).trans ?_
    | with_reducible refine (State.loseReach_frame (by decide)).trans ?_
    | with_reducible refine (State.notify_frame (by decide)).trans ?_
    | with_reducible refine ite_both_frame ?_ ?_
    | with_reducible refine ite_both_fst_frame ?_ ?_
    | split
    | dsimp only)

theorem reachOver_frame {M : Nat} {p : Port} {s : State} (hM : 2215641088 &&& M = 2215641088) : blank M (reachOver p s) = blank M s := blank_mono hM (by
  unfold reachOver
  repeat'
    first
    | with_reducible rfl
    | with_reducible refine (State.loseReach_frame (by decide)).trans ?_
    | with_reducible refine ite_both_frame ?_ ?_
    | with_reducible refine ite_both_fst_frame ?_ ?_
    | split
    | dsimp only)

theorem State.changeAddr_frame {M : Nat} {s : State} {a : Nat} {src : Nat} (hM : 2147549188 &&& M = 2147549188) : blank M (State.changeAddr s a src) = blank M s := blank_mono hM (by
  unfold State.changeAddr
  repeat'
    first
    | with_reducible rfl
    | with_reducible refine (upRim_frame (by decide)).trans ?_
    | with_reducible refine (State.sayCapability_frame (by decide)).trans ?_
    | with_reducible refine (State.resetAssocs_frame (by decide)).trans ?_
    | with_reducible refine (forEach_frame fun _ _ => ?_).trans ?_
    | with_reducible refine (forEach_fst_frame fun _ _ => ?_).trans ?_
    | with_reducible refine ite_both_frame ?_ ?_
    | with_reducible refine ite_both_fst_frame ?_ ?_
    | split
    | dsimp only)

theorem helloOut_frame {M : Nat} {s : State} (hM : 2147483648 &&& M = 2147483648) : blank M (helloOut s) = blank M s := blank_mono hM (by
  unfold helloOut
  repeat'
    first
    | with_reducible rfl
    | with_reducible refine (upRim_frame (by decide)).trans ?_
    | with_reducible refine (State.enqueue_frame (by decide)).trans ?_
    | with_reducible refine ite_both_frame ?_ ?_
    | with_reducible refine ite_both_fst_frame ?_ ?_
    | split
    | dsimp only)

theorem helloIn_frame {M : Nat} {src : Nat} {chip : DWord} {session : Nat} {s : State} (hM : 2215706628 &&& M = 2215706628) : blank M (helloIn src chip session s) = blank M s := blank_mono hM (by
  unfold helloIn
  repeat'
    first
    | with_reducible rfl
    | with_reducible refine (upRim_frame (by decide)).trans ?_
    | with_reducible refine (State.changeAddr_frame (by decide)).trans ?_
    | with_reducible refine (State.notify_frame (by decide)).trans ?_
    | with_reducible refine ite_both_frame ?_ ?_
    | with_reducible refine ite_both_fst_frame ?_ ?_
    | split
    | dsimp only)

theorem State.enumerated_frame {M : Nat} {s : State} {hop : Nat} {base : Nat} (hM : 2147549188 &&& M = 2147549188) : blank M (State.enumerated s hop base) = blank M s := blank_mono hM (by
  unfold State.enumerated
  repeat'
    first
    | with_reducible rfl
    | with_reducible refine (State.changeAddr_frame (by decide)).trans ?_
    | with_reducible refine ite_both_frame ?_ ?_
    | with_reducible refine ite_both_fst_frame ?_ ?_
    | split
    | dsimp only)

theorem State.forward_frame {M : Nat} {s : State} {p : Port} {f : RimFrame} {cut : Bool} (hM : 2147483648 &&& M = 2147483648) : blank M (State.forward s p f cut) = blank M s := blank_mono hM (by
  unfold State.forward
  repeat'
    first
    | with_reducible rfl
    | with_reducible refine (upPort_frame (by decide)).trans ?_
    | with_reducible refine (State.enqueue_frame (by decide)).trans ?_
    | with_reducible refine ite_both_frame ?_ ?_
    | with_reducible refine ite_both_fst_frame ?_ ?_
    | split
    | dsimp only)

theorem enumerate_frame {M : Nat} {p : Port} {hop : Nat} {base : Nat} {s : State} (hM : 2147549188 &&& M = 2147549188) : blank M (enumerate p hop base s) = blank M s := blank_mono hM (by
  unfold enumerate
  repeat'
    first
    | with_reducible rfl
    | with_reducible refine (State.enumerated_frame (by decide)).trans ?_
    | with_reducible refine (State.forward_frame (by decide)).trans ?_
    | with_reducible refine ite_both_frame ?_ ?_
    | with_reducible refine ite_both_fst_frame ?_ ?_
    | split
    | dsimp only)

theorem setAddress_frame {M : Nat} {s : State} (hM : 2226192405 &&& M = 2226192405) : blank M (setAddress s) = blank M s := blank_mono hM (by
  unfold setAddress
  repeat'
    first
    | with_reducible rfl
    | with_reducible refine (State.changeAddr_frame (by decide)).trans ?_
    | with_reducible refine (State.complete_frame (by decide)).trans ?_
    | with_reducible refine (State.startLong_frame (by decide)).trans ?_
    | with_reducible refine (State.start_frame (by decide) (fun _ _ => ?_)).trans ?_
    | with_reducible refine ite_both_frame ?_ ?_
    | with_reducible refine ite_both_fst_frame ?_ ?_
    | split
    | dsimp only)

theorem cutFrame_frame {M : Nat} {p : Port} {s : State} (hM : 2147483652 &&& M = 2147483652) : blank M (cutFrame p s) = blank M s := blank_mono hM (by
  unfold cutFrame
  repeat'
    first
    | with_reducible rfl
    | with_reducible refine (upPort_frame (by decide)).trans ?_
    | with_reducible refine (emit_frame (by decide)).trans ?_
    | with_reducible refine ite_both_frame ?_ ?_
    | with_reducible refine ite_both_fst_frame ?_ ?_
    | split
    | dsimp only)

theorem State.ackFrom_frame {M : Nat} {s : State} {src : Nat} {peer : Nat} {cls : Nat} {next : Word} (hM : 2215706624 &&& M = 2215706624) : blank M (State.ackFrom s src peer cls next) = blank M s := blank_mono hM (by
  unfold State.ackFrom
  repeat'
    first
    | with_reducible rfl
    | with_reducible refine (upRim_frame (by decide)).trans ?_
    | with_reducible refine (State.ackItem_frame (by decide)).trans ?_
    | with_reducible refine (forEach_frame fun _ _ => ?_).trans ?_
    | with_reducible refine (forEach_fst_frame fun _ _ => ?_).trans ?_
    | split
    | dsimp only)

theorem State.ctlAgain_frame {M : Nat} {s : State} {c : CtlFrame} (hM : 2215641088 &&& M = 2215641088) : blank M (State.ctlAgain s c) = blank M s := blank_mono hM (by
  unfold State.ctlAgain
  repeat'
    first
    | with_reducible rfl
    | with_reducible refine (upRim_frame (by decide)).trans ?_
    | with_reducible refine (State.enqueue_frame (by decide)).trans ?_
    | with_reducible refine (State.notify_frame (by decide)).trans ?_
    | with_reducible refine ite_both_frame ?_ ?_
    | with_reducible refine ite_both_fst_frame ?_ ?_
    | split
    | dsimp only)

theorem State.nakFrom_frame {M : Nat} {s : State} {src : Nat} {peer : Nat} {cls : Nat} {ranges : List (Word × Nat)} (hM : 2215641088 &&& M = 2215641088) : blank M (State.nakFrom s src peer cls ranges) = blank M s := blank_mono hM (by
  unfold State.nakFrom
  repeat'
    first
    | with_reducible rfl
    | with_reducible refine (upRim_frame (by decide)).trans ?_
    | with_reducible refine (State.ctlAgain_frame (by decide)).trans ?_
    | with_reducible refine (forEach_frame fun _ _ => ?_).trans ?_
    | with_reducible refine (forEach_fst_frame fun _ _ => ?_).trans ?_
    | with_reducible refine ite_both_frame ?_ ?_
    | with_reducible refine ite_both_fst_frame ?_ ?_
    | split
    | dsimp only)

theorem bulkTimeout_frame {M : Nat} {q : Word} {s : State} (hM : 2147483648 &&& M = 2147483648) : blank M (bulkTimeout q s) = blank M s := blank_mono hM (by
  unfold bulkTimeout
  repeat'
    first
    | with_reducible rfl
    | with_reducible refine (upRim_frame (by decide)).trans ?_
    | with_reducible refine ite_both_frame ?_ ?_
    | with_reducible refine ite_both_fst_frame ?_ ?_
    | split
    | dsimp only)

theorem ctlTimeout_frame {M : Nat} {dst : Nat} {q : Word} {s : State} (hM : 2215641088 &&& M = 2215641088) : blank M (ctlTimeout dst q s) = blank M s := blank_mono hM (by
  unfold ctlTimeout
  repeat'
    first
    | with_reducible rfl
    | with_reducible refine (State.ctlAgain_frame (by decide)).trans ?_
    | split
    | dsimp only)

theorem ackOut_frame {M : Nat} {peer : Nat} {s : State} (hM : 2147483648 &&& M = 2147483648) : blank M (ackOut peer s) = blank M s := blank_mono hM (by
  unfold ackOut
  repeat'
    first
    | with_reducible rfl
    | with_reducible refine (State.sendControl_frame (by decide)).trans ?_
    | with_reducible refine ite_both_frame ?_ ?_
    | with_reducible refine ite_both_fst_frame ?_ ?_
    | split
    | dsimp only)

theorem State.grant_frame {M : Nat} {s : State} {p : Port} {e : Nat} {n : Nat} (hM : 2147483648 &&& M = 2147483648) : blank M (State.grant s p e n) = blank M s := blank_mono hM (by
  unfold State.grant
  repeat'
    first
    | with_reducible rfl
    | with_reducible refine (upPort_frame (by decide)).trans ?_
    | with_reducible refine (credit_frame (by decide)).trans ?_
    | with_reducible refine ite_both_frame ?_ ?_
    | with_reducible refine ite_both_fst_frame ?_ ?_
    | split
    | dsimp only)

theorem credit_frame {M : Nat} {e : Nat} {east : Nat} {west : Nat} {s : State} (hM : 2147483648 &&& M = 2147483648) : blank M (credit e east west s) = blank M s := blank_mono hM (by
  unfold credit
  repeat'
    first
    | with_reducible rfl
    | with_reducible refine (State.grant_frame (by decide)).trans ?_
    | split
    | dsimp only)

theorem State.creditEpoch_frame {M : Nat} {s : State} {e : Nat} (hM : 2147483648 &&& M = 2147483648) : blank M (State.creditEpoch s e) = blank M s := blank_mono hM (by
  unfold State.creditEpoch
  repeat'
    first
    | with_reducible rfl
    | with_reducible refine (upPort_frame (by decide)).trans ?_
    | with_reducible refine (credit_frame (by decide)).trans ?_
    | with_reducible refine ite_both_frame ?_ ?_
    | with_reducible refine ite_both_fst_frame ?_ ?_
    | split
    | dsimp only)

theorem State.handRecord_frame {M : Nat} {s : State} {k : Nat} (hM : 65536 &&& M = 65536) : blank M (State.handRecord s k).1 = blank M s := blank_mono hM (by
  unfold State.handRecord
  repeat'
    first
    | with_reducible rfl
    | with_reducible refine (upStall_frame (by decide)).trans ?_
    | with_reducible refine ite_both_frame ?_ ?_
    | with_reducible refine ite_both_fst_frame ?_ ?_
    | split
    | dsimp only)

theorem State.handChoice_frame {M : Nat} {s : State} {c : Nat × Nat} (hM : 2886795284 &&& M = 2886795284) : blank M (State.handChoice s c).1 = blank M s := blank_mono hM (by
  unfold State.handChoice
  repeat'
    first
    | with_reducible rfl
    | with_reducible refine (upStall_frame (by decide)).trans ?_
    | with_reducible refine (upRim_frame (by decide)).trans ?_
    | with_reducible refine (State.handRecord_frame (by decide)).trans ?_
    | with_reducible refine (State.handNext_frame (by decide)).trans ?_
    | with_reducible refine (State.handReplay_frame (by decide)).trans ?_
    | with_reducible refine (State.handAgain_frame (by decide)).trans ?_
    | split
    | dsimp only)

theorem State.sendBulk_frame {M : Nat} {s : State} {p : Port} {bs : List (FrameBody × SentItem)} (hM : 2147483648 &&& M = 2147483648) : blank M (State.sendBulk s p bs) = blank M s := blank_mono hM (by
  unfold State.sendBulk
  repeat'
    first
    | with_reducible rfl
    | with_reducible refine (upRim_frame (by decide)).trans ?_
    | with_reducible refine (upPort_frame (by decide)).trans ?_
    | with_reducible refine (credit_frame (by decide)).trans ?_
    | with_reducible refine (State.enqueue_frame (by decide)).trans ?_
    | with_reducible refine (State.number_frame (by decide)).trans ?_
    | with_reducible refine (forEach_frame fun _ _ => ?_).trans ?_
    | with_reducible refine (forEach_fst_frame fun _ _ => ?_).trans ?_
    | split
    | dsimp only)

theorem bulkSend_frame {M : Nat} {s : State} (hM : 2886795286 &&& M = 2886795286) : blank M (bulkSend s) = blank M s := blank_mono hM (by
  unfold bulkSend
  repeat'
    first
    | with_reducible rfl
    | with_reducible refine (draw_frame (by decide)).trans ?_
    | with_reducible refine (State.handChoice_frame (by decide)).trans ?_
    | with_reducible refine (State.sendBulk_frame (by decide)).trans ?_
    | with_reducible refine (foldl_frame fun _ _ => ?_).trans ?_
    | with_reducible refine (foldl_fst_frame fun _ _ => ?_).trans ?_
    | with_reducible refine ite_both_frame ?_ ?_
    | with_reducible refine ite_both_fst_frame ?_ ?_
    | split
    | dsimp only)

theorem State.recordSent_frame {M : Nat} {s : State} {f : OutFrame} (hM : 65536 &&& M = 65536) : blank M (State.recordSent s f) = blank M s := blank_mono hM (by
  unfold State.recordSent
  repeat'
    first
    | with_reducible rfl
    | with_reducible refine (upStall_frame (by decide)).trans ?_
    | with_reducible refine ite_both_frame ?_ ?_
    | with_reducible refine ite_both_fst_frame ?_ ?_
    | split
    | dsimp only)

theorem transmit_frame {M : Nat} {p : Port} {s : State} (hM : 2147549188 &&& M = 2147549188) : blank M (transmit p s) = blank M s := blank_mono hM (by
  unfold transmit
  repeat'
    first
    | with_reducible rfl
    | with_reducible refine (upPort_frame (by decide)).trans ?_
    | with_reducible refine (emit_frame (by decide)).trans ?_
    | with_reducible refine (State.recordSent_frame (by decide)).trans ?_
    | with_reducible refine ite_both_frame ?_ ?_
    | with_reducible refine ite_both_fst_frame ?_ ?_
    | split
    | dsimp only)

theorem State.preemption_frame {M : Nat} {s : State} {p : Port} (hM : 2147483648 &&& M = 2147483648) : blank M (State.preemption s p) = blank M s := blank_mono hM (by
  unfold State.preemption
  repeat'
    first
    | with_reducible rfl
    | with_reducible refine (upPort_frame (by decide)).trans ?_
    | split
    | dsimp only)

theorem preemptionVerify_frame {M : Nat} {p : Port} {s : State} (hM : 2147483648 &&& M = 2147483648) : blank M (preemptionVerify p s) = blank M s := blank_mono hM (by
  unfold preemptionVerify
  repeat'
    first
    | with_reducible rfl
    | with_reducible refine (upPort_frame (by decide)).trans ?_
    | with_reducible refine (State.preemption_frame (by decide)).trans ?_
    | with_reducible refine ite_both_frame ?_ ?_
    | with_reducible refine ite_both_fst_frame ?_ ?_
    | split
    | dsimp only)

end Sys2Proof.Machine
end

