-- ==== Sys2Proof/Laws/FrameLanes.lean ====
section
/-! SUPPORT. Frames of the operations of Machine/Lanes.lean: what each leaves as it was. -/

namespace Sys2Proof.Machine

theorem State.toTrain_frame {M : Nat} {s : State} {x : Nat} (hM : 1073741824 &&& M = 1073741824) : blank M (State.toTrain s x) = blank M s := blank_mono hM (by
  unfold State.toTrain
  repeat'
    first
    | with_reducible rfl
    | with_reducible refine (upLane_frame (by decide)).trans ?_
    | split
    | dsimp only)

theorem State.toLock_frame {M : Nat} {s : State} {x : Nat} (hM : 1141899412 &&& M = 1141899412) : blank M (State.toLock s x) = blank M s := blank_mono hM (by
  unfold State.toLock
  repeat'
    first
    | with_reducible rfl
    | with_reducible refine (upLane_frame (by decide)).trans ?_
    | with_reducible refine (State.lock_frame (by decide)).trans ?_
    | split
    | dsimp only)

theorem State.toLockFixed_frame {M : Nat} {s : State} {x : Nat} (hM : 1141899412 &&& M = 1141899412) : blank M (State.toLockFixed s x) = blank M s := blank_mono hM (by
  unfold State.toLockFixed
  repeat'
    first
    | with_reducible rfl
    | with_reducible refine (upLane_frame (by decide)).trans ?_
    | with_reducible refine (State.lock_frame (by decide)).trans ?_
    | split
    | dsimp only)

theorem detect_frame {M : Nat} {x : Nat} {m : Module} {s : State} (hM : 1141899412 &&& M = 1141899412) : blank M (detect x m s) = blank M s := blank_mono hM (by
  unfold detect
  repeat'
    first
    | with_reducible rfl
    | with_reducible refine (upLane_frame (by decide)).trans ?_
    | with_reducible refine (State.toTrain_frame (by decide)).trans ?_
    | with_reducible refine (State.toLockFixed_frame (by decide)).trans ?_
    | with_reducible refine (State.notify_frame (by decide)).trans ?_
    | with_reducible refine ite_both_frame ?_ ?_
    | with_reducible refine ite_both_fst_frame ?_ ?_
    | split
    | dsimp only)

theorem trainRequest_frame {M : Nat} {x : Nat} {tap : Tap} {req : TapReq} {s : State} (hM : 1073741828 &&& M = 1073741828) : blank M (trainRequest x tap req s) = blank M s := blank_mono hM (by
  unfold trainRequest
  repeat'
    first
    | with_reducible rfl
    | with_reducible refine (upLane_frame (by decide)).trans ?_
    | with_reducible refine (emit_frame (by decide)).trans ?_
    | with_reducible refine ite_both_frame ?_ ?_
    | with_reducible refine ite_both_fst_frame ?_ ?_
    | split
    | dsimp only)

theorem State.requestTaps_frame {M : Nat} {s : State} {x : Nat} (hM : 6 &&& M = 6) : blank M (State.requestTaps s x) = blank M s := blank_mono hM (by
  unfold State.requestTaps
  repeat'
    first
    | with_reducible rfl
    | with_reducible refine (emit_frame (by decide)).trans ?_
    | with_reducible refine (draw_frame (by decide)).trans ?_
    | split
    | dsimp only)

theorem receiverReady_frame {M : Nat} {x : Nat} {own : Bool} {s : State} (hM : 1141899414 &&& M = 1141899414) : blank M (receiverReady x own s) = blank M s := blank_mono hM (by
  unfold receiverReady
  repeat'
    first
    | with_reducible rfl
    | with_reducible refine (upLane_frame (by decide)).trans ?_
    | with_reducible refine (State.toLock_frame (by decide)).trans ?_
    | with_reducible refine (State.requestTaps_frame (by decide)).trans ?_
    | with_reducible refine ite_both_frame ?_ ?_
    | with_reducible refine ite_both_fst_frame ?_ ?_
    | split
    | dsimp only)

theorem bringUpTimeout_frame {M : Nat} {x : Nat} {st : LaneState} {n : Nat} {s : State} (hM : 3221225472 &&& M = 3221225472) : blank M (bringUpTimeout x st n s) = blank M s := blank_mono hM (by
  unfold bringUpTimeout
  repeat'
    first
    | with_reducible rfl
    | with_reducible refine (State.laneFail_frame (by decide)).trans ?_
    | with_reducible refine ite_both_frame ?_ ?_
    | with_reducible refine ite_both_fst_frame ?_ ?_
    | split
    | dsimp only)

theorem lossOfSignal_frame {M : Nat} {x : Nat} {s : State} (hM : 3289383060 &&& M = 3289383060) : blank M (lossOfSignal x s) = blank M s := blank_mono hM (by
  unfold lossOfSignal
  repeat'
    first
    | with_reducible rfl
    | with_reducible refine (State.laneFail_frame (by decide)).trans ?_
    | with_reducible refine (State.lock_frame (by decide)).trans ?_
    | split
    | dsimp only)

theorem lockAcquired_frame {M : Nat} {x : Nat} {s : State} (hM : 3289383060 &&& M = 3289383060) : blank M (lockAcquired x s) = blank M s := blank_mono hM (by
  unfold lockAcquired
  repeat'
    first
    | with_reducible rfl
    | with_reducible refine (upLane_frame (by decide)).trans ?_
    | with_reducible refine (State.sayCapability_frame (by decide)).trans ?_
    | with_reducible refine (ackOut_frame (by decide)).trans ?_
    | with_reducible refine (State.lock_frame (by decide)).trans ?_
    | with_reducible refine ite_both_frame ?_ ?_
    | with_reducible refine ite_both_fst_frame ?_ ?_
    | split
    | dsimp only)

theorem State.laneUp_frame {M : Nat} {s : State} {x : Nat} (hM : 7584350228 &&& M = 7584350228) : blank M (State.laneUp s x) = blank M s := blank_mono hM (by
  unfold State.laneUp
  repeat'
    first
    | with_reducible rfl
    | with_reducible refine (upLane_frame (by decide)).trans ?_
    | with_reducible refine (upTdm_frame (by decide)).trans ?_
    | with_reducible refine (State.preemption_frame (by decide)).trans ?_
    | with_reducible refine (State.intr_frame (by decide)).trans ?_
    | with_reducible refine (State.notify_frame (by decide)).trans ?_
    | with_reducible refine ite_both_frame ?_ ?_
    | with_reducible refine ite_both_fst_frame ?_ ?_
    | split
    | dsimp only)

theorem capability_frame {M : Nat} {x : Nat} {w : Nat} {s : State} (hM : 7584350228 &&& M = 7584350228) : blank M (capability x w s) = blank M s := blank_mono hM (by
  unfold capability
  repeat'
    first
    | with_reducible rfl
    | with_reducible refine (upLane_frame (by decide)).trans ?_
    | with_reducible refine (State.laneFail_frame (by decide)).trans ?_
    | with_reducible refine (State.sayCapability_frame (by decide)).trans ?_
    | with_reducible refine (ackOut_frame (by decide)).trans ?_
    | with_reducible refine (State.laneUp_frame (by decide)).trans ?_
    | with_reducible refine (State.notify_frame (by decide)).trans ?_
    | with_reducible refine ite_both_frame ?_ ?_
    | with_reducible refine ite_both_fst_frame ?_ ?_
    | split
    | dsimp only)

theorem lockLoss_frame {M : Nat} {x : Nat} {c : LossCause} {s : State} (hM : 7584415764 &&& M = 7584415764) : blank M (lockLoss x c s) = blank M s := blank_mono hM (by
  unfold lockLoss
  repeat'
    first
    | with_reducible rfl
    | with_reducible refine (upLane_frame (by decide)).trans ?_
    | with_reducible refine (State.toDetect_frame (by decide)).trans ?_
    | split
    | dsimp only)

theorem backoffEnd_frame {M : Nat} {x : Nat} {s : State} (hM : 1141899264 &&& M = 1141899264) : blank M (backoffEnd x s) = blank M s := blank_mono hM (by
  unfold backoffEnd
  repeat'
    first
    | with_reducible rfl
    | with_reducible refine (upLane_frame (by decide)).trans ?_
    | with_reducible refine (State.notify_frame (by decide)).trans ?_
    | with_reducible refine ite_both_frame ?_ ?_
    | with_reducible refine ite_both_fst_frame ?_ ?_
    | split
    | dsimp only)

theorem failuresClear_frame {M : Nat} {x : Nat} {s : State} (hM : 1073741824 &&& M = 1073741824) : blank M (failuresClear x s) = blank M s := blank_mono hM (by
  unfold failuresClear
  repeat'
    first
    | with_reducible rfl
    | with_reducible refine (upLane_frame (by decide)).trans ?_
    | with_reducible refine ite_both_frame ?_ ?_
    | with_reducible refine ite_both_fst_frame ?_ ?_
    | split
    | dsimp only)

theorem symbolError_frame {M : Nat} {x : Nat} {k : SymError} {s : State} (hM : 1610612736 &&& M = 1610612736) : blank M (symbolError x k s) = blank M s := blank_mono hM (by
  unfold symbolError
  repeat'
    first
    | with_reducible rfl
    | with_reducible refine (upLane_frame (by decide)).trans ?_
    | with_reducible refine (State.faultEvent_frame (by decide)).trans ?_
    | with_reducible refine ite_both_frame ?_ ?_
    | with_reducible refine ite_both_fst_frame ?_ ?_
    | split
    | dsimp only)

theorem opticsPoll_frame {M : Nat} {x : Nat} {byte0 : Byte} {status : Byte} {power : Half} {s : State} (hM : 1073741824 &&& M = 1073741824) : blank M (opticsPoll x byte0 status power s) = blank M s := blank_mono hM (by
  unfold opticsPoll
  repeat'
    first
    | with_reducible rfl
    | with_reducible refine (upLane_frame (by decide)).trans ?_
    | with_reducible refine ite_both_frame ?_ ?_
    | with_reducible refine ite_both_fst_frame ?_ ?_
    | split
    | dsimp only)

theorem setTest_frame {M : Nat} {x : Nat} {v : Word} {s : State} (hM : 7584415765 &&& M = 7584415765) : blank M (setTest x v s) = blank M s := blank_mono hM (by
  unfold setTest
  repeat'
    first
    | with_reducible rfl
    | with_reducible refine (upLane_frame (by decide)).trans ?_
    | with_reducible refine (undefinedUse_frame (by decide)).trans ?_
    | with_reducible refine (State.leaveActive_frame (by decide)).trans ?_
    | with_reducible refine (State.toDetect_frame (by decide)).trans ?_
    | with_reducible refine ite_both_frame ?_ ?_
    | with_reducible refine ite_both_fst_frame ?_ ?_
    | split
    | dsimp only)

theorem testWrite_frame {M : Nat} {x : Nat} {v : Word} {s : State} (hM : 7584415765 &&& M = 7584415765) : blank M (testWrite x v s) = blank M s := blank_mono hM (by
  unfold testWrite
  repeat'
    first
    | with_reducible rfl
    | with_reducible refine (upLane_frame (by decide)).trans ?_
    | with_reducible refine (setTest_frame (by decide)).trans ?_
    | with_reducible refine ite_both_frame ?_ ?_
    | with_reducible refine ite_both_fst_frame ?_ ?_
    | split
    | dsimp only)

theorem prbsInject_frame {M : Nat} {x : Nat} {v : Word} {s : State} (hM : 7584415765 &&& M = 7584415765) : blank M (prbsInject x v s) = blank M s := blank_mono hM (by
  unfold prbsInject
  repeat'
    first
    | with_reducible rfl
    | with_reducible refine (testWrite_frame (by decide)).trans ?_
    | with_reducible refine ite_both_frame ?_ ?_
    | with_reducible refine ite_both_fst_frame ?_ ?_
    | split
    | dsimp only)

theorem fixedTaps_frame {M : Nat} {x : Nat} {v : Word} {s : State} (hM : 1073741825 &&& M = 1073741825) : blank M (fixedTaps x v s) = blank M s := blank_mono hM (by
  unfold fixedTaps
  repeat'
    first
    | with_reducible rfl
    | with_reducible refine (undefinedUse_frame (by decide)).trans ?_
    | with_reducible refine (upLane_frame (by decide)).trans ?_
    | with_reducible refine ite_both_frame ?_ ?_)

theorem optics_frame {M : Nat} {op : Nat} {write : Bool} {s : State} (hM : 78643221 &&& M = 78643221) : blank M (optics op write s) = blank M s := blank_mono hM (by
  unfold optics
  repeat'
    first
    | with_reducible rfl
    | with_reducible refine (emit_frame (by decide)).trans ?_
    | with_reducible refine (State.complete_frame (by decide)).trans ?_
    | with_reducible refine (State.startLong_frame (by decide)).trans ?_
    | with_reducible refine (State.start_frame (by decide) (fun _ _ => ?_)).trans ?_
    | with_reducible refine ite_both_frame ?_ ?_
    | with_reducible refine ite_both_fst_frame ?_ ?_
    | split
    | dsimp only)

theorem opticsDone_frame {M : Nat} {x : Nat} {r : OpticsResult} {s : State} (hM : 78643220 &&& M = 78643220) : blank M (opticsDone x r s) = blank M s := blank_mono hM (by
  unfold opticsDone
  repeat'
    first
    | with_reducible rfl
    | with_reducible refine (State.endLong_frame (by decide)).trans ?_
    | split
    | dsimp only)

end Sys2Proof.Machine
end

