-- ==== Sys2Proof/Laws/FrameLooks.lean ====
section
/-! SUPPORT. Frames of the operations of Machine/Looks.lean: what each leaves as it was. -/

namespace Sys2Proof.Machine

theorem overload_frame {M : Nat} {seq : Nat} {s : State} (hM : 536877056 &&& M = 536877056) : blank M (overload seq s) = blank M s := blank_mono hM (by
  unfold overload
  repeat'
    first
    | with_reducible rfl
    | with_reducible refine (upLook_frame (by decide)).trans ?_
    | with_reducible refine (upModu_frame (by decide)).trans ?_
    | with_reducible refine (State.addSpan_frame (by decide)).trans ?_
    | with_reducible refine (State.faultEvent_frame (by decide)).trans ?_
    | with_reducible refine ite_both_frame ?_ ?_
    | with_reducible refine ite_both_fst_frame ?_ ?_
    | split
    | dsimp only)

theorem State.noteOverloads_frame {M : Nat} {s : State} {stream : Nat} (hM : 68159488 &&& M = 68159488) : blank M (State.noteOverloads s stream) = blank M s := blank_mono hM (by
  unfold State.noteOverloads
  repeat'
    first
    | with_reducible rfl
    | with_reducible refine (upLook_frame (by decide)).trans ?_
    | with_reducible refine (State.notify_frame (by decide)).trans ?_
    | with_reducible refine ite_both_frame ?_ ?_
    | with_reducible refine ite_both_fst_frame ?_ ?_
    | split
    | dsimp only)

theorem State.runGear_frame {M : Nat} {s : State} {seq : Nat} {stream : Nat} {t : Nat} (hM : 3072 &&& M = 3072) : blank M (State.runGear s seq stream t) = blank M s := blank_mono hM (by
  unfold State.runGear
  repeat'
    first
    | with_reducible rfl
    | with_reducible refine (upLook_frame (by decide)).trans ?_
    | with_reducible refine (State.countShift_frame (by decide)).trans ?_
    | with_reducible refine ite_both_frame ?_ ?_
    | with_reducible refine ite_both_fst_frame ?_ ?_
    | split
    | dsimp only)

theorem State.beginRun_frame {M : Nat} {s : State} {seq : Nat} {stream : Nat} {t : Nat} (hM : 3076 &&& M = 3076) : blank M (State.beginRun s seq stream t) = blank M s := blank_mono hM (by
  unfold State.beginRun
  repeat'
    first
    | with_reducible rfl
    | with_reducible refine (upLook_frame (by decide)).trans ?_
    | with_reducible refine (emit_frame (by decide)).trans ?_
    | with_reducible refine (State.addSpan_frame (by decide)).trans ?_
    | with_reducible refine (State.runGear_frame (by decide)).trans ?_
    | with_reducible refine ite_both_frame ?_ ?_
    | with_reducible refine ite_both_fst_frame ?_ ?_
    | split
    | dsimp only)

theorem runStart_frame {M : Nat} {seq : Nat} {s : State} (hM : 7172 &&& M = 7172) : blank M (runStart seq s) = blank M s := blank_mono hM (by
  unfold runStart
  repeat'
    first
    | with_reducible rfl
    | with_reducible refine (upModu_frame (by decide)).trans ?_
    | with_reducible refine (State.beginRun_frame (by decide)).trans ?_
    | with_reducible refine ite_both_frame ?_ ?_
    | with_reducible refine ite_both_fst_frame ?_ ?_
    | split
    | dsimp only)

end Sys2Proof.Machine
end

