-- ==== Sys2Proof/Laws/FrameTriggers.lean ====
section
/-! SUPPORT. Frames of the operations of Machine/Triggers.lean: what each leaves as it was. -/

namespace Sys2Proof.Machine

theorem State.suppress_frame {M : Nat} {s : State} {u : Nat} {t : Nat} {formed : List (Nat × Nat × Option (Nat × Nat))} (hM : 68173824 &&& M = 68173824) : blank M (State.suppress s u t formed) = blank M s := blank_mono hM (by
  unfold State.suppress
  repeat'
    first
    | with_reducible rfl
    | with_reducible refine (upTrig_frame (by decide)).trans ?_
    | with_reducible refine (State.notify_frame (by decide)).trans ?_
    | with_reducible refine ite_both_frame ?_ ?_
    | with_reducible refine ite_both_fst_frame ?_ ?_
    | split
    | dsimp only)

theorem State.countRetrigger_frame {M : Nat} {s : State} {k : Nat} {n : Nat} {t : Nat} (hM : 67174400 &&& M = 67174400) : blank M (State.countRetrigger s k n t) = blank M s := blank_mono hM (by
  unfold State.countRetrigger
  repeat'
    first
    | with_reducible rfl
    | with_reducible refine (State.rewrite_frame (by decide)).trans ?_
    | with_reducible refine ite_both_frame ?_ ?_
    | with_reducible refine ite_both_fst_frame ?_ ?_
    | split
    | dsimp only)

theorem State.openFor_frame {M : Nat} {s : State} {u : Nat} {t : Nat} {remote : Option (Nat × Nat)} (hM : 68239361 &&& M = 68239361) : blank M (State.openFor s u t remote).1 = blank M s := blank_mono hM (by
  unfold State.openFor
  repeat'
    first
    | with_reducible rfl
    | with_reducible refine (upTrig_frame (by decide)).trans ?_
    | with_reducible refine (State.openRecord_frame (by decide)).trans ?_
    | split
    | dsimp only)

theorem State.capture_frame {M : Nat} {s : State} {u : Nat} {t : Nat} {remote : Option (Nat × Nat)} (hM : 2215723009 &&& M = 2215723009) : blank M (State.capture s u t remote).1 = blank M s := blank_mono hM (by
  unfold State.capture
  repeat'
    first
    | with_reducible rfl
    | with_reducible refine (State.number_frame (by decide)).trans ?_
    | with_reducible refine (State.extendRecord_frame (by decide)).trans ?_
    | with_reducible refine (State.countRetrigger_frame (by decide)).trans ?_
    | with_reducible refine (State.openFor_frame (by decide)).trans ?_
    | with_reducible refine ite_both_frame ?_ ?_
    | with_reducible refine ite_both_fst_frame ?_ ?_
    | split
    | dsimp only)

theorem State.fire_frame {M : Nat} {s : State} {u : Nat} {t : Nat} {formed : List (Nat × Nat × Option (Nat × Nat))} (hM : 2215985153 &&& M = 2215985153) : blank M (State.fire s u t formed) = blank M s := blank_mono hM (by
  unfold State.fire
  repeat'
    first
    | with_reducible rfl
    | with_reducible refine (upTrig_frame (by decide)).trans ?_
    | with_reducible refine (upPath_frame ?_ ?_ ?_ ?_ ?_ ?_ ?_ ?_ ?_).trans ?_
    | with_reducible refine (State.sendExpress_frame (by decide)).trans ?_
    | with_reducible refine (State.notify_frame (by decide)).trans ?_
    | with_reducible refine (State.capture_frame (by decide)).trans ?_
    | exact Or.inl rfl
    | exact Or.inr rfl
    | exact Or.inr fun _ => rfl
    | exact (rfl : (_ : MasterRec) = _)
    | with_reducible refine ite_both_frame ?_ ?_
    | with_reducible refine ite_both_fst_frame ?_ ?_
    | split
    | dsimp only)

theorem State.sourceEvent_frame {M : Nat} {s : State} {u : Nat} {k : Nat} {te : Nat} {remote : Option (Nat × Nat)} (hM : 2215985153 &&& M = 2215985153) : blank M (State.sourceEvent s u k te remote) = blank M s := blank_mono hM (by
  unfold State.sourceEvent
  repeat'
    first
    | with_reducible rfl
    | with_reducible refine (upTrig_frame (by decide)).trans ?_
    | with_reducible refine (State.suppress_frame (by decide)).trans ?_
    | with_reducible refine (State.fire_frame (by decide)).trans ?_
    | with_reducible refine ite_both_frame ?_ ?_
    | with_reducible refine ite_both_fst_frame ?_ ?_
    | split
    | dsimp only)

theorem State.deliver_frame {M : Nat} {s : State} {units : List Nat} {type : Nat} {arg : Option Nat} {te : Nat} {remote : Option (Nat × Nat)} (hM : 2215985153 &&& M = 2215985153) : blank M (State.deliver s units type arg te remote) = blank M s := blank_mono hM (by
  unfold State.deliver
  repeat'
    first
    | with_reducible rfl
    | with_reducible refine (State.sourceEvent_frame (by decide)).trans ?_
    | with_reducible refine (forEach_frame fun _ _ => ?_).trans ?_
    | with_reducible refine (forEach_fst_frame fun _ _ => ?_).trans ?_
    | with_reducible refine ite_both_frame ?_ ?_
    | with_reducible refine ite_both_fst_frame ?_ ?_
    | split
    | dsimp only)

theorem ioEdge_frame {M : Nat} {pin : Nat} {rising : Bool} {frac : Nat} {s : State} (hM : 2215985153 &&& M = 2215985153) : blank M (ioEdge pin rising frac s) = blank M s := blank_mono hM (by
  unfold ioEdge
  repeat'
    first
    | with_reducible rfl
    | with_reducible refine (upPath_frame ?_ ?_ ?_ ?_ ?_ ?_ ?_ ?_ ?_).trans ?_
    | with_reducible refine (State.deliver_frame (by decide)).trans ?_
    | exact Or.inl rfl
    | exact Or.inr rfl
    | exact Or.inr fun _ => rfl
    | exact (rfl : (_ : MasterRec) = _)
    | with_reducible refine ite_both_frame ?_ ?_
    | with_reducible refine ite_both_fst_frame ?_ ?_
    | split
    | dsimp only)

theorem scheduleDue_frame {M : Nat} {u : Nat} {s : State} (hM : 2215985281 &&& M = 2215985281) : blank M (scheduleDue u s) = blank M s := blank_mono hM (by
  unfold scheduleDue
  repeat'
    first
    | with_reducible rfl
    | with_reducible refine (upTmb_frame ?_ ?_).trans ?_
    | with_reducible refine (State.schedule_frame (by decide)).trans ?_
    | with_reducible refine (State.deliver_frame (by decide)).trans ?_
    | exact Or.inl rfl
    | exact Or.inr rfl
    | exact Or.inr fun _ => rfl
    | exact (rfl : (_ : MasterRec) = _)
    | with_reducible refine ite_both_frame ?_ ?_
    | with_reducible refine ite_both_fst_frame ?_ ?_
    | split
    | dsimp only)

theorem State.armSchedule_frame {M : Nat} {s : State} {u : Nat} {t : Nat} (hM : 128 &&& M = 128) : blank M (State.armSchedule s u t) = blank M s := blank_mono hM (by
  unfold State.armSchedule
  repeat'
    first
    | with_reducible rfl
    | with_reducible refine (State.schedule_frame (by decide)).trans ?_
    | with_reducible refine ite_both_frame ?_ ?_
    | with_reducible refine ite_both_fst_frame ?_ ?_
    | split
    | dsimp only)

theorem pulseEnd_frame {M : Nat} {pin : Nat} {s : State} (hM : 262144 &&& M = 262144) : blank M (pulseEnd pin s) = blank M s := blank_mono hM (by
  unfold pulseEnd
  repeat'
    first
    | with_reducible rfl
    | with_reducible refine (upPath_frame ?_ ?_ ?_ ?_ ?_ ?_ ?_ ?_ ?_).trans ?_
    | exact Or.inl rfl
    | exact Or.inr rfl
    | exact Or.inr fun _ => rfl
    | exact (rfl : (_ : MasterRec) = _)
    | with_reducible refine ite_both_frame ?_ ?_
    | with_reducible refine ite_both_fst_frame ?_ ?_
    | split
    | dsimp only)

theorem freewheelDone_frame {M : Nat} {u : Nat} {s : State} (hM : 16384 &&& M = 16384) : blank M (freewheelDone u s) = blank M s := blank_mono hM (by
  unfold freewheelDone
  repeat'
    first
    | with_reducible rfl
    | with_reducible refine (upTrig_frame (by decide)).trans ?_
    | with_reducible refine ite_both_frame ?_ ?_
    | with_reducible refine ite_both_fst_frame ?_ ?_
    | split
    | dsimp only)

theorem fireTrigger_frame {M : Nat} {s : State} (hM : 2226470933 &&& M = 2226470933) : blank M (fireTrigger s) = blank M s := blank_mono hM (by
  unfold fireTrigger
  repeat'
    first
    | with_reducible rfl
    | with_reducible refine (State.complete_frame (by decide)).trans ?_
    | with_reducible refine (State.deliver_frame (by decide)).trans ?_
    | with_reducible refine (State.start_frame (by decide) (fun _ _ => ?_)).trans ?_
    | with_reducible refine ite_both_frame ?_ ?_
    | with_reducible refine ite_both_fst_frame ?_ ?_
    | split
    | dsimp only)

theorem rearmTrigger_frame {M : Nat} {s : State} (hM : 78659605 &&& M = 78659605) : blank M (rearmTrigger s) = blank M s := blank_mono hM (by
  unfold rearmTrigger
  repeat'
    first
    | with_reducible rfl
    | with_reducible refine (upTrig_frame (by decide)).trans ?_
    | with_reducible refine (State.complete_frame (by decide)).trans ?_
    | with_reducible refine (State.start_frame (by decide) (fun _ _ => ?_)).trans ?_
    | with_reducible refine ite_both_frame ?_ ?_
    | with_reducible refine ite_both_fst_frame ?_ ?_
    | split
    | dsimp only)

theorem triggerMessage_frame {M : Nat} {m : TriggerMsg} {s : State} (hM : 2215985153 &&& M = 2215985153) : blank M (triggerMessage m s) = blank M s := blank_mono hM (by
  unfold triggerMessage
  repeat'
    first
    | with_reducible rfl
    | with_reducible refine (State.deliver_frame (by decide)).trans ?_
    | with_reducible refine ite_both_frame ?_ ?_
    | with_reducible refine ite_both_fst_frame ?_ ?_
    | split
    | dsimp only)

end Sys2Proof.Machine
end

