-- ==== Sys2Proof/Laws/FrameSwitches.lean ====
section
/-! SUPPORT. Frames of the operations of Machine/Switches.lean: what each leaves as it was. -/

namespace Sys2Proof.Machine

theorem State.noteSwitch_frame {M : Nat} {s : State} {i : Nat} (hM : 68165632 &&& M = 68165632) : blank M (State.noteSwitch s i) = blank M s := blank_mono hM (by
  unfold State.noteSwitch
  repeat'
    first
    | with_reducible rfl
    | with_reducible refine (upSw_frame (by decide)).trans ?_
    | with_reducible refine (State.notify_frame (by decide)).trans ?_
    | with_reducible refine ite_both_frame ?_ ?_
    | with_reducible refine ite_both_fst_frame ?_ ?_
    | split
    | dsimp only)

theorem State.noteRise_frame {M : Nat} {s : State} {before : Nat} (hM : 20 &&& M = 20) : blank M (State.noteRise s before) = blank M s := blank_mono hM (by
  unfold State.noteRise
  repeat'
    first
    | with_reducible rfl
    | with_reducible refine (State.intr_frame (by decide)).trans ?_
    | with_reducible refine ite_both_frame ?_ ?_
    | with_reducible refine ite_both_fst_frame ?_ ?_
    | split
    | dsimp only)

theorem alarmCfg_frame {M : Nat} {v : Word} {s : State} (hM : 262164 &&& M = 262164) : blank M (alarmCfg v s) = blank M s := blank_mono hM (by
  unfold alarmCfg
  repeat'
    first
    | with_reducible rfl
    | with_reducible refine (upPath_frame ?_ ?_ ?_ ?_ ?_ ?_ ?_ ?_ ?_).trans ?_
    | with_reducible refine (State.noteRise_frame (by decide)).trans ?_
    | exact Or.inl rfl
    | exact Or.inr rfl)

theorem State.deliverSwitches_frame {M : Nat} {s : State} {es : List SwitchEvent} (hM : 2215985153 &&& M = 2215985153) : blank M (State.deliverSwitches s es) = blank M s := blank_mono hM (by
  unfold State.deliverSwitches
  repeat'
    first
    | with_reducible rfl
    | with_reducible refine (State.sourceEvent_frame (by decide)).trans ?_
    | with_reducible refine (forEach_frame fun _ _ => ?_).trans ?_
    | with_reducible refine (forEach_fst_frame fun _ _ => ?_).trans ?_
    | with_reducible refine ite_both_frame ?_ ?_
    | with_reducible refine ite_both_fst_frame ?_ ?_
    | split
    | dsimp only)

theorem State.switchChange_frame {M : Nat} {s : State} {st : Struct} {i : Nat} {t : Nat} {eng : Bool} {level : Q} {hyst : Q} (hM : 68165652 &&& M = 68165652) : blank M (State.switchChange s st i t eng level hyst).1 = blank M s := blank_mono hM (by
  unfold State.switchChange
  repeat'
    first
    | with_reducible rfl
    | with_reducible refine (upSw_frame (by decide)).trans ?_
    | with_reducible refine (State.noteSwitch_frame (by decide)).trans ?_
    | with_reducible refine (State.noteRise_frame (by decide)).trans ?_
    | with_reducible refine ite_both_frame ?_ ?_
    | with_reducible refine ite_both_fst_frame ?_ ?_
    | split
    | dsimp only)

theorem State.switchSample_frame {M : Nat} {s : State} {st : Struct} {i : Nat} {t : Nat} {eng : Bool} {v : Word} {ok : Bool} (hM : 68165652 &&& M = 68165652) : blank M (State.switchSample s st i t eng v ok).1 = blank M s := blank_mono hM (by
  unfold State.switchSample
  repeat'
    first
    | with_reducible rfl
    | with_reducible refine (upSw_frame (by decide)).trans ?_
    | with_reducible refine (State.switchChange_frame (by decide)).trans ?_
    | with_reducible refine ite_both_frame ?_ ?_
    | with_reducible refine ite_both_fst_frame ?_ ?_
    | split
    | dsimp only)

theorem State.switchRecord_frame {M : Nat} {s : State} {st : Struct} {i : Nat} {t : Nat} (hM : 8212 &&& M = 8212) : blank M (State.switchRecord s st i t) = blank M s := blank_mono hM (by
  unfold State.switchRecord
  repeat'
    first
    | with_reducible rfl
    | with_reducible refine (upSw_frame (by decide)).trans ?_
    | with_reducible refine (State.noteRise_frame (by decide)).trans ?_
    | with_reducible refine ite_both_frame ?_ ?_
    | with_reducible refine ite_both_fst_frame ?_ ?_
    | split
    | dsimp only)

theorem State.commitSwitch_frame {M : Nat} {s : State} {old : Struct} {i : Nat} {t : Nat} (hM : 8192 &&& M = 8192) : blank M (State.commitSwitch s old i t) = blank M s := blank_mono hM (by
  unfold State.commitSwitch
  repeat'
    first
    | with_reducible rfl
    | with_reducible refine (upSw_frame (by decide)).trans ?_
    | with_reducible refine ite_both_frame ?_ ?_
    | with_reducible refine ite_both_fst_frame ?_ ?_
    | split
    | dsimp only)

theorem State.switchLook_frame {M : Nat} {s : State} {st : Struct} {stream : Nat} {t : Nat} {eng : Bool} {v : Word} {tag : Nat} (hM : 2215993365 &&& M = 2215993365) : blank M (State.switchLook s st stream t eng v tag) = blank M s := blank_mono hM (by
  unfold State.switchLook
  repeat'
    first
    | with_reducible rfl
    | with_reducible refine (State.deliverSwitches_frame (by decide)).trans ?_
    | with_reducible refine (State.switchSample_frame (by decide)).trans ?_
    | with_reducible refine (State.switchRecord_frame (by decide)).trans ?_
    | with_reducible refine (forEach_frame fun _ _ => ?_).trans ?_
    | with_reducible refine (forEach_fst_frame fun _ _ => ?_).trans ?_
    | split
    | dsimp only)

theorem State.switchStops_frame {M : Nat} {s : State} {stream : Nat} (hM : 8192 &&& M = 8192) : blank M (State.switchStops s stream) = blank M s := blank_mono hM (by
  unfold State.switchStops
  repeat'
    first
    | with_reducible rfl
    | with_reducible refine (upSw_frame (by decide)).trans ?_
    | with_reducible refine (forEach_frame fun _ _ => ?_).trans ?_
    | with_reducible refine (forEach_fst_frame fun _ _ => ?_).trans ?_
    | with_reducible refine ite_both_frame ?_ ?_
    | with_reducible refine ite_both_fst_frame ?_ ?_
    | split
    | dsimp only)

theorem State.ambientSwitch_frame {M : Nat} {s : State} {epoch : Nat} {i : Nat} (hM : 8192 &&& M = 8192) : blank M (State.ambientSwitch s epoch i) = blank M s := blank_mono hM (by
  unfold State.ambientSwitch
  repeat'
    first
    | with_reducible rfl
    | with_reducible refine (upSw_frame (by decide)).trans ?_
    | with_reducible refine ite_both_frame ?_ ?_
    | with_reducible refine ite_both_fst_frame ?_ ?_
    | split
    | dsimp only)

theorem ambientUpdate_frame {M : Nat} {epoch : Nat} {s : State} (hM : 8192 &&& M = 8192) : blank M (ambientUpdate epoch s) = blank M s := blank_mono hM (by
  unfold ambientUpdate
  repeat'
    first
    | with_reducible rfl
    | with_reducible refine (State.ambientSwitch_frame (by decide)).trans ?_
    | with_reducible refine (forEach_frame fun _ _ => ?_).trans ?_
    | with_reducible refine (forEach_fst_frame fun _ _ => ?_).trans ?_
    | with_reducible refine ite_both_frame ?_ ?_
    | with_reducible refine ite_both_fst_frame ?_ ?_
    | split
    | dsimp only)

theorem State.noteAmbient_frame {M : Nat} {s : State} {t : Nat} (hM : 68157440 &&& M = 68157440) : blank M (State.noteAmbient s t) = blank M s := blank_mono hM (by
  unfold State.noteAmbient
  repeat'
    first
    | with_reducible rfl
    | with_reducible refine (State.notify_frame (by decide)).trans ?_
    | with_reducible refine (forEach_frame fun _ _ => ?_).trans ?_
    | with_reducible refine (forEach_fst_frame fun _ _ => ?_).trans ?_
    | split
    | dsimp only)

end Sys2Proof.Machine
end

