-- ==== Sys2Proof/Laws/FrameReducers.lean ====
section
/-! SUPPORT. Frames of the operations of Machine/Reducers.lean: what each leaves as it was. -/

namespace Sys2Proof.Machine

theorem State.keepLine_frame {M : Nat} {s : State} {line : Nat} {i : Nat} (hM : 772800534 &&& M = 772800534) : blank M (State.keepLine s line i) = blank M s := blank_mono hM (by
  unfold State.keepLine
  repeat'
    first
    | with_reducible rfl
    | with_reducible refine (State.putCell_frame (by decide)).trans ?_
    | with_reducible refine (State.contend_frame (by decide)).trans ?_
    | with_reducible refine (State.readByte_frame (by decide)).trans ?_
    | with_reducible refine (forEach_frame fun _ _ => ?_).trans ?_
    | with_reducible refine (forEach_fst_frame fun _ _ => ?_).trans ?_
    | split
    | dsimp only)

theorem State.tallyTouched_frame {M : Nat} {s : State} {st : Struct} {key : Nat} {n : Nat} {whole : Bool} (hM : 17952669718 &&& M = 17952669718) : blank M (State.tallyTouched s st key n whole) = blank M s := blank_mono hM (by
  unfold State.tallyTouched
  repeat'
    first
    | with_reducible rfl
    | with_reducible refine (upSnap_frame (by decide)).trans ?_
    | with_reducible refine (draw_frame (by decide)).trans ?_
    | with_reducible refine (State.keepLine_frame (by decide)).trans ?_
    | with_reducible refine (forEach_frame fun _ _ => ?_).trans ?_
    | with_reducible refine (forEach_fst_frame fun _ _ => ?_).trans ?_
    | with_reducible refine ite_both_frame ?_ ?_
    | with_reducible refine ite_both_fst_frame ?_ ?_
    | split
    | dsimp only)

theorem State.upTally_frame {M : Nat} {s : State} {key : Nat} {n : Nat} {f : Tally → Tally} (hM : 131072 &&& M = 131072) : blank M (State.upTally s key n f) = blank M s := blank_mono hM (by
  unfold State.upTally
  repeat'
    first
    | with_reducible rfl
    | with_reducible refine (upJob_frame (by decide)).trans ?_
    | split
    | dsimp only)

theorem State.engineCells_frame {M : Nat} {s : State} {key : Nat} {n : Nat} {all : Bool} {clears : Bool} (hM : 772800534 &&& M = 772800534) : blank M (State.engineCells s key n all clears).1 = blank M s := blank_mono hM (by
  unfold State.engineCells
  repeat'
    first
    | with_reducible rfl
    | with_reducible refine (draw_frame (by decide)).trans ?_
    | with_reducible refine (State.putCell_frame (by decide)).trans ?_
    | with_reducible refine (State.contend_frame (by decide)).trans ?_
    | with_reducible refine (State.readByte_frame (by decide)).trans ?_
    | with_reducible refine (forEach_frame fun _ _ => ?_).trans ?_
    | with_reducible refine (forEach_fst_frame fun _ _ => ?_).trans ?_
    | with_reducible refine ite_both_frame ?_ ?_
    | with_reducible refine ite_both_fst_frame ?_ ?_
    | split
    | dsimp only)

theorem State.engineFault_frame {M : Nat} {s : State} {key : Nat} {n : Nat} (hM : 68550656 &&& M = 68550656) : blank M (State.engineFault s key n) = blank M s := blank_mono hM (by
  unfold State.engineFault
  repeat'
    first
    | with_reducible rfl
    | with_reducible refine (upJob_frame (by decide)).trans ?_
    | with_reducible refine (upEngine_frame (by decide)).trans ?_
    | with_reducible refine (State.notify_frame (by decide)).trans ?_
    | with_reducible refine (State.upTally_frame (by decide)).trans ?_
    | with_reducible refine ite_both_frame ?_ ?_
    | with_reducible refine ite_both_fst_frame ?_ ?_
    | split
    | dsimp only)

theorem State.engineWork_frame {M : Nat} {s : State} {key : Nat} {n : Nat} (hM : 773193750 &&& M = 773193750) : blank M (State.engineWork s key n) = blank M s := blank_mono hM (by
  unfold State.engineWork
  repeat'
    first
    | with_reducible rfl
    | with_reducible refine (State.engineCells_frame (by decide)).trans ?_
    | with_reducible refine (State.engineFault_frame (by decide)).trans ?_
    | with_reducible refine ite_both_frame ?_ ?_
    | with_reducible refine ite_both_fst_frame ?_ ?_
    | split
    | dsimp only)

theorem State.engineCopy_frame {M : Nat} {s : State} {key : Nat} {n : Nat} (hM : 773193750 &&& M = 773193750) : blank M (State.engineCopy s key n) = blank M s := blank_mono hM (by
  unfold State.engineCopy
  repeat'
    first
    | with_reducible rfl
    | with_reducible refine (State.engineCells_frame (by decide)).trans ?_
    | with_reducible refine (State.engineFault_frame (by decide)).trans ?_
    | with_reducible refine ite_both_frame ?_ ?_
    | with_reducible refine ite_both_fst_frame ?_ ?_
    | split
    | dsimp only)

theorem State.emitRecord_frame {M : Nat} {s : State} {st : Struct} {k : Nat} {j : Nat} {ws : List Word} (hM : 32768 &&& M = 32768) : blank M (State.emitRecord s st k j ws) = blank M s := blank_mono hM (by
  unfold State.emitRecord
  repeat'
    first
    | with_reducible rfl
    | with_reducible refine (upStrm_frame (by decide)).trans ?_
    | split
    | dsimp only)

theorem State.arbitrate_frame {M : Nat} {s : State} {key : Nat} {j : Nat} (hM : 78774292 &&& M = 78774292) : blank M (State.arbitrate s key j).1 = blank M s := blank_mono hM (by
  unfold State.arbitrate
  repeat'
    first
    | with_reducible rfl
    | with_reducible refine (upJob_frame (by decide)).trans ?_
    | with_reducible refine (State.finishItem_frame (by decide)).trans ?_
    | with_reducible refine (forEach_frame fun _ _ => ?_).trans ?_
    | with_reducible refine (forEach_fst_frame fun _ _ => ?_).trans ?_
    | with_reducible refine ite_both_frame ?_ ?_
    | with_reducible refine ite_both_fst_frame ?_ ?_
    | split
    | dsimp only)

theorem State.dropEnded_frame {M : Nat} {s : State} {key : Nat} {stop : Bool} (hM : 78774292 &&& M = 78774292) : blank M (State.dropEnded s key stop) = blank M s := blank_mono hM (by
  unfold State.dropEnded
  repeat'
    first
    | with_reducible rfl
    | with_reducible refine (upPath_frame ?_ ?_ ?_ ?_ ?_ ?_ ?_ ?_ ?_).trans ?_
    | with_reducible refine (State.finishItem_frame (by decide)).trans ?_
    | with_reducible refine (forEach_frame fun _ _ => ?_).trans ?_
    | with_reducible refine (forEach_fst_frame fun _ _ => ?_).trans ?_
    | exact Or.inl rfl
    | exact Or.inr rfl
    | exact Or.inr fun _ => rfl
    | exact (rfl : (_ : MasterRec) = _)
    | with_reducible refine ite_both_frame ?_ ?_
    | with_reducible refine ite_both_fst_frame ?_ ?_
    | split
    | dsimp only)

theorem State.commitPoint_frame {M : Nat} {s : State} {key : Nat} {j : Nat} (hM : 79069204 &&& M = 79069204) : blank M (State.commitPoint s key j) = blank M s := blank_mono hM (by
  unfold State.commitPoint
  repeat'
    first
    | with_reducible rfl
    | with_reducible refine (upJob_frame (by decide)).trans ?_
    | with_reducible refine (upPath_frame ?_ ?_ ?_ ?_ ?_ ?_ ?_ ?_ ?_).trans ?_
    | with_reducible refine (State.emitRecord_frame (by decide)).trans ?_
    | with_reducible refine (State.arbitrate_frame (by decide)).trans ?_
    | with_reducible refine (State.dropEnded_frame (by decide)).trans ?_
    | exact Or.inl rfl
    | exact Or.inr rfl
    | exact Or.inr fun _ => rfl
    | exact (rfl : (_ : MasterRec) = _)
    | with_reducible refine ite_both_frame ?_ ?_
    | with_reducible refine ite_both_fst_frame ?_ ?_
    | split
    | dsimp only)

theorem State.closeInput_frame {M : Nat} {s : State} {key : Nat} {n : Nat} (hM : 17963581462 &&& M = 17963581462) : blank M (State.closeInput s key n) = blank M s := blank_mono hM (by
  unfold State.closeInput
  repeat'
    first
    | with_reducible rfl
    | with_reducible refine (upJob_frame (by decide)).trans ?_
    | with_reducible refine (upPath_frame ?_ ?_ ?_ ?_ ?_ ?_ ?_ ?_ ?_).trans ?_
    | with_reducible refine (State.tallyTouched_frame (by decide)).trans ?_
    | with_reducible refine (State.engineCopy_frame (by decide)).trans ?_
    | with_reducible refine (State.commitPoint_frame (by decide)).trans ?_
    | exact Or.inl rfl
    | exact Or.inr rfl
    | exact Or.inr fun _ => rfl
    | exact (rfl : (_ : MasterRec) = _)
    | with_reducible refine ite_both_frame ?_ ?_
    | with_reducible refine ite_both_fst_frame ?_ ?_
    | split
    | dsimp only)

theorem State.closeUpTo_frame {M : Nat} {s : State} {key n t fuel : Nat} (hM : 17963581462 &&& M = 17963581462) :
    blank M (s.closeUpTo key n t fuel) = blank M s := by
  induction fuel generalizing s with
  | zero => rfl
  | succ fuel ih =>
    unfold State.closeUpTo
    dsimp only
    split
    · exact ih.trans (State.closeInput_frame (blank_mask hM (by decide)))
    · rfl

theorem State.jobSample_frame {M : Nat} {s : State} {key : Nat} {n : Nat} {idx : Nat} {t : Nat} {eng : Bool} {w : Word} {tag : Nat} (hM : 17963581462 &&& M = 17963581462) : blank M (State.jobSample s key n idx t eng w tag) = blank M s := blank_mono hM (by
  unfold State.jobSample
  repeat'
    first
    | with_reducible rfl
    | with_reducible refine (upJob_frame (by decide)).trans ?_
    | with_reducible refine (State.tallyTouched_frame (by decide)).trans ?_
    | with_reducible refine (State.upTally_frame (by decide)).trans ?_
    | with_reducible refine (State.engineWork_frame (by decide)).trans ?_
    | with_reducible refine (State.closeUpTo_frame (by decide)).trans ?_
    | with_reducible refine ite_both_frame ?_ ?_
    | with_reducible refine ite_both_fst_frame ?_ ?_
    | split
    | dsimp only)

theorem State.reduceSample_frame {M : Nat} {s : State} {stream : Nat} {idx : Nat} {t : Nat} {eng : Bool} {v : Word} {tag : Nat} (hM : 17963581462 &&& M = 17963581462) : blank M (State.reduceSample s stream idx t eng v tag) = blank M s := blank_mono hM (by
  unfold State.reduceSample
  repeat'
    first
    | with_reducible rfl
    | with_reducible refine (State.jobSample_frame (by decide)).trans ?_
    | with_reducible refine (forEach_frame fun _ _ => ?_).trans ?_
    | with_reducible refine (forEach_fst_frame fun _ _ => ?_).trans ?_
    | split
    | dsimp only)

theorem State.jobPlaceholder_frame {M : Nat} {s : State} {key : Nat} {n : Nat} {t : Nat} (hM : 17963581462 &&& M = 17963581462) : blank M (State.jobPlaceholder s key n t) = blank M s := blank_mono hM (by
  unfold State.jobPlaceholder
  repeat'
    first
    | with_reducible rfl
    | with_reducible refine (State.upTally_frame (by decide)).trans ?_
    | with_reducible refine (State.closeUpTo_frame (by decide)).trans ?_
    | with_reducible refine ite_both_frame ?_ ?_
    | with_reducible refine ite_both_fst_frame ?_ ?_
    | split
    | dsimp only)

theorem State.reducePlaceholder_frame {M : Nat} {s : State} {stream : Nat} {t : Nat} (hM : 17963581462 &&& M = 17963581462) : blank M (State.reducePlaceholder s stream t) = blank M s := blank_mono hM (by
  unfold State.reducePlaceholder
  repeat'
    first
    | with_reducible rfl
    | with_reducible refine (State.jobPlaceholder_frame (by decide)).trans ?_
    | with_reducible refine (forEach_frame fun _ _ => ?_).trans ?_
    | with_reducible refine (forEach_fst_frame fun _ _ => ?_).trans ?_
    | split
    | dsimp only)

theorem inputClose_frame {M : Nat} {slot : Nat} {n : Nat} {s : State} (hM : 17963581462 &&& M = 17963581462) : blank M (inputClose slot n s) = blank M s := blank_mono hM (by
  unfold inputClose
  repeat'
    first
    | with_reducible rfl
    | with_reducible refine (State.closeInput_frame (by decide)).trans ?_
    | with_reducible refine (forEach_frame fun _ _ => ?_).trans ?_
    | with_reducible refine (forEach_fst_frame fun _ _ => ?_).trans ?_
    | with_reducible refine ite_both_frame ?_ ?_
    | with_reducible refine ite_both_fst_frame ?_ ?_
    | split
    | dsimp only)

theorem State.csdCommit_frame {M : Nat} {s : State} {key : Nat} (hM : 17963581462 &&& M = 17963581462) : blank M (State.csdCommit s key) = blank M s := blank_mono hM (by
  unfold State.csdCommit
  repeat'
    first
    | with_reducible rfl
    | with_reducible refine (upJob_frame (by decide)).trans ?_
    | with_reducible refine (upPath_frame ?_ ?_ ?_ ?_ ?_ ?_ ?_ ?_ ?_).trans ?_
    | with_reducible refine (State.tallyTouched_frame (by decide)).trans ?_
    | with_reducible refine (State.engineCopy_frame (by decide)).trans ?_
    | with_reducible refine (State.emitRecord_frame (by decide)).trans ?_
    | with_reducible refine (State.arbitrate_frame (by decide)).trans ?_
    | with_reducible refine (State.dropEnded_frame (by decide)).trans ?_
    | with_reducible refine (foldl_frame fun _ _ => ?_).trans ?_
    | with_reducible refine (foldl_fst_frame fun _ _ => ?_).trans ?_
    | exact Or.inl rfl
    | exact Or.inr rfl
    | exact Or.inr fun _ => rfl
    | exact (rfl : (_ : MasterRec) = _)
    | with_reducible refine ite_both_frame ?_ ?_
    | with_reducible refine ite_both_fst_frame ?_ ?_
    | split
    | dsimp only)

theorem csdPoint_frame {M : Nat} {slot : Nat} {s : State} (hM : 17963581462 &&& M = 17963581462) : blank M (csdPoint slot s) = blank M s := blank_mono hM (by
  unfold csdPoint
  repeat'
    first
    | with_reducible rfl
    | with_reducible refine (State.csdCommit_frame (by decide)).trans ?_
    | with_reducible refine (forEach_frame fun _ _ => ?_).trans ?_
    | with_reducible refine (forEach_fst_frame fun _ _ => ?_).trans ?_
    | with_reducible refine ite_both_frame ?_ ?_
    | with_reducible refine ite_both_fst_frame ?_ ?_
    | split
    | dsimp only)

theorem resetTally_frame {M : Nat} {s : State} (hM : 78774293 &&& M = 78774293) : blank M (resetTally s) = blank M s := blank_mono hM (by
  unfold resetTally
  repeat'
    first
    | with_reducible rfl
    | with_reducible refine (upJob_frame (by decide)).trans ?_
    | with_reducible refine (State.complete_frame (by decide)).trans ?_
    | with_reducible refine (State.startLong_frame (by decide)).trans ?_
    | with_reducible refine (State.start_frame (by decide) (fun _ _ => ?_)).trans ?_
    | split
    | dsimp only)

theorem tallyDone_frame {M : Nat} {slot : Nat} {s : State} (hM : 78774292 &&& M = 78774292) : blank M (tallyDone slot s) = blank M s := blank_mono hM (by
  unfold tallyDone
  repeat'
    first
    | with_reducible rfl
    | with_reducible refine (upJob_frame (by decide)).trans ?_
    | with_reducible refine (State.finishItem_frame (by decide)).trans ?_
    | with_reducible refine (forEach_frame fun _ _ => ?_).trans ?_
    | with_reducible refine (forEach_fst_frame fun _ _ => ?_).trans ?_
    | split
    | dsimp only)

theorem abortInterval_frame {M : Nat} {s : State} (hM : 78774293 &&& M = 78774293) : blank M (abortInterval s) = blank M s := blank_mono hM (by
  unfold abortInterval
  repeat'
    first
    | with_reducible rfl
    | with_reducible refine (upJob_frame (by decide)).trans ?_
    | with_reducible refine (State.complete_frame (by decide)).trans ?_
    | with_reducible refine (State.startLong_frame (by decide)).trans ?_
    | with_reducible refine (State.start_frame (by decide) (fun _ _ => ?_)).trans ?_
    | split
    | dsimp only)

theorem State.jobCommitted_frame {M : Nat} {s : State} {old : Struct} {k : Nat} {t : Nat} (hM : 131072 &&& M = 131072) : blank M (State.jobCommitted s old k t) = blank M s := blank_mono hM (by
  unfold State.jobCommitted
  repeat'
    first
    | with_reducible rfl
    | with_reducible refine (upJob_frame (by decide)).trans ?_
    | with_reducible refine (foldl_frame fun _ _ => ?_).trans ?_
    | with_reducible refine (foldl_fst_frame fun _ _ => ?_).trans ?_
    | with_reducible refine ite_both_frame ?_ ?_
    | with_reducible refine ite_both_fst_frame ?_ ?_
    | split
    | dsimp only)

theorem State.initJob_frame {M : Nat} {s : State} {k : Nat} (hM : 167772162 &&& M = 167772162) : blank M (State.initJob s k) = blank M s := blank_mono hM (by
  unfold State.initJob
  repeat'
    first
    | with_reducible rfl
    | with_reducible refine (upBank_frame (by decide)).trans ?_
    | with_reducible refine (upMem_frame ?_ ?_ ?_).trans ?_
    | with_reducible refine (State.touchBank_frame (by decide)).trans ?_
    | with_reducible refine (State.contend_frame (by decide)).trans ?_
    | with_reducible refine (forEach_frame fun _ _ => ?_).trans ?_
    | with_reducible refine (forEach_fst_frame fun _ _ => ?_).trans ?_
    | exact Or.inl rfl
    | exact Or.inr rfl
    | exact Or.inr fun _ => rfl
    | exact (rfl : (_ : MasterRec) = _)
    | with_reducible refine ite_both_frame ?_ ?_
    | with_reducible refine ite_both_fst_frame ?_ ?_
    | split
    | dsimp only)

theorem State.initJobs_frame {M : Nat} {s : State} {old : Struct} (hM : 167772162 &&& M = 167772162) : blank M (State.initJobs s old) = blank M s := blank_mono hM (by
  unfold State.initJobs
  repeat'
    first
    | with_reducible rfl
    | with_reducible refine (State.initJob_frame (by decide)).trans ?_
    | with_reducible refine (forEach_frame fun _ _ => ?_).trans ?_
    | with_reducible refine (forEach_fst_frame fun _ _ => ?_).trans ?_
    | split
    | dsimp only)

theorem State.jobsRealigned_frame {M : Nat} {s : State} {prevEnd : Nat} {e : Nat} (hM : 131072 &&& M = 131072) : blank M (State.jobsRealigned s prevEnd e) = blank M s := blank_mono hM (by
  unfold State.jobsRealigned
  repeat'
    first
    | with_reducible rfl
    | with_reducible refine (upJob_frame (by decide)).trans ?_
    | with_reducible refine (forEach_frame fun _ _ => ?_).trans ?_
    | with_reducible refine (forEach_fst_frame fun _ _ => ?_).trans ?_
    | with_reducible refine ite_both_frame ?_ ?_
    | with_reducible refine ite_both_fst_frame ?_ ?_
    | split
    | dsimp only)

end Sys2Proof.Machine
end

