-- ==== Sys2Proof/Laws/FrameMemory.lean ====
section
/-! SUPPORT. Frames of the operations of Machine/Memory.lean: what each leaves as it was. -/

namespace Sys2Proof.Machine

theorem State.hideBytes_frame {M : Nat} {s : State} {a : Nat} {bs : List Byte} (hM : 2 &&& M = 2) :
    blank M (s.hideBytes a bs).1 = blank M s := by
  induction bs generalizing s a with
  | nil => rfl
  | cons b r ih =>
    unfold State.hideBytes
    refine ih.trans ?_
    split
    · exact draw_frame hM
    · rfl

theorem State.padRead_frame {M : Nat} {s : State} {p : Nat} {a : Nat} {n : Nat} (hM : 772800534 &&& M = 772800534) : blank M (State.padRead s p a n).1 = blank M s := blank_mono hM (by
  unfold State.padRead
  repeat'
    first
    | with_reducible rfl
    | with_reducible refine (State.hideBytes_frame (by decide)).trans ?_
    | with_reducible refine (State.contend_frame (by decide)).trans ?_
    | with_reducible refine (State.readPad_frame (by decide)).trans ?_
    | split
    | dsimp only)

theorem State.padWrite_frame {M : Nat} {s : State} {p : Nat} {a : Nat} {bs : List Byte} (hM : 167772163 &&& M = 167772163) : blank M (State.padWrite s p a bs) = blank M s := blank_mono hM (by
  unfold State.padWrite
  repeat'
    first
    | with_reducible rfl
    | with_reducible refine (undefinedUse_frame (by decide)).trans ?_
    | with_reducible refine (State.contend_frame (by decide)).trans ?_
    | with_reducible refine (State.writePad_frame (by decide)).trans ?_
    | split
    | dsimp only)

theorem State.enginePoison_frame {M : Nat} {s : State} {e : Nat} {bad : List Nat} (hM : 68550658 &&& M = 68550658) : blank M (State.enginePoison s e bad) = blank M s := blank_mono hM (by
  unfold State.enginePoison
  repeat'
    first
    | with_reducible rfl
    | with_reducible refine (draw_frame (by decide)).trans ?_
    | with_reducible refine (State.engineFault_frame (by decide)).trans ?_
    | with_reducible refine (forEach_frame fun _ _ => ?_).trans ?_
    | with_reducible refine (forEach_fst_frame fun _ _ => ?_).trans ?_
    | with_reducible refine ite_both_frame ?_ ?_
    | with_reducible refine ite_both_fst_frame ?_ ?_
    | split
    | dsimp only)

theorem State.compressorPoison_frame {M : Nat} {s : State} {a : Nat} (hM : 32770 &&& M = 32770) : blank M (State.compressorPoison s a) = blank M s := blank_mono hM (by
  unfold State.compressorPoison
  repeat'
    first
    | with_reducible rfl
    | with_reducible refine (upStrm_frame (by decide)).trans ?_
    | with_reducible refine (draw_frame (by decide)).trans ?_
    | with_reducible refine ite_both_frame ?_ ?_
    | with_reducible refine ite_both_fst_frame ?_ ?_
    | split
    | dsimp only)

theorem State.deliverRead_frame {M : Nat} {s : State} {p : Nat} {a : Nat} {bs : List Byte} {poisoned : Bool} (hM : 68583430 &&& M = 68583430) : blank M (State.deliverRead s p a bs poisoned) = blank M s := blank_mono hM (by
  unfold State.deliverRead
  repeat'
    first
    | with_reducible rfl
    | with_reducible refine (emit_frame (by decide)).trans ?_
    | with_reducible refine (State.enginePoison_frame (by decide)).trans ?_
    | with_reducible refine (State.compressorPoison_frame (by decide)).trans ?_
    | with_reducible refine ite_both_frame ?_ ?_
    | with_reducible refine ite_both_fst_frame ?_ ?_
    | split
    | dsimp only)

theorem State.padWords_frame {M : Nat} {s : State} {a n fuel : Nat} (hM : 789577750 &&& M = 789577750) : blank M (s.padWords a n fuel).1 = blank M s := blank_mono hM (by
  induction fuel generalizing s a n with
  | zero => rfl
  | succ _ ih =>
    unfold State.padWords
    split
    · rfl
    · dsimp only
      refine ih.trans ?_
      split
      · exact (upHost_frame (by decide)).trans (State.padRead_frame (by decide))
      · exact State.padRead_frame (by decide))

theorem scratchpadRead_frame {M : Nat} {p : Nat} {a : Nat} {n : Nat} {s : State} (hM : 790003734 &&& M = 790003734) : blank M (scratchpadRead p a n s) = blank M s := blank_mono hM (by
  unfold scratchpadRead
  repeat'
    first
    | with_reducible rfl
    | with_reducible refine (emit_frame (by decide)).trans ?_
    | with_reducible refine (State.padRead_frame (by decide)).trans ?_
    | with_reducible refine (State.deliverRead_frame (by decide)).trans ?_
    | with_reducible refine (State.padWords_frame (by decide)).trans ?_
    | with_reducible refine ite_both_frame ?_ ?_
    | with_reducible refine ite_both_fst_frame ?_ ?_
    | split
    | dsimp only)

theorem scratchpadWrite_frame {M : Nat} {p : Nat} {a : Nat} {bs : List Byte} {s : State} (hM : 167772163 &&& M = 167772163) : blank M (scratchpadWrite p a bs s) = blank M s := blank_mono hM (by
  unfold scratchpadWrite
  repeat'
    first
    | with_reducible rfl
    | with_reducible refine (State.padWrite_frame (by decide)).trans ?_
    | with_reducible refine (State.contend_frame (by decide)).trans ?_
    | with_reducible refine (State.writePad_frame (by decide)).trans ?_
    | with_reducible refine ite_both_frame ?_ ?_
    | with_reducible refine ite_both_fst_frame ?_ ?_
    | split
    | dsimp only)

theorem scrub_frame {M : Nat} {s : State} (hM : 212860949 &&& M = 212860949) : blank M (scrub s) = blank M s := blank_mono hM (by
  unfold scrub
  repeat'
    first
    | with_reducible rfl
    | with_reducible refine (upMem_frame ?_ ?_ ?_).trans ?_
    | with_reducible refine (State.complete_frame (by decide)).trans ?_
    | with_reducible refine (State.startLong_frame (by decide)).trans ?_
    | with_reducible refine (State.start_frame (by decide) (fun _ _ => ?_)).trans ?_
    | exact Or.inl rfl
    | exact Or.inr rfl
    | exact Or.inr fun _ => rfl
    | exact (rfl : (_ : MasterRec) = _)
    | with_reducible refine ite_both_frame ?_ ?_
    | with_reducible refine ite_both_fst_frame ?_ ?_
    | split
    | dsimp only)

theorem scrubCell_frame {M : Nat} {a : State × Nat × Nat} {e : Nat × MemCell} (hM : 772800532 &&& M = 772800532) :
    blank M (scrubCell a e).1 = blank M a.1 := by
  unfold scrubCell
  dsimp only
  split
  · exact State.putCell_frame (blank_mask hM (by decide))
  · split
    · exact (State.countUe_frame (blank_mask hM (by decide))).trans (State.putCell_frame (blank_mask hM (by decide)))
    · rfl

theorem scrubWord_frame {M : Nat} {a : State × Nat × Nat} {e : Nat × StoreWord} (hM : 739246100 &&& M = 739246100) :
    blank M (scrubWord a e).1 = blank M a.1 := by
  have hp : ∀ (s : State) (f : Mem → SMap StoreWord), blank M (s.upMem fun m => { m with store := f m }) = blank M s := fun _ _ =>
    blank_mono hM (upMem_frame (Or.inr rfl) (Or.inl (by decide)) (Or.inr rfl))
  unfold scrubWord
  dsimp only
  split
  · exact hp _ _
  · split
    · exact (State.countUe_frame (blank_mask hM (by decide))).trans (hp _ _)
    · rfl

theorem State.scrubRange_frame {M : Nat} {s : State} {store : Bool} {start : Nat} {n : Nat} (hM : 772800534 &&& M = 772800534) : blank M (State.scrubRange s store start n).1 = blank M s := blank_mono hM (by
  unfold State.scrubRange
  repeat'
    first
    | with_reducible rfl
    | with_reducible refine (scrubCell_frame (by decide)).trans ?_
    | with_reducible refine (scrubWord_frame (by decide)).trans ?_
    | with_reducible refine (State.touchBank_frame (by decide)).trans ?_
    | with_reducible refine (State.contend_frame (by decide)).trans ?_
    | with_reducible refine (forEach_frame fun _ _ => ?_).trans ?_
    | with_reducible refine (forEach_fst_frame fun _ _ => ?_).trans ?_
    | with_reducible refine ite_both_frame ?_ ?_
    | with_reducible refine ite_both_fst_frame ?_ ?_
    | split
    | dsimp only)

theorem scrubDone_frame {M : Nat} {s : State} (hM : 783286294 &&& M = 783286294) : blank M (scrubDone s) = blank M s := blank_mono hM (by
  unfold scrubDone
  repeat'
    first
    | with_reducible rfl
    | with_reducible refine (upMem_frame ?_ ?_ ?_).trans ?_
    | with_reducible refine (State.endLong_frame (by decide)).trans ?_
    | with_reducible refine (State.scrubRange_frame (by decide)).trans ?_
    | exact Or.inl rfl
    | exact Or.inr rfl
    | exact Or.inr fun _ => rfl
    | exact (rfl : (_ : MasterRec) = _)
    | split
    | dsimp only)

theorem State.setBank_frame {M : Nat} {s : State} {b : Nat} {state : Nat} (hM : 167772160 &&& M = 167772160) : blank M (State.setBank s b state) = blank M s := blank_mono hM (by
  unfold State.setBank
  repeat'
    first
    | with_reducible rfl
    | with_reducible refine (upBank_frame (by decide)).trans ?_
    | with_reducible refine (upMem_frame ?_ ?_ ?_).trans ?_
    | exact Or.inl rfl
    | exact Or.inr rfl
    | exact Or.inr fun _ => rfl
    | exact (rfl : (_ : MasterRec) = _)
    | split
    | dsimp only)

theorem bankPower_frame {M : Nat} {s : State} (hM : 246415381 &&& M = 246415381) : blank M (bankPower s) = blank M s := blank_mono hM (by
  unfold bankPower
  repeat'
    first
    | with_reducible rfl
    | with_reducible refine (State.complete_frame (by decide)).trans ?_
    | with_reducible refine (State.setBank_frame (by decide)).trans ?_
    | with_reducible refine (State.start_frame (by decide) (fun _ _ => ?_)).trans ?_
    | with_reducible refine ite_both_frame ?_ ?_
    | with_reducible refine ite_both_fst_frame ?_ ?_
    | split
    | dsimp only)

theorem bankRetain_frame {M : Nat} {b : Nat} {s : State} (hM : 134217728 &&& M = 134217728) : blank M (bankRetain b s) = blank M s := blank_mono hM (by
  unfold bankRetain
  repeat'
    first
    | with_reducible rfl
    | with_reducible refine (upBank_frame (by decide)).trans ?_
    | with_reducible refine ite_both_frame ?_ ?_
    | with_reducible refine ite_both_fst_frame ?_ ?_
    | split
    | dsimp only)

theorem storeRead_frame {M : Nat} {s : State} (hM : 78643221 &&& M = 78643221) : blank M (storeRead s) = blank M s := blank_mono hM (by
  unfold storeRead
  repeat'
    first
    | with_reducible rfl
    | with_reducible refine (State.complete_frame (by decide)).trans ?_
    | with_reducible refine (State.startLong_frame (by decide)).trans ?_
    | with_reducible refine (State.start_frame (by decide) (fun _ _ => ?_)).trans ?_
    | with_reducible refine ite_both_frame ?_ ?_
    | with_reducible refine ite_both_fst_frame ?_ ?_
    | split
    | dsimp only)

theorem storeWrite_frame {M : Nat} {s : State} (hM : 78643221 &&& M = 78643221) : blank M (storeWrite s) = blank M s := blank_mono hM (by
  unfold storeWrite
  repeat'
    first
    | with_reducible rfl
    | with_reducible refine (State.complete_frame (by decide)).trans ?_
    | with_reducible refine (State.startLong_frame (by decide)).trans ?_
    | with_reducible refine (State.start_frame (by decide) (fun _ _ => ?_)).trans ?_
    | with_reducible refine ite_both_frame ?_ ?_
    | with_reducible refine ite_both_fst_frame ?_ ?_
    | split
    | dsimp only)

theorem State.copyOut_frame {M : Nat} {s : State} {cw host n : Nat} (hM : 772800534 &&& M = 772800534) :
    blank M (s.copyOut cw host n) = blank M s := by
  induction n generalizing s cw host with
  | zero => rfl
  | succ n ih =>
    unfold State.copyOut
    exact ih.trans ((forEach_frame fun _ _ => State.putCell_frame (blank_mask hM (by decide))).trans
      ((State.touchBank_frame (blank_mask hM (by decide))).trans
        ((State.contend_frame (blank_mask hM (by decide))).trans (State.readWord_frame (blank_mask hM (by decide))))))

theorem State.copyIn_frame {M : Nat} {s : State} {cw host n : Nat} (hM : 772800534 &&& M = 772800534) :
    blank M (s.copyIn cw host n) = blank M s := by
  induction n generalizing s cw host with
  | zero => rfl
  | succ n ih =>
    unfold State.copyIn
    exact ih.trans ((State.writeWords_frame (blank_mask hM (by decide))).trans ((State.readPad_frame (blank_mask hM (by decide))).trans
      (State.contend_frame (blank_mask hM (by decide)))))

theorem transferDone_frame {M : Nat} {s : State} (hM : 783286294 &&& M = 783286294) : blank M (transferDone s) = blank M s := blank_mono hM (by
  unfold transferDone
  repeat'
    first
    | with_reducible rfl
    | with_reducible refine (State.endLong_frame (by decide)).trans ?_
    | with_reducible refine (State.copyOut_frame (by decide)).trans ?_
    | with_reducible refine (State.copyIn_frame (by decide)).trans ?_
    | split
    | dsimp only)

theorem injectError_frame {M : Nat} {s : State} (hM : 246415381 &&& M = 246415381) : blank M (injectError s) = blank M s := blank_mono hM (by
  unfold injectError
  repeat'
    first
    | with_reducible rfl
    | with_reducible refine (upMem_frame ?_ ?_ ?_).trans ?_
    | with_reducible refine (State.complete_frame (by decide)).trans ?_
    | with_reducible refine (State.touchBank_frame (by decide)).trans ?_
    | with_reducible refine (State.putCell_frame (by decide)).trans ?_
    | with_reducible refine (State.start_frame (by decide) (fun _ _ => ?_)).trans ?_
    | exact Or.inl rfl
    | exact Or.inr rfl
    | exact Or.inr fun _ => rfl
    | exact (rfl : (_ : MasterRec) = _)
    | with_reducible refine ite_both_frame ?_ ?_
    | with_reducible refine ite_both_fst_frame ?_ ?_
    | split
    | dsimp only)

end Sys2Proof.Machine
end

