-- ==== Sys2Proof/Laws/FrameSamples.lean ====
section
/-! SUPPORT. Frames of the operations of Machine/Samples.lean: what each leaves as it was. -/

namespace Sys2Proof.Machine

theorem State.crossEras_frame {M : Nat} {s : State} {stream fuel : Nat} (hM : 17963591702 &&& M = 17963591702) :
    blank M (s.crossEras stream fuel) = blank M s := by
  induction fuel generalizing s with
  | zero => rfl
  | succ fuel ih =>
    unfold State.crossEras
    dsimp only
    split
    · rfl
    · split
      · refine ih.trans ?_
        split
        · exact State.beginLook_frame (blank_mask hM (by decide))
        · exact upLook_frame (blank_mask hM (by decide))
      · split
        · rfl
        · refine ih.trans ?_
          split
          · exact (forEach_frame fun _ _ => State.reducePlaceholder_frame (blank_mask hM (by decide))).trans
              ((upLook_frame (blank_mask hM (by decide))).trans (upStrm_frame (blank_mask hM (by decide))))
          · exact (upLook_frame (blank_mask hM (by decide))).trans
              ((upStrm_frame (blank_mask hM (by decide))).trans (State.switchStops_frame (blank_mask hM (by decide))))

theorem State.followEras_frame {M : Nat} {s : State} {stream : Nat} (hM : 17963591702 &&& M = 17963591702) : blank M (State.followEras s stream) = blank M s := blank_mono hM (by
  unfold State.followEras
  repeat'
    first
    | with_reducible rfl
    | with_reducible refine (State.crossEras_frame (by decide)).trans ?_
    | split
    | dsimp only)

theorem State.chainOut_frame {M : Nat} {s : State} {st : Struct} {stream k t : Nat} {codes : List Int} {r : State × Option Int × Nat}
    (hM : 264194 &&& M = 264194) (h : s.chainOut st stream k t codes = some r) : blank M r.1 = blank M s := blank_mono hM (by
  unfold State.chainOut at h
  dsimp only at h
  split at h
  · split at h
    · cases h
      exact (forEach_frame fun _ _ => draw_frame (by decide)).trans (upLook_frame (by decide))
    · cases h
  · split at h
    · split at h
      · cases h
        repeat'
          first
          | with_reducible rfl
          | with_reducible refine (upPath_frame ?_ ?_ ?_ ?_ ?_ ?_ ?_ ?_ ?_).trans ?_
          | with_reducible refine (upLook_frame (by decide)).trans ?_
          | with_reducible refine (draw_frame (by decide)).trans ?_
          | exact Or.inl rfl
          | exact Or.inr rfl
          | split
      · cases h
    · cases h)

theorem State.emitSample_frame {M : Nat} {s : State} {st : Struct} {stream : Nat} {k : Nat} {t : Nat} {y : Option Int} {tag : Nat} (hM : 20111157271 &&& M = 20111157271) : blank M (State.emitSample s st stream k t y tag) = blank M s := blank_mono hM (by
  unfold State.emitSample
  repeat'
    first
    | with_reducible rfl
    | with_reducible refine (upLook_frame (by decide)).trans ?_
    | with_reducible refine (upStrm_frame (by decide)).trans ?_
    | with_reducible refine (State.reduceSample_frame (by decide)).trans ?_
    | with_reducible refine (State.switchLook_frame (by decide)).trans ?_
    | with_reducible refine (State.writeBuffer_frame (by decide)).trans ?_
    | with_reducible refine ite_both_frame ?_ ?_
    | with_reducible refine ite_both_fst_frame ?_ ?_
    | split
    | dsimp only)

theorem sampleOut_frame {M : Nat} {stream : Nat} {codes : List Int} {s : State} (hM : 20111157271 &&& M = 20111157271) :
    blank M (sampleOut stream codes s) = blank M s := blank_mono hM (by
  unfold sampleOut
  dsimp only
  repeat'
    first
    | with_reducible rfl
    | with_reducible refine (State.followEras_frame (by decide)).trans ?_
    | with_reducible refine (State.emitSample_frame (by decide)).trans ?_
    | with_reducible refine (forEach_frame fun _ _ => upSw_frame (by decide)).trans ?_
    | exact (State.chainOut_frame (by decide) (by assumption)).trans (State.followEras_frame (by decide))
    | split)

end Sys2Proof.Machine
end

