-- ==== Sys2Proof/Laws/FrameStructure.lean ====
section
/-! SUPPORT. Frames of the operations of Machine/Structure.lean: what each leaves as it was. -/

namespace Sys2Proof.Machine

theorem State.windowWords_frame {M : Nat} {s : State} {i : Nat} {n : Nat} (hM : 772800534 &&& M = 772800534) : blank M (State.windowWords s i n).1 = blank M s := blank_mono hM (by
  unfold State.windowWords
  repeat'
    first
    | with_reducible rfl
    | with_reducible refine (State.contend_frame (by decide)).trans ?_
    | with_reducible refine (State.readPad_frame (by decide)).trans ?_
    | split
    | dsimp only)

theorem readBody_frame {M : Nat} {h : State × List Word} (hM : 772800534 &&& M = 772800534) : blank M (readBody h).1 = blank M h.1 := by
  unfold readBody
  dsimp only
  split
  · rfl
  · exact State.windowWords_frame hM

theorem State.readWindow_frame {M : Nat} {s : State} (hM : 772800534 &&& M = 772800534) : blank M (State.readWindow s).1 = blank M s :=
  (readBody_frame hM).trans (State.windowWords_frame hM)

theorem State.loadFrom_frame {M : Nat} {s : State} {ws : List Word} (hM : 512 &&& M = 512) : blank M (State.loadFrom s ws).1 = blank M s := blank_mono hM (by
  unfold State.loadFrom
  repeat'
    first
    | with_reducible rfl
    | with_reducible refine (upCfg_frame ?_ ?_).trans ?_
    | exact Or.inl rfl
    | exact Or.inr rfl
    | exact Or.inr fun _ => rfl
    | exact (rfl : (_ : MasterRec) = _)
    | split
    | dsimp only)

theorem State.beginLoad_frame {M : Nat} {s : State} {c : CmdItem} {library : Bool} {slot : Nat} (hM : 774898199 &&& M = 774898199) : blank M (State.beginLoad s c library slot) = blank M s := blank_mono hM (by
  unfold State.beginLoad
  repeat'
    first
    | with_reducible rfl
    | with_reducible refine (upCfg_frame ?_ ?_).trans ?_
    | with_reducible refine (State.startLong_frame (by decide)).trans ?_
    | with_reducible refine (State.readWindow_frame (by decide)).trans ?_
    | exact Or.inl rfl
    | exact Or.inr rfl
    | exact Or.inr fun _ => rfl
    | exact (rfl : (_ : MasterRec) = _)
    | with_reducible refine ite_both_frame ?_ ?_
    | with_reducible refine ite_both_fst_frame ?_ ?_
    | split
    | dsimp only)

theorem loadStructure_frame {M : Nat} {s : State} (hM : 783286807 &&& M = 783286807) : blank M (loadStructure s) = blank M s := blank_mono hM (by
  unfold loadStructure
  repeat'
    first
    | with_reducible rfl
    | with_reducible refine (State.notify_frame (by decide)).trans ?_
    | with_reducible refine (State.complete_frame (by decide)).trans ?_
    | with_reducible refine (State.beginLoad_frame (by decide)).trans ?_
    | with_reducible refine (State.start_frame (by decide) (fun _ _ => ?_)).trans ?_
    | with_reducible refine ite_both_frame ?_ ?_
    | with_reducible refine ite_both_fst_frame ?_ ?_
    | split
    | dsimp only)

theorem loadStructureDone_frame {M : Nat} {s : State} (hM : 78643732 &&& M = 78643732) : blank M (loadStructureDone s) = blank M s := blank_mono hM (by
  unfold loadStructureDone
  repeat'
    first
    | with_reducible rfl
    | with_reducible refine (State.endLong_frame (by decide)).trans ?_
    | with_reducible refine (State.loadFrom_frame (by decide)).trans ?_
    | with_reducible refine ite_both_frame ?_ ?_
    | with_reducible refine ite_both_fst_frame ?_ ?_
    | split
    | dsimp only)

theorem storeStructure_frame {M : Nat} {s : State} (hM : 8668577813 &&& M = 8668577813) : blank M (storeStructure s) = blank M s := blank_mono hM (by
  unfold storeStructure
  repeat'
    first
    | with_reducible rfl
    | with_reducible refine (upLdr_frame (by decide)).trans ?_
    | with_reducible refine (State.complete_frame (by decide)).trans ?_
    | with_reducible refine (State.startLong_frame (by decide)).trans ?_
    | with_reducible refine (State.start_frame (by decide) (fun _ _ => ?_)).trans ?_
    | with_reducible refine ite_both_frame ?_ ?_
    | with_reducible refine ite_both_fst_frame ?_ ?_
    | split
    | dsimp only)

theorem storeStructureDone_frame {M : Nat} {s : State} (hM : 8668577812 &&& M = 8668577812) : blank M (storeStructureDone s) = blank M s := blank_mono hM (by
  unfold storeStructureDone
  repeat'
    first
    | with_reducible rfl
    | with_reducible refine (upLdr_frame (by decide)).trans ?_
    | with_reducible refine (State.endLong_frame (by decide)).trans ?_
    | with_reducible refine ite_both_frame ?_ ?_
    | with_reducible refine ite_both_fst_frame ?_ ?_
    | split
    | dsimp only)

theorem State.wakeBanks_frame {M : Nat} {s : State} {st : Struct} (hM : 167772160 &&& M = 167772160) : blank M (State.wakeBanks s st) = blank M s := blank_mono hM (by
  unfold State.wakeBanks
  repeat'
    first
    | with_reducible rfl
    | with_reducible refine (State.setBank_frame (by decide)).trans ?_
    | with_reducible refine (forEach_frame fun _ _ => ?_).trans ?_
    | with_reducible refine (forEach_fst_frame fun _ _ => ?_).trans ?_
    | with_reducible refine ite_both_frame ?_ ?_
    | with_reducible refine ite_both_fst_frame ?_ ?_
    | split
    | dsimp only)

theorem State.commitPending_frame {M : Nat} {s : State} {p : PendingCommit} {target : Struct} (hM : 167772800 &&& M = 167772800) : blank M (State.commitPending s p target) = blank M s := blank_mono hM (by
  unfold State.commitPending
  repeat'
    first
    | with_reducible rfl
    | with_reducible refine (upCfg_frame ?_ ?_).trans ?_
    | with_reducible refine (State.schedule_frame (by decide)).trans ?_
    | with_reducible refine (State.wakeBanks_frame (by decide)).trans ?_
    | exact Or.inl rfl
    | exact Or.inr rfl
    | exact Or.inr fun _ => rfl
    | exact (rfl : (_ : MasterRec) = _)
    | split
    | dsimp only)

theorem commit_frame {M : Nat} {s : State} (hM : 246416021 &&& M = 246416021) : blank M (commit s) = blank M s := blank_mono hM (by
  unfold commit
  repeat'
    first
    | with_reducible rfl
    | with_reducible refine (undefinedUse_frame (by decide)).trans ?_
    | with_reducible refine (State.complete_frame (by decide)).trans ?_
    | with_reducible refine (State.startLong_frame (by decide)).trans ?_
    | with_reducible refine (State.commitPending_frame (by decide)).trans ?_
    | with_reducible refine (State.start_frame (by decide) (fun _ _ => ?_)).trans ?_
    | with_reducible refine ite_both_frame ?_ ?_
    | with_reducible refine ite_both_fst_frame ?_ ?_
    | split
    | dsimp only)

theorem cancelCommit_frame {M : Nat} {s : State} (hM : 78643861 &&& M = 78643861) : blank M (cancelCommit s) = blank M s := blank_mono hM (by
  unfold cancelCommit
  repeat'
    first
    | with_reducible rfl
    | with_reducible refine (upCfg_frame ?_ ?_).trans ?_
    | with_reducible refine (State.unschedule_frame (by decide)).trans ?_
    | with_reducible refine (State.complete_frame (by decide)).trans ?_
    | with_reducible refine (State.endLong_frame (by decide)).trans ?_
    | with_reducible refine (State.start_frame (by decide) (fun _ _ => ?_)).trans ?_
    | exact Or.inl rfl
    | exact Or.inr rfl
    | exact Or.inr fun _ => rfl
    | exact (rfl : (_ : MasterRec) = _)
    | with_reducible refine ite_both_frame ?_ ?_
    | with_reducible refine ite_both_fst_frame ?_ ?_
    | split
    | dsimp only)

end Sys2Proof.Machine
end

