-- ==== Sys2Proof/Laws/FrameTandem.lean ====
section
/-! SUPPORT. Frames of the operations of Machine/Tandem.lean: what each leaves as it was. -/

namespace Sys2Proof.Machine

theorem tokenToggle_frame {M : Nat} {s : State} (hM : 4294967296 &&& M = 4294967296) : blank M (tokenToggle s) = blank M s := blank_mono hM (by
  unfold tokenToggle
  repeat'
    first
    | with_reducible rfl
    | with_reducible refine (upTdm_frame (by decide)).trans ?_
    | with_reducible refine ite_both_frame ?_ ?_
    | with_reducible refine ite_both_fst_frame ?_ ?_
    | split
    | dsimp only)

theorem tokenEdge_frame {M : Nat} {s : State} (hM : 4294969344 &&& M = 4294969344) : blank M (tokenEdge s) = blank M s := blank_mono hM (by
  unfold tokenEdge
  repeat'
    first
    | with_reducible rfl
    | with_reducible refine (upTdm_frame (by decide)).trans ?_
    | with_reducible refine (State.witnessSpans_frame (by decide)).trans ?_
    | with_reducible refine ite_both_frame ?_ ?_
    | with_reducible refine ite_both_fst_frame ?_ ?_
    | split
    | dsimp only)

theorem tokenMissing_frame {M : Nat} {s : State} (hM : 6511233044 &&& M = 6511233044) : blank M (tokenMissing s) = blank M s := blank_mono hM (by
  unfold tokenMissing
  repeat'
    first
    | with_reducible rfl
    | with_reducible refine (upTdm_frame (by decide)).trans ?_
    | with_reducible refine (State.takeoverRule_frame (by decide)).trans ?_
    | with_reducible refine ite_both_frame ?_ ?_
    | with_reducible refine ite_both_fst_frame ?_ ?_
    | split
    | dsimp only)

theorem linkMissing_frame {M : Nat} {s : State} (hM : 6511233044 &&& M = 6511233044) : blank M (linkMissing s) = blank M s := blank_mono hM (by
  unfold linkMissing
  repeat'
    first
    | with_reducible rfl
    | with_reducible refine (upTdm_frame (by decide)).trans ?_
    | with_reducible refine (State.takeoverRule_frame (by decide)).trans ?_
    | with_reducible refine ite_both_frame ?_ ?_
    | with_reducible refine ite_both_fst_frame ?_ ?_
    | split
    | dsimp only)

theorem rimMissing_frame {M : Nat} {s : State} (hM : 6511233044 &&& M = 6511233044) : blank M (rimMissing s) = blank M s := blank_mono hM (by
  unfold rimMissing
  repeat'
    first
    | with_reducible rfl
    | with_reducible refine (upTdm_frame (by decide)).trans ?_
    | with_reducible refine (State.takeoverRule_frame (by decide)).trans ?_
    | with_reducible refine ite_both_frame ?_ ?_
    | with_reducible refine ite_both_fst_frame ?_ ?_
    | split
    | dsimp only)

theorem State.fillSections_frame {M : Nat} {s : State} (hM : 4363124884 &&& M = 4363124884) : blank M (State.fillSections s).1 = blank M s := blank_mono hM (by
  unfold State.fillSections
  repeat'
    first
    | with_reducible rfl
    | with_reducible refine (upTdm_frame (by decide)).trans ?_
    | with_reducible refine (State.commitTime_frame (by decide)).trans ?_
    | with_reducible refine (foldl_frame fun _ _ => ?_).trans ?_
    | with_reducible refine (foldl_fst_frame fun _ _ => ?_).trans ?_
    | with_reducible refine ite_both_frame ?_ ?_
    | with_reducible refine ite_both_fst_frame ?_ ?_
    | split
    | dsimp only)

theorem partnerHbSend_frame {M : Nat} {s : State} (hM : 6510608532 &&& M = 6510608532) : blank M (partnerHbSend s) = blank M s := blank_mono hM (by
  unfold partnerHbSend
  repeat'
    first
    | with_reducible rfl
    | with_reducible refine (upTdm_frame (by decide)).trans ?_
    | with_reducible refine (emit_frame (by decide)).trans ?_
    | with_reducible refine (State.sendTimeBoth_frame (by decide)).trans ?_
    | with_reducible refine (State.fillSections_frame (by decide)).trans ?_
    | with_reducible refine (forEach_frame fun _ _ => ?_).trans ?_
    | with_reducible refine (forEach_fst_frame fun _ _ => ?_).trans ?_
    | with_reducible refine ite_both_frame ?_ ?_
    | with_reducible refine ite_both_fst_frame ?_ ?_
    | split
    | dsimp only)

theorem State.desync_frame {M : Nat} {s : State} (hM : 6511495188 &&& M = 6511495188) : blank M (State.desync s) = blank M s := blank_mono hM (by
  unfold State.desync
  repeat'
    first
    | with_reducible rfl
    | with_reducible refine (State.allLowSpans_frame (by decide)).trans ?_
    | with_reducible refine (State.takeoverRule_frame (by decide)).trans ?_
    | with_reducible refine (State.stopPulses_frame (by decide)).trans ?_
    | with_reducible refine (State.silence_frame (by decide)).trans ?_
    | with_reducible refine (State.enterRole_frame (by decide)).trans ?_
    | with_reducible refine (State.notify_frame (by decide)).trans ?_
    | split
    | dsimp only)

theorem State.watchPartner_frame {M : Nat} {s : State} (hM : 4294967296 &&& M = 4294967296) : blank M (State.watchPartner s) = blank M s := blank_mono hM (by
  unfold State.watchPartner
  repeat'
    first
    | with_reducible rfl
    | with_reducible refine (upTdm_frame (by decide)).trans ?_
    | with_reducible refine (State.markExc_frame (by decide)).trans ?_
    | split
    | dsimp only)

theorem State.enterTandem_frame {M : Nat} {s : State} (hM : 6511495188 &&& M = 6511495188) : blank M (State.enterTandem s) = blank M s := blank_mono hM (by
  unfold State.enterTandem
  repeat'
    first
    | with_reducible rfl
    | with_reducible refine (State.openLoops_frame (by decide)).trans ?_
    | with_reducible refine (State.desync_frame (by decide)).trans ?_
    | with_reducible refine (State.watchPartner_frame (by decide)).trans ?_
    | with_reducible refine ite_both_frame ?_ ?_
    | with_reducible refine ite_both_fst_frame ?_ ?_
    | split
    | dsimp only)

theorem State.trySync_frame {M : Nat} {s : State} (hM : 4363124756 &&& M = 4363124756) : blank M (State.trySync s) = blank M s := blank_mono hM (by
  unfold State.trySync
  repeat'
    first
    | with_reducible rfl
    | with_reducible refine (State.enterRole_frame (by decide)).trans ?_
    | with_reducible refine (State.notify_frame (by decide)).trans ?_
    | with_reducible refine ite_both_frame ?_ ?_
    | with_reducible refine ite_both_fst_frame ?_ ?_
    | split
    | dsimp only)

theorem claimingEnd_frame {M : Nat} {s : State} (hM : 4295493652 &&& M = 4295493652) : blank M (claimingEnd s) = blank M s := blank_mono hM (by
  unfold claimingEnd
  repeat'
    first
    | with_reducible rfl
    | with_reducible refine (State.endClaiming_frame (by decide)).trans ?_
    | with_reducible refine ite_both_frame ?_ ?_
    | with_reducible refine ite_both_fst_frame ?_ ?_
    | split
    | dsimp only)

theorem yieldingEnd_frame {M : Nat} {s : State} (hM : 6511495188 &&& M = 6511495188) : blank M (yieldingEnd s) = blank M s := blank_mono hM (by
  unfold yieldingEnd
  repeat'
    first
    | with_reducible rfl
    | with_reducible refine (State.desync_frame (by decide)).trans ?_
    | with_reducible refine ite_both_frame ?_ ?_
    | with_reducible refine ite_both_fst_frame ?_ ?_
    | split
    | dsimp only)

theorem election_frame {M : Nat} {s : State} (hM : 6511233044 &&& M = 6511233044) : blank M (election s) = blank M s := blank_mono hM (by
  unfold election
  repeat'
    first
    | with_reducible rfl
    | with_reducible refine (State.claim_frame (by decide)).trans ?_
    | with_reducible refine ite_both_frame ?_ ?_
    | with_reducible refine ite_both_fst_frame ?_ ?_
    | split
    | dsimp only)

theorem tandemLoss_frame {M : Nat} {s : State} (hM : 6511495188 &&& M = 6511495188) : blank M (tandemLoss s) = blank M s := blank_mono hM (by
  unfold tandemLoss
  repeat'
    first
    | with_reducible rfl
    | with_reducible refine (State.desync_frame (by decide)).trans ?_
    | with_reducible refine ite_both_frame ?_ ?_
    | with_reducible refine ite_both_fst_frame ?_ ?_
    | split
    | dsimp only)

theorem State.takeSection_frame {M : Nat} {s : State} {x : HbSection} (hM : 4900061184 &&& M = 4900061184) : blank M (State.takeSection s x) = blank M s := blank_mono hM (by
  unfold State.takeSection
  repeat'
    first
    | with_reducible rfl
    | with_reducible refine (upTdm_frame (by decide)).trans ?_
    | with_reducible refine (State.followAck_frame (by decide)).trans ?_
    | with_reducible refine (State.compareMeans_frame (by decide)).trans ?_
    | with_reducible refine (State.checkWater_frame (by decide)).trans ?_
    | with_reducible refine ite_both_frame ?_ ?_
    | with_reducible refine ite_both_fst_frame ?_ ?_
    | split
    | dsimp only)

theorem State.countHb_frame {M : Nat} {s : State} {hb : Heartbeat} {stale : Bool} (hM : 4303355904 &&& M = 4303355904) : blank M (State.countHb s hb stale) = blank M s := blank_mono hM (by
  unfold State.countHb
  repeat'
    first
    | with_reducible rfl
    | with_reducible refine (upTdm_frame (by decide)).trans ?_
    | with_reducible refine (upMst_frame (by decide) ?_).trans ?_
    | exact Or.inl rfl
    | exact Or.inr rfl
    | exact Or.inr fun _ => rfl
    | exact (rfl : (_ : MasterRec) = _)
    | with_reducible refine ite_both_frame ?_ ?_
    | with_reducible refine ite_both_fst_frame ?_ ?_
    | split
    | dsimp only)

theorem State.answerRole_frame {M : Nat} {s : State} {hb : Heartbeat} (hM : 6511495188 &&& M = 6511495188) : blank M (State.answerRole s hb) = blank M s := blank_mono hM (by
  unfold State.answerRole
  repeat'
    first
    | with_reducible rfl
    | with_reducible refine (State.claim_frame (by decide)).trans ?_
    | with_reducible refine (State.yieldRole_frame (by decide)).trans ?_
    | with_reducible refine (State.endClaiming_frame (by decide)).trans ?_
    | with_reducible refine (State.desync_frame (by decide)).trans ?_
    | with_reducible refine (State.trySync_frame (by decide)).trans ?_
    | with_reducible refine ite_both_frame ?_ ?_
    | with_reducible refine ite_both_fst_frame ?_ ?_
    | split
    | dsimp only)

theorem State.partnerSpan_frame {M : Nat} {s : State} {i : Nat} {start : Nat} {c : Nat} (hM : 2048 &&& M = 2048) : blank M (State.partnerSpan s i start c) = blank M s := blank_mono hM (by
  unfold State.partnerSpan
  repeat'
    first
    | with_reducible rfl
    | with_reducible refine (State.addSpan_frame (by decide)).trans ?_
    | with_reducible refine ite_both_frame ?_ ?_
    | with_reducible refine ite_both_fst_frame ?_ ?_
    | split
    | dsimp only)

theorem State.partnerClaims_frame {M : Nat} {s : State} {hb : Heartbeat} (hM : 2048 &&& M = 2048) : blank M (State.partnerClaims s hb) = blank M s := blank_mono hM (by
  unfold State.partnerClaims
  repeat'
    first
    | with_reducible rfl
    | with_reducible refine (State.capEverywhere_frame (by decide)).trans ?_
    | with_reducible refine (State.partnerSpan_frame (by decide)).trans ?_
    | with_reducible refine (forEach_frame fun _ _ => ?_).trans ?_
    | with_reducible refine (forEach_fst_frame fun _ _ => ?_).trans ?_
    | with_reducible refine ite_both_frame ?_ ?_
    | with_reducible refine ite_both_fst_frame ?_ ?_
    | split
    | dsimp only)

theorem partnerHb_frame {M : Nat} {path : HbPath} {hb : Heartbeat} {secs : List HbSection} {s : State} (hM : 7056754708 &&& M = 7056754708) : blank M (partnerHb path hb secs s) = blank M s := blank_mono hM (by
  unfold partnerHb
  repeat'
    first
    | with_reducible rfl
    | with_reducible refine (upTdm_frame (by decide)).trans ?_
    | with_reducible refine (State.witnessSpans_frame (by decide)).trans ?_
    | with_reducible refine (State.takeSection_frame (by decide)).trans ?_
    | with_reducible refine (State.countHb_frame (by decide)).trans ?_
    | with_reducible refine (State.answerRole_frame (by decide)).trans ?_
    | with_reducible refine (State.partnerClaims_frame (by decide)).trans ?_
    | with_reducible refine (forEach_frame fun _ _ => ?_).trans ?_
    | with_reducible refine (forEach_fst_frame fun _ _ => ?_).trans ?_
    | with_reducible refine ite_both_frame ?_ ?_
    | with_reducible refine ite_both_fst_frame ?_ ?_
    | split
    | dsimp only)

theorem State.markDigest_frame {M : Nat} {s : State} (hM : 4294967296 &&& M = 4294967296) : blank M (State.markDigest s) = blank M s := blank_mono hM (by
  unfold State.markDigest
  repeat'
    first
    | with_reducible rfl
    | with_reducible refine (upTdm_frame (by decide)).trans ?_
    | with_reducible refine ite_both_frame ?_ ?_
    | with_reducible refine ite_both_fst_frame ?_ ?_
    | split
    | dsimp only)

theorem digestCompare_frame {M : Nat} {s : State} (hM : 7048366100 &&& M = 7048366100) : blank M (digestCompare s) = blank M s := blank_mono hM (by
  unfold digestCompare
  repeat'
    first
    | with_reducible rfl
    | with_reducible refine (upTdm_frame (by decide)).trans ?_
    | with_reducible refine (State.notify_frame (by decide)).trans ?_
    | with_reducible refine (State.faultEvent_frame (by decide)).trans ?_
    | with_reducible refine (State.desync_frame (by decide)).trans ?_
    | with_reducible refine (State.trySync_frame (by decide)).trans ?_
    | with_reducible refine ite_both_frame ?_ ?_
    | with_reducible refine ite_both_fst_frame ?_ ?_
    | split
    | dsimp only)

theorem swapRoles_frame {M : Nat} {s : State} (hM : 4373610517 &&& M = 4373610517) : blank M (swapRoles s) = blank M s := blank_mono hM (by
  unfold swapRoles
  repeat'
    first
    | with_reducible rfl
    | with_reducible refine (upTdm_frame (by decide)).trans ?_
    | with_reducible refine (State.complete_frame (by decide)).trans ?_
    | with_reducible refine (State.startLong_frame (by decide)).trans ?_
    | with_reducible refine (State.start_frame (by decide) (fun _ _ => ?_)).trans ?_
    | with_reducible refine ite_both_frame ?_ ?_
    | with_reducible refine ite_both_fst_frame ?_ ?_
    | split
    | dsimp only)

theorem State.swapNow_frame {M : Nat} {s : State} {e : Nat} (hM : 6511495188 &&& M = 6511495188) : blank M (State.swapNow s e) = blank M s := blank_mono hM (by
  unfold State.swapNow
  repeat'
    first
    | with_reducible rfl
    | with_reducible refine (State.claim_frame (by decide)).trans ?_
    | with_reducible refine (State.yieldRole_frame (by decide)).trans ?_
    | with_reducible refine ite_both_frame ?_ ?_
    | with_reducible refine ite_both_fst_frame ?_ ?_
    | split
    | dsimp only)

theorem swapInstant_frame {M : Nat} {s : State} (hM : 6521980948 &&& M = 6521980948) : blank M (swapInstant s) = blank M s := blank_mono hM (by
  unfold swapInstant
  repeat'
    first
    | with_reducible rfl
    | with_reducible refine (upTdm_frame (by decide)).trans ?_
    | with_reducible refine (State.endLong_frame (by decide)).trans ?_
    | with_reducible refine (State.swapNow_frame (by decide)).trans ?_
    | with_reducible refine ite_both_frame ?_ ?_
    | with_reducible refine ite_both_fst_frame ?_ ?_
    | split
    | dsimp only)

end Sys2Proof.Machine
end

