-- ==== Sys2Proof/Laws/FrameCommit.lean ====
section
/-! SUPPORT. Frames of the operations of Machine/Commit.lean: what each leaves as it was. -/

namespace Sys2Proof.Machine

theorem State.leaveSpans_frame {M : Nat} {s : State} {i : Nat} {t : Nat} (hM : 2048 &&& M = 2048) : blank M (State.leaveSpans s i t) = blank M s := blank_mono hM (by
  unfold State.leaveSpans
  repeat'
    first
    | with_reducible rfl
    | with_reducible refine (upLook_frame (by decide)).trans ?_
    | with_reducible refine ite_both_frame ?_ ?_
    | with_reducible refine ite_both_fst_frame ?_ ?_
    | split
    | dsimp only)

theorem State.joinLace_frame {M : Nat} {s : State} {i : Nat} {t : Nat} (hM : 2048 &&& M = 2048) : blank M (State.joinLace s i t) = blank M s := blank_mono hM (by
  unfold State.joinLace
  repeat'
    first
    | with_reducible rfl
    | with_reducible refine (State.addSpan_frame (by decide)).trans ?_
    | with_reducible refine (State.partnerSpan_frame (by decide)).trans ?_
    | with_reducible refine ite_both_frame ?_ ?_
    | with_reducible refine ite_both_fst_frame ?_ ?_
    | split
    | dsimp only)

theorem State.commitLooks_frame {M : Nat} {s : State} {old : Struct} {t : Nat} (hM : 17963596822 &&& M = 17963596822) : blank M (State.commitLooks s old t) = blank M s := blank_mono hM (by
  unfold State.commitLooks
  repeat'
    first
    | with_reducible rfl
    | with_reducible refine (upModu_frame (by decide)).trans ?_
    | with_reducible refine (State.openLoops_frame (by decide)).trans ?_
    | with_reducible refine (State.witnessSpans_frame (by decide)).trans ?_
    | with_reducible refine (State.syncResetAt_frame (by decide)).trans ?_
    | with_reducible refine (State.joinLook_frame (by decide)).trans ?_
    | with_reducible refine (State.followEras_frame (by decide)).trans ?_
    | with_reducible refine (State.commitSwitch_frame (by decide)).trans ?_
    | with_reducible refine (State.leaveSpans_frame (by decide)).trans ?_
    | with_reducible refine (State.joinLace_frame (by decide)).trans ?_
    | with_reducible refine (forEach_frame fun _ _ => ?_).trans ?_
    | with_reducible refine (forEach_fst_frame fun _ _ => ?_).trans ?_
    | with_reducible refine ite_both_frame ?_ ?_
    | with_reducible refine ite_both_fst_frame ?_ ?_
    | split
    | dsimp only)

theorem State.commitSpoke_frame {M : Nat} {s : State} {i : Nat} {t : Nat} (hM : 347079700 &&& M = 347079700) : blank M (State.commitSpoke s i t) = blank M s := blank_mono hM (by
  unfold State.commitSpoke
  repeat'
    first
    | with_reducible rfl
    | with_reducible refine (upCal_frame (by decide)).trans ?_
    | with_reducible refine (State.releaseAt_frame (by decide)).trans ?_
    | with_reducible refine (State.endLong_frame (by decide)).trans ?_
    | with_reducible refine ite_both_frame ?_ ?_
    | with_reducible refine ite_both_fst_frame ?_ ?_
    | split
    | dsimp only)

theorem State.driveAgain_frame {M : Nat} {s : State} (hM : 4295493632 &&& M = 4295493632) : blank M (State.driveAgain s) = blank M s := blank_mono hM (by
  unfold State.driveAgain
  repeat'
    first
    | with_reducible rfl
    | with_reducible refine (upTdm_frame (by decide)).trans ?_
    | with_reducible refine (State.closeLoops_frame (by decide)).trans ?_
    | with_reducible refine (State.rampUp_frame (by decide)).trans ?_
    | with_reducible refine (forEach_frame fun _ _ => ?_).trans ?_
    | with_reducible refine (forEach_fst_frame fun _ _ => ?_).trans ?_
    | split
    | dsimp only)

theorem State.commitDrive_frame {M : Nat} {s : State} {old : Struct} {left : Bool} (hM : 4295493632 &&& M = 4295493632) : blank M (State.commitDrive s old left) = blank M s := blank_mono hM (by
  unfold State.commitDrive
  repeat'
    first
    | with_reducible rfl
    | with_reducible refine (State.driveAgain_frame (by decide)).trans ?_
    | with_reducible refine ite_both_frame ?_ ?_
    | with_reducible refine ite_both_fst_frame ?_ ?_
    | split
    | dsimp only)

theorem State.forgetSent_frame {M : Nat} {s : State} {i : Nat} {k : Nat} (hM : 2164260864 &&& M = 2164260864) : blank M (State.forgetSent s i k) = blank M s := blank_mono hM (by
  unfold State.forgetSent
  repeat'
    first
    | with_reducible rfl
    | with_reducible refine (upRim_frame (by decide)).trans ?_
    | with_reducible refine (upHost_frame (by decide)).trans ?_
    | split
    | dsimp only)

theorem State.commitStream_frame {M : Nat} {s : State} {old : Struct} {i : Nat} (hM : 2232483840 &&& M = 2232483840) : blank M (State.commitStream s old i) = blank M s := blank_mono hM (by
  unfold State.commitStream
  repeat'
    first
    | with_reducible rfl
    | with_reducible refine (upStall_frame (by decide)).trans ?_
    | with_reducible refine (State.forgetSent_frame (by decide)).trans ?_
    | with_reducible refine (State.checkWater_frame (by decide)).trans ?_
    | with_reducible refine ite_both_frame ?_ ?_
    | with_reducible refine ite_both_fst_frame ?_ ?_
    | split
    | dsimp only)

theorem State.discardEntries_frame {M : Nat} {s : State} {k : Nat} {held : List HeldBlock} (hM : 68222976 &&& M = 68222976) : blank M (State.discardEntries s k held) = blank M s := blank_mono hM (by
  unfold State.discardEntries
  repeat'
    first
    | with_reducible rfl
    | with_reducible refine (State.rewrite_frame (by decide)).trans ?_
    | with_reducible refine (State.tryComplete_frame (by decide)).trans ?_
    | with_reducible refine (forEach_frame fun _ _ => ?_).trans ?_
    | with_reducible refine (forEach_fst_frame fun _ _ => ?_).trans ?_
    | with_reducible refine ite_both_frame ?_ ?_
    | with_reducible refine ite_both_fst_frame ?_ ?_
    | split
    | dsimp only)

theorem State.emptyStall_frame {M : Nat} {s : State} {old : Struct} {k : Nat} (hM : 2232483840 &&& M = 2232483840) : blank M (State.emptyStall s old k) = blank M s := blank_mono hM (by
  unfold State.emptyStall
  repeat'
    first
    | with_reducible rfl
    | with_reducible refine (upStall_frame (by decide)).trans ?_
    | with_reducible refine (State.forgetSent_frame (by decide)).trans ?_
    | with_reducible refine (State.discardEntries_frame (by decide)).trans ?_
    | with_reducible refine (State.checkWater_frame (by decide)).trans ?_
    | with_reducible refine ite_both_frame ?_ ?_
    | with_reducible refine ite_both_fst_frame ?_ ?_
    | split
    | dsimp only)

theorem State.emptySet_frame {M : Nat} {s : State} {k : Nat} {t : Nat} (hM : 68239360 &&& M = 68239360) : blank M (State.emptySet s k t) = blank M s := blank_mono hM (by
  unfold State.emptySet
  repeat'
    first
    | with_reducible rfl
    | with_reducible refine (upStall_frame (by decide)).trans ?_
    | with_reducible refine (upPath_frame ?_ ?_ ?_ ?_ ?_ ?_ ?_ ?_ ?_).trans ?_
    | with_reducible refine (State.notify_frame (by decide)).trans ?_
    | with_reducible refine (State.checkWaters_frame (by decide)).trans ?_
    | exact Or.inl rfl
    | exact Or.inr rfl
    | exact Or.inr fun _ => rfl
    | exact (rfl : (_ : MasterRec) = _)
    | with_reducible refine ite_both_frame ?_ ?_
    | with_reducible refine ite_both_fst_frame ?_ ?_
    | split
    | dsimp only)

theorem State.commitRecords_frame {M : Nat} {s : State} {old : Struct} (hM : 68222977 &&& M = 68222977) : blank M (State.commitRecords s old) = blank M s := blank_mono hM (by
  unfold State.commitRecords
  repeat'
    first
    | with_reducible rfl
    | with_reducible refine (State.rewrite_frame (by decide)).trans ?_
    | with_reducible refine (State.tryComplete_frame (by decide)).trans ?_
    | with_reducible refine (State.manyEntries_frame (by decide)).trans ?_
    | with_reducible refine (State.refit_frame (by decide) (by assumption)).trans ?_
    | with_reducible refine (forEach_frame fun _ _ => ?_).trans ?_
    | with_reducible refine (forEach_fst_frame fun _ _ => ?_).trans ?_
    | split
    | dsimp only)

theorem State.commitSpool_frame {M : Nat} {s : State} {old : Struct} {t : Nat} (hM : 2232500225 &&& M = 2232500225) : blank M (State.commitSpool s old t) = blank M s := blank_mono hM (by
  unfold State.commitSpool
  repeat'
    first
    | with_reducible rfl
    | with_reducible refine (State.commitStream_frame (by decide)).trans ?_
    | with_reducible refine (State.emptyStall_frame (by decide)).trans ?_
    | with_reducible refine (State.emptySet_frame (by decide)).trans ?_
    | with_reducible refine (State.commitRecords_frame (by decide)).trans ?_
    | with_reducible refine (forEach_frame fun _ _ => ?_).trans ?_
    | with_reducible refine (forEach_fst_frame fun _ _ => ?_).trans ?_
    | split
    | dsimp only)

theorem State.commitCoding_frame {M : Nat} {s : State} {old : Struct} (hM : 32768 &&& M = 32768) : blank M (State.commitCoding s old) = blank M s := blank_mono hM (by
  unfold State.commitCoding
  repeat'
    first
    | with_reducible rfl
    | with_reducible refine (upStrm_frame (by decide)).trans ?_
    | with_reducible refine (forEach_frame fun _ _ => ?_).trans ?_
    | with_reducible refine (forEach_fst_frame fun _ _ => ?_).trans ?_
    | split
    | dsimp only)

theorem State.commitLoads_frame {M : Nat} {s : State} (hM : 262144 &&& M = 262144) : blank M (State.commitLoads s) = blank M s := blank_mono hM (by
  unfold State.commitLoads
  repeat'
    first
    | with_reducible rfl
    | with_reducible refine (upPath_frame ?_ ?_ ?_ ?_ ?_ ?_ ?_ ?_ ?_).trans ?_
    | with_reducible refine (foldl_frame fun _ _ => ?_).trans ?_
    | with_reducible refine (foldl_fst_frame fun _ _ => ?_).trans ?_
    | exact Or.inl rfl
    | exact Or.inr rfl
    | exact Or.inr fun _ => rfl
    | exact (rfl : (_ : MasterRec) = _)
    | split
    | dsimp only)

theorem State.commitJobs_frame {M : Nat} {s : State} {old : Struct} {i : Staged} {t : Nat} {version : Nat} (hM : 17953062934 &&& M = 17953062934) : blank M (State.commitJobs s old i t version) = blank M s := blank_mono hM (by
  unfold State.commitJobs
  repeat'
    first
    | with_reducible rfl
    | with_reducible refine (upEngine_frame (by decide)).trans ?_
    | with_reducible refine (State.tallyTouched_frame (by decide)).trans ?_
    | with_reducible refine (State.jobCommitted_frame (by decide)).trans ?_
    | with_reducible refine (State.initJobs_frame (by decide)).trans ?_
    | with_reducible refine (forEach_frame fun _ _ => ?_).trans ?_
    | with_reducible refine (forEach_fst_frame fun _ _ => ?_).trans ?_
    | with_reducible refine ite_both_frame ?_ ?_
    | with_reducible refine ite_both_fst_frame ?_ ?_
    | split
    | dsimp only)

theorem State.commitTrigger_frame {M : Nat} {s : State} {u : Nat} {t : Nat} (hM : 16512 &&& M = 16512) : blank M (State.commitTrigger s u t) = blank M s := blank_mono hM (by
  unfold State.commitTrigger
  repeat'
    first
    | with_reducible rfl
    | with_reducible refine (upTrig_frame (by decide)).trans ?_
    | with_reducible refine (State.unschedule_frame (by decide)).trans ?_
    | with_reducible refine (State.armSchedule_frame (by decide)).trans ?_
    | split
    | dsimp only)

theorem State.commitWindow_frame {M : Nat} {s : State} {w : Nat} (hM : 536870912 &&& M = 536870912) : blank M (State.commitWindow s w) = blank M s := blank_mono hM (by
  unfold State.commitWindow
  repeat'
    first
    | with_reducible rfl
    | with_reducible refine (upWindow_frame (by decide)).trans ?_
    | split
    | dsimp only)

theorem State.commitQueue_frame {M : Nat} {s : State} {q : Nat} (hM : 78708757 &&& M = 78708757) : blank M (State.commitQueue s q) = blank M s := blank_mono hM (by
  unfold State.commitQueue
  repeat'
    first
    | with_reducible rfl
    | with_reducible refine (upQue_frame (by decide)).trans ?_
    | with_reducible refine (replay_frame (by decide)).trans ?_
    | with_reducible refine ite_both_frame ?_ ?_
    | with_reducible refine ite_both_fst_frame ?_ ?_
    | split
    | dsimp only)

theorem State.commitLane_frame {M : Nat} {s : State} {old : Struct} {x : Nat} (hM : 7584415764 &&& M = 7584415764) : blank M (State.commitLane s old x) = blank M s := blank_mono hM (by
  unfold State.commitLane
  repeat'
    first
    | with_reducible rfl
    | with_reducible refine (State.toDetect_frame (by decide)).trans ?_
    | with_reducible refine ite_both_frame ?_ ?_
    | with_reducible refine ite_both_fst_frame ?_ ?_
    | split
    | dsimp only)

theorem State.commitPort_frame {M : Nat} {s : State} {old : Struct} {p : Port} (hM : 2147483648 &&& M = 2147483648) : blank M (State.commitPort s old p) = blank M s := blank_mono hM (by
  unfold State.commitPort
  repeat'
    first
    | with_reducible rfl
    | with_reducible refine (upPort_frame (by decide)).trans ?_
    | with_reducible refine (credit_frame (by decide)).trans ?_
    | with_reducible refine (State.preemption_frame (by decide)).trans ?_
    | with_reducible refine ite_both_frame ?_ ?_
    | with_reducible refine ite_both_fst_frame ?_ ?_
    | split
    | dsimp only)

theorem State.commitRim_frame {M : Nat} {s : State} {old : Struct} (hM : 7584415764 &&& M = 7584415764) : blank M (State.commitRim s old) = blank M s := blank_mono hM (by
  unfold State.commitRim
  repeat'
    first
    | with_reducible rfl
    | with_reducible refine (State.rimUpdate_frame (by decide)).trans ?_
    | with_reducible refine (State.commitLane_frame (by decide)).trans ?_
    | with_reducible refine (State.commitPort_frame (by decide)).trans ?_
    | with_reducible refine ite_both_frame ?_ ?_
    | with_reducible refine ite_both_fst_frame ?_ ?_
    | split
    | dsimp only)

theorem State.commitTandem_frame {M : Nat} {s : State} {t : Nat} (hM : 6511495188 &&& M = 6511495188) : blank M (State.commitTandem s t) = blank M s := blank_mono hM (by
  unfold State.commitTandem
  repeat'
    first
    | with_reducible rfl
    | with_reducible refine (upTdm_frame (by decide)).trans ?_
    | with_reducible refine (State.openLoops_frame (by decide)).trans ?_
    | with_reducible refine (State.capEverywhere_frame (by decide)).trans ?_
    | with_reducible refine (State.allLowSpans_frame (by decide)).trans ?_
    | with_reducible refine (State.driverOff_frame (by decide)).trans ?_
    | with_reducible refine (State.keyAll_frame (by decide)).trans ?_
    | with_reducible refine (State.witnessSpans_frame (by decide)).trans ?_
    | with_reducible refine (State.endClaiming_frame (by decide)).trans ?_
    | with_reducible refine (State.enterRole_frame (by decide)).trans ?_
    | with_reducible refine (State.driveAgain_frame (by decide)).trans ?_
    | with_reducible refine (State.desync_frame (by decide)).trans ?_
    | with_reducible refine (State.watchPartner_frame (by decide)).trans ?_
    | with_reducible refine (forEach_frame fun _ _ => ?_).trans ?_
    | with_reducible refine (forEach_fst_frame fun _ _ => ?_).trans ?_
    | with_reducible refine ite_both_frame ?_ ?_
    | with_reducible refine ite_both_fst_frame ?_ ?_
    | split
    | dsimp only)

theorem State.commitPulse_frame {M : Nat} {s : State} {old : Struct} (hM : 128 &&& M = 128) : blank M (State.commitPulse s old) = blank M s := blank_mono hM (by
  unfold State.commitPulse
  repeat'
    first
    | with_reducible rfl
    | with_reducible refine (upTmb_frame ?_ ?_).trans ?_
    | with_reducible refine (State.ppsPassed_frame (by decide)).trans ?_
    | exact Or.inl rfl
    | exact Or.inr rfl
    | exact Or.inr fun _ => rfl
    | exact (rfl : (_ : MasterRec) = _)
    | with_reducible refine ite_both_frame ?_ ?_
    | with_reducible refine ite_both_fst_frame ?_ ?_
    | split
    | dsimp only)

theorem State.commitTime_frame {M : Nat} {s : State} {old : Struct} (hM : 68157588 &&& M = 68157588) : blank M (State.commitTime s old) = blank M s := blank_mono hM (by
  unfold State.commitTime
  repeat'
    first
    | with_reducible rfl
    | with_reducible refine (upTmb_frame ?_ ?_).trans ?_
    | with_reducible refine (State.sourceValid_frame (by decide)).trans ?_
    | with_reducible refine (State.sourceLost_frame (by decide)).trans ?_
    | with_reducible refine (State.selectPorts_frame (by decide)).trans ?_
    | with_reducible refine (State.enterTime_frame (by decide)).trans ?_
    | with_reducible refine (State.commitPulse_frame (by decide)).trans ?_
    | exact Or.inl rfl
    | exact Or.inr rfl
    | exact Or.inr fun _ => rfl
    | exact (rfl : (_ : MasterRec) = _)
    | with_reducible refine ite_both_frame ?_ ?_
    | with_reducible refine ite_both_fst_frame ?_ ?_
    | split
    | dsimp only)

theorem State.markSources_frame {M : Nat} {s : State} (hM : 4294967296 &&& M = 4294967296) : blank M (State.markSources s) = blank M s := blank_mono hM (by
  unfold State.markSources
  repeat'
    first
    | with_reducible rfl
    | with_reducible refine (upTdm_frame (by decide)).trans ?_
    | with_reducible refine ite_both_frame ?_ ?_
    | with_reducible refine ite_both_fst_frame ?_ ?_
    | split
    | dsimp only)

theorem State.dropUnsent_frame {M : Nat} {s : State} (hM : 2164260864 &&& M = 2164260864) : blank M (State.dropUnsent s) = blank M s := blank_mono hM (by
  unfold State.dropUnsent
  repeat'
    first
    | with_reducible rfl
    | with_reducible refine (upRim_frame (by decide)).trans ?_
    | with_reducible refine (upHost_frame (by decide)).trans ?_
    | split
    | dsimp only)

theorem State.restoreRings_frame {M : Nat} {s : State} {target : Struct} (hM : 16777216 &&& M = 16777216) : blank M (State.restoreRings s target) = blank M s := blank_mono hM (by
  unfold State.restoreRings
  repeat'
    first
    | with_reducible rfl
    | with_reducible refine (upHost_frame (by decide)).trans ?_
    | with_reducible refine ite_both_frame ?_ ?_
    | with_reducible refine ite_both_fst_frame ?_ ?_
    | split
    | dsimp only)

theorem State.restoreRules_frame {M : Nat} {s : State} {target : Struct} (hM : 2780298901 &&& M = 2780298901) : blank M (State.restoreRules s target) = blank M s := blank_mono hM (by
  unfold State.restoreRules
  repeat'
    first
    | with_reducible rfl
    | with_reducible refine (upEngine_frame (by decide)).trans ?_
    | with_reducible refine (upCrier_frame (by decide)).trans ?_
    | with_reducible refine (endSpan_frame (by decide)).trans ?_
    | with_reducible refine (upCfg_frame ?_ ?_).trans ?_
    | with_reducible refine (upPath_frame ?_ ?_ ?_ ?_ ?_ ?_ ?_ ?_ ?_).trans ?_
    | with_reducible refine (State.unschedule_frame (by decide)).trans ?_
    | with_reducible refine (State.endLong_frame (by decide)).trans ?_
    | with_reducible refine (State.commitWindow_frame (by decide)).trans ?_
    | with_reducible refine (State.dropUnsent_frame (by decide)).trans ?_
    | with_reducible refine (State.restoreRings_frame (by decide)).trans ?_
    | with_reducible refine (forEach_frame fun _ _ => ?_).trans ?_
    | with_reducible refine (forEach_fst_frame fun _ _ => ?_).trans ?_
    | exact Or.inl rfl
    | exact Or.inr rfl
    | exact Or.inr fun _ => rfl
    | exact (rfl : (_ : MasterRec) = _)
    | with_reducible refine ite_both_frame ?_ ?_
    | with_reducible refine ite_both_fst_frame ?_ ?_
    | split
    | dsimp only)

theorem State.commitSpan_frame {M : Nat} {s : State} {old : Struct} {i : Staged} (hM : 2780298901 &&& M = 2780298901) : blank M (State.commitSpan s old i) = blank M s := blank_mono hM (by
  unfold State.commitSpan
  repeat'
    first
    | with_reducible rfl
    | with_reducible refine (undefinedUse_frame (by decide)).trans ?_
    | with_reducible refine (State.restoreRules_frame (by decide)).trans ?_
    | with_reducible refine ite_both_frame ?_ ?_
    | with_reducible refine ite_both_fst_frame ?_ ?_
    | split
    | dsimp only)

theorem State.reportCommit_frame {M : Nat} {s : State} {p : PendingCommit} {i : Staged} {changed : Nat} {t : Nat} (hM : 78643220 &&& M = 78643220) : blank M (State.reportCommit s p i changed t) = blank M s := blank_mono hM (by
  unfold State.reportCommit
  repeat'
    first
    | with_reducible rfl
    | with_reducible refine (State.notify_frame (by decide)).trans ?_
    | with_reducible refine (State.endLong_frame (by decide)).trans ?_
    | split
    | dsimp only)

theorem State.applyCommit_frame {M : Nat} {s : State} {p : PendingCommit} {i : Staged} {t : Nat} {start : Bool} (hM : 25765609367 &&& M = 25765609367) : blank M (State.applyCommit s p i t start) = blank M s := blank_mono hM (by
  unfold State.applyCommit
  repeat'
    first
    | with_reducible rfl
    | with_reducible refine (upSnap_frame (by decide)).trans ?_
    | with_reducible refine (upCfg_frame ?_ ?_).trans ?_
    | with_reducible refine (upCmd_frame ?_ ?_ ?_ ?_ ?_ ?_).trans ?_
    | with_reducible refine (State.markExc_frame (by decide)).trans ?_
    | with_reducible refine (State.takeoverRule_frame (by decide)).trans ?_
    | with_reducible refine (State.newEra_frame (by decide)).trans ?_
    | with_reducible refine (State.unschedule_frame (by decide)).trans ?_
    | with_reducible refine (State.intr_frame (by decide)).trans ?_
    | with_reducible refine (State.noteRise_frame (by decide)).trans ?_
    | with_reducible refine (State.laceCommitted_frame (by decide)).trans ?_
    | with_reducible refine (State.commitLooks_frame (by decide)).trans ?_
    | with_reducible refine (State.commitSpoke_frame (by decide)).trans ?_
    | with_reducible refine (State.commitDrive_frame (by decide)).trans ?_
    | with_reducible refine (State.commitSpool_frame (by decide)).trans ?_
    | with_reducible refine (State.commitCoding_frame (by decide)).trans ?_
    | with_reducible refine (State.commitLoads_frame (by decide)).trans ?_
    | with_reducible refine (State.commitJobs_frame (by decide)).trans ?_
    | with_reducible refine (State.commitTrigger_frame (by decide)).trans ?_
    | with_reducible refine (State.commitWindow_frame (by decide)).trans ?_
    | with_reducible refine (State.commitQueue_frame (by decide)).trans ?_
    | with_reducible refine (State.commitRim_frame (by decide)).trans ?_
    | with_reducible refine (State.commitTandem_frame (by decide)).trans ?_
    | with_reducible refine (State.commitTime_frame (by decide)).trans ?_
    | with_reducible refine (State.markSources_frame (by decide)).trans ?_
    | with_reducible refine (State.commitSpan_frame (by decide)).trans ?_
    | with_reducible refine (State.reportCommit_frame (by decide)).trans ?_
    | with_reducible refine (State.enterTandem_frame (by decide)).trans ?_
    | with_reducible refine (State.markDigest_frame (by decide)).trans ?_
    | with_reducible refine (forEach_frame fun _ _ => ?_).trans ?_
    | with_reducible refine (forEach_fst_frame fun _ _ => ?_).trans ?_
    | exact Or.inl rfl
    | exact Or.inr rfl
    | exact Or.inr fun _ => rfl
    | exact (rfl : (_ : MasterRec) = _)
    | with_reducible refine ite_both_frame ?_ ?_
    | with_reducible refine ite_both_fst_frame ?_ ?_
    | split
    | dsimp only)

theorem commitInstant_frame {M : Nat} {s : State} (hM : 25765609367 &&& M = 25765609367) : blank M (commitInstant s) = blank M s := blank_mono hM (by
  unfold commitInstant
  repeat'
    first
    | with_reducible rfl
    | with_reducible refine (State.applyCommit_frame (by decide)).trans ?_
    | with_reducible refine ite_both_frame ?_ ?_
    | with_reducible refine ite_both_fst_frame ?_ ?_
    | split
    | dsimp only)

end Sys2Proof.Machine
end

