-- ==== Sys2Proof/Laws/FrameRealign.lean ====
section
/-! SUPPORT. Frames of the operations of Machine/Realign.lean: what each leaves as it was. -/

namespace Sys2Proof.Machine

theorem State.moveTime_frame {M : Nat} {s : State} {e : Nat} {d : Int} (hM : 128 &&& M = 128) : blank M (State.moveTime s e d) = blank M s := blank_mono hM (by
  unfold State.moveTime
  repeat'
    first
    | with_reducible rfl
    | with_reducible refine (upTmb_frame ?_ ?_).trans ?_
    | with_reducible refine (State.stepTime_frame (by decide)).trans ?_
    | exact Or.inl rfl
    | exact Or.inr rfl
    | exact Or.inr fun _ => rfl
    | exact (rfl : (_ : MasterRec) = _)
    | with_reducible refine ite_both_frame ?_ ?_
    | with_reducible refine ite_both_fst_frame ?_ ?_
    | split
    | dsimp only)

theorem State.realignLook_frame {M : Nat} {s : State} {stream : Nat} {prevEnd : Nat} {e : Nat} (hM : 3072 &&& M = 3072) : blank M (State.realignLook s stream prevEnd e) = blank M s := blank_mono hM (by
  unfold State.realignLook
  repeat'
    first
    | with_reducible rfl
    | with_reducible refine (State.syncReset_frame (by decide)).trans ?_
    | split
    | dsimp only)

theorem State.keepPhases_frame {M : Nat} {s : State} {e : Nat} {d : Int} (hM : 524288 &&& M = 524288) : blank M (State.keepPhases s e d) = blank M s := blank_mono hM (by
  unfold State.keepPhases
  repeat'
    first
    | with_reducible rfl
    | with_reducible refine (upLaceOf_frame (by decide)).trans ?_
    | with_reducible refine (forEach_frame fun _ _ => ?_).trans ?_
    | with_reducible refine (forEach_fst_frame fun _ _ => ?_).trans ?_
    | with_reducible refine ite_both_frame ?_ ?_
    | with_reducible refine ite_both_fst_frame ?_ ?_
    | split
    | dsimp only)

theorem State.realignAt_frame {M : Nat} {s : State} {e : Nat} {d : Int} (hM : 17964117654 &&& M = 17964117654) : blank M (State.realignAt s e d) = blank M s := blank_mono hM (by
  unfold State.realignAt
  repeat'
    first
    | with_reducible rfl
    | with_reducible refine (upTmb_frame ?_ ?_).trans ?_
    | with_reducible refine (State.newEra_frame (by decide)).trans ?_
    | with_reducible refine (State.followEras_frame (by decide)).trans ?_
    | with_reducible refine (State.notify_frame (by decide)).trans ?_
    | with_reducible refine (State.jobsRealigned_frame (by decide)).trans ?_
    | with_reducible refine (State.moveTime_frame (by decide)).trans ?_
    | with_reducible refine (State.realignLook_frame (by decide)).trans ?_
    | with_reducible refine (State.keepPhases_frame (by decide)).trans ?_
    | with_reducible refine (forEach_frame fun _ _ => ?_).trans ?_
    | with_reducible refine (forEach_fst_frame fun _ _ => ?_).trans ?_
    | exact Or.inl rfl
    | exact Or.inr rfl
    | exact Or.inr fun _ => rfl
    | exact (rfl : (_ : MasterRec) = _)
    | with_reducible refine ite_both_frame ?_ ?_
    | with_reducible refine ite_both_fst_frame ?_ ?_
    | split
    | dsimp only)

theorem realignment_frame {M : Nat} {s : State} (hM : 17964117654 &&& M = 17964117654) : blank M (realignment s) = blank M s := blank_mono hM (by
  unfold realignment
  repeat'
    first
    | with_reducible rfl
    | with_reducible refine (State.realignAt_frame (by decide)).trans ?_
    | with_reducible refine ite_both_frame ?_ ?_
    | with_reducible refine ite_both_fst_frame ?_ ?_
    | split
    | dsimp only)

end Sys2Proof.Machine
end

