-- ==== Sys2Proof/Laws/FrameEpoch.lean ====
section
/-! SUPPORT. Frames of the operations of Machine/Epoch.lean: what each leaves as it was. -/

namespace Sys2Proof.Machine

theorem State.checkpoint_frame {M : Nat} {s : State} {e : Nat} (hM : 8589934592 &&& M = 8589934592) : blank M (State.checkpoint s e) = blank M s := blank_mono hM (by
  unfold State.checkpoint
  repeat'
    first
    | with_reducible rfl
    | with_reducible refine (upLdr_frame (by decide)).trans ?_
    | with_reducible refine (foldl_frame fun _ _ => ?_).trans ?_
    | with_reducible refine (foldl_fst_frame fun _ _ => ?_).trans ?_
    | split
    | dsimp only)

theorem State.closeRatios_frame {M : Nat} {s : State} (hM : 32768 &&& M = 32768) : blank M (State.closeRatios s) = blank M s := blank_mono hM (by
  unfold State.closeRatios
  repeat'
    first
    | with_reducible rfl
    | with_reducible refine (upStrm_frame (by decide)).trans ?_
    | with_reducible refine (forEach_frame fun _ _ => ?_).trans ?_
    | with_reducible refine (forEach_fst_frame fun _ _ => ?_).trans ?_
    | with_reducible refine ite_both_frame ?_ ?_
    | with_reducible refine ite_both_fst_frame ?_ ?_
    | split
    | dsimp only)

theorem State.epochSections_frame {M : Nat} {s : State} (hM : 4294967296 &&& M = 4294967296) : blank M (State.epochSections s) = blank M s := blank_mono hM (by
  unfold State.epochSections
  repeat'
    first
    | with_reducible rfl
    | with_reducible refine (upTdm_frame (by decide)).trans ?_
    | with_reducible refine (State.markSources_frame (by decide)).trans ?_
    | with_reducible refine (State.markDigest_frame (by decide)).trans ?_
    | with_reducible refine ite_both_frame ?_ ?_
    | with_reducible refine ite_both_fst_frame ?_ ?_
    | split
    | dsimp only)

theorem State.epochAt_frame {M : Nat} {s : State} {e : Nat} (hM : 15100577922 &&& M = 15100577922) : blank M (State.epochAt s e) = blank M s := blank_mono hM (by
  unfold State.epochAt
  repeat'
    first
    | with_reducible rfl
    | with_reducible refine (draw_frame (by decide)).trans ?_
    | with_reducible refine (upTmb_frame ?_ ?_).trans ?_
    | with_reducible refine (State.creditEpoch_frame (by decide)).trans ?_
    | with_reducible refine (State.sendBeacon_frame (by decide)).trans ?_
    | with_reducible refine (State.checkpoint_frame (by decide)).trans ?_
    | with_reducible refine (State.closeRatios_frame (by decide)).trans ?_
    | with_reducible refine (State.epochSections_frame (by decide)).trans ?_
    | with_reducible refine (State.reanchor_frame (by decide)).trans ?_
    | with_reducible refine (State.setNco_frame (by decide)).trans ?_
    | with_reducible refine (State.notify_frame (by decide)).trans ?_
    | with_reducible refine (State.noteOverloads_frame (by decide)).trans ?_
    | with_reducible refine (State.noteShifts_frame (by decide)).trans ?_
    | with_reducible refine (State.noteAmbient_frame (by decide)).trans ?_
    | with_reducible refine (forEach_frame fun _ _ => ?_).trans ?_
    | with_reducible refine (forEach_fst_frame fun _ _ => ?_).trans ?_
    | exact Or.inl rfl
    | exact Or.inr rfl
    | exact Or.inr fun _ => rfl
    | exact (rfl : (_ : MasterRec) = _)
    | with_reducible refine ite_both_frame ?_ ?_
    | with_reducible refine ite_both_fst_frame ?_ ?_
    | split
    | dsimp only)

theorem epochInstant_frame {M : Nat} {s : State} (hM : 15100577922 &&& M = 15100577922) : blank M (epochInstant s) = blank M s := blank_mono hM (by
  unfold epochInstant
  repeat'
    first
    | with_reducible rfl
    | with_reducible refine (State.epochAt_frame (by decide)).trans ?_
    | with_reducible refine ite_both_frame ?_ ?_
    | with_reducible refine ite_both_fst_frame ?_ ?_
    | split
    | dsimp only)

end Sys2Proof.Machine
end

