-- ==== Sys2Proof/Laws/FrameFirmware.lean ====
section
/-! SUPPORT. Frames of the operations of Machine/Firmware.lean: what each leaves as it was. -/

namespace Sys2Proof.Machine

theorem State.selectSettings_frame {M : Nat} {s : State} {fmt : Nat} (hM : 10805575680 &&& M = 10805575680) : blank M (State.selectSettings s fmt) = blank M s := blank_mono hM (by
  unfold State.selectSettings
  repeat'
    first
    | with_reducible rfl
    | with_reducible refine (upRim_frame (by decide)).trans ?_
    | with_reducible refine (upLdr_frame (by decide)).trans ?_
    | with_reducible refine (State.notify_frame (by decide)).trans ?_
    | with_reducible refine (State.upFlash_frame (by decide)).trans ?_
    | split
    | dsimp only)

theorem State.beginProbation_frame {M : Nat} {s : State} (hM : 8589934592 &&& M = 8589934592) : blank M (State.beginProbation s) = blank M s := blank_mono hM (by
  unfold State.beginProbation
  repeat'
    first
    | with_reducible rfl
    | with_reducible refine (upLdr_frame (by decide)).trans ?_
    | with_reducible refine ite_both_frame ?_ ?_
    | with_reducible refine ite_both_fst_frame ?_ ?_
    | split
    | dsimp only)

theorem State.takeImage_frame {M : Nat} {s : State} (hM : 8589934592 &&& M = 8589934592) : blank M (State.takeImage s) = blank M s := blank_mono hM (by
  unfold State.takeImage
  repeat'
    first
    | with_reducible rfl
    | with_reducible refine (upLdr_frame (by decide)).trans ?_
    | split
    | dsimp only)

theorem State.enterRun_frame {M : Nat} {s : State} (hM : 8658092060 &&& M = 8658092060) : blank M (State.enterRun s) = blank M s := blank_mono hM (by
  unfold State.enterRun
  repeat'
    first
    | with_reducible rfl
    | with_reducible refine (upLdr_frame (by decide)).trans ?_
    | with_reducible refine (State.enter_frame (by decide)).trans ?_
    | with_reducible refine (State.notify_frame (by decide)).trans ?_
    | with_reducible refine ite_both_frame ?_ ?_
    | with_reducible refine ite_both_fst_frame ?_ ?_
    | split
    | dsimp only)

end Sys2Proof.Machine
end

