-- ==== Sys2Proof/Laws/FrameAccess.lean ====
section
/-! SUPPORT. Frames of the operations of Machine/Access.lean: what each leaves as it was. -/

namespace Sys2Proof.Machine

theorem State.tornRead_frame {M : Nat} {s : State} {m : Master} (hM : 8388628 &&& M = 8388628) : blank M (State.tornRead s m) = blank M s := blank_mono hM (by
  unfold State.tornRead
  repeat'
    first
    | with_reducible rfl
    | with_reducible refine (upMst_frame (by decide) ?_).trans ?_
    | with_reducible refine (State.intr_frame (by decide)).trans ?_
    | exact Or.inl rfl
    | exact Or.inr rfl
    | exact Or.inr fun _ => rfl
    | exact (rfl : (_ : MasterRec) = _)
    | split
    | dsimp only)

theorem State.tornWrite_frame {M : Nat} {s : State} {m : Master} (hM : 8388628 &&& M = 8388628) : blank M (State.tornWrite s m) = blank M s := blank_mono hM (by
  unfold State.tornWrite
  repeat'
    first
    | with_reducible rfl
    | with_reducible refine (upMst_frame (by decide) ?_).trans ?_
    | with_reducible refine (State.intr_frame (by decide)).trans ?_
    | exact Or.inl rfl
    | exact Or.inr rfl
    | exact Or.inr fun _ => rfl
    | exact (rfl : (_ : MasterRec) = _)
    | split
    | dsimp only)

theorem lowRead_frame {M : Nat} {m : Master} {lo : Nat} {s : State} (hM : 8388608 &&& M = 8388608) : blank M (lowRead m lo s).1 = blank M s := blank_mono hM (by
  unfold lowRead
  repeat'
    first
    | with_reducible rfl
    | with_reducible refine (upMst_frame (by decide) ?_).trans ?_
    | exact Or.inl rfl
    | exact Or.inr rfl
    | exact Or.inr fun _ => rfl
    | exact (rfl : (_ : MasterRec) = _)
    | with_reducible refine ite_both_frame ?_ ?_
    | with_reducible refine ite_both_fst_frame ?_ ?_
    | split
    | dsimp only)

theorem highRead_frame {M : Nat} {m : Master} {lo : Nat} {s : State} (hM : 8388628 &&& M = 8388628) : blank M (highRead m lo s).1 = blank M s := blank_mono hM (by
  unfold highRead
  repeat'
    first
    | with_reducible rfl
    | with_reducible refine (upMst_frame (by decide) ?_).trans ?_
    | with_reducible refine (State.tornRead_frame (by decide)).trans ?_
    | exact Or.inl rfl
    | exact Or.inr rfl
    | exact Or.inr fun _ => rfl
    | exact (rfl : (_ : MasterRec) = _)
    | with_reducible refine ite_both_frame ?_ ?_
    | with_reducible refine ite_both_fst_frame ?_ ?_
    | split
    | dsimp only)

theorem State.rsvWide_frame {M : Nat} {s : State} {lo : Nat} {v : Nat} (hM : 1 &&& M = 1) : blank M (State.rsvWide s lo v) = blank M s := blank_mono hM (by
  unfold State.rsvWide
  repeat'
    first
    | with_reducible rfl
    | with_reducible refine (undefinedUse_frame (by decide)).trans ?_
    | with_reducible refine ite_both_frame ?_ ?_
    | with_reducible refine ite_both_fst_frame ?_ ?_
    | split
    | dsimp only)

theorem State.ringRewrite_frame {M : Nat} {s : State} {r : Nat} {lo : Nat} {v : Nat} (hM : 1 &&& M = 1) : blank M (State.ringRewrite s r lo v) = blank M s := blank_mono hM (by
  unfold State.ringRewrite
  repeat'
    first
    | with_reducible rfl
    | with_reducible refine (undefinedUse_frame (by decide)).trans ?_
    | with_reducible refine ite_both_frame ?_ ?_
    | with_reducible refine ite_both_fst_frame ?_ ?_
    | split
    | dsimp only)

theorem State.noteWrite_frame {M : Nat} {s : State} {m : Master} {o : Nat} (hM : 32 &&& M = 32) : blank M (State.noteWrite s m o) = blank M s := blank_mono hM (by
  unfold State.noteWrite
  repeat'
    first
    | with_reducible rfl
    | with_reducible refine (upGlb_frame ?_ ?_ ?_ ?_).trans ?_
    | exact Or.inl rfl
    | exact Or.inr rfl
    | exact Or.inr fun _ => rfl
    | exact (rfl : (_ : MasterRec) = _)
    | with_reducible refine ite_both_frame ?_ ?_
    | with_reducible refine ite_both_fst_frame ?_ ?_
    | split
    | dsimp only)

theorem writeWide_frame {M : Nat} {m : Master} {lo : Nat} {v : Nat} {s : State} (hM : 16777249 &&& M = 16777249) : blank M (writeWide m lo v s) = blank M s := blank_mono hM (by
  unfold writeWide
  repeat'
    first
    | with_reducible rfl
    | with_reducible refine (upRing_frame (by decide)).trans ?_
    | with_reducible refine (State.rsvWide_frame (by decide)).trans ?_
    | with_reducible refine (State.ringRewrite_frame (by decide)).trans ?_
    | with_reducible refine (State.noteWrite_frame (by decide)).trans ?_
    | with_reducible refine ite_both_frame ?_ ?_
    | with_reducible refine ite_both_fst_frame ?_ ?_
    | split
    | dsimp only)

theorem lowWrite_frame {M : Nat} {m : Master} {lo : Nat} {v : Word} {s : State} (hM : 8388628 &&& M = 8388628) : blank M (lowWrite m lo v s) = blank M s := blank_mono hM (by
  unfold lowWrite
  repeat'
    first
    | with_reducible rfl
    | with_reducible refine (upMst_frame (by decide) ?_).trans ?_
    | with_reducible refine (State.tornWrite_frame (by decide)).trans ?_
    | exact Or.inl rfl
    | exact Or.inr rfl
    | exact Or.inr fun _ => rfl
    | exact (rfl : (_ : MasterRec) = _)
    | with_reducible refine ite_both_frame ?_ ?_
    | with_reducible refine ite_both_fst_frame ?_ ?_
    | split
    | dsimp only)

theorem highWrite_frame {M : Nat} {m : Master} {lo : Nat} {v : Word} {s : State} (hM : 25165877 &&& M = 25165877) : blank M (highWrite m lo v s) = blank M s := blank_mono hM (by
  unfold highWrite
  repeat'
    first
    | with_reducible rfl
    | with_reducible refine (upMst_frame (by decide) ?_).trans ?_
    | with_reducible refine (State.tornWrite_frame (by decide)).trans ?_
    | with_reducible refine (writeWide_frame (by decide)).trans ?_
    | exact Or.inl rfl
    | exact Or.inr rfl
    | exact Or.inr fun _ => rfl
    | exact (rfl : (_ : MasterRec) = _)
    | with_reducible refine ite_both_frame ?_ ?_
    | with_reducible refine ite_both_fst_frame ?_ ?_
    | split
    | dsimp only)

theorem onHalf_frame {M : Nat} {o : Nat} {low : Bool} {s : State} {f : Nat → State → State} (_hM : 0 &&& M = 0)
    (hf : ∀ n s, blank M (f n s) = blank M s) : blank M (onHalf o low s f) = blank M s := by
  unfold onHalf
  split
  · rfl
  · split
    · exact hf _ _
    · rfl

theorem halfRead_frame {M : Nat} {m : Master} {both : Bool} {lo : Nat} {s : State} (hM : 8388612 &&& M = 8388612) : blank M (halfRead m both lo s) = blank M s := blank_mono hM (by
  unfold halfRead
  repeat'
    first
    | with_reducible rfl
    | with_reducible refine (emit_frame (by decide)).trans ?_
    | with_reducible refine (upMst_frame (by decide) ?_).trans ?_
    | with_reducible refine (lowRead_frame (by decide)).trans ?_
    | exact Or.inl rfl
    | exact Or.inr rfl
    | exact Or.inr fun _ => rfl
    | exact (rfl : (_ : MasterRec) = _)
    | with_reducible refine ite_both_frame ?_ ?_
    | with_reducible refine ite_both_fst_frame ?_ ?_
    | split
    | dsimp only)

theorem holdExpiry_frame {M : Nat} {m : Master} {write : Bool} {s : State} (hM : 8388628 &&& M = 8388628) : blank M (holdExpiry m write s) = blank M s := blank_mono hM (by
  unfold holdExpiry
  repeat'
    first
    | with_reducible rfl
    | with_reducible refine (upMst_frame (by decide) ?_).trans ?_
    | with_reducible refine (State.tornWrite_frame (by decide)).trans ?_
    | exact Or.inl rfl
    | exact Or.inr rfl
    | exact Or.inr fun _ => rfl
    | exact (rfl : (_ : MasterRec) = _)
    | with_reducible refine ite_both_frame ?_ ?_
    | with_reducible refine ite_both_fst_frame ?_ ?_
    | split
    | dsimp only)

theorem freeRead_frame {M : Nat} {s : State} {poisoned : Bool} (hM : 2 &&& M = 2) : blank M (freeRead s poisoned).1 = blank M s := blank_mono hM (by
  unfold freeRead
  repeat'
    first
    | with_reducible rfl
    | with_reducible refine (draw_frame (by decide)).trans ?_
    | with_reducible refine ite_both_frame ?_ ?_
    | with_reducible refine ite_both_fst_frame ?_ ?_
    | split
    | dsimp only)

theorem imageRead_frame {M : Nat} {v : Word} {s : State} (hM : 772800534 &&& M = 772800534) : blank M (imageRead v s).1 = blank M s := blank_mono hM (by
  unfold imageRead
  repeat'
    first
    | with_reducible rfl
    | with_reducible refine (draw_frame (by decide)).trans ?_
    | with_reducible refine (State.contend_frame (by decide)).trans ?_
    | with_reducible refine (State.readByte_frame (by decide)).trans ?_
    | with_reducible refine ite_both_frame ?_ ?_
    | with_reducible refine ite_both_fst_frame ?_ ?_
    | split
    | dsimp only)

theorem aliasRead_frame {M : Nat} {m : Master} {o : Nat} {s : State} (hM : 772800534 &&& M = 772800534) : blank M (aliasRead m o s).1 = blank M s := blank_mono hM (by
  unfold aliasRead
  repeat'
    first
    | with_reducible rfl
    | with_reducible refine (freeRead_frame (by decide)).trans ?_
    | with_reducible refine (imageRead_frame (by decide)).trans ?_
    | with_reducible refine ite_both_frame ?_ ?_
    | with_reducible refine ite_both_fst_frame ?_ ?_
    | split
    | dsimp only)

theorem tallyRead_frame {M : Nat} {o : Nat} {s : State} (hM : 772800534 &&& M = 772800534) : blank M (tallyRead o s).1 = blank M s := blank_mono hM (by
  unfold tallyRead
  repeat'
    first
    | with_reducible rfl
    | with_reducible refine (freeRead_frame (by decide)).trans ?_
    | with_reducible refine (State.contend_frame (by decide)).trans ?_
    | with_reducible refine (State.readPad_frame (by decide)).trans ?_
    | with_reducible refine ite_both_frame ?_ ?_
    | with_reducible refine ite_both_fst_frame ?_ ?_
    | split
    | dsimp only)

theorem padWordRead_frame {M : Nat} {m : Master} {a : Nat} {s : State} (hM : 772800534 &&& M = 772800534) : blank M (padWordRead m a s).1 = blank M s := blank_mono hM (by
  unfold padWordRead
  repeat'
    first
    | with_reducible rfl
    | with_reducible refine (State.padRead_frame (by decide)).trans ?_
    | with_reducible refine ite_both_frame ?_ ?_
    | with_reducible refine ite_both_fst_frame ?_ ?_
    | split
    | dsimp only)

theorem regRead_frame {M : Nat} {m : Master} {o : Nat} {s : State} (hM : 747634708 &&& M = 747634708) : blank M (regRead m o s).1 = blank M s := blank_mono hM (by
  unfold regRead
  repeat'
    first
    | with_reducible rfl
    | with_reducible refine (lowRead_frame (by decide)).trans ?_
    | with_reducible refine (highRead_frame (by decide)).trans ?_
    | with_reducible refine (queuePop_frame (by decide)).trans ?_
    | with_reducible refine ite_both_frame ?_ ?_
    | with_reducible refine ite_both_fst_frame ?_ ?_
    | split
    | dsimp only)

theorem wordRead_frame {M : Nat} {m : Master} {o : Nat} {s : State} (hM : 781189142 &&& M = 781189142) : blank M (wordRead m o s).1 = blank M s := blank_mono hM (by
  unfold wordRead
  repeat'
    first
    | with_reducible rfl
    | with_reducible refine (aliasRead_frame (by decide)).trans ?_
    | with_reducible refine (tallyRead_frame (by decide)).trans ?_
    | with_reducible refine (padWordRead_frame (by decide)).trans ?_
    | with_reducible refine (regRead_frame (by decide)).trans ?_
    | with_reducible refine ite_both_frame ?_ ?_
    | with_reducible refine ite_both_fst_frame ?_ ?_
    | split
    | dsimp only)

theorem vectorWrite_frame {M : Nat} {b : Nat} {v : Word} {s : State} (hM : 52 &&& M = 52) : blank M (vectorWrite b v s) = blank M s := blank_mono hM (by
  unfold vectorWrite
  repeat'
    first
    | with_reducible rfl
    | with_reducible refine (upGlb_frame ?_ ?_ ?_ ?_).trans ?_
    | with_reducible refine (State.sendVector_frame (by decide)).trans ?_
    | exact Or.inl rfl
    | exact Or.inr rfl
    | exact Or.inr fun _ => rfl
    | exact (rfl : (_ : MasterRec) = _)
    | with_reducible refine ite_both_frame ?_ ?_
    | with_reducible refine ite_both_fst_frame ?_ ?_
    | split
    | dsimp only)

theorem pairRead_frame {M : Nat} {m : Master} {o : Nat} {s : State} (hM : 781189142 &&& M = 781189142) : blank M (pairRead m o s) = blank M s := blank_mono hM (by
  unfold pairRead
  repeat'
    first
    | with_reducible rfl
    | with_reducible refine (emit_frame (by decide)).trans ?_
    | with_reducible refine (wordRead_frame (by decide)).trans ?_
    | with_reducible refine ite_both_frame ?_ ?_
    | with_reducible refine ite_both_fst_frame ?_ ?_
    | split
    | dsimp only)

theorem State.reservedWrite_frame {M : Nat} {s : State} {o : Nat} {v : Word} (hM : 1 &&& M = 1) : blank M (State.reservedWrite s o v) = blank M s := blank_mono hM (by
  unfold State.reservedWrite
  repeat'
    first
    | with_reducible rfl
    | with_reducible refine (undefinedUse_frame (by decide)).trans ?_
    | with_reducible refine ite_both_frame ?_ ?_
    | with_reducible refine ite_both_fst_frame ?_ ?_
    | split
    | dsimp only)

theorem settingsWrite_frame {M : Nat} {v : Word} {s : State} (hM : 8589934593 &&& M = 8589934593) : blank M (settingsWrite v s) = blank M s := blank_mono hM (by
  unfold settingsWrite
  repeat'
    first
    | with_reducible rfl
    | with_reducible refine (upLdr_frame (by decide)).trans ?_
    | with_reducible refine (undefinedUse_frame (by decide)).trans ?_
    | with_reducible refine ite_both_frame ?_ ?_
    | with_reducible refine ite_both_fst_frame ?_ ?_
    | split
    | dsimp only)

theorem vexcWrite_frame {M : Nat} {v : Word} {s : State} (hM : 524289 &&& M = 524289) : blank M (vexcWrite v s) = blank M s := blank_mono hM (by
  unfold vexcWrite
  repeat'
    first
    | with_reducible rfl
    | with_reducible refine (upLace_frame (by decide)).trans ?_
    | with_reducible refine (undefinedUse_frame (by decide)).trans ?_
    | with_reducible refine ite_both_frame ?_ ?_
    | with_reducible refine ite_both_fst_frame ?_ ?_
    | split
    | dsimp only)

theorem queWrite_frame {M : Nat} {m : Master} {o : Nat} {v : Word} {s : State} (hM : 2247163925 &&& M = 2247163925) : blank M (queWrite m o v s) = blank M s := blank_mono hM (by
  unfold queWrite
  repeat'
    first
    | with_reducible rfl
    | with_reducible refine (upMst_frame (by decide) ?_).trans ?_
    | with_reducible refine (cmdItemWrite_frame (by decide)).trans ?_
    | with_reducible refine (cmdInWord_frame (by decide)).trans ?_
    | with_reducible refine (cmdCfgWrite_frame (by decide)).trans ?_
    | with_reducible refine (leaseWrite_frame (by decide)).trans ?_
    | with_reducible refine (replayStart_frame (by decide)).trans ?_
    | with_reducible refine (ringConsume_frame (by decide)).trans ?_
    | with_reducible refine (ringEnable_frame (by decide)).trans ?_
    | with_reducible refine (ringDisable_frame (by decide)).trans ?_
    | exact Or.inl rfl
    | exact Or.inr rfl
    | exact Or.inr fun _ => rfl
    | exact (rfl : (_ : MasterRec) = _)
    | with_reducible refine ite_both_frame ?_ ?_
    | with_reducible refine ite_both_fst_frame ?_ ?_
    | split
    | dsimp only)

theorem laneWrite_frame {M : Nat} {x : Nat} {r : Nat} {v : Word} {s : State} (hM : 7584415765 &&& M = 7584415765) : blank M (laneWrite x r v s) = blank M s := blank_mono hM (by
  unfold laneWrite
  repeat'
    first
    | with_reducible rfl
    | with_reducible refine (testWrite_frame (by decide)).trans ?_
    | with_reducible refine (fixedTaps_frame (by decide)).trans ?_
    | with_reducible refine ite_both_frame ?_ ?_
    | with_reducible refine ite_both_fst_frame ?_ ?_
    | split
    | dsimp only)

theorem regEffect_frame {M : Nat} {m : Master} {o : Nat} {v : Word} {s : State} (hM : 33386463285 &&& M = 33386463285) : blank M (regEffect m o v s) = blank M s := blank_mono hM (by
  unfold regEffect
  repeat'
    first
    | with_reducible rfl
    | with_reducible refine (upEngine_frame (by decide)).trans ?_
    | with_reducible refine (upRim_frame (by decide)).trans ?_
    | with_reducible refine (upGlb_frame ?_ ?_ ?_ ?_).trans ?_
    | with_reducible refine (intEnableWrite_frame (by decide)).trans ?_
    | with_reducible refine (intStatusWrite_frame (by decide)).trans ?_
    | with_reducible refine (alarmCfg_frame (by decide)).trans ?_
    | with_reducible refine (settingsWrite_frame (by decide)).trans ?_
    | with_reducible refine (vexcWrite_frame (by decide)).trans ?_
    | with_reducible refine (queWrite_frame (by decide)).trans ?_
    | with_reducible refine (laneWrite_frame (by decide)).trans ?_
    | with_reducible refine (State.setCtx_frame (by decide)).trans ?_
    | with_reducible refine (rearmWater_frame (by decide)).trans ?_
    | exact Or.inl rfl
    | exact Or.inr rfl
    | exact Or.inr fun _ => rfl
    | exact (rfl : (_ : MasterRec) = _)
    | with_reducible refine ite_both_frame ?_ ?_
    | with_reducible refine ite_both_fst_frame ?_ ?_
    | split
    | dsimp only)

theorem regWrite_frame {M : Nat} {m : Master} {o : Nat} {v : Word} {s : State} (hM : 33386463285 &&& M = 33386463285) : blank M (regWrite m o v s) = blank M s := blank_mono hM (by
  unfold regWrite
  repeat'
    first
    | with_reducible rfl
    | with_reducible refine (State.noteWrite_frame (by decide)).trans ?_
    | with_reducible refine (State.reservedWrite_frame (by decide)).trans ?_
    | with_reducible refine (regEffect_frame (by decide)).trans ?_
    | with_reducible refine ite_both_frame ?_ ?_
    | with_reducible refine ite_both_fst_frame ?_ ?_
    | split
    | dsimp only)

theorem wordWrite_frame {M : Nat} {m : Master} {o : Nat} {v : Word} {s : State} (hM : 33554235447 &&& M = 33554235447) : blank M (wordWrite m o v s) = blank M s := blank_mono hM (by
  unfold wordWrite
  repeat'
    first
    | with_reducible rfl
    | with_reducible refine (undefinedUse_frame (by decide)).trans ?_
    | with_reducible refine (lowWrite_frame (by decide)).trans ?_
    | with_reducible refine (highWrite_frame (by decide)).trans ?_
    | with_reducible refine (vectorWrite_frame (by decide)).trans ?_
    | with_reducible refine (regWrite_frame (by decide)).trans ?_
    | with_reducible refine (State.padWrite_frame (by decide)).trans ?_
    | with_reducible refine ite_both_frame ?_ ?_
    | with_reducible refine ite_both_fst_frame ?_ ?_
    | split
    | dsimp only)

theorem pairWrite_frame {M : Nat} {m : Master} {o : Nat} {low : Word} {high : Word} {s : State} (hM : 33554235447 &&& M = 33554235447) : blank M (pairWrite m o low high s) = blank M s := blank_mono hM (by
  unfold pairWrite
  repeat'
    first
    | with_reducible rfl
    | with_reducible refine (writeWide_frame (by decide)).trans ?_
    | with_reducible refine (wordWrite_frame (by decide)).trans ?_
    | with_reducible refine ite_both_frame ?_ ?_
    | with_reducible refine ite_both_fst_frame ?_ ?_
    | split
    | dsimp only)

theorem registerWrite_frame {M : Nat} {m : Master} {o : Nat} {v : Word} {high : Option Word} {s : State} (hM : 33554235447 &&& M = 33554235447) : blank M (registerWrite m o v high s) = blank M s := blank_mono hM (by
  unfold registerWrite
  repeat'
    first
    | with_reducible rfl
    | with_reducible refine (wordWrite_frame (by decide)).trans ?_
    | with_reducible refine (pairWrite_frame (by decide)).trans ?_
    | split
    | dsimp only)

theorem spiWriteWord_frame {M : Nat} {a : Nat} {v : Word} {s : State} (hM : 33554235447 &&& M = 33554235447) : blank M (spiWriteWord a v s) = blank M s := blank_mono hM (by
  unfold spiWriteWord
  repeat'
    first
    | with_reducible rfl
    | with_reducible refine (upHost_frame (by decide)).trans ?_
    | with_reducible refine (wordWrite_frame (by decide)).trans ?_
    | with_reducible refine (State.padWrite_frame (by decide)).trans ?_
    | with_reducible refine ite_both_frame ?_ ?_
    | with_reducible refine ite_both_fst_frame ?_ ?_
    | split
    | dsimp only)

theorem spiWriteWords_frame {M : Nat} {l : List Word} {a : Nat} {s : State} (hM : 33554235447 &&& M = 33554235447) :
    blank M (spiWriteWords l a s) = blank M s := by
  induction l generalizing s a with
  | nil => rfl
  | cons v r ih => unfold spiWriteWords; exact ih.trans (spiWriteWord_frame (blank_mask hM (by decide)))

theorem spiWrite_frame {M : Nat} {addr : Word} {words : List Word} {cutShort : Bool} {s : State} (hM : 33554235447 &&& M = 33554235447) : blank M (spiWrite addr words cutShort s) = blank M s := blank_mono hM (by
  unfold spiWrite
  repeat'
    first
    | with_reducible rfl
    | with_reducible refine (upHost_frame (by decide)).trans ?_
    | with_reducible refine (spiWriteWords_frame (by decide)).trans ?_
    | with_reducible refine ite_both_frame ?_ ?_
    | with_reducible refine ite_both_fst_frame ?_ ?_
    | split
    | dsimp only)

theorem spiReadWord_frame {M : Nat} {a : Nat} {s : State} (hM : 797966358 &&& M = 797966358) : blank M (spiReadWord a s).1 = blank M s := blank_mono hM (by
  unfold spiReadWord
  repeat'
    first
    | with_reducible rfl
    | with_reducible refine (upHost_frame (by decide)).trans ?_
    | with_reducible refine (padWordRead_frame (by decide)).trans ?_
    | with_reducible refine (wordRead_frame (by decide)).trans ?_
    | with_reducible refine ite_both_frame ?_ ?_
    | with_reducible refine ite_both_fst_frame ?_ ?_
    | split
    | dsimp only)

theorem spiReadWords_frame {M : Nat} {n a : Nat} {s : State} (hM : 797966358 &&& M = 797966358) : blank M (spiReadWords n a s).1 = blank M s := by
  induction n generalizing s a with
  | zero => rfl
  | succ n ih => unfold spiReadWords; exact ih.trans (spiReadWord_frame (blank_mask hM (by decide)))

theorem spiRead_frame {M : Nat} {addr : Word} {count : Nat} {s : State} (hM : 797966358 &&& M = 797966358) : blank M (spiRead addr count s) = blank M s := blank_mono hM (by
  unfold spiRead
  repeat'
    first
    | with_reducible rfl
    | with_reducible refine (upHost_frame (by decide)).trans ?_
    | with_reducible refine (emit_frame (by decide)).trans ?_
    | with_reducible refine (spiReadWords_frame (by decide)).trans ?_
    | with_reducible refine ite_both_frame ?_ ?_
    | with_reducible refine ite_both_fst_frame ?_ ?_
    | split
    | dsimp only)

theorem spiStatusFrame_frame {M : Nat} {s : State} (hM : 16777220 &&& M = 16777220) : blank M (spiStatusFrame s) = blank M s := blank_mono hM (by
  unfold spiStatusFrame
  repeat'
    first
    | with_reducible rfl
    | with_reducible refine (upHost_frame (by decide)).trans ?_
    | with_reducible refine (emit_frame (by decide)).trans ?_
    | split
    | dsimp only)

theorem readReg_frame {M : Nat} {s : State} (hM : 783286295 &&& M = 783286295) : blank M (readReg s) = blank M s := blank_mono hM (by
  unfold readReg
  repeat'
    first
    | with_reducible rfl
    | with_reducible refine (State.complete_frame (by decide)).trans ?_
    | with_reducible refine (wordRead_frame (by decide)).trans ?_
    | with_reducible refine (State.start_frame (by decide) (fun _ _ => ?_)).trans ?_
    | with_reducible refine ite_both_frame ?_ ?_
    | with_reducible refine ite_both_fst_frame ?_ ?_
    | split
    | dsimp only)

theorem writeReg_frame {M : Nat} {s : State} (hM : 33554235447 &&& M = 33554235447) : blank M (writeReg s) = blank M s := blank_mono hM (by
  unfold writeReg
  repeat'
    first
    | with_reducible rfl
    | with_reducible refine (State.complete_frame (by decide)).trans ?_
    | with_reducible refine (wordWrite_frame (by decide)).trans ?_
    | with_reducible refine (State.start_frame (by decide) (fun _ _ => ?_)).trans ?_
    | with_reducible refine ite_both_frame ?_ ?_
    | with_reducible refine ite_both_fst_frame ?_ ?_
    | split
    | dsimp only)

end Sys2Proof.Machine
end

