-- ==== Sys2Proof/Laws/FrameBoot.lean ====
section
/-! SUPPORT. Frames of the operations of Machine/Boot.lean: what each leaves as it was. -/

namespace Sys2Proof.Machine

theorem State.recover_frame {M : Nat} {s : State} {cause : Nat} (hM : 10805641244 &&& M = 10805641244) : blank M (State.recover s cause) = blank M s := blank_mono hM (by
  unfold State.recover
  repeat'
    first
    | with_reducible rfl
    | with_reducible refine (upLdr_frame (by decide)).trans ?_
    | with_reducible refine (State.changeAddr_frame (by decide)).trans ?_
    | with_reducible refine (State.enter_frame (by decide)).trans ?_
    | with_reducible refine (State.notify_frame (by decide)).trans ?_
    | with_reducible refine ite_both_frame ?_ ?_
    | with_reducible refine ite_both_fst_frame ?_ ?_
    | split
    | dsimp only)

theorem State.nextSession_frame {M : Nat} {s : State} (hM : 10737418240 &&& M = 10737418240) : blank M (State.nextSession s) = blank M s := blank_mono hM (by
  unfold State.nextSession
  repeat'
    first
    | with_reducible rfl
    | with_reducible refine (upRim_frame (by decide)).trans ?_
    | with_reducible refine (upLdr_frame (by decide)).trans ?_
    | with_reducible refine (State.upFlash_frame (by decide)).trans ?_
    | split
    | dsimp only)

theorem State.loadCheckpoint_frame {M : Nat} {s : State} (hM : 9437184 &&& M = 9437184) : blank M (State.loadCheckpoint s) = blank M s := blank_mono hM (by
  unfold State.loadCheckpoint
  repeat'
    first
    | with_reducible rfl
    | with_reducible refine (upQue_frame (by decide)).trans ?_
    | with_reducible refine (upCrier_frame (by decide)).trans ?_
    | with_reducible refine (upMst_frame (by decide) ?_).trans ?_
    | with_reducible refine (forEach_frame fun _ _ => ?_).trans ?_
    | with_reducible refine (forEach_fst_frame fun _ _ => ?_).trans ?_
    | exact Or.inl rfl
    | exact Or.inr rfl
    | exact Or.inr fun _ => rfl
    | exact (rfl : (_ : MasterRec) = _)
    | with_reducible refine ite_both_frame ?_ ?_
    | with_reducible refine ite_both_fst_frame ?_ ?_
    | split
    | dsimp only)

theorem resetRelease_frame {M : Nat} {safeBoot : Bool} {s : State} (hM : 16182739004 &&& M = 16182739004) : blank M (resetRelease safeBoot s) = blank M s := blank_mono hM (by
  unfold resetRelease
  repeat'
    first
    | with_reducible rfl
    | with_reducible refine (upRim_frame (by decide)).trans ?_
    | with_reducible refine (upTdm_frame (by decide)).trans ?_
    | with_reducible refine (upGlb_frame ?_ ?_ ?_ ?_).trans ?_
    | with_reducible refine (State.toDetect_frame (by decide)).trans ?_
    | with_reducible refine (State.recover_frame (by decide)).trans ?_
    | with_reducible refine (State.nextSession_frame (by decide)).trans ?_
    | with_reducible refine (State.loadCheckpoint_frame (by decide)).trans ?_
    | with_reducible refine (State.enter_frame (by decide)).trans ?_
    | with_reducible refine (forEach_frame fun _ _ => ?_).trans ?_
    | with_reducible refine (forEach_fst_frame fun _ _ => ?_).trans ?_
    | exact Or.inl rfl
    | exact Or.inr rfl
    | exact Or.inr fun _ => rfl
    | exact (rfl : (_ : MasterRec) = _)
    | with_reducible refine ite_both_frame ?_ ?_
    | with_reducible refine ite_both_fst_frame ?_ ?_
    | split
    | dsimp only)

theorem imageAuthenticated_frame {M : Nat} {s : State} (hM : 10805641244 &&& M = 10805641244) : blank M (imageAuthenticated s) = blank M s := blank_mono hM (by
  unfold imageAuthenticated
  repeat'
    first
    | with_reducible rfl
    | with_reducible refine (upLdr_frame (by decide)).trans ?_
    | with_reducible refine (State.recover_frame (by decide)).trans ?_
    | with_reducible refine ite_both_frame ?_ ?_
    | with_reducible refine ite_both_fst_frame ?_ ?_
    | split
    | dsimp only)

theorem State.initFirmware_frame {M : Nat} {s : State} {f : FwImage} (hM : 10805641220 &&& M = 10805641220) : blank M (State.initFirmware s f) = blank M s := blank_mono hM (by
  unfold State.initFirmware
  repeat'
    first
    | with_reducible rfl
    | with_reducible refine (State.changeAddr_frame (by decide)).trans ?_
    | with_reducible refine (State.selectSettings_frame (by decide)).trans ?_
    | with_reducible refine (State.beginProbation_frame (by decide)).trans ?_
    | with_reducible refine ite_both_frame ?_ ?_
    | with_reducible refine ite_both_fst_frame ?_ ?_
    | split
    | dsimp only)

theorem firmwareInit_frame {M : Nat} {s : State} (hM : 10805903388 &&& M = 10805903388) : blank M (firmwareInit s) = blank M s := blank_mono hM (by
  unfold firmwareInit
  repeat'
    first
    | with_reducible rfl
    | with_reducible refine (upEngine_frame (by decide)).trans ?_
    | with_reducible refine (upLdr_frame (by decide)).trans ?_
    | with_reducible refine (State.changeAddr_frame (by decide)).trans ?_
    | with_reducible refine (State.initFirmware_frame (by decide)).trans ?_
    | with_reducible refine (State.enter_frame (by decide)).trans ?_
    | with_reducible refine (forEach_frame fun _ _ => ?_).trans ?_
    | with_reducible refine (forEach_fst_frame fun _ _ => ?_).trans ?_
    | with_reducible refine ite_both_frame ?_ ?_
    | with_reducible refine ite_both_fst_frame ?_ ?_
    | split
    | dsimp only)

theorem selftestEnd_frame {M : Nat} {fails : List SelfTestFail} {s : State} (hM : 504365084 &&& M = 504365084) : blank M (selftestEnd fails s) = blank M s := blank_mono hM (by
  unfold selftestEnd
  repeat'
    first
    | with_reducible rfl
    | with_reducible refine (upBank_frame (by decide)).trans ?_
    | with_reducible refine (upCal_frame (by decide)).trans ?_
    | with_reducible refine (upMem_frame ?_ ?_ ?_).trans ?_
    | with_reducible refine (State.enter_frame (by decide)).trans ?_
    | with_reducible refine (State.notify_frame (by decide)).trans ?_
    | with_reducible refine (forEach_frame fun _ _ => ?_).trans ?_
    | with_reducible refine (forEach_fst_frame fun _ _ => ?_).trans ?_
    | exact Or.inl rfl
    | exact Or.inr rfl
    | exact Or.inr fun _ => rfl
    | exact (rfl : (_ : MasterRec) = _)
    | with_reducible refine ite_both_frame ?_ ?_
    | with_reducible refine ite_both_fst_frame ?_ ?_
    | split
    | dsimp only)

theorem State.putLaces_frame {M : Nat} {s : State} {laces : List LaceCal} {refs : List RefCal} (hM : 268435456 &&& M = 268435456) : blank M (State.putLaces s laces refs) = blank M s := blank_mono hM (by
  unfold State.putLaces
  repeat'
    first
    | with_reducible rfl
    | with_reducible refine (upCal_frame (by decide)).trans ?_
    | with_reducible refine (foldl_frame fun _ _ => ?_).trans ?_
    | with_reducible refine (foldl_fst_frame fun _ _ => ?_).trans ?_
    | split
    | dsimp only)

theorem calibrationEnd_frame {M : Nat} {spokes : List SpokeCal} {laces : List LaceCal} {refs : List RefCal} {s : State} (hM : 8926528156 &&& M = 8926528156) : blank M (calibrationEnd spokes laces refs s) = blank M s := blank_mono hM (by
  unfold calibrationEnd
  repeat'
    first
    | with_reducible rfl
    | with_reducible refine (upCal_frame (by decide)).trans ?_
    | with_reducible refine (upTmb_frame ?_ ?_).trans ?_
    | with_reducible refine (upCfg_frame ?_ ?_).trans ?_
    | with_reducible refine (State.putLaces_frame (by decide)).trans ?_
    | with_reducible refine (State.enter_frame (by decide)).trans ?_
    | with_reducible refine (State.notify_frame (by decide)).trans ?_
    | with_reducible refine (State.upFlash_frame (by decide)).trans ?_
    | with_reducible refine (State.putCal_frame (by decide)).trans ?_
    | with_reducible refine (State.countFails_frame (by decide)).trans ?_
    | with_reducible refine (State.noteCalFail_frame (by decide)).trans ?_
    | with_reducible refine (forEach_frame fun _ _ => ?_).trans ?_
    | with_reducible refine (forEach_fst_frame fun _ _ => ?_).trans ?_
    | with_reducible refine (foldl_frame fun _ _ => ?_).trans ?_
    | with_reducible refine (foldl_fst_frame fun _ _ => ?_).trans ?_
    | exact Or.inl rfl
    | exact Or.inr rfl
    | exact Or.inr fun _ => rfl
    | exact (rfl : (_ : MasterRec) = _)
    | with_reducible refine ite_both_frame ?_ ?_
    | with_reducible refine ite_both_fst_frame ?_ ?_
    | split
    | dsimp only)

theorem State.trimsEnd_frame {M : Nat} {s : State} (hM : 128 &&& M = 128) : blank M (State.trimsEnd s) = blank M s := blank_mono hM (by
  unfold State.trimsEnd
  repeat'
    first
    | with_reducible rfl
    | with_reducible refine (upTmb_frame ?_ ?_).trans ?_
    | with_reducible refine (State.freeStart_frame (by decide)).trans ?_
    | exact Or.inl rfl
    | exact Or.inr rfl
    | exact Or.inr fun _ => rfl
    | exact (rfl : (_ : MasterRec) = _)
    | with_reducible refine ite_both_frame ?_ ?_
    | with_reducible refine ite_both_fst_frame ?_ ?_
    | split
    | dsimp only)

theorem State.bootTime_frame {M : Nat} {s : State} {target : Struct} (hM : 68157845 &&& M = 68157845) : blank M (State.bootTime s target) = blank M s := blank_mono hM (by
  unfold State.bootTime
  repeat'
    first
    | with_reducible rfl
    | with_reducible refine (undefinedUse_frame (by decide)).trans ?_
    | with_reducible refine (upCfg_frame ?_ ?_).trans ?_
    | with_reducible refine (State.freeStart_frame (by decide)).trans ?_
    | with_reducible refine (State.commitTime_frame (by decide)).trans ?_
    | exact Or.inl rfl
    | exact Or.inr rfl
    | exact Or.inr fun _ => rfl
    | exact (rfl : (_ : MasterRec) = _)
    | with_reducible refine ite_both_frame ?_ ?_
    | with_reducible refine ite_both_fst_frame ?_ ?_
    | split
    | dsimp only)

theorem bootLoaded_frame {M : Nat} {s : State} (hM : 235930517 &&& M = 235930517) : blank M (bootLoaded s) = blank M s := blank_mono hM (by
  unfold bootLoaded
  repeat'
    first
    | with_reducible rfl
    | with_reducible refine (upCfg_frame ?_ ?_).trans ?_
    | with_reducible refine (State.bootTime_frame (by decide)).trans ?_
    | with_reducible refine (State.notify_frame (by decide)).trans ?_
    | with_reducible refine (State.loadFrom_frame (by decide)).trans ?_
    | with_reducible refine (State.wakeBanks_frame (by decide)).trans ?_
    | exact Or.inl rfl
    | exact Or.inr rfl
    | exact Or.inr fun _ => rfl
    | exact (rfl : (_ : MasterRec) = _)
    | with_reducible refine ite_both_frame ?_ ?_
    | with_reducible refine ite_both_fst_frame ?_ ?_
    | split
    | dsimp only)

theorem freeRunWait_frame {M : Nat} {s : State} (hM : 128 &&& M = 128) : blank M (freeRunWait s) = blank M s := blank_mono hM (by
  unfold freeRunWait
  repeat'
    first
    | with_reducible rfl
    | with_reducible refine (upTmb_frame ?_ ?_).trans ?_
    | exact Or.inl rfl
    | exact Or.inr rfl
    | exact Or.inr fun _ => rfl
    | exact (rfl : (_ : MasterRec) = _)
    | with_reducible refine ite_both_frame ?_ ?_
    | with_reducible refine ite_both_fst_frame ?_ ?_
    | split
    | dsimp only)

theorem State.beginSampling_frame {M : Nat} {s : State} {t : Nat} (hM : 34355543999 &&& M = 34355543999) : blank M (State.beginSampling s t) = blank M s := blank_mono hM (by
  unfold State.beginSampling
  repeat'
    first
    | with_reducible rfl
    | with_reducible refine (upHlt_frame (by decide)).trans ?_
    | with_reducible refine (upGlb_frame ?_ ?_ ?_ ?_).trans ?_
    | with_reducible refine (State.newEra_frame (by decide)).trans ?_
    | with_reducible refine (State.enterRun_frame (by decide)).trans ?_
    | with_reducible refine (State.applyCommit_frame (by decide)).trans ?_
    | exact Or.inl rfl
    | exact Or.inr rfl
    | exact Or.inr fun _ => rfl
    | exact (rfl : (_ : MasterRec) = _)
    | with_reducible refine ite_both_frame ?_ ?_
    | with_reducible refine ite_both_fst_frame ?_ ?_
    | split
    | dsimp only)

theorem samplingStart_frame {M : Nat} {s : State} (hM : 34355543999 &&& M = 34355543999) : blank M (samplingStart s) = blank M s := blank_mono hM (by
  unfold samplingStart
  repeat'
    first
    | with_reducible rfl
    | with_reducible refine (State.beginSampling_frame (by decide)).trans ?_
    | with_reducible refine ite_both_frame ?_ ?_
    | with_reducible refine ite_both_fst_frame ?_ ?_
    | split
    | dsimp only)

theorem State.moveCommit_frame {M : Nat} {s : State} (hM : 640 &&& M = 640) : blank M (State.moveCommit s) = blank M s := blank_mono hM (by
  unfold State.moveCommit
  repeat'
    first
    | with_reducible rfl
    | with_reducible refine (upCfg_frame ?_ ?_).trans ?_
    | with_reducible refine (State.schedule_frame (by decide)).trans ?_
    | with_reducible refine (State.unschedule_frame (by decide)).trans ?_
    | exact Or.inl rfl
    | exact Or.inr rfl
    | exact Or.inr fun _ => rfl
    | exact (rfl : (_ : MasterRec) = _)
    | with_reducible refine ite_both_frame ?_ ?_
    | with_reducible refine ite_both_fst_frame ?_ ?_
    | split
    | dsimp only)

theorem State.activated_frame {M : Nat} {s : State} (hM : 10805903508 &&& M = 10805903508) : blank M (State.activated s) = blank M s := blank_mono hM (by
  unfold State.activated
  repeat'
    first
    | with_reducible rfl
    | with_reducible refine (upEngine_frame (by decide)).trans ?_
    | with_reducible refine (upLdr_frame (by decide)).trans ?_
    | with_reducible refine (State.initFirmware_frame (by decide)).trans ?_
    | with_reducible refine (State.sourceValid_frame (by decide)).trans ?_
    | with_reducible refine (forEach_frame fun _ _ => ?_).trans ?_
    | with_reducible refine (forEach_fst_frame fun _ _ => ?_).trans ?_
    | with_reducible refine ite_both_frame ?_ ?_
    | with_reducible refine ite_both_fst_frame ?_ ?_
    | split
    | dsimp only)

theorem warmRestartEnd_frame {M : Nat} {s : State} (hM : 11353260700 &&& M = 11353260700) : blank M (warmRestartEnd s) = blank M s := blank_mono hM (by
  unfold warmRestartEnd
  repeat'
    first
    | with_reducible rfl
    | with_reducible refine (upHlt_frame (by decide)).trans ?_
    | with_reducible refine (upLdr_frame (by decide)).trans ?_
    | with_reducible refine (upCfg_frame ?_ ?_).trans ?_
    | with_reducible refine (State.moveCommit_frame (by decide)).trans ?_
    | with_reducible refine (State.activated_frame (by decide)).trans ?_
    | with_reducible refine (State.consumeBuffered_frame (by decide)).trans ?_
    | with_reducible refine (State.enter_frame (by decide)).trans ?_
    | with_reducible refine (State.skipUnknown_frame (by decide)).trans ?_
    | with_reducible refine (State.endLong_frame (by decide)).trans ?_
    | with_reducible refine (State.enterRun_frame (by decide)).trans ?_
    | with_reducible refine (forEach_frame fun _ _ => ?_).trans ?_
    | with_reducible refine (forEach_fst_frame fun _ _ => ?_).trans ?_
    | exact Or.inl rfl
    | exact Or.inr rfl
    | exact Or.inr fun _ => rfl
    | exact (rfl : (_ : MasterRec) = _)
    | with_reducible refine ite_both_frame ?_ ?_
    | with_reducible refine ite_both_fst_frame ?_ ?_
    | split
    | dsimp only)

theorem probationEnd_frame {M : Nat} {s : State} (hM : 8658092032 &&& M = 8658092032) : blank M (probationEnd s) = blank M s := blank_mono hM (by
  unfold probationEnd
  repeat'
    first
    | with_reducible rfl
    | with_reducible refine (upLdr_frame (by decide)).trans ?_
    | with_reducible refine (State.notify_frame (by decide)).trans ?_
    | with_reducible refine ite_both_frame ?_ ?_
    | with_reducible refine ite_both_fst_frame ?_ ?_
    | split
    | dsimp only)

end Sys2Proof.Machine
end

