-- ==== Sys2Proof/Laws/FrameRimRx.lean ====
section
/-! SUPPORT. Frames of the operations of Machine/RimRx.lean: what each leaves as it was. -/

namespace Sys2Proof.Machine

theorem State.controlArrived_frame {M : Nat} {s : State} {f : RimFrame} (hM : 2147483648 &&& M = 2147483648) : blank M (State.controlArrived s f).1 = blank M s := blank_mono hM (by
  unfold State.controlArrived
  repeat'
    first
    | with_reducible rfl
    | with_reducible refine (State.putAssoc_frame (by decide)).trans ?_
    | with_reducible refine ite_both_frame ?_ ?_
    | with_reducible refine ite_both_fst_frame ?_ ?_
    | split
    | dsimp only)

theorem State.expressArrived_frame {M : Nat} {s : State} {f : RimFrame} (hM : 2147483648 &&& M = 2147483648) : blank M (State.expressArrived s f).1 = blank M s := blank_mono hM (by
  unfold State.expressArrived
  repeat'
    first
    | with_reducible rfl
    | with_reducible refine (upRim_frame (by decide)).trans ?_
    | with_reducible refine ite_both_frame ?_ ?_
    | with_reducible refine ite_both_fst_frame ?_ ?_
    | split
    | dsimp only)

theorem State.arrived_frame {M : Nat} {s : State} {f : RimFrame} (hM : 2147483648 &&& M = 2147483648) : blank M (State.arrived s f).1 = blank M s := blank_mono hM (by
  unfold State.arrived
  repeat'
    first
    | with_reducible rfl
    | with_reducible refine (State.controlArrived_frame (by decide)).trans ?_
    | with_reducible refine (State.expressArrived_frame (by decide)).trans ?_
    | split
    | dsimp only)

theorem State.headerAck_frame {M : Nat} {s : State} {f : RimFrame} (hM : 2215706624 &&& M = 2215706624) : blank M (State.headerAck s f) = blank M s := blank_mono hM (by
  unfold State.headerAck
  repeat'
    first
    | with_reducible rfl
    | with_reducible refine (State.ackFrom_frame (by decide)).trans ?_
    | with_reducible refine ite_both_frame ?_ ?_
    | with_reducible refine ite_both_fst_frame ?_ ?_
    | split
    | dsimp only)

theorem State.deliverBody_frame {M : Nat} {s : State} {p : Port} {f : RimFrame} (hM : 7058868245 &&& M = 7058868245) : blank M (State.deliverBody s p f) = blank M s := blank_mono hM (by
  unfold State.deliverBody
  repeat'
    first
    | with_reducible rfl
    | with_reducible refine (linkHbIn_frame (by decide)).trans ?_
    | with_reducible refine (helloIn_frame (by decide)).trans ?_
    | with_reducible refine (State.enumerated_frame (by decide)).trans ?_
    | with_reducible refine (State.nakFrom_frame (by decide)).trans ?_
    | with_reducible refine (credit_frame (by decide)).trans ?_
    | with_reducible refine (commandFrameIn_frame (by decide)).trans ?_
    | with_reducible refine (partnerHb_frame (by decide)).trans ?_
    | with_reducible refine (triggerMessage_frame (by decide)).trans ?_
    | with_reducible refine ite_both_frame ?_ ?_
    | with_reducible refine ite_both_fst_frame ?_ ?_
    | split
    | dsimp only)

theorem State.accept_frame {M : Nat} {s : State} {p : Port} {f : RimFrame} (hM : 7058868245 &&& M = 7058868245) : blank M (State.accept s p f) = blank M s := blank_mono hM (by
  unfold State.accept
  repeat'
    first
    | with_reducible rfl
    | with_reducible refine (State.arrived_frame (by decide)).trans ?_
    | with_reducible refine (State.headerAck_frame (by decide)).trans ?_
    | with_reducible refine (State.deliverBody_frame (by decide)).trans ?_
    | with_reducible refine ite_both_frame ?_ ?_
    | with_reducible refine ite_both_fst_frame ?_ ?_
    | split
    | dsimp only)

theorem State.route_frame {M : Nat} {s : State} {p : Port} {f : RimFrame} {cut : Bool} (hM : 7058868245 &&& M = 7058868245) : blank M (State.route s p f cut) = blank M s := blank_mono hM (by
  unfold State.route
  repeat'
    first
    | with_reducible rfl
    | with_reducible refine (upRim_frame (by decide)).trans ?_
    | with_reducible refine (State.forward_frame (by decide)).trans ?_
    | with_reducible refine (State.deliverBody_frame (by decide)).trans ?_
    | with_reducible refine (State.accept_frame (by decide)).trans ?_
    | with_reducible refine ite_both_frame ?_ ?_
    | with_reducible refine ite_both_fst_frame ?_ ?_
    | split
    | dsimp only)

theorem State.badFrame_frame {M : Nat} {s : State} {p : Port} (hM : 2147483648 &&& M = 2147483648) : blank M (State.badFrame s p) = blank M s := blank_mono hM (by
  unfold State.badFrame
  repeat'
    first
    | with_reducible rfl
    | with_reducible refine (upPort_frame (by decide)).trans ?_
    | split
    | dsimp only)

theorem frameRx_frame {M : Nat} {p : Port} {g : RimFrame} {s : State} (hM : 7058868245 &&& M = 7058868245) : blank M (frameRx p g s) = blank M s := blank_mono hM (by
  unfold frameRx
  repeat'
    first
    | with_reducible rfl
    | with_reducible refine (upPort_frame (by decide)).trans ?_
    | with_reducible refine (State.route_frame (by decide)).trans ?_
    | with_reducible refine (State.badFrame_frame (by decide)).trans ?_
    | with_reducible refine ite_both_frame ?_ ?_
    | with_reducible refine ite_both_fst_frame ?_ ?_
    | split
    | dsimp only)

end Sys2Proof.Machine
end

