-- ==== Sys2Proof/Laws/FrameSnapshot.lean ====
section
/-! SUPPORT. Frames of the operations of Machine/Snapshot.lean: what each leaves as it was. -/

namespace Sys2Proof.Machine

theorem snapshot_frame {M : Nat} {s : State} (hM : 17258512533 &&& M = 17258512533) : blank M (snapshot s) = blank M s := blank_mono hM (by
  unfold snapshot
  repeat'
    first
    | with_reducible rfl
    | with_reducible refine (upSnap_frame (by decide)).trans ?_
    | with_reducible refine (State.schedule_frame (by decide)).trans ?_
    | with_reducible refine (State.complete_frame (by decide)).trans ?_
    | with_reducible refine (State.startLong_frame (by decide)).trans ?_
    | with_reducible refine (State.start_frame (by decide) (fun _ _ => ?_)).trans ?_
    | with_reducible refine ite_both_frame ?_ ?_
    | with_reducible refine ite_both_fst_frame ?_ ?_
    | split
    | dsimp only)

theorem State.copyRegisters_frame {M : Nat} {s : State} (hM : 167772162 &&& M = 167772162) : blank M (State.copyRegisters s) = blank M s := blank_mono hM (by
  unfold State.copyRegisters
  repeat'
    first
    | with_reducible rfl
    | with_reducible refine (upMem_frame ?_ ?_ ?_).trans ?_
    | with_reducible refine (State.contend_frame (by decide)).trans ?_
    | exact Or.inl rfl
    | exact Or.inr rfl
    | exact Or.inr fun _ => rfl
    | exact (rfl : (_ : MasterRec) = _)
    | split
    | dsimp only)

theorem snapshotTick_frame {M : Nat} {s : State} (hM : 17347641474 &&& M = 17347641474) : blank M (snapshotTick s) = blank M s := blank_mono hM (by
  unfold snapshotTick
  repeat'
    first
    | with_reducible rfl
    | with_reducible refine (upSnap_frame (by decide)).trans ?_
    | with_reducible refine (State.unschedule_frame (by decide)).trans ?_
    | with_reducible refine (State.copyRegisters_frame (by decide)).trans ?_
    | with_reducible refine ite_both_frame ?_ ?_
    | with_reducible refine ite_both_fst_frame ?_ ?_
    | split
    | dsimp only)

theorem snapshotEnd_frame {M : Nat} {s : State} (hM : 17258512404 &&& M = 17258512404) : blank M (snapshotEnd s) = blank M s := blank_mono hM (by
  unfold snapshotEnd
  repeat'
    first
    | with_reducible rfl
    | with_reducible refine (upSnap_frame (by decide)).trans ?_
    | with_reducible refine (State.intr_frame (by decide)).trans ?_
    | with_reducible refine (State.endLong_frame (by decide)).trans ?_
    | split
    | dsimp only)

end Sys2Proof.Machine
end

