-- ==== Sys2Proof/Laws/FrameUpdate.lean ====
section
/-! SUPPORT. Frames of the operations of Machine/Update.lean: what each leaves as it was. -/

namespace Sys2Proof.Machine

theorem State.updateResult_frame {M : Nat} {s : State} {code : Nat} (hM : 8589934592 &&& M = 8589934592) : blank M (State.updateResult s code) = blank M s := blank_mono hM (by
  unfold State.updateResult
  repeat'
    first
    | with_reducible rfl
    | with_reducible refine (upLdr_frame (by decide)).trans ?_
    | split
    | dsimp only)

theorem State.updateComplete_frame {M : Nat} {s : State} {c : CmdItem} {code : Nat} {result : Nat} (hM : 8666480661 &&& M = 8666480661) : blank M (State.updateComplete s c code result) = blank M s := blank_mono hM (by
  unfold State.updateComplete
  repeat'
    first
    | with_reducible rfl
    | with_reducible refine (State.complete_frame (by decide)).trans ?_
    | with_reducible refine (State.updateResult_frame (by decide)).trans ?_
    | split
    | dsimp only)

theorem State.updateEndLong_frame {M : Nat} {s : State} {l : LongCmd} {code : Nat} {result : Nat} (hM : 8668577812 &&& M = 8668577812) : blank M (State.updateEndLong s l code result) = blank M s := blank_mono hM (by
  unfold State.updateEndLong
  repeat'
    first
    | with_reducible rfl
    | with_reducible refine (State.endLong_frame (by decide)).trans ?_
    | with_reducible refine (State.updateResult_frame (by decide)).trans ?_
    | split
    | dsimp only)

theorem State.noteRefused_frame {M : Nat} {s t : State} {op : Nat} (hM : 8589934592 &&& M = 8589934592) :
    blank M (s.noteRefused op t) = blank M t := by
  unfold State.noteRefused
  split
  · rfl
  · split
    · exact State.updateResult_frame hM
    · rfl

theorem State.updateStart_frame {M : Nat} {s : State} {op : Nat} {f : CmdItem → State → State} (hM : 8668577813 &&& M = 8668577813)
    (hf : ∀ c s, blank M (f c s) = blank M s) : blank M (s.updateStart op f) = blank M s := by
  unfold State.updateStart
  refine (State.noteRefused_frame (blank_mask hM (by decide))).trans (State.start_frame (blank_mask hM (by decide)) fun c s => ?_)
  split
  · exact blank_mono hM (State.updateComplete_frame (by decide))
  · split
    · split
      · exact blank_mono hM (State.updateComplete_frame (by decide))
      · exact (hf _ _).trans (blank_mono hM (upLdr_frame (by decide)))
    · exact hf _ _

theorem State.breakUpdates_frame {M : Nat} {s : State} (hM : 8668577812 &&& M = 8668577812) : blank M (State.breakUpdates s) = blank M s := blank_mono hM (by
  unfold State.breakUpdates
  repeat'
    first
    | with_reducible rfl
    | with_reducible refine (State.updateEndLong_frame (by decide)).trans ?_
    | with_reducible refine (forEach_frame fun _ _ => ?_).trans ?_
    | with_reducible refine (forEach_fst_frame fun _ _ => ?_).trans ?_
    | split
    | dsimp only)

theorem State.endSession_frame {M : Nat} {s : State} {x : Session} {cause : Nat} (hM : 8658092052 &&& M = 8658092052) : blank M (State.endSession s x cause) = blank M s := blank_mono hM (by
  unfold State.endSession
  repeat'
    first
    | with_reducible rfl
    | with_reducible refine (upLdr_frame (by decide)).trans ?_
    | with_reducible refine (State.intr_frame (by decide)).trans ?_
    | with_reducible refine (State.notify_frame (by decide)).trans ?_
    | split
    | dsimp only)

theorem State.updateBytes_frame {M : Nat} {s : State} {c : CmdItem} (hM : 772800534 &&& M = 772800534) : blank M (State.updateBytes s c).1 = blank M s := blank_mono hM (by
  unfold State.updateBytes
  repeat'
    first
    | with_reducible rfl
    | with_reducible refine (State.contend_frame (by decide)).trans ?_
    | with_reducible refine (State.readPad_frame (by decide)).trans ?_
    | with_reducible refine ite_both_frame ?_ ?_
    | with_reducible refine ite_both_fst_frame ?_ ?_
    | split
    | dsimp only)

theorem State.headerData_frame {M : Nat} {s : State} {c : CmdItem} {bs : List Byte} (hM : 8666480661 &&& M = 8666480661) : blank M (State.headerData s c bs) = blank M s := blank_mono hM (by
  unfold State.headerData
  repeat'
    first
    | with_reducible rfl
    | with_reducible refine (upLdr_frame (by decide)).trans ?_
    | with_reducible refine (State.notify_frame (by decide)).trans ?_
    | with_reducible refine (State.updateComplete_frame (by decide)).trans ?_
    | with_reducible refine ite_both_frame ?_ ?_
    | with_reducible refine ite_both_fst_frame ?_ ?_
    | split
    | dsimp only)

theorem State.bodyData_frame {M : Nat} {s : State} {c : CmdItem} {x : Session} {offset : Nat} {bs : List Byte} (hM : 8592031745 &&& M = 8592031745) : blank M (State.bodyData s c x offset bs) = blank M s := blank_mono hM (by
  unfold State.bodyData
  repeat'
    first
    | with_reducible rfl
    | with_reducible refine (upLdr_frame (by decide)).trans ?_
    | with_reducible refine (State.startLong_frame (by decide)).trans ?_
    | with_reducible refine (State.upFlash_frame (by decide)).trans ?_
    | with_reducible refine ite_both_frame ?_ ?_
    | with_reducible refine ite_both_fst_frame ?_ ?_
    | split
    | dsimp only)

theorem updateData_frame {M : Nat} {s : State} (hM : 9373220887 &&& M = 9373220887) : blank M (updateData s) = blank M s := blank_mono hM (by
  unfold updateData
  repeat'
    first
    | with_reducible rfl
    | with_reducible refine (State.updateComplete_frame (by decide)).trans ?_
    | with_reducible refine (State.updateBytes_frame (by decide)).trans ?_
    | with_reducible refine (State.headerData_frame (by decide)).trans ?_
    | with_reducible refine (State.bodyData_frame (by decide)).trans ?_
    | with_reducible refine (State.updateStart_frame (by decide) (fun _ _ => ?_)).trans ?_
    | with_reducible refine ite_both_frame ?_ ?_
    | with_reducible refine ite_both_fst_frame ?_ ?_
    | split
    | dsimp only)

theorem chunkProgrammed_frame {M : Nat} {ok : Bool} {s : State} (hM : 8668577812 &&& M = 8668577812) : blank M (chunkProgrammed ok s) = blank M s := blank_mono hM (by
  unfold chunkProgrammed
  repeat'
    first
    | with_reducible rfl
    | with_reducible refine (upLdr_frame (by decide)).trans ?_
    | with_reducible refine (State.updateEndLong_frame (by decide)).trans ?_
    | with_reducible refine ite_both_frame ?_ ?_
    | with_reducible refine ite_both_fst_frame ?_ ?_
    | split
    | dsimp only)

theorem updateEnd_frame {M : Nat} {s : State} (hM : 8668577813 &&& M = 8668577813) : blank M (updateEnd s) = blank M s := blank_mono hM (by
  unfold updateEnd
  repeat'
    first
    | with_reducible rfl
    | with_reducible refine (State.startLong_frame (by decide)).trans ?_
    | with_reducible refine (State.updateComplete_frame (by decide)).trans ?_
    | with_reducible refine (State.updateStart_frame (by decide) (fun _ _ => ?_)).trans ?_
    | with_reducible refine ite_both_frame ?_ ?_
    | with_reducible refine ite_both_fst_frame ?_ ?_
    | split
    | dsimp only)

theorem State.activate_frame {M : Nat} {s : State} (hM : 8937047612 &&& M = 8937047612) : blank M (State.activate s) = blank M s := blank_mono hM (by
  unfold State.activate
  repeat'
    first
    | with_reducible rfl
    | with_reducible refine (State.beginRestart_frame (by decide)).trans ?_
    | with_reducible refine (State.takeImage_frame (by decide)).trans ?_
    | with_reducible refine ite_both_frame ?_ ?_
    | with_reducible refine ite_both_fst_frame ?_ ?_
    | split
    | dsimp only)

theorem State.installImage_frame {M : Nat} {s : State} {x : Session} {activate : Bool} (hM : 8589934594 &&& M = 8589934594) : blank M (State.installImage s x activate) = blank M s := blank_mono hM (by
  unfold State.installImage
  repeat'
    first
    | with_reducible rfl
    | with_reducible refine (draw_frame (by decide)).trans ?_
    | with_reducible refine (State.upFlash_frame (by decide)).trans ?_
    | split
    | dsimp only)

theorem State.dropEnds_frame {M : Nat} {s : State} (hM : 8668577812 &&& M = 8668577812) : blank M (State.dropEnds s) = blank M s := blank_mono hM (by
  unfold State.dropEnds
  repeat'
    first
    | with_reducible rfl
    | with_reducible refine (State.updateEndLong_frame (by decide)).trans ?_
    | with_reducible refine (forEach_frame fun _ _ => ?_).trans ?_
    | with_reducible refine (forEach_fst_frame fun _ _ => ?_).trans ?_
    | split
    | dsimp only)

theorem updateEndDone_frame {M : Nat} {ok : Bool} {s : State} (hM : 8937047614 &&& M = 8937047614) : blank M (updateEndDone ok s) = blank M s := blank_mono hM (by
  unfold updateEndDone
  repeat'
    first
    | with_reducible rfl
    | with_reducible refine (upLdr_frame (by decide)).trans ?_
    | with_reducible refine (State.intr_frame (by decide)).trans ?_
    | with_reducible refine (State.notify_frame (by decide)).trans ?_
    | with_reducible refine (State.upFlash_frame (by decide)).trans ?_
    | with_reducible refine (State.updateEndLong_frame (by decide)).trans ?_
    | with_reducible refine (State.endSession_frame (by decide)).trans ?_
    | with_reducible refine (State.activate_frame (by decide)).trans ?_
    | with_reducible refine (State.installImage_frame (by decide)).trans ?_
    | with_reducible refine (State.dropEnds_frame (by decide)).trans ?_
    | with_reducible refine ite_both_frame ?_ ?_
    | with_reducible refine ite_both_fst_frame ?_ ?_
    | split
    | dsimp only)

theorem updateAbort_frame {M : Nat} {s : State} (hM : 8668577813 &&& M = 8668577813) : blank M (updateAbort s) = blank M s := blank_mono hM (by
  unfold updateAbort
  repeat'
    first
    | with_reducible rfl
    | with_reducible refine (State.updateComplete_frame (by decide)).trans ?_
    | with_reducible refine (State.breakUpdates_frame (by decide)).trans ?_
    | with_reducible refine (State.endSession_frame (by decide)).trans ?_
    | with_reducible refine (State.updateStart_frame (by decide) (fun _ _ => ?_)).trans ?_
    | split
    | dsimp only)

theorem sessionTimeout_frame {M : Nat} {s : State} (hM : 8668577812 &&& M = 8668577812) : blank M (sessionTimeout s) = blank M s := blank_mono hM (by
  unfold sessionTimeout
  repeat'
    first
    | with_reducible rfl
    | with_reducible refine (State.breakUpdates_frame (by decide)).trans ?_
    | with_reducible refine (State.endSession_frame (by decide)).trans ?_
    | with_reducible refine ite_both_frame ?_ ?_
    | with_reducible refine ite_both_fst_frame ?_ ?_
    | split
    | dsimp only)

theorem State.imageCommitted_frame {M : Nat} {s : State} {f : FwImage} (hM : 8658092032 &&& M = 8658092032) : blank M (State.imageCommitted s f) = blank M s := blank_mono hM (by
  unfold State.imageCommitted
  repeat'
    first
    | with_reducible rfl
    | with_reducible refine (upLdr_frame (by decide)).trans ?_
    | with_reducible refine (State.notify_frame (by decide)).trans ?_
    | with_reducible refine (State.upFlash_frame (by decide)).trans ?_
    | with_reducible refine ite_both_frame ?_ ?_
    | with_reducible refine ite_both_fst_frame ?_ ?_
    | split
    | dsimp only)

theorem commitImage_frame {M : Nat} {s : State} (hM : 8668577815 &&& M = 8668577815) : blank M (commitImage s) = blank M s := blank_mono hM (by
  unfold commitImage
  repeat'
    first
    | with_reducible rfl
    | with_reducible refine (draw_frame (by decide)).trans ?_
    | with_reducible refine (State.updateComplete_frame (by decide)).trans ?_
    | with_reducible refine (State.imageCommitted_frame (by decide)).trans ?_
    | with_reducible refine (State.updateStart_frame (by decide) (fun _ _ => ?_)).trans ?_
    | with_reducible refine ite_both_frame ?_ ?_
    | with_reducible refine ite_both_fst_frame ?_ ?_
    | split
    | dsimp only)

theorem otpProvision_frame {M : Nat} {s : State} (hM : 9373220887 &&& M = 9373220887) : blank M (otpProvision s) = blank M s := blank_mono hM (by
  unfold otpProvision
  repeat'
    first
    | with_reducible rfl
    | with_reducible refine (upLdr_frame (by decide)).trans ?_
    | with_reducible refine (State.upFlash_frame (by decide)).trans ?_
    | with_reducible refine (State.contend_frame (by decide)).trans ?_
    | with_reducible refine (State.readPad_frame (by decide)).trans ?_
    | with_reducible refine (State.updateComplete_frame (by decide)).trans ?_
    | with_reducible refine (State.noteRefused_frame (by decide)).trans ?_
    | with_reducible refine (State.start_frame (by decide) (fun _ _ => ?_)).trans ?_
    | with_reducible refine ite_both_frame ?_ ?_
    | with_reducible refine ite_both_fst_frame ?_ ?_
    | split
    | dsimp only)

theorem saveSettings_frame {M : Nat} {s : State} (hM : 8668577813 &&& M = 8668577813) : blank M (saveSettings s) = blank M s := blank_mono hM (by
  unfold saveSettings
  repeat'
    first
    | with_reducible rfl
    | with_reducible refine (State.startLong_frame (by decide)).trans ?_
    | with_reducible refine (State.updateStart_frame (by decide) (fun _ _ => ?_)).trans ?_
    | split
    | dsimp only)

theorem settingsWritten_frame {M : Nat} {s : State} (hM : 8668577812 &&& M = 8668577812) : blank M (settingsWritten s) = blank M s := blank_mono hM (by
  unfold settingsWritten
  repeat'
    first
    | with_reducible rfl
    | with_reducible refine (State.writeSettings_frame (by decide)).trans ?_
    | with_reducible refine (State.saveAddr_frame (by decide)).trans ?_
    | with_reducible refine (State.endLong_frame (by decide)).trans ?_
    | with_reducible refine (State.updateEndLong_frame (by decide)).trans ?_
    | with_reducible refine ite_both_frame ?_ ?_
    | with_reducible refine ite_both_fst_frame ?_ ?_
    | split
    | dsimp only)

end Sys2Proof.Machine
end

