-- ==== Sys2Proof/Laws/Loops.lean ====
section
/-! SUPPORT. What repetition does: an entry after a loop over indices, and predicates that a loop keeps. -/

namespace Sys2Proof.Machine

/-- A predicate that every round keeps holds at the end. -/
theorem forEach_keeps {α σ : Type} {P : σ → Prop} {l : List α} {s : σ} {f : σ → α → σ} (h : P s) (hf : ∀ s a, P s → P (f s a)) :
    P (forEach l s f) := by
  unfold forEach
  induction l generalizing s with
  | nil => exact h
  | cons a l ih => exact ih (hf s a h)

/-- A value that every round keeps is the same at the end. -/
theorem forEach_same {α σ β : Type} {g : σ → β} {l : List α} {s : σ} {f : σ → α → σ} (hf : ∀ s a, g (f s a) = g s) :
    g (forEach l s f) = g s :=
  forEach_keeps (P := fun t => g t = g s) rfl fun t a h => (hf t a).trans h

theorem forEach_append {α σ : Type} (a b : List α) (s : σ) (f : σ → α → σ) : forEach (a ++ b) s f = forEach b (forEach a s f) f :=
  List.foldl_append

/-- Round `i` of a loop over indices changes entry `i` by `g i` and no other entry; `I` holds throughout. -/
theorem forEach_entry {σ β : Type} {I : σ → Prop} (acc : σ → Nat → β) (f : σ → Nat → σ) (g : Nat → β → β) (hI : ∀ s i, I s → I (f s i))
    (h1 : ∀ s i, I s → acc (f s i) i = g i (acc s i)) (h2 : ∀ s i j, I s → j ≠ i → acc (f s i) j = acc s j) (n : Nat) (s : σ) (h : I s)
    (j : Nat) : acc (forEach (List.range n) s f) j = if j < n then g j (acc s j) else acc s j := by
  induction n generalizing j with
  | zero => rfl
  | succ n ih =>
    have hn : I (forEach (List.range n) s f) := forEach_keeps h fun s a hs => hI s a hs
    have e : forEach (List.range (n + 1)) s f = f (forEach (List.range n) s f) n := by
      rw [List.range_succ, forEach_append]
      rfl
    rw [e]
    by_cases hj : j = n
    · subst hj
      rw [h1 _ _ hn, ih, if_neg (Nat.lt_irrefl _), if_pos (Nat.lt_succ_self _)]
    · rw [h2 _ _ _ hn hj, ih]
      by_cases hl : j < n
      · rw [if_pos hl, if_pos (by omega)]
      · rw [if_neg hl, if_neg (by omega)]

end Sys2Proof.Machine
end

