-- ==== Sys2Proof/Tests/Slice0.lean ====
section
/-! SUPPORT. Small states and, for every clause of every statement, witnesses: a concrete state and operands that meet all its conditions
together. `test_<statement>_<clause>` is written as the conditions applied to the witness. Then the well-formedness checks. -/

namespace Sys2Proof.Tests
open Sys2Proof Sys2Proof.Machine Sys2Proof.Safety
set_option Elab.async false

/-- A hub in RUN that samples, 5,000 s of network time after reset, with its four lanes ACTIVE, an address, and reach through both rim ports. -/
def base : State :=
  { State.reset with
    glb.state := .run, glb.sampling := true, tmb.counter := 10 ^ 12, tmb.pllLock := true
    lnk.lanes := (List.range 4).map fun x => (x, { state := .active, blockLock := true })
    lnk.rim.addr := 5, lnk.rim.addrSrc := 2, lnk.rim.e.reach := true, lnk.rim.w.reach := true }

/-- A command item from the SPI host. -/
def item (op : Byte) (a : Word := 0) (b : DWord := 0) : CmdItem :=
  { master := .spi, cseq := 7, tag := 5, opcode := op, opA := a, opB := b, service := false, base := 0 }

/-- The hub with that item at the front of its queue. -/
def waits (s : State) (c : CmdItem) : State := { s with cmd.queue := [c], cmd.spi.inFlight := 1 }

/-- The hub with that item in progress as a long command. -/
def long (s : State) (c : CmdItem) (op : LongOp) : State := { s with cmd.long := [{ item := c, op := op, since := 1 }], cmd.spi.inFlight := 1 }

/-- The hub in another state of GLB_STATE. -/
def inState (g : GlbState) : State := { base with glb.state := g, glb.sampling := false }

/-- The header of a PTP message of the clock 0xABCD in domain 0. -/
def hdr : PtpHdr := { domain := 0, srcClock := 0xABCD, srcPort := 1, seqId := 3, correction := 65536 }

/-- A hub that listens to the master of `hdr` at RIM_E. -/
def slave : State :=
  { base with
    cfg.committed.time := [(0, [0x4CC00030, 0x80800096, 0, 0, 0x00C80064, 0x20002710, 0, 0, 0])]
    tmb.tdSource := some .e, tmb.portE.role := .slave, tmb.portE.heard := some (0xABCD, 1, 10 ^ 12 - 1)
    tmb.portE.best := some (hdr, { priority1 := 1, gmClass := 6, gmAccuracy := 0x20, gmVariance := 0, priority2 := 1, gmIdentity := 1, steps := 1 }) }

/-- A hub that follows the PPS and ZDA of a GNSS receiver. -/
def gnss : State :=
  { base with cfg.committed.time := [(0, [0x8CC00030, 0x80800096, 0, 0, 0x00C80064, 0x24002710, 0, 0, 0])], tmb.ppsLast := some (64 * (10 ^ 12 - 40000000), 3)
              tmb.ppsValid := true }

/-- The sentence $GPZDA of 12:34:56 on 1 January 2026, with its checksum and end of line. -/
def zda : List Byte := [0x24, 0x47, 0x50, 0x5A, 0x44, 0x41, 0x2C, 0x31, 0x32, 0x33, 0x34, 0x35, 0x36, 0x2C, 0x30, 0x31, 0x2C, 0x30, 0x31, 0x2C, 0x32, 0x30, 0x32, 0x36, 0x2C, 0x2C, 0x2A, 0x34, 0x39, 0x0D, 0x0A]

/-- A scheduled snapshot. -/
def event (target : Nat) (armed fired : Bool) : SchedEvent := { id := 0, kind := .snapshot, target := target, armed := armed, fired := fired, late := false }

/-- The hub with one scheduled event. -/
def scheduled (e : SchedEvent) : State := { base with tmb.sched := [e], tmb.nextSched := 1 }

/-- A full image that names no instance. -/
def image : List Word :=
  let frame : List Word := [0x7F000000, 1]
  let body := frame ++ [wordOf (crcWords frame)]
  [0x49534851, 0x10000, 0x768, 9, 0, 0, 0, 0, 19, 0, 0, 0, 0, 0, 0, wordOf (crcWords body)] ++ body

/-- A staged image of a structure. -/
def staged (st : Struct) (sampling : Bool) : Staged :=
  { structId := 9, parentId := 0, delta := false, sampling := sampling, words := image, target := st, sound := true }

/-- The hub with a staged image in a staging state. -/
def withStaged (g : StageState) : State := { base with cfg.stage := g, cfg.staged := some (staged {} true) }

/-- The long command LOAD_STRUCTURE. -/
def isLoad (o : LongOp) : Bool := match o with | .load .. => true | _ => false

/-- The hub that loads the image of library slot 15 or of the scratchpad. -/
def loading (library : Bool) (slot : Nat) : State := { long base (item 0x10) (.load library slot image) with cfg.stage := .loading, ldr.flash.library := [(15, image)] }

/-- A LOAD_STRUCTURE of these words in progress. -/
def loadOf (ws : List Word) : LongCmd := { item := item 0x10, op := .load false 0 ws, since := 1 }

/-- The hub with that load in progress. -/
def loadingOf (ws : List Word) : State := { base with cmd.long := [loadOf ws], cmd.spi.inFlight := 1, cfg.stage := .loading }

/-- A full image with its image CRC over these words after the header. -/
def imageOf (body : List Word) : List Word := [0x49534851, 0x10000, 0x768, 9, 0, 0, 0, 0, wordOf (16 + body.length), 0, 0, 0, 0, 0, 0, wordOf (crcWords body)] ++ body

/-- A commit at 5,000 s that a COMMIT command asked for. -/
def onTime : PendingCommit := { item := some (item 0x11), named := none, instant := 5 * 10 ^ 12, late := false, atSamplingStart := false }

/-- The hub at the instant of that commit, of a structure. -/
def due (st : Struct) : State := { long base (item 0x11) .commit with cfg.stage := .pending, cfg.staged := some (staged st true), cfg.pending := some onTime }

/-- A hub in TIMEWAIT at the instant of the sampling start, with a boot structure that waits for it. -/
def startsWith : State :=
  { inState .timewait with
    tmb.trimsIn := some 0, tmb.startAt := some (5 * 10 ^ 12), cfg.stage := .pending, cfg.staged := some (staged {} true)
    cfg.pending := some { item := none, named := none, instant := 0, late := false, atSamplingStart := true } }

/-- A structure in which spoke 0 is a BRIDGE with one look of four gears on the DC_V lace 0, and spoke 1 a thermocouple input with two looks, the
first a test look. -/
def lab : Struct :=
  { spoke := [(0, [0x20100000, 0x00040000]), (1, [0x101003E8, 0x00040000])]
    lace := [(0, [0x10000020, 0x13880000, 0xA00, 0x3200, 0x500, 0xFA0A1000])]
    lookSeq := [(0, [0x08000000, 0x1DC48D00, 0x00010001, 0]), (1, [0x10000000, 0x1DC48D20, 0x00280101, 0, 0x1DC48D00, 0x00280101, 0])] }

/-- The hub with that structure, its three looks in gear 1. -/
def labHub : State := { base with cfg.committed := lab, path.looks := [(0, { gear := 1 }), (16, { gear := 1 }), (17, { gear := 1 })] }

/-- The same hub 3.3 ms later. -/
def lateRun : State := { labHub with tmb.counter := 10 ^ 12 + 660000 }

/-- A mend that waits for its second word. -/
def aMend : Mend := { word := 5, before := 100, last := 200, gear := 0, time := 5, done := false }

/-- The hub whose lace 0 has sensed low twice. -/
def lowLace : State := { labHub with lace.laces := [(0, { drive := 1, highZ := false, lowFrom := some 77, senseLowRuns := 2 })] }

/-- The hub whose lace 0 ramps to an amplitude. -/
def ramping (target : Nat) (more : Lace) : State :=
  { labHub with lace.laces := [(0, { more with ramp := some { source := 5, target := target, start := 3, stop := 10 ^ 12 } })] }

/-- The hub whose lace 0 is driven in full. -/
def driven : State := { labHub with lace.laces := [(0, { drive := 1, scale := 65536, highZ := false })] }

/-- A single-cycle look of oversampling 32 on spoke 2, whose next sample is due. -/
def sampled : State :=
  { base with
    cfg.committed := { spoke := [(2, [0x10000000, 0x00040000])], lookSeq := [(2, [0x08000000, 0x80040000, 0x00010001, 0])] }
    path.looks := [(32, { next := some 100000 })] }

/-- The hub whose switch 128 has its ambient level due. -/
def ambient : State :=
  { sampled with
    cfg.committed.switch := [(128, [0x30000000, 0, 0, 0, 0, 0, 0, 0, 0, 0])]
    path.looks := [(32, { next := some 32000000 })], path.switches := [(128, { ambDone := 3, hist := [(3 * 256 + 7, 100)] })] }

/-- A hub whose unit 0 alone is enabled, with one source of a type and an argument. -/
def withUnit (type arg : Nat) : State :=
  { base with cfg.committed := { trigger := [(0, [0x80200000, 1, 1, 0, 0, 0, 0, 1, 1, 0, 0, 0, wordOf (type * 2 ^ 28 + arg)])] } }

/-- A firing of unit 0 whose instant has come. -/
def firedEvent : SchedEvent := { id := 0, kind := .trigger 0, target := 5 * 10 ^ 12, armed := true, fired := true, late := false }

/-- Stream 32 is stored, for the rim, in stall 7 of 16 pages, a STREAM or a RECORD stall with an age of 60 s. -/
def stored (kind : Nat) : Struct :=
  { sampled.st with stream := [(32, [0xA0070000, 0])], stall := [(7, [wordOf (kind * 2 ^ 30 + 16), 0, 0, 60])] }

/-- An open block of stream 32 with two samples. -/
def aBlock : OpenBlock :=
  { seq := 7, w3 := 9, eng := false, words := false, pos := 70, tFirst := 5, samples := [(1, 0), (0xFFFFFFFF, 3)], split := false, keyed := false }

/-- That block, closed and coded in 40 bytes. -/
def aClosed : ClosedBlock :=
  { block := aBlock, interim := false, key := true, restored := false, escaped := false, start := {}, keyDist := 0, bytes := List.replicate 40 1
    takeover := false, saves := [], restores := [], plain := false, preds := 0, near := none }

/-- That block as the stall holds it. -/
def aHeld : HeldBlock :=
  { page := 0, addr := 0, size := 40, stream := 32, seq := 7, w3 := 9, tFirst := 5, key := true, interim := false, split := false, sent := true
    again := false, ord := 0 }

/-- A complete record that expires at the present tick. -/
def aRecord : Record :=
  { number := 3, unit := 0, state := .complete, point := 5, winStart := 4, winEnd := 6, retriggers := 0, retrigPoints := [], originHub := 0
    originUnit := 0, extended := false, remote := false, streamLost := false, doneTime := 5, doneTick := 10 ^ 12 - 12 * 10 ^ 9, entries := [], page := 0
    addr := 64, size := 12, room := 16, openTick := 9 }

/-- The hub with that stream in a state of its blocks. -/
def streaming (more : StreamRec) : State := { sampled with cfg.committed := stored 1, path.streams := [(32, more)] }

/-- The hub with one block, two numbers and one record in stall 7. -/
def stalled (kind : Nat) (more : Stall) : State :=
  { sampled with
    cfg.committed := stored kind
    path.stalls := [(7, { more with
      page := some 0, offset := 64, held := [aHeld], runs := [{ stream := 32, w3 := 9, first := 7, last := 8, time := 5 }], nextOrd := 2 })] }

/-- Job slot 0 of engine 0 with a kind, an interval of 10 ms, the inputs 32 and 33 and the output stream 13,056; a CSD job of N = 256. -/
def reducing (kind : Nat) (more : Job) : State :=
  { sampled with
    cfg.committed.reducer := [(0, [0x08000000, 0, 0, 0, wordOf (kind * 2 ^ 29 + 13056 * 16), wordOf (32 * 2 ^ 18 + 2 * 128 + 1), 1, 0x100, 0, 0, 0, 0, 1, 0x10000])]
    path.jobs := [(0, { more with live := true })] }

/-- A hub without an address that an ENUMERATE frame may give one. -/
def nameless : State := { base with lnk.rim.addr := 4095, cfg.committed.rim := [(0, [0x00200000, 0x00C80808, 0x00C8012C, 0])] }

/-- A CONTROL frame of 4 bytes to hub 10. -/
def aFrame : RimFrame :=
  { bytes := { type := 0x03, cls := 2, src := 9, hop := 0, dst := 10, memberOnly := false, seq := 3, ack := none : IrpHeader }.frame [0, 0, 0, 0], fcs := .good }

/-- A frame to hub `dst` from hub 9 with a body, the CONTROL number 3. -/
def frameOf (type cls hop dst : Nat) (body : List Byte := [0, 0, 0, 0]) (fcs : Fcs := .good) : RimFrame :=
  { bytes := { type := type, cls := cls, src := 9, hop := hop, dst := dst, memberOnly := false, seq := 3, ack := none : IrpHeader }.frame body, fcs := fcs }

/-- A CONTROL frame of this hub to hub 9. -/
def anOut : OutFrame := { cls := 2, src := 5, dst := 9, seq := 3, body := .ackOf 2, cut := false }

/-- The hub with a CONTROL frame sent and not acknowledged, `tries` times. -/
def sentCtl (tries : Nat) : State := { base with lnk.rim.ctl := [{ frame := anOut, tries := tries, tick := 10 ^ 12 - 10 ^ 9 }] }

/-- The hub with a BULK frame sent and not acknowledged. -/
def sentBulk : State :=
  { base with lnk.rim.bulkOut := [{ seq := 3, src := 5, port := .e, items := [.final 32 9 7 0], tick := 5, lost := false, resent := false }] }

/-- A block that waits for the rim. -/
def toSend : State :=
  { stalled 1 {} with
    path.stalls := [(7, { held := [{ aHeld with sent := false, size := 4 }], runs := [{ stream := 32, w3 := 9, first := 7, last := 7, time := 5 }], nextOrd := 1 })]
    lnk.rim.e.credit := 9000 }

/-- The hub with one lane in a state. -/
def withLane (x : Nat) (l : Lane) : State := { base with lnk.lanes := [(x, l)] }

/-- A member of a tandem with a role, its tandem lanes ACTIVE. -/
def tandem (more : Tdm) : State := { labHub with cfg.committed.tandem := [(0, [0x80000000, 0])], tdm := more }

/-- A heartbeat of an ACTIVE partner in RUN that sees every witness. -/
def aBeat : Heartbeat :=
  { role := 1, glb := 6, driving := true, tokenSeen := true, linkSeen := true, rimSeen := true, excSeen := true, synced := true, count := 3
    sendTime := 4999999999000, activeSince := 7, nextBulk := 0, nextCtl := 0, nextExp := 0 }

/-- The words of the item `item op`. -/
def words (op : Word) : ItemWords := { w0 := 0x00070500 + op, w1 := 0, w2 := 0, w3 := 0 }

/-- An item in the chain of a queue, of a number, priority and drain. -/
def chained (n prio : Nat) (d : Drain) : ChainItem :=
  { nseq := n, item := { w0 := 1, w1 := 2, w2 := 3, w3 := 4 }, prio := prio, entered := 5, aged := 5, replayed := false, drain := d, ring := 63 }

/-- The hub with a record of queue 63. -/
def queued (q : Queue) : State := { base with crier.queues := [(63, q)] }

/-- The hub with a record of ring 63, a NOTICE ring of 64 KiB with a vector where it is enabled. -/
def ringed (r : Ring) : State := { base with host.rings := [(63, r)] }

/-- The SPI host's 64-bit hold. -/
def held (r : MasterRec) : State := { base with cmd.spi := { r with credit := 64 } }

/-- A session of master 0 whose header names a body of 16 bytes. -/
def aSession (body : List Byte) : Session :=
  { owner := 0, legacy := false, header := [0x51, 0x48, 0x46, 0x57, 0x68, 0x07, 1, 0, 0, 2, 0, 1, 9, 0, 0, 0, 16, 0, 0, 0] ++ List.replicate 492 0
    body := body, wroteBody := true, flashBad := false, lastTick := 10 ^ 12 - 6 * 10 ^ 9 }

/-- The hub with that session and an item at the front of its queue. -/
def updating (body : List Byte) (c : CmdItem) : State := { waits base c with ldr.session := some (aSession body) }

/-- The findings of a calibration of spoke 767. -/
def aCal : SpokeCal :=
  { spoke := 767
    slots := (List.range 25).map fun g =>
      { slot := g, offsetCode := 5, gainCode := if g = 24 then 600 else 6, wide := 400000, narrow := 800000, offsetRes := 2, gainRes := 3 }
    skew := (List.range 5).map fun f => { family := f, steps := List.replicate 64 { at_ := 46200000, below := 0, above := 1000000 }, residual := 1 } }

/-- The figures of a whole calibration. -/
def fullCal : List SpokeCal := (List.range 768).map fun i => { aCal with spoke := i }

/-- The figures of every lace with one phase, lace 47 at its limit. -/
def fullLaces (phase : Int) : List LaceCal :=
  (List.range 48).map fun i => { lace := i, ampPpm := if i = 47 then 100000 else 0, phaseMdeg := phase, auxOffset := 0, auxGain := 0 }

/-- The figures of every reference. -/
def fullRefs : List RefCal := (List.range 6).map fun d => { die := d, ppm := 0 }

/-- The hub with bank 127 in a state of power. -/
def bankOfState (b : Bank) : State := { base with mem.banks := [(127, b)] }

/-- The hub with the last cell of the scratchpad listed. -/
def cell (c : MemCell) : State := { base with mem.pad := [(0x1FFFFFF, c)] }

/-- A scheduled snapshot whose instant has come. -/
def firedSnap : SchedEvent := { event (5 * 10 ^ 12) true true with kind := .snapshot }

/-- The hub in RECOVERY with an item at the front of its queue. -/
def inRecovery (c : CmdItem) : State := waits (inState .recovery) c

/-- The hub whose window 63 watches class `cls` of instance `inst` with a threshold in 100 ms, at the end of a tick with one event of it. -/
def watched (cls action inst thresh : Nat) (more : Window := {}) (s : State := base) : State :=
  { s with
    cfg.committed.window := [(63, [wordOf (2 ^ 31 + cls * 2 ^ 27 + action * 2 ^ 24), wordOf (inst * 65536 + thresh), 100])]
    hlt.due := [(cls, inst)], hlt.windows := [(63, more)] }

/-- The hub of `sampled` with switch 128 on its look. -/
def swHub (w0 w1 level hyst : Word) (more : Switch := {}) (s : State := sampled) : State :=
  { s with cfg.committed.switch := [(128, [w0, w1, level, hyst, 0, 0, 0, 0, 0, 0])], path.switches := [(128, more)] }

/-- The codes of a whole look at plus one. -/
def plusOnes : List Int := List.replicate 237 1

/-- What the chain makes of these codes for the look's next sample. -/
def chained32 (s : State) (codes : List Int) : State × Option Int × Nat :=
  (s.chainOut s.st 32 100000 (s.st.instantOf 32 100000) codes).getD (s, none, 0)

/-- A hub whose unit 0 has these words, record set 6, and a stream range, over the stored stream 32. -/
def combHub (w0 coinc : Word) (srcs : List Word) (pre post range : Word) (more : TrigUnit := {}) : State :=
  { stalled 1 {} with
    cfg.committed := { stored 1 with
      stall := [(6, [0x80000010, 0, 0, 60]), (7, [0x40000010, 0, 0, 60])]
      trigger := [(0, [w0, coinc, 1, pre, post, 0, 0x00600000, range, 0, 0, 0, 0] ++ srcs)] }
    path.stalls := (6, { page := some 3 }) :: (stalled 1 {}).path.stalls, path.units := [(0, more)] }

/-- The same hub in an era that runs since time 0 and with nothing written in stall 7, whose pins may take a share of its pages. -/
def liveHub (share : Nat) (more : Stall := {}) : State :=
  let s := combHub 0x80200000 1 [0x30000007] 1 1000000 0x800080
  { s with cfg.committed.stall := [(6, [0x80000010, 0, 0, 60]), (7, [0x40000010, wordOf (50 * 2 ^ 24), wordOf (share * 2 ^ 24), 60])]
           cfg.eras := [{ start := 0, prevEnd := 0, st := s.st }], path.stalls := [(6, { page := some 3 }), (7, { more with page := some 2, offset := 64 })] }

/-- The hub of `streaming` with a closed block of 40 bytes and these contents of stall 7. -/
def placing (c : ClosedBlock) (w : Stall) : State :=
  { streaming { closed := [c] } with path.stalls := [(6, { page := some 3 }), (7, w)] }

/-- Stall 7 with its page 0 full, one block of number 6 on it, and the block 7 on page 1. -/
def fullPage : Stall :=
  { page := some 0, offset := 65536, nextOrd := 2
    held := [{ aHeld with page := 1, addr := 65536, sent := false }, { aHeld with seq := 8, ord := 1 }]
    runs := [{ stream := 32, w3 := 9, first := 7, last := 8, time := 5 }] }

/-- The block of `aClosed` with the number 9, coded from a history. -/
def aCoded : ClosedBlock := { aClosed with block.seq := 9, key := false }

/-- A record in stall 6 that waits for block 9 of stream 32. -/
def anEntry : RecEntry :=
  { stream := 32, stall := some 7, w3 := 9, first := 8, last := 9, shortPre := false, missing := false, discarded := false, split := false
    empty := false, preUs := 0, reserve := 2, done := false }

/-- A record that waits for that entry. -/
def openRec : Record := { aRecord with state := .opened, entries := [anEntry] }

/-- The hub of `placing` with that record in stall 6. -/
def waitingRec : State :=
  { placing aCoded { fullPage with offset := 64 } with
    path.stalls := [(6, { page := some 3, records := [openRec] }), (7, { fullPage with offset := 64 })] }

/-- A record released, on page 1. -/
def goneRec : Record := { aRecord with state := .released, page := 1 }

/-- The block that page 1 of `fullPage` holds. -/
def oldBlock : HeldBlock := { aHeld with page := 1, addr := 65536, sent := false }

/-- The block of `aCoded` as it is held after it took that page. -/
def newBlock : HeldBlock := { aHeld with page := 1, addr := 65536, seq := 9, size := 44, sent := false, ord := 2 }

/-- The run of the block overwritten. -/
def oldRun : Run := { stream := 32, w3 := 9, first := 7, last := 7, time := 5 }

/-- The event at the end of the tick makes its fault lasting in window `w`. -/
def lasts (s : State) (w : Nat) : Bool :=
  !(s.window w).latched && decide (s.st.winThresh w ≤ (((s.window w).history ++ [s.tick]).filter (fun x => decide (s.tick < x + ms (s.st.winMs w)))).length)

/-! Witnesses of the conditions, in the order of the statements. -/

theorem test_StepRunsFrontCommand_1 :
    (fun (s : State) (c : Instr) (rest : List Instr) =>
      s.pending = c :: rest)
      { base with pending := [.nop, .resync] } .nop [.resync] := by
  decide +kernel
theorem test_StepRunsFrontCommand_2 :
    (fun (s : State) =>
      s.pending = [] ∧ s.glb.state ≠ .reset ∧ s.hlt.due = [])
      base ∧
    (fun (s : State) =>
      s.pending = [] ∧ s.hlt.due = [] ∧ s.glb.state = .reset)
      State.reset := by
  decide +kernel
theorem test_BootLeadsFromResetToTimewait_1 :
    (fun (s : State) (_ : Bool) =>
      s.ub = none ∧ s.glb.state = .reset)
      { State.reset with ldr.flash.otpNative := some [], ldr.flash.otpKey := some [] } false := by
  decide +kernel
theorem test_BootLeadsFromResetToTimewait_2 :
    (fun (s : State) (f : FwImage) =>
      s.ub = none ∧ s.glb.state = .loader ∧ s.ldr.image = none ∧ s.ldr.flash.slot = some f ∧
        (f.headerCheck (settingsLegacy s.headerSettings) s.ldr.flash ≠ none ∨ f.bodyCheck s.ldr.flash ≠ none))
      { inState .loader with ldr.flash.slot := some { header := [], body := [] } } { header := [], body := [] } := by
  decide +kernel
theorem test_BootLeadsFromResetToTimewait_3 :
    (fun (s : State) =>
      s.ub = none ∧ s.glb.state = .loader ∧ s.ldr.image = none ∧ s.ldr.flash.slot = none)
      (inState .loader) := by
  decide +kernel
theorem test_BootLeadsFromResetToTimewait_4 :
    (fun (s : State) (f : FwImage) =>
      s.ub = none ∧ s.glb.state = .loader ∧ s.ldr.image = some f)
      { inState .loader with ldr.image := some { header := [], body := [] } } { header := [], body := [] } := by
  decide +kernel
theorem test_BootLeadsFromResetToTimewait_5 :
    (fun (s : State) (l : List SelfTestFail) =>
      s.ub = none ∧ s.glb.state = .selftest ∧ (Instr.selftestEnd l).wf = true)
      (inState .selftest) [] := by
  decide +kernel
theorem test_SamplingStartsAtItsInstant_1 :
    (fun (s : State) =>
      s.ub = none ∧ s.glb.state = .timewait ∧ s.tmb.trimsIn = none ∧ s.passed s.tmb.timewaitTick (ms 100) = true)
      (inState .timewait) := by
  decide +kernel
theorem test_SamplingStartsAtItsInstant_2 :
    (fun (s : State) (i : Fin 768) (g : Fin 25) (r : TrimRamp) =>
      s.ub = none ∧ List.find? (fun r => r.spoke == ↑i && r.slot == ↑g) s.cal.ramps = some r ∧ s.passed r.start (ms 100) = true ∧
        s.cal.recal ≠ some ↑i)
      { base with cal.ramps := [{ spoke := 767, slot := 24, offsetCode := 5, gainCode := 6, start := 10 ^ 12 - 20000000 }] } 767 24
        { spoke := 767, slot := 24, offsetCode := 5, gainCode := 6, start := 10 ^ 12 - 20000000 } ∧
    (fun (s : State) (i : Fin 768) (g : Fin 25) (r : TrimRamp) =>
      s.ub = none ∧ List.find? (fun r => r.spoke == ↑i && r.slot == ↑g) s.cal.ramps = some r ∧ s.passed r.start (ms 100) = true ∧
        s.cal.recal = some ↑i)
      { base with cal.recal := some 767, cal.ramps := [{ spoke := 767, slot := 24, offsetCode := 5, gainCode := 6, start := 5 }] } 767 24
        { spoke := 767, slot := 24, offsetCode := 5, gainCode := 6, start := 5 } := by
  decide +kernel
theorem test_SamplingStartsAtItsInstant_3 :
    (fun (s : State) =>
      s.ub = none ∧ s.glb.state = .timewait ∧ s.cfg.stage = .loading ∧ (s.longOf fun o => match o with | .load .. => true | _ => false) = none)
      { inState .timewait with cfg.stage := .loading } := by
  decide +kernel
theorem test_SamplingStartsAtItsInstant_4 :
    (fun (s : State) =>
      s.ub = none ∧ s.glb.state = .timewait ∧ s.st.freeRun = true ∧ s.st.timeSource ≠ 0 ∧ s.tmb.startAt = none ∧ s.tmb.everLocked = false ∧
        s.passed s.tmb.timewaitTick (ms (s.st.frWait * 100)) = true)
      { inState .timewait with cfg.committed.time := [(0, [0x6CC00030, 0x80800096, 0, 0, 0x00C80064, 0x20002710, 0, 0, 0])] } := by
  decide +kernel
theorem test_SupervisorFaultsRestartTheFirmware_1 :
    (fun (s : State) =>
      s.ub = none ∧ s.glb.state ≠ .reset ∧ s.ldr.halted = false)
      base := by
  decide +kernel
theorem test_SupervisorFaultsRestartTheFirmware_2 :
    (fun (s : State) =>
      s.ub = none ∧ s.glb.state = .run ∧ s.ldr.halted = false ∧ s.passed s.hlt.serviced (ms 250) = true)
      { base with hlt.serviced := 10 ^ 12 - 50000000 } := by
  decide +kernel
theorem test_SupervisorFaultsRestartTheFirmware_3 :
    (fun (s : State) =>
      s.ub = none ∧ s.glb.state = .warmRestart)
      (inState .warmRestart) := by
  decide +kernel
theorem test_SupervisorFaultsRestartTheFirmware_4 :
    (fun (s : State) (k : Nat) =>
      s.ub = none ∧ s.glb.state = .run ∧ s.ldr.probationFrom = some k ∧ s.ldr.probationS * Config.ticksPerS ≤ s.probationRun k)
      { base with ldr.probationFrom := some 0, ldr.probationS := 3600 } 0 := by
  decide +kernel
theorem test_EveryCommandAnswersNext_1 :
    (fun (c : Instr) (_ : State) =>
      c.wf = true)
      .nop base := by
  decide +kernel
theorem test_EveryCommandAnswersNext_2 :
    (fun (c : Instr) (_ : State) =>
      c.wf = false)
      (.spiRead 0 0) base := by
  decide +kernel
theorem test_WarmRestartHoldsCommands :
    (fun (i : Instr) (op : Nat) (s : State) =>
      opcodeOf i = some op ∧ s.ub = none ∧
        (s.glb.state = .warmRestart ∨ s.glb.state = .reset ∨ s.ldr.coresHalted = true ∨ ∀ (c : CmdItem), s.cmd.queue.head? = some c →
        c.opcode.toNat ≠ op ∧ knownOpcode (c.opcode.toNat) = true))
      .nop 1 (waits (inState .warmRestart) (item 1)) := by
  decide +kernel
theorem test_WrongStateIsRefused_1 :
    (fun (i : Instr) (op : Nat) (s : State) (c : CmdItem) =>
      opcodeOf i = some op ∧ s.ub = none ∧ s.cmd.queue.head? = some c ∧ c.opcode.toNat = op ∧ s.glb.state ≠ .warmRestart ∧ s.glb.state ≠ .reset ∧
        s.ldr.coresHalted = false ∧ s.accepts op = false)
      .commit 0x11 (waits (inState .fault) (item 0x11)) (item 0x11) := by
  decide +kernel
theorem test_WrongStateIsRefused_2 :
    (fun (op : Nat) (s : State) =>
      s.glb.state ≠ .run ∧ s.glb.state ≠ .timewait ∧ s.accepts op = true)
      0x75 (inState .recovery) := by
  decide +kernel
theorem test_WrongStateIsRefused_3 :
    (fun (w : Master) (m : Master) (tgt : Fin 2) (w3 : Word) (s : State) =>
      s.ub = none ∧ s.glb.state ≠ .reset ∧ cmdInMaster w ↑tgt = some m ∧
        knownOpcode
        (BitVec.toNat ({ itemOfWords m { w0 := (s.mst m).cmdIn.1, w1 := (s.mst m).cmdIn.2.1, w2 := (s.mst m).cmdIn.2.2, w3 := w3 } false with base := (s.mst m).base }).opcode) = false ∧ (s.mst m).lapsed = false ∧ (s.mst m).inFlight < (s.mst m).credit)
      .spi .spi 0 0 { base with cmd.spi.cmdIn := (0x00010099, 0, 0) } := by
  decide +kernel
theorem test_WrongStateIsRefused_4 :
    (fun (i : Instr) (op : Nat) (s : State) (c : CmdItem) (rest : List CmdItem) =>
      opcodeOf i = some op ∧ s.ub = none ∧ s.holds = false ∧ s.cmd.queue = c :: rest ∧ knownOpcode (c.opcode.toNat) = false ∧
        ∀ d ∈ rest.head?, knownOpcode (d.opcode.toNat) = true)
      .nop 0x01 { base with cmd.queue := [item 0x99, item 0x11], cmd.spi.inFlight := 2 } (item 0x99) [item 0x11] := by
  decide +kernel
theorem test_PtpMessagesMeasureTheMaster_1 :
    (fun (s : State) (p : Port) (rate : Nat) =>
      s.ub = none ∧ s.portActive p = true ∧ 0 < rate)
      base .e 5 := by
  decide +kernel
theorem test_PtpMessagesMeasureTheMaster_2 :
    (fun (s : State) (p : Port) (h : PtpHdr) (_ : Fin 64) (_ : Bool) (origin : Int) =>
      s.ub = none ∧ s.fromMaster p h = true ∧ h.wf = true ∧ 0 ≤ origin)
      slave .e hdr 63 true 5 := by
  decide +kernel
theorem test_PtpMessagesMeasureTheMaster_3 :
    (fun (s : State) (p : Port) (h : PtpHdr) (origin : Int) (was : Int) (t2 : Int) =>
      s.ub = none ∧ s.fromMaster p h = true ∧ h.wf = true ∧ 0 ≤ origin ∧ (s.ptpPort p).syncWait = some (h.seqId, was, t2))
      { slave with tmb.portE.syncWait := some (3, 1, 7) } .e hdr 5 1 7 := by
  decide +kernel
theorem test_PtpMessagesMeasureTheMaster_4 :
    (fun (s : State) (p : Port) (h : PtpHdr) (received : Int) (t1 : Int) (t2 : Int) (t3 : Int) =>
      s.ub = none ∧ s.fromMaster p h = true ∧ h.wf = true ∧ 0 ≤ received ∧ (s.ptpPort p).delaySent = some (h.seqId, t3) ∧
        (s.ptpPort p).lastSync = some (t1, t2))
      { slave with tmb.portE.delaySent := some (3, 9), tmb.portE.lastSync := some (4, 7) } .e hdr 1000 4 7 9 := by
  decide +kernel
theorem test_PtpMessagesMeasureTheMaster_5 :
    (fun (s : State) (p : Port) (h : PtpHdr) (_ : Fin 64) =>
      s.ub = none ∧ s.ptpOn p = true ∧ (s.ptpPort p).role = .master ∧ h.wf = true ∧ h.domain = s.st.ptpDomain ∧ s.ptpMayStart p = true)
      { slave with tmb.portW.role := .master } .w hdr 1 ∧
    (fun (s : State) (p : Port) (h : PtpHdr) (_ : Fin 64) =>
      s.ub = none ∧ s.ptpOn p = true ∧ (s.ptpPort p).role = .master ∧ h.wf = true ∧ h.domain = s.st.ptpDomain ∧ s.ptpMayStart p = false)
      { slave with tmb.portW.role := .master, lnk.rim.w.express := [{ anOut with cls := 0 }] } .w hdr 1 := by
  decide +kernel
theorem test_PtpPortsAnnounceAndTimeOut_1 :
    (fun (s : State) (p : Port) (h : PtpHdr) (a : PtpAnnounce) =>
      s.ub = none ∧ s.ptpOn p = true ∧ h.domain = s.st.ptpDomain ∧ h.srcClock ≠ s.clockIdentity ∧ a.steps < 255 ∧ h.wf = true ∧ a.wf = true)
      slave .e hdr { priority1 := 1, gmClass := 6, gmAccuracy := 0x20, gmVariance := 0, priority2 := 1, gmIdentity := 1, steps := 254 } := by
  decide +kernel
theorem test_PtpPortsAnnounceAndTimeOut_2 :
    (fun (s : State) (p : Port) (_ : Fin 64) =>
      s.ub = none ∧ s.ptpOn p = true ∧ (s.ptpPort p).role = .master ∧ s.ptpMayStart p = true ∧ s.due (s.ptpPort p).syncTx s.st.logSync = true)
      { slave with tmb.portW.role := .master } .w 0 := by
  decide +kernel
theorem test_PtpPortsAnnounceAndTimeOut_3 :
    (fun (s : State) (p : Port) =>
      s.ub = none ∧ s.ptpOn p = true ∧ (s.ptpPort p).role = .master ∧ s.ptpMayStart p = true ∧ s.due (s.ptpPort p).announceTx s.st.logAnn = true)
      { slave with tmb.portW.role := .master } .w := by
  decide +kernel
theorem test_PtpPortsAnnounceAndTimeOut_4 :
    (fun (s : State) (p : Port) (_ : Fin 64) =>
      s.ub = none ∧ s.ptpOn p = true ∧ s.tmb.tdSource = some p ∧ s.ptpMayStart p = true ∧ s.due (s.ptpPort p).delayTx s.st.logDreq = true)
      slave .e 0 := by
  decide +kernel
theorem test_PtpPortsAnnounceAndTimeOut_5 :
    (fun (s : State) (p : Port) =>
      s.ub = none ∧ (s.ptpPort p).best.isSome = true ∧ s.passed (s.ptpPort p).announceTick (s.st.annTimeout * logInterval s.st.logAnn) = true)
      slave .e := by
  decide +kernel
theorem test_PtpPortsAnnounceAndTimeOut_6 :
    (fun (s : State) (p : Port) =>
      s.ub = none ∧ s.tmb.tdSource = some p ∧ s.passed (s.ptpPort p).syncTick (3 * logInterval s.st.logSync) = true)
      { slave with tmb.timeState := .locked } .e := by
  decide +kernel
theorem test_GnssPulsesNameTheSecond_1 :
    (fun (s : State) (_ : Fin 64) =>
      s.ub = none ∧ s.glb.state ≠ .reset)
      gnss 5 := by
  decide +kernel
theorem test_GnssPulsesNameTheSecond_2 :
    (fun (s : State) (rising : Bool) (_ : Fin 64) =>
      s.ub = none ∧ s.st.timeSource = 2 ∧ rising = !s.st.ppsFalling ∧ s.glb.state ≠ .reset)
      gnss true 5 := by
  decide +kernel
theorem test_GnssPulsesNameTheSecond_3 :
    (fun (s : State) (bytes : List Byte) (utc : Int) (stamp : Int) (k : Nat) =>
      s.ub = none ∧ bytes.length ≤ 82 ∧ s.st.timeSource = 2 ∧ s.glb.state ≠ .reset ∧ parseZda bytes = some utc ∧ s.tmb.ppsLast = some (k, stamp))
      gnss zda ((parseZda zda).getD 0) 3 (64 * (10 ^ 12 - 40000000)) := by
  decide +kernel
theorem test_GnssPulsesNameTheSecond_4 :
    (fun (s : State) (k : Nat) (x : Int) =>
      s.ub = none ∧ s.tmb.ppsLast = some (k, x) ∧ s.tmb.ppsValid = true ∧ k + 3 * ppsSecond / 2 ≤ s.tick * 64)
      { gnss with tmb.ppsLast := some (64 * (10 ^ 12 - 300000000), 3), tmb.timeState := .locked } (64 * (10 ^ 12 - 300000000)) 3 := by
  decide +kernel
theorem test_GnssPulsesNameTheSecond_5 :
    (fun (s : State) (e : Nat) =>
      s.ub = none ∧ s.glb.state ≠ .reset ∧ s.tmb.ppsPulsed ≠ some e ∧ (s.st.ppsMode = 1 ∧ e = s.now / 1000000000 * 1000000000 ∨ s.st.ppsMode = 2 ∧
        e = s.now / Config.epochNs * Config.epochNs))
      gnss (5000 * 10 ^ 9) := by
  decide +kernel
theorem test_GnssPulsesNameTheSecond_6 :
    (fun (s : State) (k : Nat) =>
      s.ub = none ∧ s.tmb.ppsOut = some k ∧ s.passed k (us s.st.ppsWidthUs) = true)
      { gnss with tmb.ppsOut := some (10 ^ 12 - 40000000) } (10 ^ 12 - 40000000) := by
  decide +kernel
theorem test_GnssPulsesNameTheSecond_7 :
    (fun (s : State) (k : Nat) (sec : Nat) =>
      s.ub = none ∧ s.tmb.zdaDue = some (k, sec) ∧ s.passed k (ms 10) = true)
      { gnss with tmb.zdaDue := some (10 ^ 12 - 2000000, 5000) } (10 ^ 12 - 2000000) 5000 := by
  decide +kernel
theorem test_EventsFireOnceAtTheirInstant_1 :
    (fun (s : State) (id : Nat) (e : SchedEvent) =>
      s.ub = none ∧ s.schedOf id = some e ∧ e.armed = true ∧ e.fired = false ∧ e.target ≤ s.now ∧ s.now < e.target + 2000000000)
      (scheduled (event (5 * 10 ^ 12) true false)) 0 (event (5 * 10 ^ 12) true false) := by
  decide +kernel
theorem test_EventsFireOnceAtTheirInstant_2 :
    (fun (s : State) (id : Nat) (e : SchedEvent) =>
      s.ub = none ∧ s.schedOf id = some e ∧ e.fired = true)
      (scheduled (event 5 true true)) 0 (event 5 true true) := by
  decide +kernel
theorem test_EventsFireOnceAtTheirInstant_3 :
    (fun (s : State) (id : Nat) (e : SchedEvent) =>
      s.ub = none ∧ s.schedOf id = some e ∧ e.armed = false ∧ s.firmware = true ∧ e.target ≤ s.now + 2000000000)
      (scheduled (event (5002 * 10 ^ 9) false false)) 0 (event (5002 * 10 ^ 9) false false) := by
  decide +kernel
theorem test_EventsFireOnceAtTheirInstant_4 :
    (fun (s : State) (e : Nat) (d : Int) =>
      s.ub = none ∧ s.realignDue = some (e, d) ∧ s.live = true ∧ s.glb.sampling = true)
      { base with tmb.realign := some (5 * 10 ^ 12, 65536000000) } (5 * 10 ^ 12) 65536000000 := by
  decide +kernel
theorem test_EventsFireOnceAtTheirInstant_5 :
    (fun (s : State) =>
      s.ub = none ∧ s.tmb.pllLock = true)
      base := by
  decide +kernel
theorem test_EventsFireOnceAtTheirInstant_6 :
    (fun (s : State) =>
      s.ub = none ∧ s.tmb.pllLock = false ∧ s.glb.state ≠ .reset)
      { base with tmb.pllLock := false, tmb.unlocks := [(5, none)] } := by
  decide +kernel
theorem test_SetTimeStepsOrRealigns_1 :
    (fun (s : State) (c : CmdItem) =>
      Starts s 0x18 c ∧ s.tmb.timeState ≠ .freeRun)
      { waits base (item 0x18 0 1000) with tmb.timeState := .locked } (item 0x18 0 1000) := by
  unfold Starts; decide +kernel
theorem test_SetTimeStepsOrRealigns_2 :
    (fun (s : State) (c : CmdItem) =>
      Starts s 0x18 c ∧ s.tmb.timeState = .freeRun ∧ s.glb.sampling = false)
      (waits (inState .timewait) (item 0x18 0 1000)) (item 0x18 0 1000) := by
  unfold Starts; decide +kernel
theorem test_SetTimeStepsOrRealigns_3 :
    (fun (s : State) (c : CmdItem) =>
      Starts s 0x18 c ∧ s.tmb.timeState = .freeRun ∧ s.glb.sampling = true)
      (waits base (item 0x18 0 0xFFFFFFFFFFFF)) (item 0x18 0 0xFFFFFFFFFFFF) := by
  unfold Starts; decide +kernel
theorem test_EpochInstantPostsTheBeacon_1 :
    (fun (s : State) =>
      s.ub = none ∧ s.glb.state ≠ .reset ∧ s.tmb.lastEpoch ≠ some (s.now / Config.epochNs * Config.epochNs))
      base := by
  decide +kernel
theorem test_EpochInstantPostsTheBeacon_2 :
    (fun (s : State) =>
      s.ub = none ∧ s.tmb.lastEpoch = some (s.now / Config.epochNs * Config.epochNs))
      { base with tmb.lastEpoch := some (5 * 10 ^ 12 / Config.epochNs * Config.epochNs) } := by
  decide +kernel
theorem test_LoadStagesOneImage_1 :
    (fun (s : State) (c : CmdItem) =>
      Starts s 0x10 c ∧ (s.cfg.stage = .pending ∨ s.cfg.stage = .loading))
      (waits (withStaged .pending) (item 0x10)) (item 0x10) ∧
    (fun (s : State) (c : CmdItem) =>
      Starts s 0x10 c ∧ s.cfg.stage ≠ .pending ∧ s.cfg.stage ≠ .loading ∧ c.a 31 31 = 1)
      (waits (withStaged .staged) (item 0x10 0x8000000F)) (item 0x10 0x8000000F) ∧
    (fun (s : State) (c : CmdItem) =>
      Starts s 0x10 c ∧ s.cfg.stage ≠ .pending ∧ s.cfg.stage ≠ .loading ∧ c.a 31 31 = 0 ∧ ∀ (a : Nat), a < 4194304 → (s.cellAt a).flips = 0)
      (waits base (item 0x10 0)) (item 0x10 0) ∧
    (fun (s : State) (c : CmdItem) =>
      Starts s 0x10 c ∧ s.cfg.stage ≠ .pending ∧ s.cfg.stage ≠ .loading)
      (waits base (item 0x10 0)) (item 0x10 0) := by
  unfold Starts; refine ⟨?_, ?_, ⟨?_, ?_, ?_, ?_, fun a _ => rfl⟩, ?_⟩ <;> decide +kernel
theorem test_LoadStagesOneImage_2 :
    (fun (s : State) (l : LongCmd) (library : Bool) (slot : Nat) (ws : List Word) =>
      s.ub = none ∧ (s.longOf fun o => match o with | .load .. => true | _ => false) = some l ∧ l.op = LongOp.load library slot ws ∧
        s.firmware = true)
      (loading true 15) { item := item 0x10, op := .load true 15 image, since := 1 } true 15 image := by
  decide +kernel
theorem test_LoadStagesOneImage_3 :
    (fun (s : State) (c : CmdItem) =>
      Starts s 0x13 c ∧ s.cfg.stage = .loading)
      (waits (withStaged .loading) (item 0x13)) (item 0x13) ∧
    (fun (s : State) (c : CmdItem) =>
      Starts s 0x13 c ∧ s.cfg.stage ≠ .loading ∧ s.cfg.staged = none)
      (waits base (item 0x13)) (item 0x13) ∧
    (fun (s : State) (c : CmdItem) (i : Staged) =>
      Starts s 0x13 c ∧ s.cfg.stage ≠ .loading ∧ s.cfg.staged = some i)
      (waits (withStaged .staged) (item 0x13 15)) (item 0x13 15) (staged {} true) := by
  unfold Starts; decide +kernel
theorem test_LoadStagesOneImage_4 :
    (fun (s : State) (l : LongCmd) (slot : Nat) (ws : List Word) =>
      s.ub = none ∧ (s.longOf fun o => match o with | .store .. => true | _ => false) = some l ∧ l.op = LongOp.store slot ws ∧ s.firmware = true)
      (long base (item 0x13) (.store 15 image)) { item := item 0x13, op := .store 15 image, since := 1 } 15 image := by
  decide +kernel
theorem test_CommitsTakeEffectAtTheirInstant_1 :
    (fun (s : State) (c : CmdItem) =>
      Starts s 0x11 c ∧ s.cfg.stage = .pending)
      (waits (withStaged .pending) (item 0x11)) (item 0x11) ∧
    (fun (s : State) (c : CmdItem) =>
      Starts s 0x11 c ∧ (s.cfg.stage = .empty ∨ s.cfg.stage = .loading ∨ s.cfg.stage = .staged ∧ s.cfg.staged = none))
      (waits base (item 0x11)) (item 0x11) ∧
    (fun (s : State) (c : CmdItem) (i : Staged) =>
      Starts s 0x11 c ∧ s.cfg.stage = .staged ∧ s.cfg.staged = some i ∧ (c.a 1 0 = 1 → c.opB.toNat % Config.epochNs = 0))
      (waits (withStaged .staged) (item 0x11 0)) (item 0x11 0) (staged {} true) ∧
    (fun (s : State) (c : CmdItem) (i : Staged) =>
      Starts s 0x11 c ∧ s.cfg.stage = .staged ∧ s.cfg.staged = some i ∧ c.a 1 0 = 1 ∧ c.opB.toNat % Config.epochNs ≠ 0)
      (waits (withStaged .staged) (item 0x11 1 5)) (item 0x11 1 5) (staged {} true) := by
  unfold Starts; decide +kernel
theorem test_CommitsTakeEffectAtTheirInstant_2 :
    (fun (s : State) (p : PendingCommit) (i : Staged) =>
      s.ub = none ∧ s.cfg.stage = .pending ∧ s.cfg.pending = some p ∧ s.cfg.staged = some i ∧ s.glb.state = .run ∧ s.ldr.coresHalted = false ∧
        s.glb.sampling = true ∧ p.instant ≤ s.now ∧ i.sound = true ∧ s.st.csdKept i.target = true ∧ s.ringsSound i.target = true)
      (due {}) onTime (staged {} true) := by
  decide +kernel
theorem test_CommitsTakeEffectAtTheirInstant_3 :
    (fun (s : State) (c : CmdItem) =>
      Starts s 0x12 c ∧ (s.cfg.stage ≠ .pending ∨ s.cfg.pending = none))
      (waits base (item 0x12)) (item 0x12) ∧
    (fun (s : State) (c : CmdItem) (p : PendingCommit) =>
      Starts s 0x12 c ∧ s.cfg.stage = .pending ∧ s.cfg.pending = some p)
      { due {} with cmd.queue := [item 0x12] } (item 0x12) onTime := by
  unfold Starts; decide +kernel
theorem test_GearsFollowTheWords_1 :
    (fun (s : State) (i : Fin 768) (_ : Int) (word : Int) (overload : Bool) =>
      s.ub = none ∧ s.canShift (↑i) (s.wordStream ↑i) (s.wordNow ↑i) = true ∧ 0 < (s.look (s.wordStream ↑i)).gear ∧
        (overload = true ∨ 9 * fullScale < 10 * ↑word.natAbs))
      labHub 0 5 0x3B9ACA00000000 false := by
  decide +kernel
theorem test_GearsFollowTheWords_2 :
    (fun (s : State) (i : Fin 768) (_ : Int) (_ : Int) (peak : Nat) =>
      s.ub = none ∧ s.canShift (↑i) (s.wordStream ↑i) (s.wordNow ↑i) = true ∧ (s.look (s.wordStream ↑i)).gear + 1 < s.st.gearCount (s.wordStream ↑i) ∧
        s.st.endsStageTwo (s.wordStream ↑i) (s.wordNow ↑i) = true ∧
        s.st.runClocksTo (s.wordStream ↑i) ((s.look (s.wordStream ↑i)).lastShift / s.st.clk (s.wordStream ↑i)) + s.st.gearDwell ↑i * s.st.osr
        (s.wordStream ↑i) ≤ s.st.runClocksTo (s.wordStream ↑i) (8 * s.wordNow ↑i + 38) ∧ 100 * ↑peak < 8 * fullScale)
      { labHub with tmb.counter := 10 ^ 12 + 2080 } 0 5 100 5629499534213 := by
  decide +kernel
theorem test_GearsFollowTheWords_3 :
    (fun (s : State) (i : Fin 768) (_ : Int) (_ : Int) (x : Nat) (m : Mend) =>
      s.ub = none ∧ s.live = true ∧ s.mendDue ↑i = some (x, m))
      { labHub with path.looks := [(0, { gear := 1, mends := [aMend] })] } 0 300 400 0 aMend := by
  decide +kernel
theorem test_GearsFollowTheWords_4 :
    (fun (s : State) (i : Fin 768) (word : Int) =>
      s.ub = none ∧ s.live = true ∧ s.glb.sampling = true ∧ s.st.lookRuns (s.wordStream ↑i) = true ∧ s.wordIdle ↑i = false ∧
        fullScale ≤ ↑word.natAbs ∧
        s.cannotShift (↑i) (s.wordStream ↑i) (s.wordNow ↑i) = true)
      { labHub with path.looks := [(0, { gear := 0 })] } 0 70368744177664 := by
  decide +kernel
theorem test_OpenWiresAndReleases_1 :
    (fun (s : State) (i : Fin 768) (m : OwMethod) (d : Nat) (k : Nat) (codes : List Int) =>
      s.ub = none ∧ codesWf codes = true ∧ s.live = true ∧ s.glb.sampling = true ∧ s.st.owApplies (↑i) m = true ∧ (s.spoke ↑i).openWire = false ∧
        m ≠ OwMethod.sense ∧ (m = OwMethod.extreme → s.extremeRun (↑i) d codes = true ∧ k = d) ∧ (m = OwMethod.quadrature →
        s.quadratureHigh (↑i) d codes = true ∧ k = d) ∧ (m = OwMethod.testLook → s.testFound ↑i = some k))
      labHub 0 .extreme 5 5 (List.replicate 64 2) := by
  decide +kernel
theorem test_OpenWiresAndReleases_2 :
    (fun (s : State) (i : Fin 768) (_ : Nat) (k : Nat) (codes : List Int) =>
      s.ub = none ∧ codesWf codes = true ∧ s.live = true ∧ s.glb.sampling = true ∧ s.st.owApplies (↑i) OwMethod.sense = true ∧
        (s.laceOf (↑i / 16)).lowFrom = some k ∧ 2 ≤ (s.laceOf (↑i / 16)).senseLowRuns)
      lowLace 0 0 77 [] := by
  decide +kernel
theorem test_OpenWiresAndReleases_3 :
    (fun (s : State) (i : Fin 768) (codes : Nat) (cycles : Nat) =>
      s.ub = none ∧ (s.spoke ↑i).openWire = true ∧ 1024 ≤ codes ∧ 8 ≤ cycles ∧ (s.st.owApplies (↑i) OwMethod.sense = true →
        8 ≤ (s.laceOf (↑i / 16)).senseOkRuns) ∧ s.testsPassed ↑i = true)
      { labHub with path.spokes := [(0, { openWire := true, owMethod := 1, frozen := true })], lace.laces := [(0, { senseOkRuns := 8 })], path.looks := [(0, { spans := [{ tag := tagInvalid, rule := .tail, start := 5, stop := none, blank := false, cause := causeOpenWire }] })] } 0 1024 8 := by
  decide +kernel
theorem test_OpenWiresAndReleases_4 :
    (fun (s : State) (c : CmdItem) =>
      Starts s 0x20 c ∧ s.cal.recal = some (c.a 9 0))
      { waits labHub (item 0x20 767) with cal.recal := some 767 } (item 0x20 767) ∧
    (fun (s : State) (c : CmdItem) =>
      Starts s 0x20 c ∧ s.cal.recal ≠ some (c.a 9 0) ∧ (s.spoke (c.a 9 0)).quarantined = false)
      (waits labHub (item 0x20 767)) (item 0x20 767) ∧
    (fun (s : State) (c : CmdItem) =>
      Starts s 0x20 c ∧ s.cal.recal ≠ some (c.a 9 0) ∧ (s.spoke (c.a 9 0)).quarantined = true)
      { waits labHub (item 0x20 0) with path.spokes := [(0, { quarantined := true })] } (item 0x20 0) := by
  unfold Starts; decide +kernel
theorem test_OpenWiresAndReleases_5 :
    (fun (s : State) (i : Fin 768) (n : Fin 16) =>
      s.ub = none ∧ s.hasSpan (↑i * 16 + ↑n) causeQuarantine = true ∧ (s.spoke ↑i).quarantined = false ∧
        s.st.instantOf (↑i * 16 + ↑n) (s.st.indexAt (↑i * 16 + ↑n) (s.spoke ↑i).released) ≤ s.fine)
      { labHub with path.spokes := [(0, { released := 5 * 10 ^ 9 })], path.looks := [(0, { gear := 3, spans := [{ tag := tagInvalid, rule := .tail, start := 5, stop := none, blank := true, cause := causeQuarantine }] })] } 0 0 := by
  decide +kernel
theorem test_LacesAreSensedRampedAndTripped_1 :
    (fun (s : State) (l : Fin 48) (_ : Nat) (_ : Nat) (_ : Nat) (_ : Int) =>
      s.ub = none ∧ s.live = true ∧ s.driveNow ↑l ≠ 0 ∧ (s.tdm.role.drives = true ∨ s.tdm.witToken = true))
      lowLace 0 5000000 5 65536 0 := by
  decide +kernel
theorem test_LacesAreSensedRampedAndTripped_2 :
    (fun (s : State) (_ : Fin 48) (_ : Nat) (_ : Nat) (_ : Nat) (_ : Int) =>
      s.ub = none)
      (inState .calibrate) 47 7 8 5 9 := by
  decide +kernel
theorem test_LacesAreSensedRampedAndTripped_3 :
    (fun (s : State) (l : Fin 48) (r : Ramp) =>
      s.ub = none ∧ (s.laceOf ↑l).ramp = some r ∧ (s.laceOf ↑l).vexcHold = false ∧ r.stop ≤ s.tick ∧ s.lacesRun = true)
      (ramping fullAmp { drive := 1, highZ := false, restoring := true }) 0 { source := 5, target := fullAmp, start := 3, stop := 10 ^ 12 } := by
  decide +kernel
theorem test_LacesAreSensedRampedAndTripped_4 :
    (fun (s : State) (l : Fin 48) (k : Nat) =>
      s.ub = none ∧ (s.laceOf ↑l).limitSince = some k ∧ s.lacesRun = true ∧ (s.laceOf ↑l).tripped = false ∧ s.passed k (ms (s.st.ocTrip ↑l)) = true)
      { labHub with lace.laces := [(0, { drive := 1, highZ := false, limit := true, limitSince := some 5 })], lace.order := [3, 0] } 0 5 := by
  decide +kernel
theorem test_LacesAreSensedRampedAndTripped_5 :
    (fun (s : State) (c : CmdItem) =>
      Starts s 0x21 c ∧ (s.laceOf (c.a 5 0)).tripped = false ∧ (s.laceOf (c.a 5 0)).reduced = none)
      (waits labHub (item 0x21 47)) (item 0x21 47) ∧
    (fun (s : State) (c : CmdItem) =>
      Starts s 0x21 c ∧ ((s.laceOf (c.a 5 0)).tripped = true ∨ (s.laceOf (c.a 5 0)).reduced.isSome = true))
      { waits labHub (item 0x21 0) with lace.laces := [(0, { tripped := true })], lace.order := [3] } (item 0x21 0) := by
  unfold Starts; decide +kernel
theorem test_VexcAndTheBudgetFollowTheLaces_1 :
    (fun (s : State) (_ : Nat) (peaks : List (Nat × Nat)) =>
      s.ub = none ∧ s.glb.state ≠ .reset ∧ keysBelow 48 peaks = true)
      { lowLace with lace.vexcCfg := 0x4E200FA0, lace.laces := [(0, { ramp := some { source := 0, target := 5, start := 5, stop := 6 }, vexcHold := true, need := 5000000 })] } 15000 [(47, 5)] := by
  decide +kernel
theorem test_VexcAndTheBudgetFollowTheLaces_2 :
    (fun (s : State) (measured : Nat) (k : Nat) =>
      s.ub = none ∧ s.lace.low = some k ∧ s.passed k Config.ticksPerMs = true ∧ s.lace.lowNoted = false ∧ measured + 1000 < s.lace.target)
      { labHub with lace.low := some (10 ^ 12 - 200000), lace.target := 6001 } 5000 (10 ^ 12 - 200000) := by
  decide +kernel
theorem test_VexcAndTheBudgetFollowTheLaces_3 :
    (fun (s : State) (est : List (Nat × Nat)) =>
      s.ub = none ∧ s.live = true ∧ keysBelow 48 est = true ∧ (∀ (l : Nat), l < 48 → (s.laceOf l).ramp = none) ∧ s.lace.rampWait = 0)
      driven [(0, 4000)] := by
  decide +kernel
theorem test_VexcAndTheBudgetFollowTheLaces_4 :
    (fun (s : State) (est : List (Nat × Nat)) =>
      s.ub = none ∧ keysBelow 48 est = true)
      base [(0, 4001)] := by
  decide +kernel
theorem test_VexcAndTheBudgetFollowTheLaces_5 :
    (fun (s : State) (l : Nat) (k : Nat) (rest : List Nat) =>
      s.ub = none ∧ s.lace.order = l :: rest ∧ s.lace.restoreSince = some k ∧ s.lacesRun = true ∧ s.passed k Config.ticksPerS = true ∧
        ∀ (i : Nat), i < 48 → (s.laceOf i).restoring = false)
      { driven with lace.laces := [(0, { drive := 1, scale := 50000, reduced := some 50000, highZ := false })], lace.order := [0, 7], lace.restoreSince := some (10 ^ 12 - 200000000) } 0 (10 ^ 12 - 200000000) [7] := by
  decide +kernel
theorem test_ModulatorsRunTheirLooks_1 :
    (fun (s : State) (m : ModId) =>
      s.ub = none ∧ s.live = true ∧ s.glb.sampling = true ∧ s.st.lookRuns (s.runningStream (modSeq m)) = true)
      labHub (.spoke 0) := by
  decide +kernel
theorem test_ModulatorsRunTheirLooks_2 :
    (fun (s : State) (m : ModId) (pass : Nat) =>
      s.ub = none ∧ s.live = true ∧ s.glb.sampling = true ∧ s.st.multiLook (firstOf (modSeq m)) = true ∧
        s.st.lookRuns (s.runningStream (modSeq m)) = true ∧ (s.slotNow (modSeq m)).2 = false ∧
        pass = s.clocksNow (modSeq m) / s.st.passClocks (firstOf (modSeq m)) ∧ (s.modu (modSeq m)).run ≠ some (pass, (s.slotNow (modSeq m)).1))
      labHub (.spoke 1) (labHub.clocksNow 1 / 104960) := by
  decide +kernel
theorem test_ModulatorsRunTheirLooks_3 :
    (fun (s : State) (x : Fin 13056) (codes : List Int) (k : Nat) (r : State × Option Int × Nat) =>
      s.ub = none ∧ codesWf codes = true ∧ s.eraAfter (s.look ↑x).era = none ∧ (s.look ↑x).next = some k ∧ s.pathRuns = true ∧ s.glb.sampling = true ∧
        s.leaves (s.eraFrom (s.look ↑x).era).st (↑x) ((s.eraFrom (s.look ↑x).era).st.instantOf (↑x) k) = true ∧
        s.chainOut (s.eraFrom (s.look ↑x).era).st (↑x) k ((s.eraFrom (s.look ↑x).era).st.instantOf (↑x) k) codes = some r)
      sampled 32 (List.replicate 237 1) 100000
        ((sampled.chainOut (sampled.eraFrom 0).st 32 100000 (sampled.st.instantOf 32 100000) (List.replicate 237 1)).get!) := by
  decide +kernel
theorem test_EventsReachTheTriggerUnits_1 :
    (fun (s : State) (epoch : Nat) (i : Nat) (k : Nat) =>
      s.ub = none ∧ s.pathRuns = true ∧ i ∈ List.map (fun x => x.1) s.st.switch ∧ s.st.swEnable i = true ∧ s.st.swAmbient i = true ∧
        s.st.lookRuns (i / 4) = true ∧ (s.look (i / 4)).next = some k ∧
        (epoch + 1) * Config.epochNs * 65536 ≤ (s.eraFrom (s.look (i / 4)).era).st.instantOf (i / 4) k ∧ (s.sw i).ambDone ≤ epoch ∧
        (s.sw i).record = [])
      { ambient with path.looks := [(32, { next := some 409600000 })], path.switches := [(128, { ambDone := 3 })] } 3 128 409600000 := by
  decide +kernel
theorem test_EventsReachTheTriggerUnits_2 :
    (fun (s : State) (pin : Fin 8) (rising : Bool) (_ : Fin 64) =>
      s.ub = none ∧ s.glb.state ≠ .reset ∧ s.st.isOutPin ↑pin = false ∧ bitOf s.path.trigIn ↑pin = !rising)
      (withUnit 3 7) 7 true 63 := by
  decide +kernel
theorem test_EventsReachTheTriggerUnits_3 :
    (fun (s : State) (u : Fin 64) (e : SchedEvent) =>
      s.ub = none ∧ List.find? (fun e => decide (e.kind = .trigger ↑u) && e.fired) s.tmb.sched = some e ∧ s.pathRuns = true ∧ s.st.trEnable ↑u = true)
      { withUnit 6 0 with tmb.sched := [firedEvent], tmb.nextSched := 1 } 0 firedEvent := by
  decide +kernel
theorem test_EventsReachTheTriggerUnits_4 :
    (fun (s : State) (pin : Fin 8) =>
      s.ub = none ∧ s.path.trigOut.get 0 ↑pin ≠ 0 ∧ s.path.trigOut.get 0 ↑pin ≤ s.tick)
      { base with path.trigOut := [(7, 10 ^ 12)] } 7 := by
  decide +kernel
theorem test_EventsReachTheTriggerUnits_5 :
    (fun (s : State) (u : Fin 64) (k : Nat) =>
      s.ub = none ∧ (s.trig ↑u).freewheel = .time k false ∧ k ≤ s.fine)
      { base with path.units := [(63, { freewheel := .time (5 * 10 ^ 12 * 65536) false })] } 63 (5 * 10 ^ 12 * 65536) := by
  decide +kernel
theorem test_EventsReachTheTriggerUnits_6 :
    (fun (s : State) (_ : Port) (m : TriggerMsg) =>
      s.ub = none ∧ m.wf = true ∧ s.pathRuns = true ∧ m.origin ≠ s.lnk.rim.addr ∧ m.group ≠ 0)
      (withUnit 5 9) .e { group := 9, origin := 4094, unit := 63, outcome := 0, point := 5 * 10 ^ 12, frac := 65535 } := by
  decide +kernel
theorem test_TriggersAreFiredAndRearmedByCommand_1 :
    (fun (s : State) (c : CmdItem) =>
      Starts s 0x28 c ∧ (s.st.trEnable (c.a 5 0) = false ∨ ∀ (k : Nat), k < 8 → k < s.st.trSources (c.a 5 0) → s.st.srcType (c.a 5 0) k ≠ 7))
      (waits base (item 0x28 0)) (item 0x28 0) ∧
    (fun (s : State) (c : CmdItem) (k : Nat) =>
      Starts s 0x28 c ∧ s.st.trEnable (c.a 5 0) = true ∧ k < 8 ∧ k < s.st.trSources (c.a 5 0) ∧ s.st.srcType (c.a 5 0) k = 7)
      (waits (withUnit 7 0) (item 0x28 0)) (item 0x28 0) 0 := by
  unfold Starts; decide +kernel
theorem test_BlocksAreCodedAndPlaced_1 :
    (fun (s : State) (i : Fin 16384) (b : OpenBlock) (rest : List OpenBlock) =>
      s.ub = none ∧ s.glb.state ≠ .reset ∧ (s.strm ↑i).ready = b :: rest ∧ ∀ (c : ClosedBlock), c ∈ (s.strm ↑i).closed → c.interim = true)
      (streaming { ready := [aBlock] }) 32 aBlock [] := by
  decide +kernel
theorem test_BlocksAreCodedAndPlaced_2 :
    (fun (s : State) (i : Fin 16384) (c : ClosedBlock) (rest : List ClosedBlock) =>
      s.ub = none ∧ s.glb.state ≠ .reset ∧ (s.strm ↑i).closed = c :: rest ∧ (c.interim = true →
        ∀ b ∈ (s.strm ↑i).ready.head?, c.block.sameAs b = true))
      (streaming { closed := [aClosed] }) 32 aClosed [] := by
  decide +kernel
theorem test_BlocksAreCodedAndPlaced_3 :
    (fun (s : State) (k : Fin 4096) (n : Nat) (r : Record) =>
      s.ub = none ∧ s.recordOf (↑k) n = some r ∧ r.state = .complete ∧ s.st.stallKind ↑k = 2 ∧ s.st.maxAgeS ↑k ≠ 0 ∧
        s.passed r.doneTick (s.st.maxAgeS ↑k * Config.ticksPerS) = true)
      (stalled 2 { records := [aRecord] }) 7 3 aRecord := by
  decide +kernel
theorem test_BlocksAreCodedAndPlaced_4 :
    (fun (s : State) (_ : Fin 4096) (_ : Word) =>
      s.ub = none ∧ s.glb.state ≠ .reset)
      (stalled 1 { warn := { latched := true, peak := 5 }, overrun := true }) 7 0x0E000000 := by
  decide +kernel
theorem test_StallsAreMarkedReplayedAndAcknowledged_1 :
    (fun (s : State) (c : CmdItem) (b : HeldBlock) =>
      Starts s 0x30 c ∧
        (if c.b 47 0 = 2 ^ 48 - 1 then (s.stall (c.a 31 20)).finals.getLast? else ((s.stall (c.a 31 20)).runOf (c.b 47 0)).bind fun r => ((s.stall
          (c.a 31 20)).parts r.stream r.w3 (c.b 47 0)).head?) = some b)
      (waits (stalled 1 {}) (item 0x30 0x700003 7)) (item 0x30 0x700003 7) aHeld ∧
    (fun (s : State) (c : CmdItem) =>
      Starts s 0x30 c ∧
        (if c.b 47 0 = 2 ^ 48 - 1 then (s.stall (c.a 31 20)).finals.getLast? else ((s.stall (c.a 31 20)).runOf (c.b 47 0)).bind fun r => ((s.stall
          (c.a 31 20)).parts r.stream r.w3 (c.b 47 0)).head?) = none)
      (waits base (item 0x30 0xFFF00000 0)) (item 0x30 0xFFF00000 0) := by
  unfold Starts; decide +kernel
theorem test_StallsAreMarkedReplayedAndAcknowledged_2 :
    (fun (s : State) (c : CmdItem) =>
      Starts s 0x31 c)
      (waits (stalled 1 { marks := [{}, {}, {}, { valid := true }] }) (item 0x31 0x700003)) (item 0x31 0x700003) := by
  unfold Starts; decide +kernel
theorem test_StallsAreMarkedReplayedAndAcknowledged_3 :
    (fun (s : State) (c : CmdItem) =>
      Starts s 0x32 c ∧ s.st.stallKind (c.a 31 20) ≠ 1)
      (waits (stalled 2 {}) (item 0x32 0x700001 7)) (item 0x32 0x700001 7) ∧
    (fun (s : State) (c : CmdItem) =>
      Starts s 0x32 c ∧ s.st.stallKind (c.a 31 20) = 1)
      (waits (stalled 1 {}) (item 0x32 0x780001 8)) (item 0x32 0x780001 8) := by
  unfold Starts; decide +kernel
theorem test_StallsAreMarkedReplayedAndAcknowledged_4 :
    (fun (s : State) (k : Fin 4096) (j : ReplayJob) =>
      s.ub = none ∧ List.find? (fun j => j.gap.isNone && j.todo.isEmpty) (s.stall ↑k).replays = some j)
      (long (stalled 1 { replays := [{ item := item 0x32, toHost := false, ring := 0, gap := none, todo := [] }] }) (item 0x32) (.replay 7)) 7
        { item := item 0x32, toHost := false, ring := 0, gap := none, todo := [] } := by
  decide +kernel
theorem test_StallsAreMarkedReplayedAndAcknowledged_5 :
    (fun (s : State) (c : CmdItem) =>
      Starts s 0x34 c ∧ List.find? (fun r => r.holds (c.a 13 0) r.w3 (c.b 47 0)) (s.stall (s.st.stallOf (c.a 13 0))).runs.reverse = none ∧
        s.endedSent (c.a 13 0) (c.b 47 0) = true)
      (waits (stalled 1 { past := [{ stream := 32, w3 := 9, first := 3, last := 4, time := 5 }] }) (item 0x34 32 4)) (item 0x34 32 4) ∧
    (fun (s : State) (c : CmdItem) =>
      Starts s 0x34 c ∧ List.find? (fun r => r.holds (c.a 13 0) r.w3 (c.b 47 0)) (s.stall (s.st.stallOf (c.a 13 0))).runs.reverse = none ∧
        s.endedSent (c.a 13 0) (c.b 47 0) = false)
      (waits (stalled 1 { past := [{ stream := 32, w3 := 9, first := 3, last := 4, time := 5, unsent := some 4 }] }) (item 0x34 32 4))
        (item 0x34 32 4) ∧
    (fun (s : State) (c : CmdItem) (r : Run) (o : Nat) =>
      Starts s 0x34 c ∧ List.find? (fun r => r.holds (c.a 13 0) r.w3 (c.b 47 0)) (s.stall (s.st.stallOf (c.a 13 0))).runs.reverse = some r ∧
        (s.stall (s.st.stallOf (c.a 13 0))).ordOf (c.a 13 0) r.w3 (c.b 47 0) = some o ∧
        (fun r o => match r.unsent with | some n => decide (n ≤ c.b 47 0) | none => decide (max (s.stall (s.st.stallOf (c.a 13 0))).sentTop (s.stall
          (s.st.stallOf (c.a 13 0))).ackedOrd ≤ o)) r o = true)
      (waits (stalled 1 {}) (item 0x34 32 7)) (item 0x34 32 7) { stream := 32, w3 := 9, first := 7, last := 8, time := 5 } 0 ∧
    (fun (s : State) (c : CmdItem) (r : Run) (o : Nat) =>
      Starts s 0x34 c ∧ List.find? (fun r => r.holds (c.a 13 0) r.w3 (c.b 47 0)) (s.stall (s.st.stallOf (c.a 13 0))).runs.reverse = some r ∧
        (s.stall (s.st.stallOf (c.a 13 0))).ordOf (c.a 13 0) r.w3 (c.b 47 0) = some o ∧
        (fun r o => match r.unsent with | some n => decide (n ≤ c.b 47 0) | none => decide (max (s.stall (s.st.stallOf (c.a 13 0))).sentTop (s.stall
          (s.st.stallOf (c.a 13 0))).ackedOrd ≤ o)) r o = false)
      (waits (stalled 1 { sentTop := 1 }) (item 0x34 32 7)) (item 0x34 32 7) { stream := 32, w3 := 9, first := 7, last := 8, time := 5 } 0 := by
  unfold Starts; decide +kernel
theorem test_RecordsAreReleasedAndRead_1 :
    (fun (s : State) (c : CmdItem) =>
      Starts s 0x33 c ∧ s.recordOf (c.a 31 20) (c.b 31 0) = none)
      (waits (stalled 2 {}) (item 0x33 0x700000 3)) (item 0x33 0x700000 3) ∧
    (fun (s : State) (c : CmdItem) (r : Record) =>
      Starts s 0x33 c ∧ s.recordOf (c.a 31 20) (c.b 31 0) = some r ∧ r.state = .complete)
      (waits (stalled 2 { records := [aRecord] }) (item 0x33 0x700000 3)) (item 0x33 0x700000 3) aRecord ∧
    (fun (s : State) (c : CmdItem) (r : Record) =>
      Starts s 0x33 c ∧ s.recordOf (c.a 31 20) (c.b 31 0) = some r ∧ r.state = .opened)
      (waits (stalled 2 { records := [{ aRecord with state := .opened }] }) (item 0x33 0x700000 3)) (item 0x33 0x700000 3)
        { aRecord with state := .opened } ∧
    (fun (s : State) (c : CmdItem) (r : Record) =>
      Starts s 0x33 c ∧ s.recordOf (c.a 31 20) (c.b 31 0) = some r ∧ r.state = .released)
      (waits (stalled 2 { records := [{ aRecord with state := .released }] }) (item 0x33 0x700000 3)) (item 0x33 0x700000 3)
        { aRecord with state := .released } := by
  unfold Starts; decide +kernel
theorem test_RecordsAreReleasedAndRead_2 :
    (fun (s : State) (c : CmdItem) =>
      Starts s 0x35 c ∧ s.st.stallKind (c.a 31 20) ≠ 2)
      (waits (stalled 1 {}) (item 0x35 0x700000 3)) (item 0x35 0x700000 3) ∧
    (fun (s : State) (c : CmdItem) =>
      Starts s 0x35 c ∧ s.st.stallKind (c.a 31 20) = 2 ∧ s.recordOf (c.a 31 20) (c.b 31 0) = none)
      (waits (stalled 2 {}) (item 0x35 0x700000 3)) (item 0x35 0x700000 3) ∧
    (fun (s : State) (c : CmdItem) =>
      Starts s 0x35 c ∧ s.st.stallKind (c.a 31 20) = 2 ∧ (s.recordOf (c.a 31 20) (c.b 31 0)).isSome = true ∧ c.a 19 19 = 1 ∧
        ((s.ring (c.a 5 0)).cfg.flag 31 = false ∨ (s.ring (c.a 5 0)).cfg.field 30 30 = 0))
      (waits (stalled 2 { records := [aRecord] }) (item 0x35 0x78003F 3)) (item 0x35 0x78003F 3) ∧
    (fun (s : State) (c : CmdItem) (r : Record) =>
      Starts s 0x35 c ∧ s.st.stallKind (c.a 31 20) = 2 ∧ s.recordOf (c.a 31 20) (c.b 31 0) = some r ∧ (c.a 19 19 = 1 →
        (s.ring (c.a 5 0)).cfg.flag 31 = true ∧ (s.ring (c.a 5 0)).cfg.field 30 30 ≠ 0))
      (waits (stalled 2 { records := [aRecord] }) (item 0x35 0x700000 3)) (item 0x35 0x700000 3) aRecord := by
  unfold Starts; decide +kernel
theorem test_RecordsAreReleasedAndRead_3 :
    (fun (s : State) (k : Fin 4096) (r : RecordRead) =>
      s.ub = none ∧ List.find? (fun r => decide (r.bytes.length ≤ r.sent)) (s.stall ↑k).reads = some r)
      (long (stalled 2 { reads := [{ item := item 0x35, toHost := false, ring := 0, bytes := [1, 2, 3], handed := 3, sent := 3 }] }) (item 0x35)
        (.readRecord 7)) 7 { item := item 0x35, toHost := false, ring := 0, bytes := [1, 2, 3], handed := 3, sent := 3 } := by
  decide +kernel
theorem test_ReducerIntervalsAreClosedAndEmitted_1 :
    (fun (s : State) (e : Fin 16) (j : Fin 16) (n : Nat) (key : Nat) =>
      s.ub = none ∧ s.jobKeys (16 * ↑e + ↑j) = [key] ∧ key < 256 ∧ (s.jobStruct key).jobKind key ≠ 0 ∧ (s.jobStruct key).jobKind key ≠ 4 ∧
        n < ((s.jobStruct key).inputs key).length ∧ s.inputTimeout key n = true ∧ (s.job key).abort = [] ∧ PadClean s)
      (reducing 1 { interval := 5, first := 5 }) 0 0 0 0 := by
  unfold PadClean; decide +kernel
theorem test_ReducerIntervalsAreClosedAndEmitted_2 :
    (fun (s : State) (e : Fin 16) (j : Fin 16) (key : Nat) =>
      s.ub = none ∧ s.jobKeys (16 * ↑e + ↑j) = [key] ∧ key < 256 ∧ (s.jobStruct key).jobKind key = 4 ∧ s.csdDue key = true ∧ (s.job key).abort = [] ∧
        PadClean s)
      (reducing 4 { interval := 5 }) 0 0 0 := by
  unfold PadClean; decide +kernel
theorem test_ReducerIntervalsAreClosedAndEmitted_3 :
    (fun (s : State) (_ : Fin 16) (_ : Fin 16) (_ : Nat) =>
      s.ub = none)
      (reducing 1 { interval := 5, first := 5 }) 0 0 0 := by
  decide +kernel
theorem test_ReducerJobsAreResetAndAborted_1 :
    (fun (s : State) (c : CmdItem) =>
      Starts s 0x38 c ∧ s.st.jobKind (c.a 7 0) = 0)
      (waits (reducing 1 {}) (item 0x38 255)) (item 0x38 255) ∧
    (fun (s : State) (c : CmdItem) =>
      Starts s 0x38 c ∧ s.st.jobKind (c.a 7 0) ≠ 0 ∧ s.st.jobKind (c.a 7 0) ≠ 3)
      (waits (reducing 1 {}) (item 0x38 0)) (item 0x38 0) ∧
    (fun (s : State) (c : CmdItem) =>
      Starts s 0x38 c ∧ s.st.jobKind (c.a 7 0) = 3)
      (waits (reducing 3 {}) (item 0x38 0)) (item 0x38 0) := by
  unfold Starts; decide +kernel
theorem test_ReducerJobsAreResetAndAborted_2 :
    (fun (s : State) (e : Fin 16) (j : Fin 16) (key : Nat) (i : Nat) (c : CmdItem) =>
      s.ub = none ∧ s.jobKeys (16 * ↑e + ↑j) = [key] ∧ (s.job key).resetReq = [(c, i)] ∧
        (∀ (n : Nat), n < ((s.jobStruct key).inputs (16 * ↑e + ↑j)).length → ∃ d, ((s.job key).tally n).closedThrough = some d ∧ i ≤ d) ∧
        (i + 1) * (s.jobStruct key).ivlNs (16 * ↑e + ↑j) ≤ s.now)
      (long (reducing 3 { interval := 5, resetReq := [(item 0x38, 5)], tallies := [(0, { closedThrough := some 5 }), (1, { closedThrough := some 6 })] }) (item 0x38) (.resetTally 0 0)) 0 0 0 5 (item 0x38) := by
  decide +kernel
theorem test_ReducerJobsAreResetAndAborted_3 :
    (fun (s : State) (c : CmdItem) =>
      Starts s 0x39 c ∧ s.st.jobKind (c.a 7 0) = 0)
      (waits (reducing 1 {}) (item 0x39 255)) (item 0x39 255) ∧
    (fun (s : State) (c : CmdItem) =>
      Starts s 0x39 c ∧ s.st.jobKind (c.a 7 0) = 3)
      (waits (reducing 3 {}) (item 0x39 0)) (item 0x39 0) ∧
    (fun (s : State) (c : CmdItem) =>
      Starts s 0x39 c ∧ s.st.jobKind (c.a 7 0) ≠ 0 ∧ s.st.jobKind (c.a 7 0) ≠ 3)
      (waits (reducing 4 {}) (item 0x39 0)) (item 0x39 0) := by
  unfold Starts; decide +kernel
theorem test_StreamsAreFlushedAndTheirContextsMoved_1 :
    (fun (s : State) (c : CmdItem) =>
      Starts s 0x40 c ∧ 13056 ≤ c.a 13 0)
      (waits base (item 0x40 13056)) (item 0x40 13056) ∧
    (fun (s : State) (c : CmdItem) =>
      Starts s 0x40 c ∧ c.a 13 0 < 13056 ∧ (s.st.stored (c.a 13 0) = false ∨ s.st.streamExists (c.a 13 0) = false))
      (waits base (item 0x40 13055)) (item 0x40 13055) ∧
    (fun (s : State) (c : CmdItem) =>
      Starts s 0x40 c ∧ c.a 13 0 < 13056 ∧ s.st.stored (c.a 13 0) = true ∧ s.st.streamExists (c.a 13 0) = true ∧
        ∀ b ∈ (s.strm (c.a 13 0)).block, b.samples = [])
      (waits (streaming { closed := [aClosed] }) (item 0x40 0x80000020)) (item 0x40 0x80000020) ∧
    (fun (s : State) (c : CmdItem) (b : OpenBlock) =>
      Starts s 0x40 c ∧ c.a 13 0 < 13056 ∧ s.st.stored (c.a 13 0) = true ∧ s.st.streamExists (c.a 13 0) = true ∧ (s.strm (c.a 13 0)).block = some b ∧
        b.samples ≠ [])
      (waits (streaming { block := some aBlock, closed := [aClosed] }) (item 0x40 0x80000020)) (item 0x40 0x80000020) aBlock := by
  unfold Starts; decide +kernel
theorem test_StreamsAreFlushedAndTheirContextsMoved_2 :
    (fun (s : State) (c : CmdItem) =>
      Starts s 0x41 c ∧ s.st.stored (c.a 13 0) = true ∧ s.st.streamExists (c.a 13 0) = true)
      (waits (streaming {}) (item 0x41 32)) (item 0x41 32) ∧
    (fun (s : State) (c : CmdItem) =>
      Starts s 0x41 c ∧ (s.st.stored (c.a 13 0) = false ∨ s.st.streamExists (c.a 13 0) = false))
      (waits base (item 0x41 16383)) (item 0x41 16383) := by
  unfold Starts; decide +kernel
theorem test_StreamsAreFlushedAndTheirContextsMoved_3 :
    (fun (s : State) (c : CmdItem) =>
      Starts s 0x42 c ∧ s.st.stored (c.a 13 0) = true ∧ s.st.streamExists (c.a 13 0) = true ∧
        ((s.ctxWord (c.a 13 0) 0).flag 0 = false ∨ (s.ctxWord (c.a 13 0) 0).field 31 18 ≠ c.a 13 0))
      (waits (streaming {}) (item 0x42 32)) (item 0x42 32) ∧
    (fun (s : State) (c : CmdItem) =>
      Starts s 0x42 c ∧ (s.st.stored (c.a 13 0) = false ∨ s.st.streamExists (c.a 13 0) = false))
      (waits base (item 0x42 16383)) (item 0x42 16383) ∧
    (fun (s : State) (c : CmdItem) =>
      Starts s 0x42 c ∧ s.st.stored (c.a 13 0) = true ∧ s.st.streamExists (c.a 13 0) = true ∧ (s.ctxWord (c.a 13 0) 0).flag 0 = true ∧
        (s.ctxWord (c.a 13 0) 0).field 31 18 = c.a 13 0)
      { waits (streaming {}) (item 0x42 32) with path.ctx := [(512, 0x800001)] } (item 0x42 32) := by
  unfold Starts; decide +kernel
theorem test_HubsKnowTheirNeighboursAndAddresses_1 :
    (fun (s : State) (p : Port) =>
      s.ub = none ∧ s.portActive p = true ∧ ∀ x ∈ (s.rimPort p).hbSent, s.passed x.1 (us 100) = true ∨ x.2 ≠ s.hbContent p)
      base .e := by
  decide +kernel
theorem test_HubsKnowTheirNeighboursAndAddresses_2 :
    (fun (s : State) (p : Port) (_ : Bool) (_ : Byte) =>
      s.ub = none ∧ s.portActive p = true)
      base .e true 255 := by
  decide +kernel
theorem test_HubsKnowTheirNeighboursAndAddresses_3 :
    (fun (s : State) (p : Port) =>
      s.ub = none ∧ s.passedOpt (s.rimPort p).hbTick (us s.st.reachUs) = true ∧ (s.rimPort p).reach = true)
      { base with lnk.rim.e.hbTick := some (10 ^ 12 - us base.st.reachUs) } .e := by
  decide +kernel
theorem test_HubsKnowTheirNeighboursAndAddresses_4 :
    (fun (s : State) =>
      s.ub = none ∧ s.glb.state ≠ .reset ∧ s.passedOpt s.lnk.rim.helloTick (ms 100) = true)
      base := by
  decide +kernel
theorem test_HubsKnowTheirNeighboursAndAddresses_5 :
    (fun (s : State) (_ : Port) (src : Nat) (_ : DWord) (_ : Half) =>
      s.ub = none ∧ src < 4096 ∧ s.glb.state ≠ .reset)
      base .e 4095 5 65535 := by
  decide +kernel
theorem test_HubsKnowTheirNeighboursAndAddresses_6 :
    (fun (s : State) (p : Port) (hop : Nat) (base : Nat) =>
      s.ub = none ∧ hop ≤ 129 ∧ base < 4096 ∧ s.portActive p = true)
      base .e 129 4095 := by
  decide +kernel
theorem test_HubsKnowTheirNeighboursAndAddresses_7 :
    (fun (s : State) (c : CmdItem) =>
      Starts s 0x48 c ∧ c.master ≠ .spi)
      (waits base { item 0x48 9 with master := .rim }) { item 0x48 9 with master := .rim } ∧
    (fun (s : State) (c : CmdItem) =>
      Starts s 0x48 c ∧ c.master = .spi ∧ c.a 11 0 = 0)
      (waits base (item 0x48 0)) (item 0x48 0) ∧
    (fun (s : State) (c : CmdItem) =>
      Starts s 0x48 c ∧ c.master = .spi ∧ c.a 11 0 ≠ 0)
      (waits base (item 0x48 4095)) (item 0x48 4095) := by
  unfold Starts; decide +kernel
theorem test_FramesAreForwardedAndTransmitted_1 :
    (fun (s : State) (_ : Port) (g : RimFrame) =>
      s.ub = none ∧ g.wf = true ∧ g.etherType = 35063 ∧ g.fcs = .good)
      base .e { frameOf 3 2 0 10 with bytes := (List.replicate 12 0 ++ [0x88, 0xF7]) ++ List.replicate 50 0 } := by
  decide +kernel
theorem test_FramesAreForwardedAndTransmitted_2 :
    (fun (s : State) (p : Port) (g : RimFrame) =>
      s.ub = none ∧ g.wf = true ∧ s.portActive p = true ∧ ¬(g.etherType = 35063 ∧ g.fcs = .good))
      base .e aFrame := by
  decide +kernel
theorem test_FramesAreForwardedAndTransmitted_3 :
    (fun (s : State) (p : Port) =>
      s.ub = none ∧ s.portActive (otherPort p) = true)
      base .e := by
  decide +kernel
theorem test_FramesAreForwardedAndTransmitted_4 :
    (fun (s : State) (p : Port) (o : Out) (r : RimPort) =>
      s.ub = none ∧ s.portActive p = true ∧ (s.rimPort p).pop p = some (o, r))
      { base with lnk.rim.e.control := [anOut], lnk.rim.e.express := [{ anOut with cls := 0 }] } .e
        (.frame .e { anOut with cls := 0 } ({ anOut with cls := 0 } : OutFrame).bytes) { base.lnk.rim.e with control := [anOut] } := by
  decide +kernel
theorem test_FramesAreForwardedAndTransmitted_5 :
    (fun (s : State) (p : Port) =>
      s.ub = none ∧ s.portActive p = true ∧ s.st.preEnable p = true)
      { base with cfg.committed.rim := [(0, [0x60000000, 0x00C80808, 0x00C8012C, 0])] } .w := by
  decide +kernel
theorem test_FramesAreAcknowledgedAndSentAgain_1 :
    (fun (s : State) (_ : Port) (peer : Nat) (ranges : List (Word × Nat)) (c : CtlFrame) =>
      s.ub = none ∧ peer < 4096 ∧ ranges.length ≤ 91 ∧
        List.filter (fun c => c.frame.src == s.lnk.rim.addr && c.frame.dst == peer && ranges.any fun r => decide (BitVec.toNat (c.frame.seq - r.1) <
          r.2)) s.lnk.rim.ctl = [c])
      (sentCtl 1) .e 9 [(3, 1)] { frame := anOut, tries := 1, tick := 10 ^ 12 - 10 ^ 9 } := by
  decide +kernel
theorem test_FramesAreAcknowledgedAndSentAgain_2 :
    (fun (s : State) (_ : Port) (peer : Nat) (_ : Word) =>
      s.ub = none ∧ peer < 4096)
      (sentCtl 1) .e 9 4 := by
  decide +kernel
theorem test_FramesAreAcknowledgedAndSentAgain_3 :
    (fun (s : State) (p : Port) (_ : Nat) (_ : Nat) (_ : Nat) =>
      s.ub = none ∧ s.portActive p = true)
      base .e base.epochNow 9000 1 := by
  decide +kernel
theorem test_FramesAreAcknowledgedAndSentAgain_4 :
    (fun (s : State) =>
      s.ub = none ∧
        (s.lnk.rim.addr = 4095 ∨ s.publishes = false ∨ (s.rimPort s.bulkPort).reach = false ∨ s.portActive s.bulkPort = false ∨ s.bulkChoices = []))
      base ∧
    (fun (s : State) (c : Nat × Nat) =>
      s.ub = none ∧ s.lnk.rim.addr ≠ 4095 ∧ s.publishes = true ∧ (s.rimPort s.bulkPort).reach = true ∧ s.portActive s.bulkPort = true ∧
        s.bulkChoices = [c])
      toSend (1, 7) := by
  decide +kernel
theorem test_FramesAreAcknowledgedAndSentAgain_5 :
    (fun (s : State) (_ : Word) =>
      s.ub = none)
      sentBulk 3 := by
  decide +kernel
theorem test_FramesAreAcknowledgedAndSentAgain_6 :
    (fun (s : State) (dst : Nat) (q : Word) (c : CtlFrame) =>
      s.ub = none ∧ dst < 4096 ∧
        List.find? (fun c => c.frame.dst == dst && decide (c.frame.seq = q) && s.passed c.tick (us s.st.ctlRtoUs)) s.lnk.rim.ctl = some c)
      (sentCtl 1) 9 3 { frame := anOut, tries := 1, tick := 10 ^ 12 - 10 ^ 9 } := by
  decide +kernel
theorem test_FramesAreAcknowledgedAndSentAgain_7 :
    (fun (s : State) (peer : Nat) (a : Assoc) =>
      s.ub = none ∧ peer < 4096 ∧ List.find? (fun a => a.peer == peer && a.cls == 2 && a.ackDue.isSome) s.lnk.rim.assocs = some a ∧
        s.ctlRoom a.src peer = true)
      { base with lnk.rim.assocs := [{ src := 5, peer := 9, cls := 2, next := 0xFFFFFFFF, expected := 3, early := [], ackDue := some 5 }] } 9
        { src := 5, peer := 9, cls := 2, next := 0xFFFFFFFF, expected := 3, early := [], ackDue := some 5 } := by
  decide +kernel
theorem test_LanesAreBroughtUp_1 :
    (fun (s : State) (x : Fin 4) (_ : Module) =>
      s.ub = none ∧ (s.lane ↑x).state = .detect ∧ (s.lane ↑x).backoffUntil = none)
      (withLane 3 { state := .detect }) 3 .none := by
  decide +kernel
theorem test_LanesAreBroughtUp_2 :
    (fun (s : State) (x : Fin 4) (_ : Tap) (_ : TapReq) =>
      s.ub = none ∧ (s.lane ↑x).state = .train)
      (withLane 0 { state := .train, taps := initTaps }) 0 .post .inc := by
  decide +kernel
theorem test_LanesAreBroughtUp_3 :
    (fun (s : State) (x : Fin 4) (_ : Bool) =>
      s.ub = none ∧ (s.lane ↑x).state = .train)
      (withLane 0 { state := .train }) 0 true := by
  decide +kernel
theorem test_LanesAreBroughtUp_4 :
    (fun (s : State) (x : Fin 4) =>
      s.ub = none ∧ (s.lane ↑x).state = .lock)
      (withLane 3 { state := .lock, fec := true }) 3 := by
  decide +kernel
theorem test_LanesAreBroughtUp_5 :
    (fun (s : State) (x : Fin 4) =>
      s.ub = none ∧ ((s.lane ↑x).state = .exchange ∨ (s.lane ↑x).state = .test ∧ pcsLoops (s.lane ↑x).test = none))
      (withLane 0 { state := .exchange, fec := true, hiBer := true }) 0 := by
  decide +kernel
theorem test_LanesAreBroughtUp_6 :
    (fun (s : State) (x : Fin 4) =>
      s.ub = none ∧ (s.lane ↑x).state = .train ∧ s.passed (s.lane ↑x).since (ms 500) = true)
      (withLane 0 { state := .train, since := 10 ^ 12 - 100000000 }) 0 ∧
    (fun (s : State) (x : Fin 4) =>
      s.ub = none ∧ (s.lane ↑x).state = .lock ∧ s.passed (s.lane ↑x).since (ms 10) = true)
      (withLane 1 { state := .lock, since := 10 ^ 12 - 2000000 }) 1 ∧
    (fun (s : State) (x : Fin 4) =>
      s.ub = none ∧ (s.lane ↑x).state = .exchange ∧ s.passed (s.lane ↑x).since (ms 50) = true)
      (withLane 2 { state := .exchange, since := 10 ^ 12 - 10000000, failures := 40 }) 2 ∧
    (fun (s : State) (x : Fin 4) =>
      s.ub = none ∧ ((s.lane ↑x).state = .train ∨ (s.lane ↑x).state = .lock ∨ (s.lane ↑x).state = .exchange))
      (withLane 3 { state := .exchange }) 3 := by
  decide +kernel
theorem test_LanesAreBroughtUp_7 :
    (fun (s : State) (x : Fin 4) (k : Nat) =>
      s.ub = none ∧ (s.lane ↑x).backoffUntil = some k ∧ (s.lane ↑x).state = .detect ∧ k ≤ s.tick)
      (withLane 0 { state := .detect, backoffUntil := some (10 ^ 12) }) 0 (10 ^ 12) := by
  decide +kernel
theorem test_LanesAreBroughtUp_8 :
    (fun (s : State) (x : Fin 4) =>
      s.ub = none ∧ (s.lane ↑x).state = .active ∧ s.passed (s.lane ↑x).since Config.ticksPerS = true)
      (withLane 3 { state := .active, since := 10 ^ 12 - 200000000, failures := 10 }) 3 := by
  decide +kernel
theorem test_LanesEnterAndLeaveActive_1 :
    (fun (s : State) (x : Fin 4) (w : BitVec 24) =>
      s.ub = none ∧ (s.lane ↑x).state = .exchange ∧ (s.lane ↑x).inLock = true ∧ capabilityCheck w.toNat = bitsOf w.toNat 3 0)
      (withLane 0 { state := .exchange, blockLock := true, fecLock := true }) 0 0x140005 := by
  decide +kernel
theorem test_LanesEnterAndLeaveActive_2 :
    (fun (s : State) (x : Fin 4) (_ : LossCause) =>
      s.ub = none ∧ (s.lane ↑x).state = .active)
      base 0 .signal := by
  decide +kernel
theorem test_LanesEnterAndLeaveActive_3 :
    (fun (s : State) (x : Fin 4) (_ : LossCause) =>
      s.ub = none ∧ ((s.lane ↑x).state = .exchange ∨ (s.lane ↑x).state = .test))
      (withLane 0 { state := .exchange, blockLock := true, fecLock := true, fec := true }) 0 .hiBer := by
  decide +kernel
theorem test_LanesEnterAndLeaveActive_4 :
    (fun (s : State) (x : Fin 4) (k : SymError) =>
      s.ub = none ∧ (s.lane ↑x).blockLock = true ∧ (k ≠ .block → (s.lane ↑x).fecLock = true))
      base 3 .block := by
  decide +kernel
theorem test_LanesEnterAndLeaveActive_5 :
    (fun (s : State) (c : CmdItem) =>
      Starts s 0x49 c)
      (waits base (item 0x49 3)) (item 0x49 3) := by
  unfold Starts; decide +kernel
theorem test_LanesAreTestedAndOpticsReached_1 :
    (fun (s : State) (_ : Fin 4) (v : Word) =>
      s.ub = none ∧ s.glb.state ≠ .reset ∧ v.field 23 0 ≠ 0)
      base 0 1 ∧
    (fun (s : State) (_ : Fin 4) (v : Word) =>
      s.ub = none ∧ s.glb.state ≠ .reset ∧ v.field 23 0 = 0 ∧ (v.field 29 28 = 3 ∨ v.field 27 26 = 3))
      base 3 0x30000000 ∧
    (fun (s : State) (_ : Fin 4) (v : Word) =>
      s.ub = none ∧ s.glb.state ≠ .reset ∧ v.field 23 0 = 0 ∧ v.field 29 28 ≠ 3 ∧ v.field 27 26 ≠ 3)
      base 3 0x14000000 := by
  decide +kernel
theorem test_LanesAreTestedAndOpticsReached_2 :
    (fun (s : State) (_ : Fin 4) (v : Word) =>
      s.ub = none ∧ s.glb.state ≠ .reset ∧ v.flag 24 = true ∧ v.field 23 0 = 0 ∧ v.field 29 28 ≠ 3 ∧ v.field 27 26 ≠ 3)
      (withLane 0 { state := .test, test := 0x14000000, prbsErr := 5 }) 0 0x15000000 := by
  decide +kernel
theorem test_LanesAreTestedAndOpticsReached_3 :
    (fun (s : State) (_ : Fin 2) (v : Word) =>
      s.ub = none ∧ s.glb.state ≠ .reset ∧ v.field 31 24 ≠ 0)
      base 0 0x01000000 ∧
    (fun (s : State) (_ : Fin 2) (v : Word) =>
      s.ub = none ∧ s.glb.state ≠ .reset ∧ v.field 31 24 = 0)
      base 1 0xFC34F9 := by
  decide +kernel
theorem test_LanesAreTestedAndOpticsReached_4 :
    (fun (s : State) (x : Fin 2) (_ : Byte) (_ : Byte) (_ : Half) =>
      s.ub = none ∧ s.glb.state ≠ .reset ∧ s.passed (s.lane ↑x).optTick (ms 100) = true)
      (withLane 1 { optTick := 10 ^ 12 - 20000000 }) 1 3 4 0xFFFF := by
  decide +kernel
theorem test_LanesAreTestedAndOpticsReached_5 :
    (fun (s : State) (c : CmdItem) =>
      Starts s 0x4A c ∧ (c.a 3 0 = 0 ∨ 8 < c.a 3 0))
      (waits base (item 0x4A 0)) (item 0x4A 0) ∧
    (fun (s : State) (c : CmdItem) =>
      Starts s 0x4A c ∧ c.a 3 0 ≠ 0 ∧ c.a 3 0 ≤ 8)
      (waits base (item 0x4A 0xC0FF0008)) (item 0x4A 0xC0FF0008) := by
  unfold Starts; decide +kernel
theorem test_LanesAreTestedAndOpticsReached_6 :
    (fun (s : State) (c : CmdItem) =>
      Starts s 0x4B c ∧ (c.a 3 0 = 0 ∨ 8 < c.a 3 0 ∨ c.a 30 30 = 0))
      (waits base (item 0x4B 1)) (item 0x4B 1) ∧
    (fun (s : State) (c : CmdItem) =>
      Starts s 0x4B c ∧ c.a 3 0 ≠ 0 ∧ c.a 3 0 ≤ 8 ∧ c.a 30 30 ≠ 0)
      (waits base (item 0x4B 0x40100002 0x1234)) (item 0x4B 0x40100002 0x1234) := by
  unfold Starts; decide +kernel
theorem test_LanesAreTestedAndOpticsReached_7 :
    (fun (s : State) (x : Fin 2) (_ : OpticsResult) (l : LongCmd) (dev : Nat) (off : Nat) (len : Nat) (write : Bool) =>
      s.ub = none ∧ (s.longOf fun o => match o with | LongOp.optics y device offset len write => decide (↑x = y) | _ => false) = some l ∧
        l.op = LongOp.optics (↑x) dev off len write)
      (long base (item 0x4A) (.optics 1 0 5 2 false)) 1 .noModule { item := item 0x4A, op := .optics 1 0 5 2 false, since := 1 } 0 5 2 false := by
  decide +kernel
theorem test_WitnessesDecideTheRole_1 :
    (fun (s : State) =>
      s.ub = none ∧ s.live = true ∧ s.st.tandemOn = true ∧ s.passed s.tdm.tokenTick (us 50) = true)
      (tandem { role := .active, tokenTick := 10 ^ 12 - 10000 }) := by
  decide +kernel
theorem test_WitnessesDecideTheRole_2 :
    (fun (s : State) =>
      s.ub = none ∧ s.glb.state ≠ .reset ∧ s.st.tandemOn = true)
      (tandem { role := .standby }) := by
  decide +kernel
theorem test_WitnessesDecideTheRole_3 :
    (fun (s : State) =>
      s.ub = none ∧ s.st.tandemOn = true ∧ s.passedOpt s.tdm.edgeTick (us 300) = true)
      (tandem { role := .standby, edgeTick := some (10 ^ 12 - 60000), witToken := true, witLink := true, witRim := true }) := by
  decide +kernel
theorem test_WitnessesDecideTheRole_4 :
    (fun (s : State) =>
      s.ub = none ∧ s.st.tandemOn = true ∧ s.passedOpt s.tdm.linkTick (us 300) = true)
      (tandem { role := .standby, linkTick := some (10 ^ 12 - 60000), witLink := true }) := by
  decide +kernel
theorem test_WitnessesDecideTheRole_5 :
    (fun (s : State) =>
      s.ub = none ∧ s.st.tandemOn = true ∧ ∀ k ∈ s.tdm.rimSent, k + 1000000 < s.now)
      (tandem { role := .standbyDesync, rimSent := some 4999998999999, witRim := true }) := by
  decide +kernel
theorem test_WitnessesDecideTheRole_6 :
    (fun (s : State) =>
      s.ub = none ∧ s.tdm.role = .claiming ∧ s.passed s.tdm.since (ms 2) = true)
      { tandem { role := .claiming, since := 10 ^ 12 - 400000 } with lace.laces := [(0, { drive := 1, scale := 30000, limit50 := true, highZ := false })] } := by
  decide +kernel
theorem test_WitnessesDecideTheRole_7 :
    (fun (s : State) =>
      s.ub = none ∧ s.tdm.role = .yielding ∧ s.passed s.tdm.since (ms 2) = true)
      (tandem { role := .yielding, since := 10 ^ 12 - 400000 }) := by
  decide +kernel
theorem test_WitnessesDecideTheRole_8 :
    (fun (s : State) =>
      s.ub = none ∧ s.live = true ∧ s.tdm.role.stands = true ∧ s.partnerAlive = true ∧ s.ldr.halted = false ∧
        s.passedOpt s.tdm.noActiveSince (ms 10) = true ∧ (s.evenMember = true ∨ s.tdm.partner.isSome = true ∧ s.tdm.partnerState ≠ 6 ∧
        s.tdm.partnerState ≠ 7))
      (tandem { role := .standbyDesync, since := 10 ^ 12 - 2000000, noActiveSince := some (10 ^ 12 - 2000000), witLink := true, partner := some aBeat, partnerState := 5 }) := by
  decide +kernel
theorem test_WitnessesDecideTheRole_9 :
    (fun (s : State) =>
      s.ub = none ∧ s.tdm.role = .standby ∧ (s.lane 2).state ≠ .active ∧ (s.lane 3).state ≠ .active ∧ s.passedOpt s.tdm.lanesLost (us 300) = true ∧
        (s.tdm.witToken || s.tdm.witRim) = true)
      { tandem { role := .standby, linkTick := some (10 ^ 12 - 60000), witRim := true } with lnk.lanes := [] } := by
  decide +kernel
theorem test_PartnersTalkAndSwap_1 :
    (fun (s : State) =>
      s.ub = none ∧ s.sendsHb = true ∧ s.passedOpt s.tdm.lastSent (us 100) = true)
      (tandem { role := .active, lastSent := some (10 ^ 12 - 20000) }) := by
  decide +kernel
theorem test_PartnersTalkAndSwap_2 :
    (fun (s : State) (path : HbPath) (hb : Heartbeat) (secs : List HbSection) =>
      s.ub = none ∧ hb.wf = true ∧ secs.all HbSection.wf = true ∧ s.st.tandemOn = true ∧ s.glb.state ≠ .reset ∧ (path = .tdmA →
        (s.lane 2).state = .active) ∧ (path = .tdmB → (s.lane 3).state = .active))
      (tandem { role := .standby }) .rim aBeat [] := by
  decide +kernel
theorem test_PartnersTalkAndSwap_3 :
    (fun (s : State) (k : Nat) (rest : List Nat) =>
      s.ub = none ∧ s.tdm.digestDue = k :: rest ∧ s.passed k (ms 1) = true)
      (tandem { digestDue := [10 ^ 12 - 200000, 10 ^ 12 + 5], digestTick := 10 ^ 12 - 100000 }) (10 ^ 12 - 200000) [10 ^ 12 + 5] := by
  decide +kernel
theorem test_PartnersTalkAndSwap_4 :
    (fun (s : State) (c : CmdItem) =>
      Starts s 0x50 c ∧ s.st.tandemOn = false)
      (waits base (item 0x50)) (item 0x50) ∧
    (fun (s : State) (c : CmdItem) =>
      Starts s 0x50 c ∧ s.st.tandemOn = true ∧ s.tdm.role ≠ .standby ∧ (s.tdm.role = .active → s.tdm.partnerRole ≠ 2))
      (waits (tandem { role := .active, partnerRole := 3 }) (item 0x50)) (item 0x50) ∧
    (fun (s : State) (c : CmdItem) =>
      Starts s 0x50 c ∧ s.st.tandemOn = true ∧ (s.tdm.role = .standby ∨ s.tdm.role = .active ∧ s.tdm.partnerRole = 2))
      (waits (tandem { role := .active, partnerRole := 2 }) (item 0x50)) (item 0x50) := by
  unfold Starts; decide +kernel
theorem test_PartnersTalkAndSwap_5 :
    (fun (s : State) (l : LongCmd) (e : Nat) =>
      s.ub = none ∧ (s.longOf fun o => match o with | LongOp.swap e => decide (e ≤ s.now) | _ => false) = some l ∧ l.op = LongOp.swap e)
      (long (tandem { role := .active, swapAt := [5 * 10 ^ 12] }) (item 0x50) (.swap (5 * 10 ^ 12)))
        { item := item 0x50, op := .swap (5 * 10 ^ 12), since := 1 } (5 * 10 ^ 12) := by
  decide +kernel
theorem test_CommandsAreReceivedUnderCredit_1 :
    (fun (s : State) (w : Master) (m : Master) (tgt : Fin 2) (w3 : Word) =>
      s.ub = none ∧ s.glb.state ≠ .reset ∧ cmdInMaster w ↑tgt = some m ∧
        knownOpcode
        (BitVec.toNat ({ itemOfWords m { w0 := (s.mst m).cmdIn.1, w1 := (s.mst m).cmdIn.2.1, w2 := (s.mst m).cmdIn.2.2, w3 := w3 } false with base := (s.mst m).base }).opcode) = true ∧ (s.mst m).lapsedRefuses ({ itemOfWords m { w0 := (s.mst m).cmdIn.1, w1 := (s.mst m).cmdIn.2.1, w2 := (s.mst m).cmdIn.2.2, w3 := w3 } false with base := (s.mst m).base }) = false ∧ (s.mst m).inFlight < (s.mst m).credit)
      { base with cmd.spi.cmdIn := (0x00070501, 0, 0) } .spi .spi 0 0 ∧
    (fun (s : State) (w : Master) (m : Master) (tgt : Fin 2) (w3 : Word) =>
      s.ub = none ∧ s.glb.state ≠ .reset ∧ cmdInMaster w ↑tgt = some m ∧
        ((s.mst m).lapsedRefuses
          ({ itemOfWords m { w0 := (s.mst m).cmdIn.1, w1 := (s.mst m).cmdIn.2.1, w2 := (s.mst m).cmdIn.2.2, w3 := w3 } false with base := (s.mst m).base }) = true ∨ (s.mst m).credit ≤ (s.mst m).inFlight))
      { base with cmd.pcie := { credit := 64, lapsed := true, cmdIn := (0x00070501, 0, 0) } } .rim .pcie 1 0 := by
  decide +kernel
theorem test_CommandsAreReceivedUnderCredit_2 :
    (fun (s : State) (w : Master) (tgt : Fin 2) (_ : Word) =>
      s.ub = none ∧ cmdInMaster w ↑tgt = none)
      base .tandem 0 0 := by
  decide +kernel
theorem test_CommandsAreReceivedUnderCredit_3 :
    (fun (s : State) (p : Port) (service : Bool) (w : ItemWords) =>
      s.ub = none ∧ s.glb.state ≠ .reset ∧ s.portActive p = true ∧
        knownOpcode (BitVec.toNat ({ itemOfWords .rim w (service && s.st.tandemOn) with base := (s.mst .rim).base }).opcode) = true ∧
        (s.mst .rim).lapsedRefuses ({ itemOfWords .rim w (service && s.st.tandemOn) with base := (s.mst .rim).base }) = false ∧
        (s.mst .rim).inFlight < (s.mst .rim).credit)
      base .e true (words 1) := by
  decide +kernel
theorem test_CommandsAreReceivedUnderCredit_4 :
    (fun (s : State) (_ : Port) (_ : Bool) (ws : List ItemWords) =>
      s.ub = none ∧ 1 ≤ ws.length ∧ ws.length ≤ 92)
      base .e false [words 1] := by
  decide +kernel
theorem test_CommandsAreReceivedUnderCredit_5 :
    (fun (s : State) (c : CmdItem) =>
      Starts s 0x01 c)
      (waits base (item 1)) (item 1) := by
  unfold Starts; decide +kernel
theorem test_CommandsAreReceivedUnderCredit_6 :
    (fun (s : State) (c : CmdItem) =>
      Starts s 0x59 c)
      (waits base (item 0x59 0)) (item 0x59 0) := by
  unfold Starts; decide +kernel
theorem test_CommandsAreReceivedUnderCredit_7 :
    (fun (s : State) (m : Fin 4) (v : Word) =>
      s.ub = none ∧ 256 < s.cmd.creditSum - (s.mst (masterOf ↑m)).credit + v.field 31 24)
      base 3 0x41000000 ∧
    (fun (s : State) (m : Fin 4) (v : Word) =>
      s.ub = none ∧ s.glb.state ≠ .reset ∧ s.cmd.creditSum - (s.mst (masterOf ↑m)).credit + v.field 31 24 ≤ 256)
      base 3 0x40030000 := by
  decide +kernel
theorem test_CommandsAreReceivedUnderCredit_8 :
    (fun (s : State) (m : Fin 3) =>
      s.ub = none ∧ s.glb.state ≠ .reset ∧ (s.mst (masterOf ↑m)).leaseMs ≠ 0 ∧ (s.mst (masterOf ↑m)).lapsed = false ∧
        s.passed (s.mst (masterOf ↑m)).itemTick (ms (s.mst (masterOf ↑m)).leaseMs) = true)
      (held { leaseMs := 1, itemTick := 10 ^ 12 - 200000 }) 0 := by
  decide +kernel
theorem test_CommandsAreReceivedUnderCredit_9 :
    (fun (s : State) (_ : Word) =>
      s.ub = none ∧ s.glb.state ≠ .reset)
      base 0x1000 := by
  decide +kernel
theorem test_CrierItemsEnterAndLeaveInOrder_1 :
    (fun (s : State) (_ : Master) (q : Fin 64) (x : ChainItem) =>
      s.ub = none ∧ s.glb.state ≠ .reset ∧ ((s.que ↑q).head fun x => decide (x.drain = .spi)) = some x ∧ x.flips = 0 ∧ (s.que ↑q).lost = [])
      (queued { posted := 4, chain := [chained 2 3 .spi, chained 3 15 .spi] }) .pcie 63 (chained 3 15 .spi) ∧
    (fun (s : State) (_ : Master) (q : Fin 64) =>
      s.ub = none ∧ s.glb.state ≠ .reset ∧ ((s.que ↑q).head fun x => decide (x.drain = .spi)) = none)
      base .spi 63 ∧
    (fun (s : State) (_ : Master) (q : Fin 64) (x : ChainItem) (i : Item) =>
      s.ub = none ∧ s.glb.state ≠ .reset ∧ ((s.que ↑q).head fun x => decide (x.drain = .spi)) = some x ∧ x.decode = some (i, true) ∧
        (s.que ↑q).lost = [])
      (queued { posted := 4, chain := [chained 2 3 .spi, { chained 3 15 .spi with flips := 4 }] }) .pcie 63 { chained 3 15 .spi with flips := 4 }
        ((chained 3 15 .spi).item) ∧
    (fun (s : State) (_ : Master) (q : Fin 64) (x : ChainItem) =>
      s.ub = none ∧ s.glb.state ≠ .reset ∧ ((s.que ↑q).head fun x => decide (x.drain = .spi)) = some x ∧ x.decode = none ∧
        (s.que ↑q).posted ≤ x.nseq + 65536 ∧ (∀ k ∈ [journalSlot (↑q) x.nseq, journalSlot (↑q) x.nseq + 1], (s.storeAt k).flips = 0 ∧
        (s.storeAt k).poison = false) ∧ (s.que ↑q).lost = [])
      (queued { posted := 4, chain := [chained 2 3 .spi, { chained 3 15 .spi with flips := 5 }] }) .pcie 63 { chained 3 15 .spi with flips := 5 } ∧
    (fun (s : State) (_ : Master) (q : Fin 64) (x : ChainItem) (first : Nat) (count : Nat) (rest : List (Nat × Nat)) =>
      s.ub = none ∧ s.glb.state ≠ .reset ∧ ((s.que ↑q).head fun x => decide (x.drain = .spi)) = some x ∧ x.flips = 0 ∧
        (s.que ↑q).lost = (first, count) :: rest)
      (queued { posted := 4, chain := [chained 3 15 .spi], lost := [(1, 2)] }) .pcie 63 (chained 3 15 .spi) 1 2 [] := by
  decide +kernel
theorem test_CrierItemsEnterAndLeaveInOrder_2 :
    (fun (s : State) (q : Fin 64) =>
      s.ub = none ∧ (s.que ↑q).chain.length < 32)
      (queued { posted := 4, waiting := [{ nseq := 3, prio := 2, drain := .spi, ring := 0 }] }) 63 := by
  decide +kernel
theorem test_CrierItemsEnterAndLeaveInOrder_3 :
    (fun (s : State) (q : Fin 64) (x : ChainItem) (i : Item) =>
      s.ub = none ∧ (s.que ↑q).head (s.drainReady ↑q) = some x ∧ x.drain = .ring ∧ (s.ring x.ring).isBlock = false ∧ (s.que ↑q).lost = [] ∧
        x.decode = some (i, true))
      { queued { posted := 4, chain := [{ chained 3 2 .ring with flips := 2 ^ 136 }] } with host.rings := [(63, { cfg := 0x90000000 })] } 63
        { chained 3 2 .ring with flips := 2 ^ 136 } ((chained 3 2 .ring).item) ∧
    (fun (s : State) (q : Fin 64) (x : ChainItem) =>
      s.ub = none ∧ (s.que ↑q).head (s.drainReady ↑q) = some x ∧ x.drain = .ring ∧ (s.ring x.ring).isBlock = false ∧ (s.que ↑q).lost = [] ∧
        x.decode = none ∧ (s.que ↑q).posted ≤ x.nseq + 65536 ∧ ∀ k ∈ [journalSlot (↑q) x.nseq, journalSlot (↑q) x.nseq + 1], (s.storeAt k).flips = 0 ∧
        (s.storeAt k).poison = false)
      { queued { posted := 4, chain := [{ chained 3 2 .ring with flips := 6 }] } with host.rings := [(63, { cfg := 0x90000000 })] } 63
        { chained 3 2 .ring with flips := 6 } := by
  decide +kernel
theorem test_CrierItemsEnterAndLeaveInOrder_4 :
    (fun (s : State) (q : Fin 64) (x : ChainItem) =>
      s.ub = none ∧ (s.que ↑q).head (s.drainReady ↑q) = some x ∧ x.flips = 0)
      { queued { posted := 4, chain := [chained 3 2 .ring] } with host.rings := [(63, { cfg := 0x90000000 })] } 63 (chained 3 2 .ring) := by
  decide +kernel
theorem test_CrierItemsEnterAndLeaveInOrder_5 :
    (fun (s : State) (_ : Fin 64) =>
      s.ub = none)
      (queued { posted := 4, chain := [chained 3 2 .rim, chained 3 15 .rim] }) 63 := by
  decide +kernel
theorem test_CrierItemsEnterAndLeaveInOrder_6 :
    (fun (s : State) (_ : Fin 64) (_ : Word) =>
      s.ub = none ∧ s.glb.state ≠ .reset)
      (queued { posted := 4 }) 63 1 := by
  decide +kernel
theorem test_HostRingsAreFilledUnderCredit_1 :
    (fun (s : State) (r : Fin 64) =>
      s.ub = none ∧ (s.ring ↑r).enabled = false)
      base 63 := by
  decide +kernel
theorem test_HostRingsAreFilledUnderCredit_2 :
    (fun (s : State) (_ : Fin 64) (_ : Word) =>
      s.ub = none ∧ s.glb.state ≠ .reset)
      (ringed { cfg := 0xB0000000, prod := 32, cons := 0, written := [(16, .notice 5 3 noItem), (32, .notice 5 4 noItem)] }) 63 16 := by
  decide +kernel
theorem test_HostRingsAreFilledUnderCredit_3 :
    (fun (s : State) (r : Fin 64) =>
      s.ub = none ∧ (s.ring ↑r).vecDue = true ∧ (s.ring ↑r).cfg.flag 29 = true ∧
        s.passedOpt (s.ring ↑r).vecTick (us ((s.ring ↑r).cfg.field 15 0)) = true)
      (ringed { cfg := 0xB0000001, vecDue := true, vecTick := some (10 ^ 12 - 200) }) 63 := by
  decide +kernel
theorem test_HostRingsAreFilledUnderCredit_4 :
    (fun (s : State) (_ : Fin 64) (v : Word) =>
      s.ub = none ∧ s.glb.state ≠ .reset ∧ v.flag 31 = true)
      (ringed {}) 63 0xB0000007 := by
  decide +kernel
theorem test_HostRingsAreFilledUnderCredit_5 :
    (fun (s : State) (_ : Fin 64) (v : Word) =>
      s.ub = none ∧ s.glb.state ≠ .reset ∧ v.flag 31 = false)
      (ringed { cfg := 0xB0000001, prod := 32, written := [(16, .notice 5 3 noItem)], backlog := [(.notice 5 4 noItem, false)] }) 63 0x30000001 := by
  decide +kernel
theorem test_RegistersAreReadAndWritten_1 :
    (fun (s : State) (c : CmdItem) (v : RegView) =>
      Starts s 0x5A c ∧ c.opA.toNat < 2 ^ 26 ∧ c.opA.toNat % 4 = 0 ∧ c.opA.toNat < 16777216 ∧ s.wideAt (c.opA.toNat) = none ∧
        mirrorAt (c.opA.toNat) = none ∧ popAt (c.opA.toNat) = none ∧ c.opA.toNat ≠ 65552 ∧ (taken s).reg32 (c.opA.toNat) = some v)
      (waits base (item 0x5A 0x40)) (item 0x5A 0x40) { value := 0 } ∧
    (fun (s : State) (c : CmdItem) =>
      Starts s 0x5A c ∧ (2 ^ 26 ≤ c.opA.toNat ∨ c.opA.toNat % 4 ≠ 0))
      (waits base (item 0x5A 0x4000000)) (item 0x5A 0x4000000) := by
  unfold Starts; decide +kernel
theorem test_RegistersAreReadAndWritten_2 :
    (fun (s : State) (c : CmdItem) =>
      Starts s 0x5B c ∧ c.opA.toNat < 2 ^ 26 ∧ c.opA.toNat % 4 = 0 ∧ c.opA.toNat = 64 ∧ s.writeBehind .rim 64 = false)
      (waits base (item 0x5B 0x40 7)) (item 0x5B 0x40 7) ∧
    (fun (s : State) (c : CmdItem) =>
      Starts s 0x5B c ∧ (2 ^ 26 ≤ c.opA.toNat ∨ c.opA.toNat % 4 ≠ 0))
      (waits base (item 0x5B 0x4000000)) (item 0x5B 0x4000000) ∧
    (fun (s : State) (c : CmdItem) =>
      Starts s 0x5B c ∧ c.opA.toNat < 2 ^ 26 ∧ c.opA.toNat % 4 = 0 ∧ 33554432 ≤ c.opA.toNat)
      (waits base (item 0x5B 0x2000000 7)) (item 0x5B 0x2000000 7) := by
  unfold Starts; decide +kernel
theorem test_RegistersAreReadAndWritten_3 :
    (fun (s : State) (m : Master) (o : Nat) (v : Word) (h : Option Word) =>
      s.ub = none ∧ s.glb.state ≠ .reset ∧ m ≠ .tandem ∧ (Instr.registerWrite m o v h).wf = true)
      base .pcie 0x30000 5 none := by
  decide +kernel
theorem test_RegistersAreReadAndWritten_4 :
    (fun (s : State) (_ : Word) =>
      s.ub = none ∧ s.glb.state ≠ .reset)
      base 0xFFFFFFFF := by
  decide +kernel
theorem test_RegistersAreReadAndWritten_5 :
    (fun (s : State) (_ : Word) (_ : List Word) (_ : Bool) =>
      s.ub = none ∧ s.glb.state ≠ .reset)
      base 0x41 [1] false := by
  decide +kernel
theorem test_RegistersAreReadAndWritten_7 :
    (fun (s : State) (_ : Word) (n : Nat) =>
      s.ub = none ∧ s.glb.state ≠ .reset ∧ 1 ≤ n)
      base 0x41 2 := by
  decide +kernel
theorem test_RegistersAreReadAndWritten_8 :
    (fun (s : State) =>
      s.ub = none)
      base := by
  decide +kernel
theorem test_RegistersAreReadAndWritten_9 :
    (fun (s : State) (o : Nat) (n : Nat) (_ : Bool) =>
      s.ub = none ∧ o + n ≤ 2 ^ 26 ∧ (n = 4 ∨ n = 8) ∧ o % n = 0)
      base 0x3FFFFF8 8 true ∧
    (fun (s : State) (o : Nat) (n : Nat) (_ : Bool) =>
      s.ub = none ∧ o + n ≤ 2 ^ 26 ∧ s.glb.state ≠ .reset ∧ ¬((n = 4 ∨ n = 8) ∧ o % n = 0))
      base 0x3FFFFFC 3 false := by
  decide +kernel
theorem test_HoldsKeepTheHalvesTogether_1 :
    (fun (s : State) (m : Fin 3) (o : Nat) =>
      s.ub = none ∧ s.glb.state ≠ .reset ∧ s.wideAt o = some o ∧ m = 1)
      base 1 0x10008 := by
  decide +kernel
theorem test_HoldsKeepTheHalvesTogether_2 :
    (fun (s : State) (o : Nat) =>
      s.ub = none ∧ s.glb.state ≠ .reset ∧ s.wideAt o = none ∧ o % 8 = 0 ∧ o < bar4End)
      base 0x40 := by
  decide +kernel
theorem test_HoldsKeepTheHalvesTogether_3 :
    (fun (s : State) (_ : Fin 3) (lo : Nat) =>
      s.ub = none ∧ s.glb.state ≠ .reset ∧ s.wideAt (lo + 4) = some lo)
      (held { readHold := some (0x10008, 7, 10 ^ 12 - 2000) }) 0 0x10008 := by
  decide +kernel
theorem test_HoldsKeepTheHalvesTogether_4 :
    (fun (s : State) (_ : Fin 3) (o : Nat) (_ : Word) =>
      s.ub = none ∧ s.glb.state ≠ .reset ∧ s.wideAt o = some o)
      base 0 0x727E0 7 := by
  decide +kernel
theorem test_HoldsKeepTheHalvesTogether_5 :
    (fun (s : State) (_ : Fin 3) (lo : Nat) (_ : Word) (x : RegView) =>
      s.ub = none ∧ s.glb.state ≠ .reset ∧ s.wideAt (lo + 4) = some lo ∧ s.reg64 lo = some x)
      (held { writeHold := some (0x727E0, 7, 10 ^ 12 - 2000) }) 0 0x727E0 9 { value := 0 } := by
  decide +kernel
theorem test_HoldsKeepTheHalvesTogether_6 :
    (fun (s : State) (m : Fin 3) (o : Nat) (v : Word) (k : Nat) =>
      s.ub = none ∧ s.tick ≤ k + us 10 ∧ (s.mst (masterOf ↑m)).readHold = some (o, v.toNat, k))
      (held { readHold := some (0x10008, 7, 10 ^ 12 - 2000) }) 0 0x10008 7 (10 ^ 12 - 2000) ∧
    (fun (s : State) (m : Fin 3) (o : Nat) (v : Word) (k : Nat) =>
      s.ub = none ∧ s.tick ≤ k + us 10 ∧ (s.mst (masterOf ↑m)).writeHold = some (o, v, k))
      (held { writeHold := some (0x10008, 7, 10 ^ 12 - 2000) }) 0 0x10008 7 (10 ^ 12 - 2000) := by
  decide +kernel
theorem test_HoldsKeepTheHalvesTogether_7 :
    (fun (s : State) (m : Fin 3) (o : Nat) (v : Nat) (k : Nat) =>
      s.ub = none ∧ k + us 10 < s.tick ∧ (s.mst (masterOf ↑m)).readHold = some (o, v, k))
      (held { readHold := some (0x10008, 7, 10 ^ 12 - 2001) }) 0 0x10008 7 (10 ^ 12 - 2001) := by
  decide +kernel
theorem test_HoldsKeepTheHalvesTogether_8 :
    (fun (s : State) (m : Fin 3) (o : Nat) (k : Nat) (v : Word) =>
      s.ub = none ∧ k + us 10 < s.tick ∧ (s.mst (masterOf ↑m)).writeHold = some (o, v, k))
      (held { writeHold := some (0x10008, 7, 10 ^ 12 - 2001) }) 0 0x10008 (10 ^ 12 - 2001) 7 := by
  decide +kernel
theorem test_SnapshotsShowOneTick_1 :
    (fun (s : State) (c : CmdItem) =>
      Starts s 0x58 c ∧ s.snap.request = none ∧ s.snap.taking = none)
      (waits base (item 0x58 0 0x48C282A7400)) (item 0x58 0 0x48C282A7400) ∧
    (fun (s : State) (c : CmdItem) =>
      Starts s 0x58 c ∧ (s.snap.request ≠ none ∨ s.snap.taking ≠ none))
      { waits base (item 0x58) with snap.taking := some (item 0x58) } (item 0x58) := by
  unfold Starts; decide +kernel
theorem test_SnapshotsShowOneTick_2 :
    (fun (s : State) (c : CmdItem) (k : Nat) (e : SchedEvent) =>
      s.ub = none ∧ s.snap.request = some (c, k) ∧ e ∈ s.tmb.sched ∧ e.kind = .snapshot ∧ e.fired = true ∧ s.commitDue = false)
      { base with snap.request := some (item 0x58, 5), tmb.sched := [firedSnap] } (item 0x58) 5 firedSnap ∧
    (fun (s : State) (c : CmdItem) (k : Nat) (e : SchedEvent) =>
      s.ub = none ∧ s.snap.request = some (c, k) ∧ e ∈ s.tmb.sched ∧ e.kind = .snapshot ∧ e.fired = true ∧ s.commitDue = true)
      { due {} with snap.request := some (item 0x58, 5), tmb.sched := [{ firedSnap with kind := .commit }, firedSnap] } (item 0x58) 5 firedSnap := by
  decide +kernel
theorem test_SnapshotsShowOneTick_3 :
    (fun (s : State) (c : CmdItem) (l : LongCmd) =>
      s.ub = none ∧ s.snap.taking = some c ∧ List.find? (fun l => decide (l.op = LongOp.snapshot) && decide (l.item = c)) s.cmd.long = some l)
      { long base (item 0x58) .snapshot with snap.taking := some (item 0x58), snap.tick := 77 } (item 0x58)
        { item := item 0x58, op := .snapshot, since := 1 } := by
  decide +kernel
theorem test_ScratchpadReadsCorrectAndWritesClean_1 :
    (fun (s : State) (_ : Fin 24) (a : Nat) (n : Nat) =>
      s.ub = none ∧ s.glb.state ≠ .reset ∧ 1 ≤ n ∧ a + n ≤ padBytes)
      (cell { data := 7 }) 21 0x1FFFFFF 1 := by
  decide +kernel
theorem test_ScratchpadReadsCorrectAndWritesClean_2 :
    (fun (s : State) (_ : Fin 24) (a : Nat) (bs : List Byte) =>
      s.ub = none ∧ s.glb.state ≠ .reset ∧ 1 ≤ bs.length ∧ a + bs.length ≤ padBytes)
      base 20 0x1800000 [7] := by
  decide +kernel
theorem test_ScratchpadReadsCorrectAndWritesClean_3 :
    (fun (s : State) (b : Fin 128) =>
      s.ub = none ∧ (s.bank ↑b).power = .retain ∧ (s.bank ↑b).awake = true ∧ s.passed (s.bank ↑b).lastUse (us 100) = true)
      (bankOfState { power := .retain, lastUse := 10 ^ 12 - 20000 }) 127 ∧
    (fun (s : State) (b : Fin 128) =>
      s.ub = none ∧ ((s.bank ↑b).power ≠ .retain ∨ s.passed (s.bank ↑b).lastUse (us 100) = false))
      (bankOfState { power := .retain, lastUse := 10 ^ 12 - 19999 }) 127 := by
  decide +kernel
theorem test_BanksScrubsAndInjectedErrors_1 :
    (fun (s : State) (c : CmdItem) =>
      Starts s 0x61 c ∧ s.bankMay (c.a 6 0) (c.a 9 8) = false)
      (waits base (item 0x61 0x37F)) (item 0x61 0x37F) ∧
    (fun (s : State) (c : CmdItem) =>
      Starts s 0x61 c ∧ s.bankMay (c.a 6 0) (c.a 9 8) = true)
      (waits base (item 0x61 0x27F)) (item 0x61 0x27F) := by
  unfold Starts; decide +kernel
theorem test_BanksScrubsAndInjectedErrors_2 :
    (fun (s : State) (c : CmdItem) =>
      Starts s 0x60 c ∧ (c.b 33 0 / 64 * 64 + c.a 30 0 * 64 ≤ if c.a 31 31 = 1 then storeBytes else padBytes) ∧
        (s.longOf fun o => match o with | .scrub .. => true | _ => false) = none)
      (waits base (item 0x60 1 0x1FFFFC0)) (item 0x60 1 0x1FFFFC0) ∧
    (fun (s : State) (c : CmdItem) =>
      Starts s 0x60 c ∧ (if c.a 31 31 = 1 then storeBytes else padBytes) < c.b 33 0 / 64 * 64 + c.a 30 0 * 64)
      (waits base (item 0x60 2 0x1FFFFC0)) (item 0x60 2 0x1FFFFC0) ∧
    (fun (s : State) (c : CmdItem) =>
      Starts s 0x60 c ∧ (c.b 33 0 / 64 * 64 + c.a 30 0 * 64 ≤ if c.a 31 31 = 1 then storeBytes else padBytes) ∧
        (s.longOf fun o => match o with | .scrub .. => true | _ => false).isSome = true)
      { long base (item 0x60) (.scrub false 0 64) with cmd.queue := [item 0x60 0x80000001 0x3FFFFFFFF] } (item 0x60 0x80000001 0x3FFFFFFFF) := by
  unfold Starts; decide +kernel
theorem test_BanksScrubsAndInjectedErrors_3 :
    (fun (s : State) (l : LongCmd) (store : Bool) (start : Nat) (n : Nat) =>
      s.ub = none ∧ List.find? (fun l => match l.op with | .scrub .. => true | _ => false) s.cmd.long = some l ∧ l.op = LongOp.scrub store start n)
      { long base (item 0x60) (.scrub false 0 64) with mem.pad := [(5, { data := 7, flips := 1 }), (63, { data := 7, flips := 3 }), (64, { flips := 1 })] } { item := item 0x60, op := .scrub false 0 64, since := 1 } false 0 64 := by
  decide +kernel
theorem test_BanksScrubsAndInjectedErrors_4 :
    (fun (s : State) (c : CmdItem) =>
      Starts s 0x64 c ∧ c.a 31 31 = 1 ∧ 72 ≤ c.a 6 0)
      (waits base (item 0x64 0x80000048 0)) (item 0x64 0x80000048 0) ∧
    (fun (s : State) (c : CmdItem) =>
      Starts s 0x64 c ∧ c.a 31 31 = 0 ∧ (padBytes ≤ c.opB.toNat ∨ 14 ≤ c.a 6 0))
      (waits base (item 0x64 14 5)) (item 0x64 14 5) ∧
    (fun (s : State) (c : CmdItem) =>
      Starts s 0x64 c ∧ c.a 31 31 = 0 ∧ c.opB.toNat < padBytes ∧ c.a 6 0 < 14)
      (waits base (item 0x64 0x4000000D 0x1FFFFFF)) (item 0x64 0x4000000D 0x1FFFFFF) ∧
    (fun (s : State) (c : CmdItem) =>
      Starts s 0x64 c ∧ c.a 31 31 = 1 ∧ c.a 6 0 < 72 ∧ c.b 2 0 = 0 ∧ c.b 33 3 < 2139095040)
      (waits base (item 0x64 0xC0000047 0x3FBFFFFF8)) (item 0x64 0xC0000047 0x3FBFFFFF8) := by
  unfold Starts; decide +kernel
theorem test_StoreTransfersCopyWords_1 :
    (fun (s : State) (c : CmdItem) =>
      Starts s 0x62 c ∧ 31457280 ≤ c.a 24 6 * 64 ∧ c.a 24 6 * 64 + (c.a 31 25 + 1) * 64 ≤ padBytes ∧
        c.b 33 6 * 64 + (c.a 31 25 + 1) * 64 ≤ storeBytes)
      (waits base (item 0x62 0x01E00000 0)) (item 0x62 0x01E00000 0) ∧
    (fun (s : State) (c : CmdItem) =>
      Starts s 0x62 c ∧
        (c.a 24 6 * 64 < 31457280 ∨ padBytes < c.a 24 6 * 64 + (c.a 31 25 + 1) * 64 ∨ storeBytes < c.b 33 6 * 64 + (c.a 31 25 + 1) * 64))
      (waits base (item 0x62 0x01DFFFC0 0)) (item 0x62 0x01DFFFC0 0) := by
  unfold Starts; decide +kernel
theorem test_StoreTransfersCopyWords_2 :
    (fun (s : State) (c : CmdItem) =>
      Starts s 0x63 c ∧
        (c.a 24 6 * 64 < 31457280 ∨ padBytes < c.a 24 6 * 64 + (c.a 31 25 + 1) * 64 ∨ s.st.touchesStall (c.b 33 6 * 64) ((c.a 31 25 + 1) * 64) =
          true) ∧ 17112760320 < c.b 33 6 * 64 + (c.a 31 25 + 1) * 64)
      (waits base (item 0x63 0x01E00000 0x3FC000000)) (item 0x63 0x01E00000 0x3FC000000) ∧
    (fun (s : State) (c : CmdItem) =>
      Starts s 0x63 c ∧ 31457280 ≤ c.a 24 6 * 64 ∧ c.a 24 6 * 64 + (c.a 31 25 + 1) * 64 ≤ padBytes ∧
        s.st.touchesStall (c.b 33 6 * 64) ((c.a 31 25 + 1) * 64) = false)
      (waits base (item 0x63 0x01FFFFC0 0x3FBFFFFC0)) (item 0x63 0x01FFFFC0 0x3FBFFFFC0) := by
  unfold Starts; decide +kernel
theorem test_StoreTransfersCopyWords_3 :
    (fun (s : State) (l : LongCmd) (store : Nat) (host : Nat) (n : Nat) =>
      s.ub = none ∧ List.find? (fun l => match l.op with | .storeRead .. => true | .storeWrite .. => true | _ => false) s.cmd.long = some l ∧
        l.op = LongOp.storeRead store host n)
      { long base (item 0x62) (.storeRead 0 0x1E00000 1) with mem.store := [(0, { data := 0x0102030405060708 }), (7, { data := 5, poison := true })] } { item := item 0x62, op := .storeRead 0 0x1E00000 1, since := 1 } 0 0x1E00000 1 := by
  decide +kernel
theorem test_StoreTransfersCopyWords_4 :
    (fun (s : State) (l : LongCmd) (store : Nat) (host : Nat) (n : Nat) =>
      s.ub = none ∧ List.find? (fun l => match l.op with | .storeRead .. => true | .storeWrite .. => true | _ => false) s.cmd.long = some l ∧
        l.op = LongOp.storeWrite store host n)
      { long base (item 0x63) (.storeWrite 64 0x1E00000 1) with mem.pad := [(0x1E00000, { data := 9 }), (0x1E00010, { data := 5, poison := true })], mem.store := [(8, { data := 77 }), (16, { data := 8 })] } { item := item 0x63, op := .storeWrite 64 0x1E00000 1, since := 1 } 64 0x1E00000 1 := by
  decide +kernel
theorem test_TrimsAndWindowsAreServed_1 :
    (fun (s : State) (c : CmdItem) =>
      Starts s 0x68 c ∧ s.cal.recal = none)
      (waits base (item 0x68 767)) (item 0x68 767) ∧
    (fun (s : State) (c : CmdItem) =>
      Starts s 0x68 c ∧ s.cal.recal ≠ none)
      { waits base (item 0x68 767) with cal.recal := some 0 } (item 0x68 767) := by
  unfold Starts; decide +kernel
theorem test_TrimsAndWindowsAreServed_2 :
    (fun (s : State) (x : SpokeCal) =>
      s.ub = none ∧ (Instr.recalibrateDone x).wf = true ∧ (s.cal.recal ≠ some x.spoke ∨ s.passed s.cal.recalSince (ms 2000) = false))
      base aCal ∧
    (fun (s : State) (x : SpokeCal) =>
      s.ub = none ∧ (Instr.recalibrateDone x).wf = true ∧ s.cal.recal = some x.spoke ∧ s.passed s.cal.recalSince (ms 2100) = true)
      { long base (item 0x68 767) (.recalibrate 767) with cal.recal := some 767, cal.recalSince := 10 ^ 12 - 420000000, path.spokes := [(767, { quarantined := true })] } aCal ∧
    (fun (s : State) (x : SpokeCal) =>
      s.ub = none ∧ (Instr.recalibrateDone x).wf = true ∧ s.cal.recal = some x.spoke ∧ s.passed s.cal.recalSince (ms 2000) = true ∧
        s.passed s.cal.recalSince (ms 2100) = false ∧ s.cal.recalFound = none)
      { long base (item 0x68 767) (.recalibrate 767) with cal.recal := some 767, cal.recalSince := 10 ^ 12 - 400000000, path.spokes := [(767, { quarantined := true })] } aCal := by
  decide +kernel
theorem test_TrimsAndWindowsAreServed_3 :
    (fun (s : State) (c : CmdItem) =>
      Starts s 0x69 c ∧ 24 < c.a 14 10)
      (waits base (item 0x69 0x6400)) (item 0x69 0x6400) ∧
    (fun (s : State) (c : CmdItem) =>
      Starts s 0x69 c ∧ c.a 14 10 ≤ 24 ∧ s.cal.recal = some (c.a 9 0))
      { waits base (item 0x69 0x62FF) with cal.recal := some 767 } (item 0x69 0x62FF) ∧
    (fun (s : State) (c : CmdItem) =>
      Starts s 0x69 c ∧ c.a 14 10 ≤ 24 ∧ s.cal.recal ≠ some (c.a 9 0))
      (waits base (item 0x69 0x62FF 0x80003FF)) (item 0x69 0x62FF 0x80003FF) := by
  unfold Starts; decide +kernel
theorem test_TrimsAndWindowsAreServed_4 :
    (fun (s : State) (c : CmdItem) =>
      Starts s 0x6A c ∧ (s.window (c.a 5 0)).latched = false)
      (waits base (item 0x6A 63)) (item 0x6A 63) ∧
    (fun (s : State) (c : CmdItem) =>
      Starts s 0x6A c ∧ (s.window (c.a 5 0)).latched = true)
      { waits base (item 0x6A 63) with hlt.windows := [(63, { latched := true, history := [5] })] } (item 0x6A 63) := by
  unfold Starts; decide +kernel
theorem test_TrimsAndWindowsAreServed_5 :
    (fun (s : State) (w : Fin 64) =>
      s.ub = none ∧ ((s.window ↑w).latched = false ∨ s.st.winRearm ↑w = false ∨ s.passed (s.window ↑w).last (ms (s.st.winMs ↑w)) = false))
      base 63 ∧
    (fun (s : State) (w : Fin 64) =>
      s.ub = none ∧ (s.window ↑w).latched = true ∧ s.st.winRearm ↑w = true ∧ s.passed (s.window ↑w).last (ms (s.st.winMs ↑w)) = true)
      { base with cfg.committed.window := [(63, [0x80400000, 1, 1])], hlt.windows := [(63, { latched := true, history := [5], last := 10 ^ 12 - 200000 })] } 63 := by
  decide +kernel
theorem test_UpdatesAreReceivedCheckedAndInstalled_1 :
    (fun (i : Instr) (op : Nat) (s : State) (c : CmdItem) =>
      (i, op) ∈ [(Instr.updateData, 112), (Instr.updateEnd, 113), (Instr.updateAbort, 114), (Instr.commitImage, 115), (Instr.saveSettings, 116)] ∧
        Starts s op c ∧ c.service = true)
      .updateData 0x70 (waits base { item 0x70 with service := true }) { item 0x70 with service := true } ∧
    (fun (i : Instr) (op : Nat) (s : State) (c : CmdItem) (x : Session) =>
      (i, op) ∈ [(Instr.updateData, 112), (Instr.updateEnd, 113), (Instr.updateAbort, 114), (Instr.commitImage, 115), (Instr.saveSettings, 116)] ∧
        Starts s op c ∧ c.service = false ∧ s.ldr.session = some x ∧ x.owner ≠ masterNum c.master)
      .updateEnd 0x71 { waits base (item 0x71) with ldr.session := some { aSession [] with owner := 1 } } (item 0x71) { aSession [] with owner := 1 }
        := by
  unfold Starts; decide +kernel
theorem test_UpdatesAreReceivedCheckedAndInstalled_2 :
    (fun (s : State) (c : CmdItem) =>
      Starts s 0x70 c ∧ (c.service = false ∧ ∀ x ∈ s.ldr.session, x.owner = masterNum c.master) ∧ c.updateLength = none)
      (waits base (item 0x70 0x80000000 0)) (item 0x70 0x80000000 0) ∧
    (fun (s : State) (c : CmdItem) (n : Nat) =>
      Starts s 0x70 c ∧ (c.service = false ∧ ∀ x ∈ s.ldr.session, x.owner = masterNum c.master) ∧ s.ldr.session = none ∧ c.updateLength = some n ∧
        (c.a 23 0 ≠ (s.ldr.buffers.get [] (masterNum c.master)).length ∨ 512 < c.a 23 0 + n))
      (waits base (item 0x70 8 0)) (item 0x70 8 0) 8 ∧
    (fun (s : State) (c : CmdItem) =>
      Starts s 0x70 c ∧ (c.service = false ∧ ∀ x ∈ s.ldr.session, x.owner = masterNum c.master) ∧ s.ldr.session = none ∧ c.a 31 31 = 0 ∧
        c.a 23 0 + 8 = (s.ldr.buffers.get [] (masterNum c.master) ++ leBytes 8 (c.opB.toNat)).length ∧
        (s.ldr.buffers.get [] (masterNum c.master) ++ leBytes 8 (c.opB.toNat)).length < 512)
      (waits base (item 0x70 0 0x57464851)) (item 0x70 0 0x57464851) ∧
    (fun (s : State) (c : CmdItem) (n : Nat) =>
      Starts s 0x70 c ∧ (c.service = false ∧ ∀ x ∈ s.ldr.session, x.owner = masterNum c.master) ∧ s.ldr.session = none ∧ c.a 31 31 = 1 ∧
        c.updateLength = some n ∧ (∀ (i : Nat), i < n → (s.cellAt (c.b 24 0 + i)).flips = 0) ∧
        c.a 23 0 + n = (s.ldr.buffers.get [] (masterNum c.master) ++ List.map (fun i => (s.cellAt (c.b 24 0 + i)).data) (List.range n)).length ∧
        (s.ldr.buffers.get [] (masterNum c.master) ++ List.map (fun i => (s.cellAt (c.b 24 0 + i)).data) (List.range n)).length ≤ 512)
      (waits base (item 0x70 0x80000000 0x800000000)) (item 0x70 0x80000000 0x800000000) 512 ∧
    (fun (s : State) (c : CmdItem) (code : Nat) =>
      Starts s 0x70 c ∧ (c.service = false ∧ ∀ x ∈ s.ldr.session, x.owner = masterNum c.master) ∧ s.ldr.session = none ∧ c.a 31 31 = 0 ∧
        c.a 23 0 + 8 = (s.ldr.buffers.get [] (masterNum c.master) ++ leBytes 8 (c.opB.toNat)).length ∧
        (s.ldr.buffers.get [] (masterNum c.master) ++ leBytes 8 (c.opB.toNat)).length = 512 ∧
        ({ header := headerWords (s.ldr.buffers.get [] (masterNum c.master) ++ leBytes 8 (c.opB.toNat)), body := [] } : FwImage).headerCheck
        (settingsLegacy s.ldr.settings) s.ldr.flash = some code)
      { waits base (item 0x70 504 1) with ldr.buffers := [(0, List.replicate 504 0)] } (item 0x70 504 1) 0x60 ∧
    (fun (s : State) (c : CmdItem) (x : Session) (n : Nat) =>
      Starts s 0x70 c ∧ (c.service = false ∧ ∀ x ∈ s.ldr.session, x.owner = masterNum c.master) ∧ s.ldr.session = some x ∧ c.updateLength = some n ∧
        (c.a 23 0 ≠ x.received ∨ 512 + x.image.bodyLen < c.a 23 0 + n))
      (updating [] (item 0x70 513 1)) (item 0x70 513 1) (aSession []) 8 ∧
    (fun (s : State) (c : CmdItem) (x : Session) (n : Nat) (bytes : List Byte) =>
      Starts s 0x70 c ∧ (c.service = false ∧ ∀ x ∈ s.ldr.session, x.owner = masterNum c.master) ∧ s.ldr.session = some x ∧ c.updateLength = some n ∧
        c.a 23 0 = x.received ∧ c.a 23 0 + n ≤ 512 + x.image.bodyLen ∧ (c.a 31 31 = 0 ∧ bytes = leBytes 8 (c.opB.toNat) ∨ c.a 31 31 = 1 ∧
        (∀ (i : Nat), i < n → (s.cellAt (c.b 24 0 + i)).flips = 0) ∧ bytes = List.map (fun i => (s.cellAt (c.b 24 0 + i)).data) (List.range n)))
      (updating [] (item 0x70 512 1)) (item 0x70 512 1) (aSession []) 8 (leBytes 8 1) := by
  unfold Starts; refine ⟨?_, ?_, ?_, ?_, ?_⟩ <;> decide +kernel
theorem test_UpdatesAreReceivedCheckedAndInstalled_3 :
    (fun (s : State) (_ : Bool) (l : LongCmd) (offset : Nat) (bs : List Byte) =>
      s.ub = none ∧ s.glb.state ≠ .reset ∧ (s.longOf fun o => match o with | .updateData .. => true | _ => false) = some l ∧
        l.op = LongOp.updateData offset bs)
      (long base (item 0x70) (.updateData 8 [1, 2])) true { item := item 0x70, op := .updateData 8 [1, 2], since := 1 } 8 [1, 2] := by
  decide +kernel
theorem test_UpdatesAreReceivedCheckedAndInstalled_4 :
    (fun (s : State) (c : CmdItem) =>
      Starts s 0x71 c ∧ (c.service = false ∧ ∀ x ∈ s.ldr.session, x.owner = masterNum c.master) ∧ s.ldr.session = none)
      (waits base (item 0x71 1)) (item 0x71 1) ∧
    (fun (s : State) (c : CmdItem) (x : Session) =>
      Starts s 0x71 c ∧ (c.service = false ∧ ∀ x ∈ s.ldr.session, x.owner = masterNum c.master) ∧ s.ldr.session = some x ∧
        x.body.length ≠ x.image.bodyLen)
      (updating [] (item 0x71 1)) (item 0x71 1) (aSession []) ∧
    (fun (s : State) (c : CmdItem) (x : Session) =>
      Starts s 0x71 c ∧ (c.service = false ∧ ∀ x ∈ s.ldr.session, x.owner = masterNum c.master) ∧ s.ldr.session = some x ∧
        x.body.length = x.image.bodyLen)
      (updating (List.replicate 16 0) (item 0x71 1)) (item 0x71 1) (aSession (List.replicate 16 0)) := by
  unfold Starts; decide +kernel
theorem test_UpdatesAreReceivedCheckedAndInstalled_5 :
    (fun (s : State) (_ : Bool) (activate : Bool) (l : LongCmd) =>
      s.ub = none ∧ s.glb.state ≠ .reset ∧ (s.longOf fun o => match o with | .updateEnd .. => true | _ => false) = some l ∧
        l.op = LongOp.updateEnd activate ∧ s.ldr.session = none)
      (long base (item 0x71) (.updateEnd true)) true true { item := item 0x71, op := .updateEnd true, since := 1 } ∧
    (fun (s : State) (ok : Bool) (activate : Bool) (l : LongCmd) (x : Session) (code : Nat) (cause : Nat) =>
      s.ub = none ∧ s.glb.state ≠ .reset ∧ (s.longOf fun o => match o with | .updateEnd .. => true | _ => false) = some l ∧
        l.op = LongOp.updateEnd activate ∧ s.ldr.session = some x ∧ (s.longOf fun o => match o with | .updateData .. => true | _ => false) = none ∧
        s.updateFailure x ok = some (code, cause))
      { long base (item 0x71) (.updateEnd true) with ldr.session := some { aSession [] with flashBad := true } } true true
        { item := item 0x71, op := .updateEnd true, since := 1 } { aSession [] with flashBad := true } 0x6C 4 := by
  decide +kernel
theorem test_SessionsEndAndImagesAreCommitted_1 :
    (fun (s : State) (c : CmdItem) =>
      Starts s 0x72 c ∧ (c.service = false ∧ ∀ x ∈ s.ldr.session, x.owner = masterNum c.master) ∧ s.ldr.session = none)
      (waits base (item 0x72)) (item 0x72) ∧
    (fun (s : State) (c : CmdItem) (x : Session) =>
      Starts s 0x72 c ∧ (c.service = false ∧ ∀ x ∈ s.ldr.session, x.owner = masterNum c.master) ∧ s.ldr.session = some x)
      { updating [] (item 0x72) with cmd.long := [{ item := item 0x70, op := .updateData 8 [1, 2], since := 1 }] } (item 0x72) (aSession []) := by
  unfold Starts; decide +kernel
theorem test_SessionsEndAndImagesAreCommitted_2 :
    (fun (s : State) (x : Session) =>
      s.ub = none ∧ s.ldr.session = some x ∧ s.glb.state ≠ .reset ∧ s.glb.state ≠ .warmRestart ∧ s.passed x.lastTick (30 * Config.ticksPerS) = true)
      { updating [] (item 0x72) with ldr.session := some (aSession []) } (aSession []) ∧
    (fun (s : State) (x : Session) =>
      s.ub = none ∧ s.ldr.session = some x ∧ (s.glb.state = .warmRestart ∨ s.passed x.lastTick (30 * Config.ticksPerS) = false))
      { base with ldr.session := some { aSession [] with lastTick := 10 ^ 12 - 5999999999 } } { aSession [] with lastTick := 10 ^ 12 - 5999999999 }
        := by
  decide +kernel
theorem test_SessionsEndAndImagesAreCommitted_3 :
    (fun (s : State) (c : CmdItem) =>
      Starts s 0x73 c ∧ (c.service = false ∧ ∀ x ∈ s.ldr.session, x.owner = masterNum c.master) ∧ s.ldr.onTrial = true)
      { waits base (item 0x73) with ldr.probationFrom := some 5 } (item 0x73) ∧
    (fun (s : State) (c : CmdItem) =>
      Starts s 0x73 c ∧ (c.service = false ∧ ∀ x ∈ s.ldr.session, x.owner = masterNum c.master) ∧ s.ldr.onTrial = false ∧
        s.ldr.probationFailed = true)
      { waits base (item 0x73) with ldr.probationFailed := true } (item 0x73) ∧
    (fun (s : State) (c : CmdItem) =>
      Starts s 0x73 c ∧ (c.service = false ∧ ∀ x ∈ s.ldr.session, x.owner = masterNum c.master) ∧ s.ldr.onTrial = false ∧
        s.ldr.probationFailed = false ∧ s.ldr.committed = true)
      { waits base (item 0x73) with ldr.committed := true } (item 0x73) ∧
    (fun (s : State) (c : CmdItem) (f : FwImage) =>
      Starts s 0x73 c ∧ (c.service = false ∧ ∀ x ∈ s.ldr.session, x.owner = masterNum c.master) ∧ s.ldr.onTrial = false ∧
        s.ldr.probationFailed = false ∧ s.ldr.committed = false ∧ s.ldr.image = some f)
      { waits base (item 0x73) with ldr.image := some { header := [0x57464851], body := [] } } (item 0x73) { header := [0x57464851], body := [] } :=
        by
  unfold Starts; decide +kernel
theorem test_SessionsEndAndImagesAreCommitted_4 :
    (fun (s : State) (c : CmdItem) =>
      Starts s 0x74 c ∧ (c.service = false ∧ ∀ x ∈ s.ldr.session, x.owner = masterNum c.master))
      (waits base (item 0x74)) (item 0x74) := by
  unfold Starts; decide +kernel
theorem test_SessionsEndAndImagesAreCommitted_5 :
    (fun (s : State) (l : LongCmd) =>
      s.ub = none ∧ s.glb.state ≠ .reset ∧ (s.longOf fun o => decide (o = LongOp.saveSettings) || decide (o = LongOp.setAddress)) = some l)
      (long base (item 0x74) .saveSettings) { item := item 0x74, op := .saveSettings, since := 1 } := by
  decide +kernel
theorem test_SessionsEndAndImagesAreCommitted_6 :
    (fun (s : State) (c : CmdItem) =>
      Starts s 0x75 c ∧ c.service = true)
      (waits base { item 0x75 with service := true }) { item 0x75 with service := true } ∧
    (fun (s : State) (c : CmdItem) =>
      Starts s 0x75 c ∧ c.service = false ∧ c.master ≠ .spi)
      (waits base { item 0x75 with master := .pcie }) { item 0x75 with master := .pcie } ∧
    (fun (s : State) (c : CmdItem) =>
      Starts s 0x75 c ∧ c.service = false ∧ c.master = .spi ∧ s.glb.state ≠ .recovery)
      (waits base (item 0x75)) (item 0x75) ∧
    (fun (s : State) (c : CmdItem) =>
      Starts s 0x75 c ∧ c.service = false ∧ c.master = .spi ∧ s.glb.state = .recovery ∧ (∀ x ∈ s.ldr.session, x.owner = 0) ∧
        (c.a 24 0 < 31457280 ∨ padBytes < c.a 24 0 + 116))
      (inRecovery (item 0x75 0x1DFFFFF)) (item 0x75 0x1DFFFFF) ∧
    (fun (s : State) (c : CmdItem) =>
      Starts s 0x75 c ∧ c.service = false ∧ c.master = .spi ∧ s.glb.state = .recovery ∧ (∀ x ∈ s.ldr.session, x.owner = 0) ∧ 31457280 ≤ c.a 24 0 ∧
        c.a 24 0 + 116 ≤ padBytes ∧ ∀ (i : Nat), i < 116 → (s.cellAt (c.a 24 0 + i)).flips = 0)
      { inRecovery (item 0x75 0x1FFFF8C) with mem.pad := [(0x1FFFF8C, { data := 7 })] } (item 0x75 0x1FFFF8C) ∧
    (fun (s : State) (c : CmdItem) (x : Session) =>
      Starts s 0x75 c ∧ c.service = false ∧ c.master = .spi ∧ s.glb.state = .recovery ∧ s.ldr.session = some x ∧ x.owner ≠ 0)
      { inRecovery (item 0x75) with ldr.session := some { aSession [] with owner := 2 } } (item 0x75) { aSession [] with owner := 2 } := by
  unfold Starts; decide +kernel
theorem test_WindowsDeclareLastingFaults_1 :
    (fun (s : State) (cls : Nat) (inst : Nat) (w : Nat) (x : Nat) =>
      s.ub = none ∧ s.pending = [] ∧ s.glb.state ≠ .reset ∧ s.hlt.due = [(cls, inst)] ∧ s.st.watching cls inst = [w] ∧ x ≠ w ∧
        s.passedOpt (s.window w).noteTick Config.ticksPerS = true ∧ lasts s w = true ∧ s.glb.state ≠ .fault ∧
        actionRun (s.st.winAction w) cls inst = 5)
      (watched 5 5 3 1) 5 3 63 5 ∧
    (fun (s : State) (cls : Nat) (inst : Nat) (w : Nat) (i : Nat) =>
      s.ub = none ∧ s.pending = [] ∧ s.glb.state ≠ .reset ∧ s.hlt.due = [(cls, inst)] ∧ s.st.watching cls inst = [w] ∧ lasts s w = true ∧
        s.glb.state ≠ .fault ∧ actionRun (s.st.winAction w) cls inst = 5 ∧ i < 768)
      (watched 5 5 3 1) 5 3 63 5 ∧
    (fun (s : State) (cls : Nat) (inst : Nat) (w : Nat) (i : Nat) =>
      s.ub = none ∧ s.pending = [] ∧ s.glb.state ≠ .reset ∧ s.hlt.due = [(cls, inst)] ∧ s.st.watching cls inst = [w] ∧ lasts s w = true ∧
        s.glb.state ≠ .fault ∧ actionRun (s.st.winAction w) cls inst = 5 ∧ i < 768 ∧ (s.spoke i).quarantined = false)
      (watched 5 5 3 1) 5 3 63 5 ∧
    (fun (s : State) (cls : Nat) (inst : Nat) (w : Nat) (l : Nat) =>
      s.ub = none ∧ s.pending = [] ∧ s.glb.state ≠ .reset ∧ s.hlt.due = [(cls, inst)] ∧ s.st.watching cls inst = [w] ∧ lasts s w = true ∧
        s.glb.state ≠ .fault ∧ actionRun (s.st.winAction w) cls inst = 5 ∧ l < 48)
      (watched 5 5 3 1) 5 3 63 5 ∧
    (fun (s : State) (cls : Nat) (inst : Nat) (w : Nat) (x : Nat) =>
      s.ub = none ∧ s.pending = [] ∧ s.glb.state ≠ .reset ∧ s.hlt.due = [(cls, inst)] ∧ s.st.watching cls inst = [w] ∧ x ≠ w ∧
        s.passedOpt (s.window w).noteTick Config.ticksPerS = false ∧ lasts s w = false ∧ cls ≠ 11)
      (watched 5 0 3 2 { history := [10 ^ 12 - 20000000], noteTick := some (10 ^ 12 - 5), noteCount := 7 }) 5 3 63 5 ∧
    (fun (s : State) (cls : Nat) (inst : Nat) (w : Nat) (i : Nat) (j : Nat) =>
      s.ub = none ∧ s.pending = [] ∧ s.glb.state ≠ .reset ∧ s.hlt.due = [(cls, inst)] ∧ s.st.watching cls inst = [w] ∧ lasts s w = true ∧
        s.glb.state ≠ .fault ∧ actionRun (s.st.winAction w) cls inst = 1 ∧ spokeOfInstance cls inst = some i ∧ s.cal.recal ≠ some i ∧
        (s.spoke i).quarantined = false ∧ j ≠ i)
      (watched 5 1 3 1) 5 3 63 3 7 ∧
    (fun (s : State) (cls : Nat) (inst : Nat) (w : Nat) (x : Nat) =>
      s.ub = none ∧ s.pending = [] ∧ s.glb.state ≠ .reset ∧ s.hlt.due = [(cls, inst)] ∧ s.st.watching cls inst = [w] ∧ x ≠ w ∧
        s.passedOpt (s.window w).noteTick Config.ticksPerS = true ∧ lasts s w = true ∧ s.glb.state ≠ .fault ∧
        actionRun (s.st.winAction w) cls inst = 2 ∧ inst < 4 ∧ (s.lane inst).state ≠ .off)
      (watched 3 2 1 1) 3 1 63 5 ∧
    (fun (s : State) (cls : Nat) (inst : Nat) (w : Nat) (x : Nat) =>
      s.ub = none ∧ s.pending = [] ∧ s.glb.state ≠ .reset ∧ s.hlt.due = [(cls, inst)] ∧ s.st.watching cls inst = [w] ∧ x ≠ w ∧
        s.passedOpt (s.window w).noteTick Config.ticksPerS = true ∧ lasts s w = true ∧ s.glb.state ≠ .fault ∧ s.glb.state ≠ .warmRestart ∧
        s.ldr.halted = false ∧ actionRun (s.st.winAction w) cls inst = 3 ∧ cls ≠ 11 ∧ s.cmd.long.length ≤ 256)
      (watched 5 3 3 1) 5 3 63 5 ∧
    (fun (s : State) (cls : Nat) (inst : Nat) (w : Nat) (x : Nat) =>
      s.ub = none ∧ s.pending = [] ∧ s.glb.state ≠ .reset ∧ s.hlt.due = [(cls, inst)] ∧ s.st.watching cls inst = [w] ∧ x ≠ w ∧
        s.passedOpt (s.window w).noteTick Config.ticksPerS = true ∧ lasts s w = true ∧ s.glb.state ≠ .fault ∧
        actionRun (s.st.winAction w) cls inst = 4 ∧ cls ≠ 11 ∧ s.tdm.role ≠ .active)
      (watched 5 4 3 1) 5 3 63 5 ∧
    (fun (s : State) (cls : Nat) (inst : Nat) (w : Nat) (x : Nat) =>
      s.ub = none ∧ s.pending = [] ∧ s.glb.state ≠ .reset ∧ s.hlt.due = [(cls, inst)] ∧ s.st.watching cls inst = [w] ∧ x ≠ w ∧
        s.passedOpt (s.window w).noteTick Config.ticksPerS = true ∧ lasts s w = true ∧ s.glb.state ≠ .fault ∧
        actionRun (s.st.winAction w) cls inst = 4 ∧ cls ≠ 11 ∧ s.tdm.role = .active ∧ ¬(s.partnerAlive = true ∧
        (s.tdm.partnerRole = 2 ∨ s.tdm.partnerRole = 3)))
      (watched 5 4 3 1 {} (tandem { role := .active })) 5 3 63 5 ∧
    (fun (s : State) (cls : Nat) (inst : Nat) (w : Nat) (x : Nat) =>
      s.ub = none ∧ s.pending = [] ∧ s.glb.state ≠ .reset ∧ s.hlt.due = [(cls, inst)] ∧ s.st.watching cls inst = [w] ∧ x ≠ w ∧
        s.passedOpt (s.window w).noteTick Config.ticksPerS = true ∧ lasts s w = true ∧ s.glb.state ≠ .fault ∧
        actionRun (s.st.winAction w) cls inst = 4 ∧ cls ≠ 11 ∧ s.tdm.role = .active ∧ s.partnerAlive = true ∧
        (s.tdm.partnerRole = 2 ∨ s.tdm.partnerRole = 3))
      (watched 5 4 3 1 {} (tandem { role := .active, partnerRole := 2, witRim := true, partner := some aBeat })) 5 3 63 5 ∧
    (fun (s : State) (cls : Nat) (inst : Nat) (w : Nat) (x : Nat) =>
      s.ub = none ∧ s.pending = [] ∧ s.glb.state ≠ .reset ∧ s.hlt.due = [(cls, inst)] ∧ s.st.watching cls inst = [w] ∧ x ≠ w ∧
        s.passedOpt (s.window w).noteTick Config.ticksPerS = true ∧ lasts s w = false ∧ cls = 11 ∧
        (lasts s w = false ∨ actionRun (s.st.winAction w) cls inst = 0) ∧ s.glb.state ≠ .fault ∧ s.glb.state ≠ .warmRestart ∧ s.ldr.halted = false ∧
        s.ldr.probationFrom = none ∧ s.cmd.long.length ≤ 256)
      (watched 11 0 0 2) 11 0 63 5 ∧
    (fun (s : State) (cls : Nat) (inst : Nat) (w : Nat) (x : Nat) =>
      s.ub = none ∧ s.pending = [] ∧ s.glb.state ≠ .reset ∧ s.hlt.due = [(cls, inst)] ∧ s.st.watching cls inst = [w] ∧ x ≠ w ∧
        s.passedOpt (s.window w).noteTick Config.ticksPerS = true ∧ lasts s w = true ∧ cls ≠ 11 ∧
        (actionRun (s.st.winAction w) cls inst = 0 ∨ s.glb.state = .fault))
      (watched 5 0 3 1) 5 3 63 5 ∧
    (fun (s : State) (cls : Nat) (inst : Nat) (w : Nat) (i : Nat) (j : Nat) =>
      s.ub = none ∧ s.pending = [] ∧ s.glb.state ≠ .reset ∧ s.hlt.due = [(cls, inst)] ∧ s.st.watching cls inst = [w] ∧ lasts s w = true ∧
        s.glb.state ≠ .fault ∧ actionRun (s.st.winAction w) cls inst = 1 ∧ spokeOfInstance cls inst = some i ∧ s.cal.recal = some i ∧ j ≠ i)
      (watched 5 1 3 1 {} { base with cal.recal := some 3 }) 5 3 63 3 7 ∧
    (fun (s : State) (cls : Nat) (inst : Nat) (w : Nat) (i : Nat) (j : Nat) =>
      s.ub = none ∧ s.pending = [] ∧ s.glb.state ≠ .reset ∧ s.hlt.due = [(cls, inst)] ∧ s.st.watching cls inst = [w] ∧ lasts s w = true ∧
        s.glb.state ≠ .fault ∧ actionRun (s.st.winAction w) cls inst = 1 ∧ spokeOfInstance cls inst = some i ∧ s.cal.recal ≠ some i ∧
        (s.spoke i).quarantined = true ∧ j ≠ i)
      (watched 5 1 3 1 {} { base with path.spokes := [(3, { quarantined := true })] }) 5 3 63 3 7 := by
  refine ⟨?_, ?_, ?_, ?_, ?_, ?_, ?_, ?_, ?_, ?_, ?_, ?_, ?_, ?_, ?_⟩ <;> decide +kernel
theorem test_WindowsDeclareLastingFaults_2 :
    (fun (s : State) (l : List (Nat × Nat)) =>
      l.Perm s.hlt.due)
      { watched 5 1 3 1 with hlt.due := [(5, 3), (3, 2), (5, 3), (5, 1)] } [(5, 1), (5, 3), (5, 3), (3, 2)] := by
  decide +kernel
theorem test_WindowsDeclareLastingFaults_3 :
    (fun (s : State) (cls : Nat) (inst : Nat) (w : Nat) =>
      s.ub = none ∧ s.pending = [] ∧ s.glb.state ≠ .reset ∧ s.glb.state ≠ .fault ∧ (cls, inst) ∈ s.hlt.due ∧ w ∈ s.st.watching cls inst ∧
        s.st.winAction w = 5 ∧ (s.window w).latched = false ∧ s.st.winThresh w ≤ 1 ∧ 0 < s.st.winMs w)
      { watched 5 5 3 1 with hlt.due := [(4, 3), (5, 3), (11, 0)] } 5 3 63 := by
  decide +kernel
theorem test_SwitchesDecideOnSamples :
    (fun (s : State) (x : Fin 13056) (codes : List Int) (k : Nat) (i : Nat) (_ : Nat) (_ : Nat) (_ : Word) (r : State × Option Int × Nat) =>
      s.ub = none ∧ codesWf codes = true ∧ s.eraAfter (s.look ↑x).era = none ∧ (s.eraFrom (s.look ↑x).era).st = s.st ∧ (s.look ↑x).next = some k ∧
        s.pathRuns = true ∧ s.glb.sampling = true ∧ s.leaves s.st (↑x) (s.st.instantOf (↑x) k) = true ∧
        s.chainOut s.st (↑x) k (s.st.instantOf (↑x) k) codes = some r ∧ i / 4 = ↑x ∧ (s.sw i).record = [] ∧ (s.sw i).pending = [])
      (swHub 0 0x80 5 0 { count := 3, prev := some (5, 3) }) 32 plusOnes 100000 128 81920000000000 4 1342177284
        (chained32 (swHub 0 0x80 5 0 { count := 3, prev := some (5, 3) }) plusOnes) := by
  decide +kernel
theorem test_CombinationsFireAndOpenRecords :
    (fun (s : State) (pin : Fin 8) (rising : Bool) (_ : Fin 64) (u : Nat) (k : Nat) =>
      s.ub = none ∧ s.glb.state ≠ .reset ∧ s.st.isOutPin ↑pin = false ∧ bitOf s.path.trigIn ↑pin = !rising ∧ s.pathRuns = true ∧ s.st.unitsOn = [u] ∧
        k < 8 ∧ k < s.st.trSources u ∧ ∀ (j : Nat), j < 8 → j < s.st.trSources u → ((s.st.srcType u j = if rising = true then 3 else 4) ∧
        s.st.srcArg u j = ↑pin ↔ j = k))
      (combHub 0x80200000 1 [0x30000007] 0 0 0) 7 true 0 0 0 := by
  decide +kernel
theorem test_PagesAreReusedAndRecordsCompleted :
    (fun (s : State) (i : Fin 16384) (c : ClosedBlock) (rest : List ClosedBlock) =>
      s.ub = none ∧ s.glb.state ≠ .reset ∧ (s.strm ↑i).closed = c :: rest ∧ c.interim = false ∧ c.again = false ∧ s.st.stored ↑i = true ∧
        ∀ (x : Nat × Record), x ∈ s.allRecords → x.2.openTick ≠ s.tick)
      (placing aCoded { fullPage with offset := 64 }) 32 aCoded [] := by
  decide +kernel
theorem test_RegistersAreReadAndWritten_6 :
    (fun (s : State) (u : State) (a : Word) (v : Word) (_ : List Word) =>
      s.ub = none ∧ s.glb.state ≠ .reset ∧ a.toNat % 4 = 0 ∧ a.toNat < 4294967292 ∧ exec (Instr.spiWrite a [v] false) s = .next u ∧ u.ub = none)
      base { base with glb := { (base.noteWrite .spi 0x40).glb with scratch := 7 } } 0x40 7 [8] := by
  refine ⟨?_, ?_, ?_, ?_, rfl, ?_⟩ <;> decide +kernel
theorem test_ResetLeavesResetValues_1 :
    (fun (_ : State) (c : ResetCause) => ∀ w, c = .resetN w → 10000 ≤ w) base (.resetN 10000) := by
  intro w h; cases h; decide
theorem test_ResetLeavesResetValues_2 : (fun (s : State) (w : Nat) => s.ub = none ∧ w < 10000) base 9999 := by
  decide +kernel
theorem test_SamplingStartsAtItsInstant_5 :
    (fun (s : State) (e : Nat) =>
      s.ub = none ∧ s.glb.state = .timewait ∧ s.tmb.trimsIn.isSome = true ∧ s.tmb.startAt = some e ∧ e ≤ s.now ∧
        ∀ p i, s.cfg.stage = .pending → s.cfg.pending = some p → s.cfg.staged = some i →
          i.sound = true ∧ s.st.csdKept i.target = true ∧ s.ringsSound i.target = true)
      startsWith (5 * 10 ^ 12) := by
  refine ⟨by decide +kernel, by decide +kernel, by decide +kernel, by decide +kernel, by decide +kernel, ?_⟩
  intro p i _ _ h
  have h : i = staged {} true := by cases h; rfl
  subst h; decide +kernel

/-- A step that the evaluation shows to answer a next state answers one. -/
theorem next_of {o : Host.Outcome State Fault Refusal} (h : (match o with | .next _ => true | _ => false) = true) : ∃ t, o = .next t := by
  cases o with
  | next t => exact ⟨t, rfl⟩
  | fault f => cases h
  | refused r => cases h

theorem test_BootLeadsFromResetToTimewait_6 :
    (fun (s : State) (a : List SpokeCal) (b : List LaceCal) (c : List RefCal) =>
      s.ub = none ∧ s.glb.state = .calibrate ∧ s.passed s.cal.startTick (ms 2400) = true ∧ (Instr.calibrationEnd a b c).wf = true)
      (inState .calibrate) fullCal (fullLaces 5) fullRefs := by
  decide +kernel
theorem test_CounterMovesOnlyByTicks_1 :
    (fun (s : State) (c : ResetCause) => resets c = true ∧ ∃ t, exec (.resetAssert c) s = .next t) base .pwrOk :=
  ⟨by decide, next_of (by decide +kernel)⟩
theorem test_CounterMovesOnlyByTicks_2 :
    (fun (c : Instr) (s : State) => (∀ r, c = .resetAssert r → resets r = false) ∧ ∃ t, exec c s = .next t) .epochInstant base :=
  ⟨(by intro r h; cases h), next_of (by decide +kernel)⟩
theorem test_CounterMovesOnlyByTicks_3 : (fun (s : State) => s.pending = [] ∧ s.glb.state ≠ .reset) base := by
  decide +kernel
theorem test_FaultIsLeftOnlyByReset :
    (fun (s : State) => s.glb.state = .fault ∧ (∃ t, step s = .next t) ∧ ∀ c, s.pending.head? = some (.resetAssert c) → resets c = false)
      { inState .fault with pending := [.nop] } :=
  ⟨rfl, next_of (by decide +kernel), by intro c h; cases h⟩
theorem test_StructureChangesOnlyAtItsInstants :
    (fun (c : Instr) (s t : State) => exec c s = .next t ∧ t.ub = none ∧ c ≠ .commitInstant ∧ c ≠ .samplingStart ∧ c ≠ .bootStructLoaded ∧
      ∀ r, c ≠ .resetAssert r) (.spiWrite 0x40 [7] false) base
      { base with glb := { (base.noteWrite .spi 0x40).glb with scratch := 7 } } := by
  refine ⟨rfl, ?_, ?_, ?_, ?_, ?_⟩
  case refine_5 => intro r h; cases h
  all_goals decide +kernel
theorem test_CreditsStayWithin256 : (fun (s : State) => CreditsFit s ∧ ∃ t, step s = .next t) base :=
  ⟨by show _ ≤ 256; decide +kernel, next_of (by decide +kernel)⟩
theorem test_MemoriesStayCanonical : (fun (s : State) => Canonical s ∧ ∃ t, step s = .next t) (cell { data := 7 }) := by
  refine ⟨⟨by decide +kernel, by decide +kernel, by decide +kernel, ?_⟩, next_of (by decide +kernel)⟩
  intro b h
  exact absurd h (by rw [show (cell { data := 7 }).bank b = {} from rfl]; decide)
theorem test_TriggersAreFiredAndRearmedByCommand_2a :
    (fun (s : State) (c : CmdItem) => Starts s 0x29 c ∧
      ((s.trig (c.a 5 0)).freewheel = .none ∨ (s.trig (c.a 5 0)).freewheel = .count 0 ∨ ∃ k, (s.trig (c.a 5 0)).freewheel = .time k true))
      (waits base (item 0x29 63)) (item 0x29 63) :=
  ⟨by unfold Starts; decide +kernel, .inl rfl⟩
theorem test_TriggersAreFiredAndRearmedByCommand_2b :
    (fun (s : State) (c : CmdItem) => Starts s 0x29 c ∧
      ((∃ k, (s.trig (c.a 5 0)).freewheel = .time k false) ∨ ∃ n, (s.trig (c.a 5 0)).freewheel = .count (n + 1)))
      (waits { base with path.units := [(63, { freewheel := .count 1 })] } (item 0x29 63)) (item 0x29 63) :=
  ⟨by unfold Starts; decide +kernel, .inr ⟨0, rfl⟩⟩
theorem test_TriggersAreFiredAndRearmedByCommand_2c :
    (fun (s : State) (c : CmdItem) => Starts s 0x29 c ∧
      ((∃ k, (s.trig (c.a 5 0)).freewheel = .time k false) ∨ ∃ n, (s.trig (c.a 5 0)).freewheel = .count (n + 1)))
      (waits { base with path.units := [(63, { freewheel := .time 5 false })] } (item 0x29 63)) (item 0x29 63) :=
  ⟨by unfold Starts; decide +kernel, .inl ⟨5, rfl⟩⟩
theorem test_CommandsAreReceivedUnderCredit_1b :
    (fun (s : State) (w m : Master) (tgt : Fin 2) => s.ub = none ∧ s.glb.state ≠ .reset ∧ cmdInMaster w tgt.val = some m ∧
      (s.mst m).credit ≤ (s.mst m).inFlight)
      { base with cmd.pcie := { credit := 1, inFlight := 1, cmdIn := (0x00070501, 0, 0) } } .rim .pcie 1 := by
  decide +kernel

theorem test_UpdatesAreReceivedCheckedAndInstalled_2e :
    (fun (s : State) (c : CmdItem) (code : Nat) => Starts s 0x70 c ∧ c.service = false ∧ (∀ x ∈ s.ldr.session, x.owner = masterNum c.master) ∧
      s.ldr.session = none ∧ c.a 31 31 = 0 ∧
      c.a 23 0 + 8 = (s.ldr.buffers.get [] (masterNum c.master) ++ leBytes 8 c.opB.toNat).length ∧
      (s.ldr.buffers.get [] (masterNum c.master) ++ leBytes 8 c.opB.toNat).length = 512 ∧
      ({ header := headerWords (s.ldr.buffers.get [] (masterNum c.master) ++ leBytes 8 c.opB.toNat), body := [] } : FwImage).headerCheck
        (settingsLegacy s.ldr.settings) s.ldr.flash = some code)
      { waits base (item 0x70 504) with ldr.buffers := [(0, List.replicate 504 0)] } (item 0x70 504) 0x60 := by
  unfold Starts; decide +kernel

/-! The well-formedness checks, an ill-formed term for each. -/

theorem test_ill_formed_findings :
    [Instr.selftestEnd [{ step := 6, unit := 0, addr := 0, multi := false }], .selftestEnd [{ step := 1, unit := 256, addr := 0, multi := false }],
      .recalibrateDone { aCal with spoke := 768 }, .recalibrateDone { aCal with slots := aCal.slots.drop 1 },
      .recalibrateDone { aCal with slots := aCal.slots.map fun x => { x with narrow := 0 } }, .recalibrateDone { aCal with skew := aCal.skew.take 4 },
      .recalibrateDone { aCal with skew := aCal.skew.map fun x => { x with steps := x.steps.take 63 } }, .calibrationEnd [aCal] (fullLaces 0) fullRefs,
      .calibrationEnd [] [] []].all (fun i => !i.wf) = true := by
  decide +kernel
theorem test_ill_formed_times :
    [Instr.finePhaseMeasurement .e 0, .ptpSync .e hdr 0 true (-1), .ptpFollowUp .e hdr (-1), .ptpDelayResp .e hdr 0 (-1),
      .ptpDelayReq .e { hdr with domain := 256 } 0, .zdaSentence (List.replicate 83 0)].all (fun i => !i.wf) = true := by decide
theorem test_ill_formed_lists :
    [Instr.vexcUpdate 0 [(48, 0)], .dissipationUpdate [(48, 0)], .openWireDetect 0 .sense 0 [3], .sampleScaled 0 [-3], .commandFrame .e false [],
      .nak .e 9 2 (List.replicate 92 (0, 0))].all (fun i => !i.wf) = true := by decide
theorem test_ill_formed_frames :
    [Instr.irpFrameRx .e { aFrame with bytes := aFrame.bytes.take 13 }, .triggerFrame .e { group := 256, origin := 0, unit := 0, outcome := 0, point := 0, frac := 0 },
      .nak .e 4096 2 [], .ack .e 9 4 0, .enumerate .e 4096 0, .hello .e 4096 0 0, .ctlRto 4096 0, .ackSend 4096,
      .partnerHb .tdmA { aBeat with role := 16 } [], .partnerHb .tdmA aBeat [.ackpos 16384 0 0], .partnerHb .tdmA aBeat [.reserved 5 0]].all (fun i => !i.wf) = true := by decide
theorem test_ill_formed_accesses :
    [Instr.spiRead 0x40 0, .pcieMalformedAccess (2 ^ 26) 1 false, .registerWrite .pcie 4 0 (some 0), .registerWrite .spi 2 0 none, .registerWrite .spi 8 0 (some 0),
      .scratchpadRead 0 0 0, .scratchpadWrite 0 0 []].all (fun i => !i.wf) = true := by decide
theorem test_ill_formed_term_is_stopped : exec (.spiRead 0x40 0) base = .fault .illFormed := rfl
theorem test_no_word_spells_a_command : decodeTableWord 32 0x00070501 = none := rfl

end Sys2Proof.Tests
end

section
/-! PROOFS. 00_scope, O6: every command within its fields answers a next state. -/

namespace Sys2Proof.Machine

open Sys2Proof.Safety

/-- A command within its fields answers a next state with the waiting commands as they were; any other term is stopped by name. -/
def AnswersNext (i : Instr) (s : State) : Prop :=
  (i.wf = true → ∃ t, exec i s = .next t ∧ t.pending = s.pending) ∧ (i.wf = false → exec i s = .fault .illFormed)

/-- A command whose operands need no check: a frame of its effect, whatever parts it names, leaves the queue of waiting commands. -/
theorem act_answersNext {i : Instr} {s u : State} {M : Nat} (hi : exec i s = .next u.havoc) (hw : i.wf = true)
    (hu : blank M u = blank M s) : AnswersNext i s :=
  ⟨fun _ => ⟨_, hi, (pending_of_blank (havoc_frame (Nat.and_self _))).trans (pending_of_blank hu)⟩,
    fun h => Bool.noConfusion (hw.symm.trans h)⟩

/-- A command whose operands are checked. -/
theorem actIf_answersNext {i : Instr} {s u : State} {M : Nat} (hi : exec i s = if i.wf then .next u.havoc else .fault .illFormed)
    (hu : blank M u = blank M s) : AnswersNext i s := by
  cases hw : i.wf with
  | true => exact act_answersNext (hi.trans (if_pos hw)) hw hu
  | false =>
    have hf : exec i s = .fault .illFormed := hi.trans (if_neg (by rw [hw]; exact Bool.false_ne_true))
    exact ⟨fun h => Bool.noConfusion (hw.symm.trans h), fun _ => hf⟩

/-! ### The effects that have no name of their own -/

/-- The mask of every part: what is left is the queue of waiting commands. -/
def everyPart : Nat := 2 ^ 35 - 1

theorem resetAssert_frame (c : ResetCause) (s : State) : blank everyPart (resetAssert c s) = blank everyPart s := by
  unfold resetAssert
  split <;> rfl

theorem trimRampEnd_answersNext (w : Option (Fin 768 × Fin 25)) (s : State) : AnswersNext (.trimRampEnd w) s := by
  cases w with
  | none => exact act_answersNext rfl rfl (State.trimsEnd_frame (Nat.and_self _))
  | some x => exact act_answersNext rfl rfl (State.endRamp_frame (Nat.and_self _))

theorem watermarkRearm_answersNext (k : Fin 4096) (v : Word) (s : State) : AnswersNext (.watermarkRearm k v) s :=
  act_answersNext (M := everyPart) rfl rfl
    (occurs_frame fun _ => (rearmWater_frame (by decide)).trans (ite_right_frame (undefinedUse_frame (by decide))))

theorem retrainLane_answersNext (s : State) : AnswersNext .retrainLane s :=
  act_answersNext (M := everyPart) rfl rfl
    (State.start_frame (by decide) fun _ _ => (State.complete_frame (by decide)).trans (State.retrain_frame (by decide)))

theorem queuePop_answersNext (m : Master) (q : Fin 64) (s : State) : AnswersNext (.queuePop m q) s :=
  act_answersNext (M := everyPart) rfl rfl (occurs_frame fun _ => (emit_frame (by decide)).trans (queuePop_frame (by decide)))

theorem holdLowRead_answersNext (m : Fin 3) (o : Nat) (both : Bool) (s : State) : AnswersNext (.holdLowRead m o both) s :=
  actIf_answersNext (M := everyPart) rfl
    (ite_both_frame (occurs_frame fun _ => pairRead_frame (by decide)) (onHalf_frame (by decide) fun _ _ => halfRead_frame (by decide)))

theorem holdHighRead_answersNext (m : Fin 3) (o : Nat) (s : State) : AnswersNext (.holdHighRead m o) s :=
  act_answersNext (M := everyPart) rfl rfl
    (onHalf_frame (by decide) fun _ _ => (emit_frame (by decide)).trans (highRead_frame (by decide)))

/-! ### Every command -/

theorem exec_answersNext (i : Instr) (s : State) : AnswersNext i s := by
  cases i with
  | resetAssert => exact act_answersNext rfl rfl (resetAssert_frame _ _)
  | resetRelease => exact act_answersNext rfl rfl (resetRelease_frame (Nat.and_self _))
  | imageAuthenticated => exact act_answersNext rfl rfl (imageAuthenticated_frame (Nat.and_self _))
  | firmwareInitDone => exact act_answersNext rfl rfl (firmwareInit_frame (Nat.and_self _))
  | selftestEnd => exact actIf_answersNext rfl (selftestEnd_frame (Nat.and_self _))
  | calibrationEnd => exact actIf_answersNext rfl (calibrationEnd_frame (Nat.and_self _))
  | trimRampEnd => exact trimRampEnd_answersNext _ _
  | bootStructLoaded => exact act_answersNext rfl rfl (bootLoaded_frame (Nat.and_self _))
  | freeRunWaitExpiry => exact act_answersNext rfl rfl (freeRunWait_frame (Nat.and_self _))
  | samplingStart => exact act_answersNext rfl rfl (samplingStart_frame (Nat.and_self _))
  | lockstepMismatch => exact act_answersNext rfl rfl (lockstepMismatch_frame (Nat.and_self _))
  | watchdogExpiry => exact act_answersNext rfl rfl (watchdogExpiry_frame (Nat.and_self _))
  | warmRestartEnd => exact act_answersNext rfl rfl (warmRestartEnd_frame (Nat.and_self _))
  | probationEnd => exact act_answersNext rfl rfl (probationEnd_frame (Nat.and_self _))
  | epochInstant => exact act_answersNext rfl rfl (epochInstant_frame (Nat.and_self _))
  | finePhaseMeasurement => exact actIf_answersNext rfl (finePhase_frame (Nat.and_self _))
  | ptpSync => exact actIf_answersNext rfl (receiveSync_frame (Nat.and_self _))
  | ptpFollowUp => exact actIf_answersNext rfl (receiveFollowUp_frame (Nat.and_self _))
  | ptpDelayReq => exact actIf_answersNext rfl (receiveDelayReq_frame (Nat.and_self _))
  | ptpDelayResp => exact actIf_answersNext rfl (receiveDelayResp_frame (Nat.and_self _))
  | ptpAnnounce => exact actIf_answersNext rfl (receiveAnnounce_frame (Nat.and_self _))
  | ptpSyncTx => exact act_answersNext rfl rfl (sendSync_frame (Nat.and_self _))
  | ptpAnnounceTx => exact act_answersNext rfl rfl (sendAnnounce_frame (Nat.and_self _))
  | ptpDelayReqTx => exact act_answersNext rfl rfl (sendDelayReq_frame (Nat.and_self _))
  | announceTimeout => exact act_answersNext rfl rfl (announceLost_frame (Nat.and_self _))
  | syncTimeout => exact act_answersNext rfl rfl (syncLost_frame (Nat.and_self _))
  | ppsInEdge => exact act_answersNext rfl rfl (ppsEdge_frame (Nat.and_self _))
  | zdaSentence => exact actIf_answersNext rfl (zdaReceived_frame (Nat.and_self _))
  | ppsInTimeout => exact act_answersNext rfl rfl (ppsLost_frame (Nat.and_self _))
  | ppsOutPulse => exact act_answersNext rfl rfl (ppsRise_frame (Nat.and_self _))
  | ppsOutPulseEnd => exact act_answersNext rfl rfl (ppsFall_frame (Nat.and_self _))
  | todTxSentence => exact act_answersNext rfl rfl (todSend_frame (Nat.and_self _))
  | realignment => exact act_answersNext rfl rfl (realignment_frame (Nat.and_self _))
  | scheduledEvent => exact act_answersNext rfl rfl (fireEvent_frame (Nat.and_self _))
  | eventArm => exact act_answersNext rfl rfl (armEvent_frame (Nat.and_self _))
  | setTime => exact act_answersNext rfl rfl (setTime_frame (Nat.and_self _))
  | sampleClockUnlock => exact act_answersNext rfl rfl (clockUnlock_frame (Nat.and_self _))
  | sampleClockRelock => exact act_answersNext rfl rfl (clockRelock_frame (Nat.and_self _))
  | loadStructure => exact act_answersNext rfl rfl (loadStructure_frame (Nat.and_self _))
  | loadStructureDone => exact act_answersNext rfl rfl (loadStructureDone_frame (Nat.and_self _))
  | commit => exact act_answersNext rfl rfl (commit_frame (Nat.and_self _))
  | commitInstant => exact act_answersNext rfl rfl (commitInstant_frame (Nat.and_self _))
  | cancelCommit => exact act_answersNext rfl rfl (cancelCommit_frame (Nat.and_self _))
  | storeStructure => exact act_answersNext rfl rfl (storeStructure_frame (Nat.and_self _))
  | storeStructureDone => exact act_answersNext rfl rfl (storeStructureDone_frame (Nat.and_self _))
  | gearShiftUp => exact act_answersNext rfl rfl (shiftUp_frame (Nat.and_self _))
  | gearShiftDown => exact act_answersNext rfl rfl (shiftDown_frame (Nat.and_self _))
  | mendComplete => exact act_answersNext rfl rfl (mendDone_frame (Nat.and_self _))
  | openWireDetect => exact actIf_answersNext rfl (openWireFound_frame (Nat.and_self _))
  | wireRestored => exact act_answersNext rfl rfl (wireBack_frame (Nat.and_self _))
  | releaseSpoke => exact act_answersNext rfl rfl (releaseSpoke_frame (Nat.and_self _))
  | releaseSyncReset => exact act_answersNext rfl rfl (releaseReset_frame (Nat.and_self _))
  | senseEstimate => exact act_answersNext rfl rfl (senseEnd_frame (Nat.and_self _))
  | rampEnd => exact act_answersNext rfl rfl (rampDone_frame (Nat.and_self _))
  | excTrip => exact act_answersNext rfl rfl (excTrip_frame (Nat.and_self _))
  | restartLace => exact act_answersNext rfl rfl (restartLace_frame (Nat.and_self _))
  | vexcUpdate => exact actIf_answersNext rfl (vexcTick_frame (Nat.and_self _))
  | vexcFault => exact act_answersNext rfl rfl (vexcFault_frame (Nat.and_self _))
  | dissipationUpdate => exact actIf_answersNext rfl (dissipation_frame (Nat.and_self _))
  | excRestored => exact act_answersNext rfl rfl (excRestore_frame (Nat.and_self _))
  | modOverload => exact act_answersNext rfl rfl (overload_frame (Nat.and_self _))
  | lookRunStart => exact act_answersNext rfl rfl (runStart_frame (Nat.and_self _))
  | sampleScaled => exact actIf_answersNext rfl (sampleOut_frame (Nat.and_self _))
  | ambientLevelUpdate => exact act_answersNext rfl rfl (ambientUpdate_frame (Nat.and_self _))
  | trigIoEdge => exact act_answersNext rfl rfl (ioEdge_frame (Nat.and_self _))
  | triggerSchedule => exact act_answersNext rfl rfl (scheduleDue_frame (Nat.and_self _))
  | trigIoPulseEnd => exact act_answersNext rfl rfl (pulseEnd_frame (Nat.and_self _))
  | freewheelEnd => exact act_answersNext rfl rfl (freewheelDone_frame (Nat.and_self _))
  | fireTrigger => exact act_answersNext rfl rfl (fireTrigger_frame (Nat.and_self _))
  | rearmTrigger => exact act_answersNext rfl rfl (rearmTrigger_frame (Nat.and_self _))
  | triggerFrame => exact actIf_answersNext rfl (triggerMessage_frame (Nat.and_self _))
  | blockClose => exact act_answersNext rfl rfl (closeBlock_frame (Nat.and_self _))
  | blockPlace => exact act_answersNext rfl rfl (placeBlock_frame (Nat.and_self _))
  | recordExpiry => exact act_answersNext rfl rfl (expireRecord_frame (Nat.and_self _))
  | watermarkRearm => exact watermarkRearm_answersNext _ _ _
  | setMark => exact act_answersNext rfl rfl (setMark_frame (Nat.and_self _))
  | clearMark => exact act_answersNext rfl rfl (clearMark_frame (Nat.and_self _))
  | replay => exact act_answersNext rfl rfl (replay_frame (Nat.and_self _))
  | replayDone => exact act_answersNext rfl rfl (replayEnd_frame (Nat.and_self _))
  | releaseRecord => exact act_answersNext rfl rfl (releaseRecord_frame (Nat.and_self _))
  | ackBlocks => exact act_answersNext rfl rfl (ackBlocks_frame (Nat.and_self _))
  | readRecord => exact act_answersNext rfl rfl (readRecord_frame (Nat.and_self _))
  | readRecordDone => exact act_answersNext rfl rfl (readRecordEnd_frame (Nat.and_self _))
  | reducerInputClose => exact act_answersNext rfl rfl (inputClose_frame (Nat.and_self _))
  | csdCommitPoint => exact act_answersNext rfl rfl (csdPoint_frame (Nat.and_self _))
  | resetTally => exact act_answersNext rfl rfl (resetTally_frame (Nat.and_self _))
  | tallyClear => exact act_answersNext rfl rfl (tallyDone_frame (Nat.and_self _))
  | abortInterval => exact act_answersNext rfl rfl (abortInterval_frame (Nat.and_self _))
  | flush => exact act_answersNext rfl rfl (flush_frame (Nat.and_self _))
  | saveContext => exact act_answersNext rfl rfl (saveContext_frame (Nat.and_self _))
  | restoreContext => exact act_answersNext rfl rfl (restoreContext_frame (Nat.and_self _))
  | linkHbSend => exact act_answersNext rfl rfl (linkHbOut_frame (Nat.and_self _))
  | linkHb => exact act_answersNext rfl rfl (linkHbIn_frame (Nat.and_self _))
  | reachTimeout => exact act_answersNext rfl rfl (reachOver_frame (Nat.and_self _))
  | helloSend => exact act_answersNext rfl rfl (helloOut_frame (Nat.and_self _))
  | hello => exact actIf_answersNext rfl (helloIn_frame (Nat.and_self _))
  | enumerate => exact actIf_answersNext rfl (enumerate_frame (Nat.and_self _))
  | setAddress => exact act_answersNext rfl rfl (setAddress_frame (Nat.and_self _))
  | irpFrameRx => exact actIf_answersNext rfl (frameRx_frame (Nat.and_self _))
  | cutFrame => exact act_answersNext rfl rfl (cutFrame_frame (Nat.and_self _))
  | nak => exact actIf_answersNext rfl (State.nakFrom_frame (Nat.and_self _))
  | ack => exact actIf_answersNext rfl (State.ackFrom_frame (Nat.and_self _))
  | credit => exact act_answersNext rfl rfl (occurs_frame fun _ => credit_frame (Nat.and_self _))
  | commandFrame => exact actIf_answersNext rfl (occurs_frame fun _ => commandFrameIn_frame (Nat.and_self _))
  | bulkSend => exact act_answersNext rfl rfl (bulkSend_frame (Nat.and_self _))
  | bulkRto => exact act_answersNext rfl rfl (bulkTimeout_frame (Nat.and_self _))
  | ctlRto => exact actIf_answersNext rfl (ctlTimeout_frame (Nat.and_self _))
  | ackSend => exact actIf_answersNext rfl (ackOut_frame (Nat.and_self _))
  | portTransmit => exact act_answersNext rfl rfl (transmit_frame (Nat.and_self _))
  | partnerDetect => exact act_answersNext rfl rfl (detect_frame (Nat.and_self _))
  | trainRequest => exact act_answersNext rfl rfl (trainRequest_frame (Nat.and_self _))
  | rxReady => exact act_answersNext rfl rfl (receiverReady_frame (Nat.and_self _))
  | trainTimeout => exact act_answersNext rfl rfl (bringUpTimeout_frame (Nat.and_self _))
  | lossOfSignal => exact act_answersNext rfl rfl (lossOfSignal_frame (Nat.and_self _))
  | lockAcquired => exact act_answersNext rfl rfl (lockAcquired_frame (Nat.and_self _))
  | lockTimeout => exact act_answersNext rfl rfl (bringUpTimeout_frame (Nat.and_self _))
  | capabilityWord => exact act_answersNext rfl rfl (capability_frame (Nat.and_self _))
  | exchangeTimeout => exact act_answersNext rfl rfl (bringUpTimeout_frame (Nat.and_self _))
  | lockLoss => exact act_answersNext rfl rfl (lockLoss_frame (Nat.and_self _))
  | backoffEnd => exact act_answersNext rfl rfl (backoffEnd_frame (Nat.and_self _))
  | failureCountReset => exact act_answersNext rfl rfl (failuresClear_frame (Nat.and_self _))
  | opticsPoll => exact act_answersNext rfl rfl (opticsPoll_frame (Nat.and_self _))
  | lnkTestWrite => exact act_answersNext rfl rfl (testWrite_frame (Nat.and_self _))
  | prbsInject => exact act_answersNext rfl rfl (prbsInject_frame (Nat.and_self _))
  | fixedTapsWrite => exact act_answersNext rfl rfl (fixedTaps_frame (Nat.and_self _))
  | retrainLane => exact retrainLane_answersNext _
  | opticsRead => exact act_answersNext rfl rfl (optics_frame (Nat.and_self _))
  | opticsWrite => exact act_answersNext rfl rfl (optics_frame (Nat.and_self _))
  | opticsDone => exact act_answersNext rfl rfl (opticsDone_frame (Nat.and_self _))
  | tokenToggle => exact act_answersNext rfl rfl (tokenToggle_frame (Nat.and_self _))
  | tokenEdge => exact act_answersNext rfl rfl (tokenEdge_frame (Nat.and_self _))
  | partnerHbSend => exact act_answersNext rfl rfl (partnerHbSend_frame (Nat.and_self _))
  | partnerHb => exact actIf_answersNext rfl (partnerHb_frame (Nat.and_self _))
  | tokenWitnessMissing => exact act_answersNext rfl rfl (tokenMissing_frame (Nat.and_self _))
  | linkWitnessMissing => exact act_answersNext rfl rfl (linkMissing_frame (Nat.and_self _))
  | rimWitnessMissing => exact act_answersNext rfl rfl (rimMissing_frame (Nat.and_self _))
  | claimingEnd => exact act_answersNext rfl rfl (claimingEnd_frame (Nat.and_self _))
  | yieldingEnd => exact act_answersNext rfl rfl (yieldingEnd_frame (Nat.and_self _))
  | election => exact act_answersNext rfl rfl (election_frame (Nat.and_self _))
  | tandemLinkLoss => exact act_answersNext rfl rfl (tandemLoss_frame (Nat.and_self _))
  | digestCompare => exact act_answersNext rfl rfl (digestCompare_frame (Nat.and_self _))
  | swapRoles => exact act_answersNext rfl rfl (swapRoles_frame (Nat.and_self _))
  | swapInstant => exact act_answersNext rfl rfl (swapInstant_frame (Nat.and_self _))
  | cmdItemWrite => exact act_answersNext rfl rfl (cmdItemWrite_frame (Nat.and_self _))
  | nop => exact act_answersNext rfl rfl (nopCommand_frame (Nat.and_self _))
  | cmdCreditWrite => exact act_answersNext rfl rfl (cmdCfgWrite_frame (Nat.and_self _))
  | queuePop => exact queuePop_answersNext _ _ _
  | crierChainEntry => exact act_answersNext rfl rfl (chainEntry_frame (Nat.and_self _))
  | crierDrain => exact act_answersNext rfl rfl (drain_frame (Nat.and_self _))
  | priorityAging => exact act_answersNext rfl rfl (aging_frame (Nat.and_self _))
  | ringEntryWrite => exact act_answersNext rfl rfl (ringWrite_frame (Nat.and_self _))
  | ringCreditWrite => exact act_answersNext rfl rfl (ringConsume_frame (Nat.and_self _))
  | msixGapEnd => exact act_answersNext rfl rfl (msixGap_frame (Nat.and_self _))
  | ringEnable => exact act_answersNext rfl rfl (ringEnable_frame (Nat.and_self _))
  | ringDisable => exact act_answersNext rfl rfl (ringDisable_frame (Nat.and_self _))
  | spiWrite => exact act_answersNext rfl rfl (occurs_frame fun _ => spiWrite_frame (Nat.and_self _))
  | spiRead => exact actIf_answersNext rfl (occurs_frame fun _ => spiRead_frame (Nat.and_self _))
  | spiStatus => exact act_answersNext rfl rfl (spiStatusFrame_frame (Nat.and_self _))
  | pcieMalformedAccess => exact actIf_answersNext rfl (occurs_frame fun _ => emit_frame (Nat.and_self _))
  | readReg => exact act_answersNext rfl rfl (readReg_frame (Nat.and_self _))
  | writeReg => exact act_answersNext rfl rfl (writeReg_frame (Nat.and_self _))
  | registerWrite => exact actIf_answersNext rfl (occurs_frame fun _ => registerWrite_frame (Nat.and_self _))
  | intEnableWrite => exact act_answersNext rfl rfl (intEnableWrite_frame (Nat.and_self _))
  | alarmCfgWrite => exact act_answersNext rfl rfl (occurs_frame fun _ => alarmCfg_frame (Nat.and_self _))
  | leaseLapse => exact act_answersNext rfl rfl (leaseLapse_frame (Nat.and_self _))
  | journalReplayStart => exact act_answersNext rfl rfl (replayStart_frame (Nat.and_self _))
  | resync => exact act_answersNext rfl rfl (resync_frame (Nat.and_self _))
  | holdLowRead => exact holdLowRead_answersNext _ _ _ _
  | holdHighRead => exact holdHighRead_answersNext _ _ _
  | holdLowWrite => exact act_answersNext rfl rfl (onHalf_frame (Nat.zero_and _) fun _ _ => lowWrite_frame (Nat.and_self _))
  | holdHighWrite => exact act_answersNext rfl rfl (onHalf_frame (Nat.zero_and _) fun _ _ => highWrite_frame (Nat.and_self _))
  | holdExpiry => exact act_answersNext rfl rfl (holdExpiry_frame (Nat.and_self _))
  | snapshot => exact act_answersNext rfl rfl (snapshot_frame (Nat.and_self _))
  | snapshotTick => exact act_answersNext rfl rfl (snapshotTick_frame (Nat.and_self _))
  | snapshotDone => exact act_answersNext rfl rfl (snapshotEnd_frame (Nat.and_self _))
  | scratchpadRead => exact actIf_answersNext rfl (scratchpadRead_frame (Nat.and_self _))
  | scratchpadWrite => exact actIf_answersNext rfl (scratchpadWrite_frame (Nat.and_self _))
  | scrub => exact act_answersNext rfl rfl (scrub_frame (Nat.and_self _))
  | scrubDone => exact act_answersNext rfl rfl (scrubDone_frame (Nat.and_self _))
  | bankPower => exact act_answersNext rfl rfl (bankPower_frame (Nat.and_self _))
  | bankRetainTimeout => exact act_answersNext rfl rfl (bankRetain_frame (Nat.and_self _))
  | storeRead => exact act_answersNext rfl rfl (storeRead_frame (Nat.and_self _))
  | storeWrite => exact act_answersNext rfl rfl (storeWrite_frame (Nat.and_self _))
  | storeTransferDone => exact act_answersNext rfl rfl (transferDone_frame (Nat.and_self _))
  | injectError => exact act_answersNext rfl rfl (injectError_frame (Nat.and_self _))
  | recalibrate => exact act_answersNext rfl rfl (recalibrate_frame (Nat.and_self _))
  | recalibrateDone => exact actIf_answersNext rfl (recalibrated_frame (Nat.and_self _))
  | setTrim => exact act_answersNext rfl rfl (setTrim_frame (Nat.and_self _))
  | clearWindow => exact act_answersNext rfl rfl (clearWindow_frame (Nat.and_self _))
  | windowRearm => exact act_answersNext rfl rfl (windowRearm_frame (Nat.and_self _))
  | updateData => exact act_answersNext rfl rfl (updateData_frame (Nat.and_self _))
  | updateChunkProgrammed => exact act_answersNext rfl rfl (chunkProgrammed_frame (Nat.and_self _))
  | updateEnd => exact act_answersNext rfl rfl (updateEnd_frame (Nat.and_self _))
  | updateEndDone => exact act_answersNext rfl rfl (updateEndDone_frame (Nat.and_self _))
  | updateAbort => exact act_answersNext rfl rfl (updateAbort_frame (Nat.and_self _))
  | updateSessionTimeout => exact act_answersNext rfl rfl (sessionTimeout_frame (Nat.and_self _))
  | commitImage => exact act_answersNext rfl rfl (commitImage_frame (Nat.and_self _))
  | saveSettings => exact act_answersNext rfl rfl (saveSettings_frame (Nat.and_self _))
  | settingsWriteDone => exact act_answersNext rfl rfl (settingsWritten_frame (Nat.and_self _))
  | otpProvision => exact act_answersNext rfl rfl (otpProvision_frame (Nat.and_self _))
  | overRange => exact act_answersNext rfl rfl (overRange_frame (Nat.and_self _))
  | laneSymbolError => exact act_answersNext rfl rfl (symbolError_frame (Nat.and_self _))
  | preemptionVerify => exact act_answersNext rfl rfl (preemptionVerify_frame (Nat.and_self _))

/-- Settles O6, by cases on the command: each effect has a frame, and no frame names the queue of waiting commands. -/
theorem everyCommandAnswersNext : Obligations.EveryCommandAnswersNext := exec_answersNext

end Sys2Proof.Machine
end

section
/-! PROOFS. 00_scope, O42: lane tests, fixed taps and optics. -/

namespace Sys2Proof.Machine

open Sys2Proof.Safety

/-! ### Spans of undefined behaviour (R2) -/

/-- The free values of a span leave the span itself. -/
theorem havoc_ub (s : State) : s.havoc.ub = s.ub := ub_of_blank (havoc_frame (Nat.and_self _)) (by decide)

/-- A span that is open keeps its rule. -/
theorem undefinedUse_of_open {s : State} {r q : Nat} (h : s.ub = some r) : s.undefinedUse q = s := by
  unfold State.undefinedUse
  rw [h]
  rfl

/-! ### A notice that other notices follow -/

/-- Item `n` of queue `q` stands in its journal slot, and at most `k` items have been posted from it on. -/
def Stands (t : State) (q n k : Nat) (i : Item) : Prop := n < (t.que q).posted ∧ (t.que q).posted ≤ n + k ∧ itemAt t q n = i

theorem posts_of_stands {s t : State} {q k : Nat} {i : Nat → Item} (h : Stands t q (s.que q).posted k (i (s.que q).posted)) :
    Posts s t q i := by
  obtain ⟨hn, -, hi⟩ := h
  exact ⟨(s.que q).posted, Nat.le_refl _, hn, hi⟩

theorem stands_mono {t : State} {q n k j : Nat} {i : Item} (h : Stands t q n k i) (hk : k ≤ j) : Stands t q n j i := by
  obtain ⟨hn, hp, hi⟩ := h
  exact ⟨hn, Nat.le_trans hp (Nat.add_le_add_left hk n), hi⟩

theorem stands_congr {t u : State} {q n k : Nat} {i : Item} (h : Stands t q n k i) (hc : u.crier = t.crier) (hm : u.mem = t.mem) :
    Stands u q n k i := by
  have hq : u.que q = t.que q := by unfold State.que; rw [hc]
  unfold Stands
  rw [hq, itemAt_congr q n (congrArg Mem.store hm)]
  exact h

/-- Fewer than 65,536 later items leave the slot of an item alone. -/
theorem stands_post {t : State} {q n k q' l : Nat} {i : Item} {a : Bool} {x y z : Word} (h : Stands t q n k i) (hk : k < 65536) :
    Stands (t.post q' a l x y z) q n (k + 1) i := by
  obtain ⟨hn, hp, hi⟩ := h
  unfold Stands
  by_cases e : q = q'
  · subst e
    rw [State.post_posted_self, itemAt_post_ne _ _ _ _ _ _ (Or.inr (by omega))]
    exact ⟨by omega, by omega, hi⟩
  · rw [State.post_que_ne _ _ _ _ _ _ e, itemAt_post_ne _ _ _ _ _ _ (Or.inl e)]
    exact ⟨hn, by omega, hi⟩

/-- The autonomous acts that a notice reports leave the journal alone. -/
theorem stands_notify_acts {t : State} {q n k q' code id d a : Nat} {i : Item} (acts : Nat) (h : Stands (t.notify q' code id d a) q n k i) :
    Stands (t.notify q' code id d a acts) q n k i := by
  by_cases ha : acts = 0
  · rw [ha]
    exact h
  · rw [notify_acts_eq _ _ _ _ _ _ _ ha]
    exact h

theorem stands_notify {t : State} {q n k q' code id d a acts : Nat} {i : Item} (h : Stands t q n k i) (hk : k < 65536) :
    Stands (t.notify q' code id d a acts) q n (k + 1) i := by
  refine stands_notify_acts acts ?_
  rw [notify_eq]
  exact stands_post h hk

/-- A notice just posted stands, as the first item from its number on. -/
theorem notify_stands (s : State) (q code id d a acts : Nat) :
    Stands (s.notify q code id d a acts) q (s.que q).posted 1 (noticeItem q code id d a (s.que q).posted) := by
  refine stands_notify_acts acts ?_
  rw [notify_eq]
  exact ⟨Nat.lt_of_lt_of_eq (Nat.lt_succ_self _) (State.post_posted_self ..).symm, Nat.le_of_eq (State.post_posted_self ..), itemAt_post_self ..⟩

/-- A change of the rim's ports posts one notice at most. -/
theorem stands_rimUpdate {t : State} {q n k : Nat} {i : Item} (h : Stands t q n k i) (hk : k < 65536) :
    Stands t.rimUpdate q n (k + 1) i := by
  unfold State.rimUpdate
  dsimp only
  split
  · split
    · exact stands_mono h (Nat.le_succ k)
    · exact stands_notify (t := t.upRim _) (stands_congr h (State.upRim_crier _) (State.upRim_mem _)) hk
  · generalize (if t.st.bulkW then t.lnk.rim.w.reach else !t.lnk.rim.e.reach) = west
    split
    · exact stands_mono (stands_congr h (State.upRim_crier _) (State.upRim_mem _)) (Nat.le_succ k)
    · exact stands_notify (stands_congr h rfl rfl) hk

theorem stands_loseReach {t : State} {q n k : Nat} {i : Item} {p : Port} (h : Stands t q n k i) (hk : k < 65536) :
    Stands (t.loseReach p) q n (k + 1) i := by
  unfold State.loseReach
  split
  · exact stands_rimUpdate (stands_congr h (State.upPort_crier _ _) (State.upPort_mem _ _)) hk
  · exact stands_mono h (Nat.le_succ k)

theorem stands_recordsUnsent {t : State} {q n k : Nat} {i : Item} {fs : List OutFrame} (h : Stands t q n k i) :
    Stands (t.recordsUnsent fs) q n k i := by
  unfold State.recordsUnsent
  refine forEach_keeps (P := fun u => Stands u q n k i) h fun u f hu => ?_
  split
  · exact stands_congr hu (State.upStall_crier _ _) (State.upStall_mem _ _)
  · exact hu

/-! ### A lane leaves ACTIVE -/

/-- N_LANE_DOWN carries the cause (R347, R397); the turn or isolation that follows it leaves it in the journal. -/
theorem leaveActive_notices {s : State} {x cause : Nat} (h : (s.lane x).state = .active) :
    Notices s (s.leaveActive x cause) s.st.rimQ 0x51 x cause (argT s.now) := by
  have h1 : Stands ((s.notify s.st.rimQ 0x51 x cause (argT s.now) 1).intr 5) s.st.rimQ (s.que s.st.rimQ).posted 1
      (noticeItem s.st.rimQ 0x51 x cause (argT s.now) (s.que s.st.rimQ).posted) :=
    stands_congr (notify_stands ..) (State.intr_crier _) (State.intr_mem _)
  unfold State.leaveActive
  rw [if_pos h]
  dsimp only
  split
  · exact posts_of_stands (k := 2)
      (stands_loseReach (stands_congr (stands_recordsUnsent h1) (State.upPort_crier _ _) (State.upPort_mem _ _)) (by decide))
  · exact posts_of_stands (k := 1) (stands_congr h1 (State.upTdm_crier _) (State.upTdm_mem _))

theorem leaveActive_lane (s : State) (x cause y : Nat) : (s.leaveActive x cause).lane y = s.lane y := by
  have h : (s.leaveActive x cause).lnk.lanes = s.lnk.lanes :=
    part_same_of_blank (State.leaveActive_frame (s := s) (x := x) (cause := cause) (Nat.and_self _)) .lanes (by decide)
  unfold State.lane
  rw [h]

theorem toDetect_lane_self (s : State) (x cause : Nat) : (s.toDetect x cause).lane x =
    { (s.lane x).settlePrbs x s.tick with
      state := .detect, since := s.tick, backoffUntil := none, rxReady := false, partnerReady := false
      blockLock := false, fecLock := false, hiBer := false, ackOut := false, prevWord := none, module := 0
      rate10 := s.st.laneRate10 x, fec := s.st.laneFec x && !s.st.laneRate10 x } := by
  unfold State.toDetect
  rw [State.upLane_lane_self, leaveActive_lane]

theorem toDetect_lane_ne {s : State} {x y : Nat} (cause : Nat) (h : y ≠ x) : (s.toDetect x cause).lane y = s.lane y := by
  unfold State.toDetect
  rw [State.upLane_lane_ne _ h, leaveActive_lane]

/-! ### LNK_TEST (R350, R353) -/

/-- What a lane `q`, that was `l` in ACTIVE, is in TEST under the value `w`: what its checker has found stays, but for a checker that was off; a loop
through the receive PCS decides its locks. -/
def Lane.tested (l q : Lane) (x tick : Nat) (w : Word) : Lane :=
  let q := q.settlePrbs x tick
  let fresh := decide (l.test.field 27 26 = 0 ∧ w.field 27 26 ≠ 0)
  { q with state := .test, since := if l.state = .test then q.since else tick, test := w, backoffUntil := none
           prbsErr := if fresh then 0 else q.prbsErr, prbsFrom := if fresh then tick else q.prbsFrom, prbsLock := testLoops w
           blockLock := (pcsLoops w).getD q.blockLock, fecLock := match pcsLoops w with | none => q.fecLock | some b => b && q.fec
           hiBer := if (pcsLoops w).isSome then false else q.hiBer }

/-- A value of LNK_TEST sets no reserved bit or value (R12, R354). -/
def SoundTest (v : Word) : Prop := v.field 23 0 = 0 ∧ v.field 29 28 ≠ 3 ∧ v.field 27 26 ≠ 3

/-- The value of LNK_TEST without `inject` and reserved bits. -/
def testBits (v : Word) : Word := v &&& 0xFE000000

/-- The span that a reserved bit or value opens: the bits' where both are set. -/
theorem setTest_ub {s : State} {x : Nat} {v : Word} (hr : s.glb.state ≠ .reset) (hu : s.ub = none) :
    (setTest x v s).ub = if v.field 23 0 ≠ 0 then some 12 else if v.field 29 28 = 3 ∨ v.field 27 26 = 3 then some 354 else none := by
  have hl : ∀ (u : State) c, (u.leaveActive x c).ub = u.ub := fun u c => ub_of_blank (State.leaveActive_frame (Nat.and_self _)) (by decide)
  have hd : ∀ (u : State) c, (u.toDetect x c).ub = u.ub := fun u c => ub_of_blank (State.toDetect_frame (Nat.and_self _)) (by decide)
  unfold setTest
  rw [if_neg hr]
  simp only [apply_ite State.ub, State.upLane_ub, hl, hd, ite_self]
  by_cases h0 : v.field 23 0 ≠ 0
  · have h12 : (s.undefinedUse 12).ub = some 12 := State.undefinedUse_ub 12 hu
    simp only [if_pos h0, undefinedUse_of_open h12, ite_self, h12]
  · simp only [if_neg h0]
    split
    · exact State.undefinedUse_ub 354 hu
    · exact hu

/-- The bits above bit 24 of a written value are kept. -/
theorem testBits_field (v : Word) {hi lo : Nat} (h : 25 ≤ lo) : (testBits v).field hi lo = v.field hi lo := by
  have hm : ∀ j < 32, 25 ≤ j → (0xFE000000 : Nat).testBit j = true := by decide
  have hd : (testBits v).toNat / 2 ^ lo = v.toNat / 2 ^ lo := by
    refine Nat.eq_of_testBit_eq fun i => ?_
    rw [Nat.testBit_div_two_pow, Nat.testBit_div_two_pow, testBits, BitVec.toNat_and, Nat.testBit_and]
    by_cases hj : i + lo < 32
    · rw [show (0xFE000000 : Word).toNat = 0xFE000000 from rfl, hm _ hj (by omega), Bool.and_true]
    · rw [Nat.testBit_lt_two_pow (Nat.lt_of_lt_of_le v.isLt (Nat.pow_le_pow_right (by decide) (by omega))), Bool.false_and]
  unfold Word.field bitsOf
  rw [hd]

/-- A value with `inject` is not zero above its reserved bits. -/
theorem field_ne_zero_of_inject {v : Word} (h : v.flag 24 = true) : v.field 31 24 ≠ 0 := by
  unfold Word.flag bitOf at h
  unfold Word.field bitsOf
  have := v.isLt
  simp only [beq_iff_eq] at h
  omega

section
variable {s : State} {x : Nat} {v : Word} (hr : s.glb.state ≠ .reset) (hv : SoundTest v)
include hr hv

/-- LNK_TEST under a sound value: into TEST, back to DETECT, or nothing but the value. -/
theorem setTest_of_sound : setTest x v s =
    if v.field 31 24 ≠ 0 then (s.leaveActive x 5).upLane x ((s.lane x).tested · x s.tick (testBits v))
    else if (s.lane x).state = .test then (s.toDetect x 5).upLane x fun q => { q with test := 0 }
    else s.upLane x fun q => { q with test := 0 } := by
  obtain ⟨h0, hg, hc⟩ := hv
  have e1 : (if v.field 23 0 ≠ 0 then s.undefinedUse 12 else s) = s := if_neg (not_not_intro h0)
  have e2 : (if v.field 29 28 = 3 ∨ v.field 27 26 = 3 then s.undefinedUse 354 else s) = s := if_neg (not_or_intro hg hc)
  unfold setTest
  rw [if_neg hr]
  dsimp only
  rw [e1, e2]
  rfl

theorem setTest_lane_self : (setTest x v s).lane x =
    if v.field 31 24 ≠ 0 then (s.lane x).tested (s.lane x) x s.tick (testBits v)
    else if (s.lane x).state = .test then { (s.toDetect x 5).lane x with test := 0 }
    else { s.lane x with test := 0 } := by
  rw [setTest_of_sound hr hv]
  split
  · rw [State.upLane_lane_self, leaveActive_lane]
  · split
    · rw [State.upLane_lane_self]
    · rw [State.upLane_lane_self]

theorem setTest_lane_ne {y : Nat} (hy : y ≠ x) : (setTest x v s).lane y = s.lane y := by
  rw [setTest_of_sound hr hv]
  split
  · rw [State.upLane_lane_ne _ hy, leaveActive_lane]
  · split
    · rw [State.upLane_lane_ne _ hy, toDetect_lane_ne _ hy]
    · rw [State.upLane_lane_ne _ hy]

/-- A sound value opens no span; the mask is that of a lane on its way to DETECT. -/
theorem setTest_frame_of_sound {M : Nat} (hM : 7584415764 &&& M = 7584415764) : blank M (setTest x v s) = blank M s := by
  refine blank_mono hM ?_
  rw [setTest_of_sound hr hv]
  split
  · exact (upLane_frame (by decide)).trans (State.leaveActive_frame (by decide))
  · split
    · exact (upLane_frame (by decide)).trans (State.toDetect_frame (by decide))
    · exact upLane_frame (by decide)

theorem setTest_glb_state : (setTest x v s).glb.state = s.glb.state :=
  (part_same_of_blank (setTest_frame_of_sound hr hv (Nat.and_self _)) .mode (by decide)).1

/-- A write under a sound value is the value taken, and one error more where the inverted bit comes back to the checker (R353). -/
theorem testWrite_of_sound : testWrite x v s =
    if v.flag 24 = true ∧ testLoops (testBits v) = true then
      (setTest x v s).upLane x fun q => { q with prbsErr := satTo 0x7FFFFFFF (q.prbsErr + 1) }
    else setTest x v s := by
  unfold testWrite
  dsimp only
  by_cases hf : v.flag 24 = true
  · rw [setTest_glb_state hr hv, setTest_lane_self hr hv, if_pos (field_ne_zero_of_inject hf)]
    simp only [hf, hr, Lane.tested, ne_eq, not_false_eq_true, true_and]
  · rw [if_neg fun h => hf h.1, if_neg fun h => hf h.1]

theorem testWrite_frame_of_sound {M : Nat} (hM : 7584415764 &&& M = 7584415764) : blank M (testWrite x v s) = blank M s := by
  rw [testWrite_of_sound hr hv]
  exact (ite_left_frame (upLane_frame (blank_mask hM (by decide)))).trans (setTest_frame_of_sound hr hv hM)

theorem testWrite_lane_self : (testWrite x v s).lane x =
    if v.flag 24 = true ∧ testLoops (testBits v) = true then
      { (setTest x v s).lane x with prbsErr := satTo 0x7FFFFFFF (((setTest x v s).lane x).prbsErr + 1) }
    else (setTest x v s).lane x := by
  rw [testWrite_of_sound hr hv, apply_ite (State.lane · x), State.upLane_lane_self]

theorem testWrite_lanesKept : LanesKept x s (testWrite x v s) := by
  intro y hy
  rw [testWrite_of_sound hr hv, apply_ite (State.lane · y), State.upLane_lane_ne _ hy, ite_self, setTest_lane_ne hr hv hy]

/-- Into TEST: the pattern, the errors found and the checker's lock, with an inverted bit counted where the hub's own stream comes back. -/
theorem testWrite_tests (hx : v.field 31 24 ≠ 0) :
    ((testWrite x v s).lane x).state = .test ∧ ((testWrite x v s).lane x).test = testBits v ∧
      ((testWrite x v s).lane x).prbsLock = testLoops (testBits v) ∧
      ((testWrite x v s).lane x).prbsErr =
        (let found := if (s.lane x).test.field 27 26 = 0 ∧ v.field 27 26 ≠ 0 then 0 else ((s.lane x).settlePrbs x s.tick).prbsErr
         if v.flag 24 = true ∧ testLoops (testBits v) = true then satTo 0x7FFFFFFF (found + 1) else found) := by
  have hc : (testBits v).field 27 26 = v.field 27 26 := testBits_field v (by decide)
  rw [testWrite_lane_self hr hv, setTest_lane_self hr hv, if_pos hx]
  split <;> simp only [Lane.tested, hc, decide_eq_true_eq, and_self]

/-- Through loop 2, and through loop 1 without a generator, the receiver gets its locks (log entry 47). -/
theorem testWrite_locks (hx : v.field 31 24 ≠ 0) (hl : v.field 31 30 = 2 ∨ v.field 31 30 = 1 ∧ v.field 29 28 = 0) :
    ((testWrite x v s).lane x).blockLock = true ∧ ((testWrite x v s).lane x).fecLock = ((testWrite x v s).lane x).fec := by
  have hp : pcsLoops (testBits v) = some true := by
    unfold pcsLoops
    rw [testBits_field v (by decide), testBits_field v (by decide)]
    obtain h | ⟨h, h'⟩ := hl
    · rw [h]; rfl
    · rw [h, h']; rfl
  rw [testWrite_lane_self hr hv, setTest_lane_self hr hv, if_pos hx]
  split <;> simp only [Lane.tested, hp, Option.getD_some, Bool.true_and, and_self]

theorem testWrite_notices (hx : v.field 31 24 ≠ 0) (ha : (s.lane x).state = .active) :
    Notices s (testWrite x v s) s.st.rimQ 0x51 x 5 (argT s.now) := by
  have h : Notices s (setTest x v s) s.st.rimQ 0x51 x 5 (argT s.now) := by
    rw [setTest_of_sound hr hv, if_pos hx]
    exact posts_congr (leaveActive_notices ha) rfl rfl
  rw [testWrite_of_sound hr hv]
  split
  · exact posts_congr h rfl rfl
  · exact h

/-- A value without `inject` whose high byte is 0 leaves no test. -/
theorem testWrite_ends (hx : v.field 31 24 = 0) : (testWrite x v s).lane x =
    if (s.lane x).state = .test then { (s.toDetect x 5).lane x with test := 0 } else { s.lane x with test := 0 } := by
  rw [testWrite_lane_self hr hv, setTest_lane_self hr hv, if_neg (not_not_intro hx), if_neg]
  exact fun h => field_ne_zero_of_inject h.1 hx

/-- Out of TEST the lane is in DETECT, and what its checker has found stays. -/
theorem testWrite_detects (hx : v.field 31 24 = 0) (ht : (s.lane x).state = .test) :
    Detects s (testWrite x v s) x 5 ∧ ((testWrite x v s).lane x).prbsErr = ((s.lane x).settlePrbs x s.tick).prbsErr ∧
      ((testWrite x v s).lane x).prbsLock = ((s.lane x).settlePrbs x s.tick).prbsLock := by
  have hk := testWrite_lanesKept (x := x) hr hv
  unfold Detects
  rw [testWrite_ends hr hv hx, if_pos ht, toDetect_lane_self]
  exact ⟨⟨rfl, rfl, rfl, rfl, hk, fun ha => LaneState.noConfusion (ht.symm.trans ha)⟩, rfl, rfl⟩

theorem act_testWrite_of_sound (hu : s.ub = none) : act s (testWrite x v) = .next (testWrite x v s) :=
  act_of_blank (testWrite_frame_of_sound hr hv (Nat.and_self _)) (by decide) hu

theorem testWrite_unchangedBut : UnchangedBut [.out, .intStatus, .stalls, .crier, .store, .lanes, .rim, .tdm] s (testWrite x v s) :=
  unchangedBut_of_blank (testWrite_frame_of_sound hr hv (Nat.and_self _)) (by intro p; cases p <;> decide)

end

theorem testWrite_ub {s : State} {x : Nat} {v : Word} : (testWrite x v s).ub = (setTest x v s).ub := by
  unfold testWrite
  exact (apply_ite State.ub _ _ _).trans (ite_self _)

/-- A reserved bit or value opens a span, and the answer says which. -/
theorem exec_lnkTestWrite_ub {s : State} {x : Fin 4} {v : Word} (hr : s.glb.state ≠ .reset) (hu : s.ub = none) :
    ∃ t, exec (.lnkTestWrite x v) s = .next t ∧
      t.ub = if v.field 23 0 ≠ 0 then some 12 else if v.field 29 28 = 3 ∨ v.field 27 26 = 3 then some 354 else none :=
  ⟨_, rfl, by rw [havoc_ub, testWrite_ub, setTest_ub hr hu]⟩

/-! ### FIXED_TAPS (R351) -/

theorem legalTaps_clampTaps (t : Taps) : legalTaps (clampTaps t) = true := by
  unfold clampTaps
  dsimp only
  split
  · assumption
  · split
    · assumption
    · decide

theorem clampTaps_of_legal {t : Taps} (h : legalTaps t = true) : clampTaps t = t := by
  obtain ⟨a, b, c⟩ := t
  have hc : clampInt a (-12) 0 = a ∧ clampInt b 28 63 = b ∧ clampInt c (-20) 0 = c := by
    simp only [legalTaps, Bool.and_eq_true, decide_eq_true_eq] at h
    unfold clampInt
    refine ⟨?_, ?_, ?_⟩ <;> rw [if_neg (by omega), if_neg (by omega)]
  unfold clampTaps
  simp only [hc, h, if_true]

/-- A non-zero reserved bit of LNK_FIXED_TAPS opens a span (R12). -/
theorem fixedTapsWrite_undefined {s : State} {x : Fin 2} {v : Word} (hr : s.glb.state ≠ .reset) (hu : s.ub = none) (h : v.field 31 24 ≠ 0) :
    ∃ t, exec (.fixedTapsWrite x v) s = .next t ∧ t.ub = some 12 := by
  refine ⟨_, rfl, ?_⟩
  rw [havoc_ub]
  unfold fixedTaps
  rw [if_neg hr, State.upLane_ub, if_pos h, State.undefinedUse_ub 12 hu]

/-- A written profile is clamped to the limits of R341; one that keeps them is taken as it is. -/
theorem fixedTapsWrite_sound {s : State} {x : Fin 2} {v : Word} (hr : s.glb.state ≠ .reset) (hu : s.ub = none) (h : v.field 31 24 = 0) :
    ∃ t f, exec (.fixedTapsWrite x v) s = .next t ∧ t.lane x = { s.lane x with fixedTaps := f } ∧ legalTaps f = true ∧
      (legalTaps (signedOf 8 (v.field 23 16), signedOf 8 (v.field 15 8), signedOf 8 (v.field 7 0)) = true →
        f = (signedOf 8 (v.field 23 16), signedOf 8 (v.field 15 8), signedOf 8 (v.field 7 0))) ∧
      LanesKept x s t ∧ UnchangedBut [.lanes] s t := by
  have he : fixedTaps x v s = s.upLane x fun l =>
      { l with fixedTaps := clampTaps (signedOf 8 (v.field 23 16), signedOf 8 (v.field 15 8), signedOf 8 (v.field 7 0)) } := by
    unfold fixedTaps
    rw [if_neg hr, if_neg (not_not_intro h)]
  exact ⟨_, _, act_next he hu, State.upLane_lane_self _ _, legalTaps_clampTaps _, clampTaps_of_legal, fun _ hy => State.upLane_lane_ne _ hy,
    unchangedBut_of_blank (M := 1073741824) (upLane_frame (by decide)) (by intro p; cases p <;> decide)⟩

/-! ### OPTICS (R348) -/

theorem endLong_completes {s : State} {l : LongCmd} {st r : Nat} : Completes s (s.endLong l st r) l.item st r := by
  unfold State.endLong
  exact completes_from (finish_completes ..) (fun _ => rfl) (by cases l.item.master <;> rfl)

theorem endLong_long {s : State} {l : LongCmd} {st r : Nat} :
    (s.endLong l st r).cmd.long = eraseFirst (fun q => decide (q = l)) s.cmd.long := by
  have h := part_same_of_blank (State.finish_frame (s := s.upCmd fun k => { k with long := eraseFirst (fun x => decide (x = l)) k.long })
    (c := l.item) (status := st) (result := r) (Nat.and_self _)) .queue (by decide)
  exact h.2

theorem endLong_unchangedBut {s : State} {l : LongCmd} {st r : Nat} :
    UnchangedBut [.out, .intStatus, .crier, .queue, .cmd, .store] s (s.endLong l st r) :=
  unchangedBut_of_blank (State.endLong_frame (Nat.and_self _)) (by intro p; cases p <;> decide)

/-- The status and result with which the oldest optics command of a lane completes. -/
def opticsAnswer (r : OpticsResult) (len : Nat) (write : Bool) : Nat × Nat :=
  match r with
  | .noModule => (0x1B, 0)
  | .data bytes => (0, if write then 0 else leNat (bytes.take len))

/-- The transaction of the oldest optics command of a lane completes that command. -/
theorem opticsDone_of_long {s : State} {x dev off len : Nat} {write : Bool} {r : OpticsResult} {l : LongCmd}
    (h : s.longOf (fun o => match o with | .optics y _ _ _ _ => decide (x = y) | _ => false) = some l)
    (hl : l.op = .optics x dev off len write) :
    opticsDone x r s = s.endLong l (opticsAnswer r len write).1 (opticsAnswer r len write).2 := by
  unfold opticsDone
  split
  next hn => exact absurd (hn.symm.trans h) (Option.some_ne_none l).symm
  next l' hl' =>
    obtain rfl : l' = l := Option.some.inj (hl'.symm.trans h)
    rw [hl]
    cases r with
    | noModule => rfl
    | data bytes => cases write <;> rfl

/-- OPTICS_READ and OPTICS_WRITE refuse an operand that names no transfer, and begin any other (R348, R354). -/
theorem optics_refused {i : Instr} {s : State} {op : Nat} {write : Bool} {c : CmdItem} (h : Starts s op c) (hi : ∀ s, exec i s = act s (optics op write))
    (hc : op ≠ 0x10) (hk : knownOpcode op = true) (hb : c.a 3 0 = 0 ∨ 8 < c.a 3 0 ∨ write = true ∧ c.a 30 30 = 0) :
    CompletesOnly i s c 0x1A :=
  completesOnly_of h hc (hi s) (if_pos hb) hk

theorem optics_begins {i : Instr} {s : State} {op : Nat} {write : Bool} {c : CmdItem} (h : Starts s op c) (hi : ∀ s, exec i s = act s (optics op write))
    (hk : knownOpcode op = true) (hb : ¬(c.a 3 0 = 0 ∨ 8 < c.a 3 0 ∨ write = true ∧ c.a 30 30 = 0)) :
    ∃ t, exec i s = .next t ∧ Begins s t c (.optics (c.a 31 31) (c.a 30 30) (c.a 23 16) (c.a 3 0) write) ∧
      t.out = s.out ++ [.optics (c.a 31 31) (c.a 30 30) (c.a 23 16) (if write then leBytes (c.a 3 0) c.opB.toNat else [])] ∧
      UnchangedBut [.out, .queue] s t := by
  have ⟨_, _, hc, _, hu⟩ := h
  have hl : (taken s).startLong c (.optics (c.a 31 31) (c.a 30 30) (c.a 23 16) (c.a 3 0) write) = (taken s).upCmd fun k =>
      { k with long := k.long ++ [{ item := c, op := .optics (c.a 31 31) (c.a 30 30) (c.a 23 16) (c.a 3 0) write, since := s.tick }] } := by
    unfold State.startLong
    rw [if_pos hc]
    rfl
  refine ⟨_, (hi s).trans (act_start h _ ?_ hk), ?_⟩
  · rw [if_neg hb, hl]
    exact hu
  · rw [if_neg hb, hl]
    exact ⟨⟨rfl, rfl⟩, rfl, unchangedBut_of_blank (M := 2097156)
      ((emit_frame (by decide)).trans ((upCmd_frame rfl rfl rfl rfl (Or.inr rfl) (Or.inl rfl)).trans (taken_frame (by decide))))
      (by intro p; cases p <;> decide)⟩

/-- A poll that is due keeps what the module tells (R351). -/
theorem opticsPoll_due {s : State} {x : Fin 2} {b st : Byte} {p : Half} (hu : s.ub = none) (hr : s.glb.state ≠ .reset)
    (hp : s.passed (s.lane x).optTick (ms 100) = true) :
    ∃ t, exec (.opticsPoll x b st p) s = .next t ∧ t.lane x = { s.lane x with
        optTick := s.tick, optStatus := wordOf (b.toNat * 2 ^ 24 + st.toNat * 2 ^ 16 + p.toNat) } ∧
      LanesKept x s t ∧ UnchangedBut [.lanes] s t := by
  have hi : opticsPoll x b st p s = s.upLane x fun l =>
      { l with optTick := s.tick, optStatus := wordOf (b.toNat * 2 ^ 24 + st.toNat * 2 ^ 16 + p.toNat) } :=
    if_neg (not_or_intro hr (by rw [hp]; decide))
  exact ⟨_, act_next hi hu, State.upLane_lane_self _ _, fun _ hy => State.upLane_lane_ne _ hy,
    unchangedBut_of_blank (M := 1073741824) (upLane_frame (by decide)) (by intro p; cases p <;> decide)⟩

/-! ### O42 -/

/-- Settles O42, clause by clause: LNK_TEST by `testWrite_of_sound`, the taps by `clampTaps`, the optics commands by how a command starts and ends. -/
theorem lanesAreTestedAndOpticsReached : Obligations.LanesAreTestedAndOpticsReached := by
  unfold Obligations.LanesAreTestedAndOpticsReached
  refine ⟨?_, ?_, ?_, ?_, ?_, ?_, ?_⟩
  · intro s x v hu hr
    obtain ⟨t, ht, hub⟩ := exec_lnkTestWrite_ub (x := x) (v := v) hr hu
    refine ⟨fun h0 => ⟨t, ht, hub.trans (if_pos h0)⟩, fun h0 h3 => ⟨t, ht, hub.trans ((if_neg (not_not_intro h0)).trans (if_pos h3))⟩,
      fun h0 hg hc => ?_⟩
    have hv : SoundTest v := ⟨h0, hg, hc⟩
    refine ⟨_, act_testWrite_of_sound hr hv hu, fun hx => ?_, fun hx => ?_, testWrite_lanesKept hr hv, testWrite_unchangedBut hr hv⟩
    · obtain ⟨hst, hte, hlk, her⟩ := testWrite_tests (x := x) hr hv hx
      exact ⟨hst, hte, her, hlk, testWrite_locks hr hv hx, testWrite_notices hr hv hx⟩
    · have he := testWrite_ends (x := x) hr hv hx
      refine ⟨?_, testWrite_detects hr hv hx, fun hn => ?_, fun hn => ?_⟩
      · rw [he]; split <;> rfl
      · rw [he, if_neg hn]; exact ⟨rfl, rfl⟩
      · rw [he, if_neg hn]
  · intro s x v hu hr hf h0 hg hc
    have hv : SoundTest v := ⟨h0, hg, hc⟩
    have he : exec (.prbsInject x v) s = exec (.lnkTestWrite x v) s :=
      congrArg (fun u : State => (.next u.havoc : Ans)) (if_pos hf : prbsInject x v s = testWrite x v s)
    have ht := act_testWrite_of_sound (x := x) hr hv hu
    obtain ⟨hst, -, -, her⟩ := testWrite_tests (x := x) hr hv (field_ne_zero_of_inject hf)
    exact ⟨_, he.trans ht, ht, hst, fun hl => her.trans (if_pos ⟨hf, hl⟩), testWrite_lanesKept hr hv, testWrite_unchangedBut hr hv⟩
  · exact fun s x v hu hr => ⟨fixedTapsWrite_undefined hr hu, fixedTapsWrite_sound hr hu⟩
  · exact fun s x b st p hu hr hp => opticsPoll_due hu hr hp
  · exact fun s c hs => ⟨fun hb => optics_refused hs (fun _ => rfl) (by decide) (by decide) (hb.imp_right .inl),
      fun h0 h8 => optics_begins hs (fun _ => rfl) (by decide)
        (not_or_intro h0 (not_or_intro (Nat.not_lt.mpr h8) fun h => Bool.false_ne_true h.1))⟩
  · exact fun s c hs => ⟨fun hb => optics_refused hs (fun _ => rfl) (by decide) (by decide) (hb.imp_right (.imp_right fun h => ⟨rfl, h⟩)),
      fun h0 h8 hd => optics_begins hs (fun _ => rfl) (by decide) (not_or_intro h0 (not_or_intro (Nat.not_lt.mpr h8) fun h => hd h.2))⟩
  · intro s x r l dev off len write hu hl ho
    have hi : exec (.opticsDone x r) s = .next (s.endLong l (opticsAnswer r len write).1 (opticsAnswer r len write).2) :=
      act_next (opticsDone_of_long hl ho) (by rw [State.endLong_ub, hu])
    refine ⟨_, hi, endLong_long, ?_, ?_, ?_, endLong_unchangedBut⟩
    · rintro rfl
      exact endLong_completes
    · rintro bytes rfl rfl
      exact endLong_completes
    · rintro bytes rfl rfl
      exact endLong_completes

end Sys2Proof.Machine
end

section
/-! PROOFS. 00_scope, O49: the holds of the 64-bit registers. -/

namespace Sys2Proof.Machine

open Sys2Proof.Safety

/-! ### The interrupt bit of a torn access (R501) -/

theorem sendVector_intStatus (s : State) (v : Nat) : (s.sendVector v).glb.intStatus = s.glb.intStatus := by
  unfold State.sendVector
  split <;> rfl

theorem summaryVector_intStatus (s : State) : s.summaryVector.glb.intStatus = s.glb.intStatus := by
  unfold State.summaryVector
  split
  · rfl
  · rw [sendVector_intStatus]
    rfl

theorem intr_intStatus (s : State) (b : Nat) : (s.intr b).glb.intStatus = s.glb.intStatus ||| wordOf (2 ^ b) := by
  unfold State.intr
  dsimp only
  split
  · rw [summaryVector_intStatus]
    rfl
  · rfl

theorem bitOf_eq_testBit (n i : Nat) : bitOf n i = n.testBit i := by
  rw [Nat.testBit_eq_decide_div_mod_eq]
  rfl

/-- A bit that has been set reads as set. -/
theorem intr_flag (s : State) {b : Nat} (h : b < 32) : (s.intr b).glb.intStatus.flag b = true := by
  have hb : 2 ^ b % 2 ^ 32 = 2 ^ b := Nat.mod_eq_of_lt (Nat.pow_lt_pow_right (by decide) h)
  rw [intr_intStatus]
  unfold Word.flag wordOf
  rw [bitOf_eq_testBit, BitVec.toNat_or, BitVec.toNat_ofNat, hb, Nat.testBit_or, Nat.testBit_two_pow_self, Bool.or_true]

theorem tornRead_mst (s : State) (m : Master) : (s.tornRead m).mst m = { s.mst m with tornRead := true } := by
  unfold State.tornRead
  rw [mst_congr (State.intr_cmd 9), State.upMst_self]

theorem tornWrite_mst (s : State) (m : Master) : (s.tornWrite m).mst m = { s.mst m with tornWrite := true } := by
  unfold State.tornWrite
  rw [mst_congr (State.intr_cmd 9), State.upMst_self]

theorem tornRead_flag (s : State) (m : Master) : (s.tornRead m).glb.intStatus.flag 9 = true := intr_flag _ (by decide)

theorem tornWrite_flag (s : State) (m : Master) : (s.tornWrite m).glb.intStatus.flag 9 = true := intr_flag _ (by decide)

/-! ### Which half is addressed -/

theorem onHalf_low {s : State} {o : Nat} (hr : s.glb.state ≠ .reset) (h : s.wideAt o = some o) (f : Nat → State → State) :
    onHalf o true s f = f o s := by
  unfold onHalf
  rw [h]
  exact if_pos ⟨hr, by simp only [decide_true, beq_self_eq_true]⟩

theorem onHalf_high {s : State} {lo : Nat} (hr : s.glb.state ≠ .reset) (h : s.wideAt (lo + 4) = some lo) (f : Nat → State → State) :
    onHalf (lo + 4) false s f = f lo s := by
  unfold onHalf
  rw [h]
  have hne : ¬lo + 4 = lo := by omega
  exact if_pos ⟨hr, by simp only [hne, decide_false, beq_self_eq_true]⟩

/-- A command that acts on the half that its offset addresses, where its effect opens no span. -/
theorem exec_onHalf_low {i : Instr} {s : State} {o : Nat} {f : Nat → State → State} (hi : exec i s = act s fun s => onHalf o true s f)
    (hr : s.glb.state ≠ .reset) (h : s.wideAt o = some o) (hu : (f o s).ub = none) : exec i s = .next (f o s) :=
  hi.trans (act_next (onHalf_low hr h f) hu)

theorem exec_onHalf_high {i : Instr} {s : State} {lo : Nat} {f : Nat → State → State} (hi : exec i s = act s fun s => onHalf (lo + 4) false s f)
    (hr : s.glb.state ≠ .reset) (h : s.wideAt (lo + 4) = some lo) (hu : (f lo s).ub = none) : exec i s = .next (f lo s) :=
  hi.trans (act_next (onHalf_high hr h f) hu)

/-! ### Reads (R416, R417) -/

theorem halfRead_single (m : Master) (lo : Nat) (s : State) :
    halfRead m false lo s = (lowRead m lo s).1.emit (.readData m [wordOf (s.wideValue lo)]) := rfl

theorem exec_holdLowRead_half {s : State} {m : Fin 3} {o : Nat} {both : Bool} (hu : s.ub = none) (hr : s.glb.state ≠ .reset)
    (h : s.wideAt o = some o) (hb : both = false ∨ m = 1) :
    exec (.holdLowRead m o both) s = .next (halfRead (masterOf m) both o s) := by
  have hwf : Instr.wf (.holdLowRead m o both) = true := by
    obtain rfl | rfl := hb
    · rfl
    · exact Bool.or_true _
  have hub : (halfRead (masterOf m) both o s).ub = none := (ub_of_blank (halfRead_frame (Nat.and_self _)) (by decide)).trans hu
  refine actIf_next hwf ?_ hub
  rw [if_neg (by rw [h]; exact fun hc => Option.some_ne_none _ hc.2)]
  exact onHalf_low hr h _

/-- The access that covers both halves takes nothing but the fraction of TMB_NOW (R87, R417). -/
theorem halfRead_both_mst (m : Master) (lo : Nat) (s : State) : (halfRead m true lo s).mst m =
    { s.mst m with fracHold := if lo = 0x10008 then some (s.nowFine % 65536).toNat else (s.mst m).fracHold } := by
  unfold halfRead lowRead
  simp only [if_true]
  rw [mst_congr (State.emit_cmd _), State.upMst_self, State.upMst_self]

theorem halfRead_single_mst (m : Master) (lo : Nat) (s : State) : (halfRead m false lo s).mst m =
    { s.mst m with readHold := some (lo, s.wideValue lo, s.tick)
                   fracHold := if lo = 0x10008 then some (s.nowFine % 65536).toNat else (s.mst m).fracHold } := by
  rw [halfRead_single, mst_congr (State.emit_cmd _)]
  unfold lowRead
  rw [State.upMst_self]

theorem halfRead_unchangedBut (m : Master) (both : Bool) (lo : Nat) (s : State) : UnchangedBut [.out, .cmd] s (halfRead m both lo s) :=
  unchangedBut_of_blank (halfRead_frame (Nat.and_self _)) (by intro p; cases p <;> decide)

/-- A record that takes its own value is as before. -/
theorem upMst_same {s : State} {m : Master} {f : MasterRec → MasterRec} (h : f (s.mst m) = s.mst m) : (s.upMst m f).cmd = s.cmd := by
  cases m with
  | spi => exact congrArg (fun r => { s.cmd with spi := r }) h
  | pcie => exact congrArg (fun r => { s.cmd with pcie := r }) h
  | rim => exact congrArg (fun r => { s.cmd with rim := r }) h
  | tandem => exact congrArg (fun r => { s.cmd with tandem := r }) h

theorem halfRead_both_cmd {m : Master} {lo : Nat} {s : State} (h : lo ≠ 0x10008) : (halfRead m true lo s).cmd = s.cmd := by
  unfold halfRead lowRead
  simp only [if_true]
  rw [State.emit_cmd]
  refine upMst_same ?_
  rw [State.upMst_self, if_neg h]

/-- A read hold of 10 µs or less gives its half and is released. -/
theorem highRead_live {m : Master} {lo v k : Nat} {s : State} (h : (s.mst m).readHold = some (lo, v, k)) (hk : s.tick ≤ k + us 10) :
    highRead m lo s = (s.upMst m fun r => { r with readHold := none }, wordOf (v / 2 ^ 32)) := by
  unfold highRead
  rw [h]
  exact if_pos ⟨rfl, decide_eq_true hk⟩

/-- Without one the live half goes out, torn. -/
theorem highRead_torn {m : Master} {lo : Nat} {s : State} (h : ∀ v k, (s.mst m).readHold = some (lo, v, k) → k + us 10 < s.tick) :
    highRead m lo s = (s.tornRead m, wordOf (s.wideValue lo / 2 ^ 32)) := by
  unfold highRead
  split
  next o v k e =>
    refine if_neg fun ⟨ho, hl⟩ => ?_
    subst ho
    exact absurd (of_decide_eq_true hl) (Nat.not_le.mpr (h v k e))
  next => rfl

theorem exec_holdHighRead {s : State} {m : Fin 3} {lo : Nat} (hu : s.ub = none) (hr : s.glb.state ≠ .reset) (h : s.wideAt (lo + 4) = some lo) :
    exec (.holdHighRead m (lo + 4)) s =
      .next ((highRead (masterOf m) lo s).1.emit (.readData (masterOf m) [(highRead (masterOf m) lo s).2])) := by
  have hub : ((highRead (masterOf m) lo s).1.emit (.readData (masterOf m) [(highRead (masterOf m) lo s).2])).ub = none :=
    (ub_of_blank (highRead_frame (Nat.and_self _)) (by decide)).trans hu
  exact exec_onHalf_high (i := .holdHighRead m (lo + 4))
    (f := fun lo s => (highRead (masterOf m) lo s).1.emit (.readData (masterOf m) [(highRead (masterOf m) lo s).2])) rfl hr h hub

/-! ### The PCIe read of two words that are no halves (R399, R496) -/

theorem exec_holdLowRead_pair {s : State} {o : Nat} (hu : s.ub = none) (hr : s.glb.state ≠ .reset) (h : s.wideAt o = none)
    (h8 : o % 8 = 0) (ho : o < bar4End) : exec (.holdLowRead 1 o true) s = .next (pairRead .pcie o s) := by
  refine actIf_next rfl ?_ ((ub_of_blank (pairRead_frame (Nat.and_self _)) (by decide)).trans hu)
  rw [if_pos ⟨rfl, h⟩]
  unfold occurs
  rw [if_pos (by simp only [hr, h8, ho, ne_eq, not_false_eq_true, decide_true, Bool.and_self])]
  rfl

/-- A 32-bit register that pops nothing and mirrors nothing reads its value, without side effects. -/
theorem wordRead_plain {m : Master} {o : Nat} {v : RegView} {s : State} (ho : o < 0x1000000) (hw : s.wideAt o = none) (hm : mirrorAt o = none)
    (hp : popAt o = none) (hf : o ≠ 0x10010) (hv : s.reg32 o = some v) : wordRead m o s = (s, wordOf v.value, false) := by
  have hpw : s.plainWord o = wordOf v.value := by
    unfold State.plainWord
    rw [hw, hv]
  unfold wordRead regRead
  simp only [ho, if_true, hw, hm, hp, hf, if_false, hpw]

theorem vectorByte_table {g : Glb} {b : Nat} (h : b < 0x410) : g.vectorByte b = g.vectorWord (b / 4) := by
  unfold Glb.vectorByte
  rw [if_pos h]

theorem pairRead_bar4 {m : Master} {o : Nat} {s : State} (h : bar4 ≤ o) (hb : o + 8 ≤ bar4 + 0x410) : pairRead m o s =
    s.emit (.readData m [s.glb.vectorWord ((o - bar4) / 4), s.glb.vectorWord ((o - bar4) / 4 + 1)]) := by
  unfold pairRead
  rw [if_pos h, vectorByte_table (by omega), vectorByte_table (by omega), show (o - bar4 + 4) / 4 = (o - bar4) / 4 + 1 by omega]

theorem pairRead_plain {o : Nat} {v w : RegView} {s : State} (h8 : o % 8 = 0) (ho : o < 0x1000000) (hw : s.wideAt o = none)
    (hw' : s.wideAt (o + 4) = none) (hm : mirrorAt o = none) (hm' : mirrorAt (o + 4) = none) (hp : popAt o = none)
    (hp' : popAt (o + 4) = none) (hf : o ≠ 0x10010) (hv : s.reg32 o = some v) (hv' : s.reg32 (o + 4) = some w) :
    pairRead .pcie o s = s.emit (.readData .pcie [wordOf v.value, wordOf w.value]) := by
  unfold pairRead
  rw [if_neg (by unfold bar4; omega)]
  simp only [wordRead_plain ho hw hm hp hf hv, wordRead_plain (by omega) hw' hm' hp' (by omega) hv', Bool.or_self, Bool.false_eq_true, if_false]

theorem emit_unchangedBut (s : State) (o : Out) : UnchangedBut [.out] s (s.emit o) :=
  unchangedBut_of_blank (emit_frame (Nat.and_self _)) (by intro p; cases p <;> decide)

/-! ### Writes (R416) -/

theorem lowWrite_mst (m : Master) (lo : Nat) (v : Word) (s : State) : ((lowWrite m lo v s).mst m).writeHold = some (lo, v, s.tick) := by
  unfold lowWrite
  dsimp only
  rw [State.upMst_self]
  split
  · rw [show (s.tornWrite m).tick = s.tick from congrArg Tmb.counter (State.intr_tmb (s := s.upMst m _) 9)]
  · rfl

/-- A half held before is discarded, torn. -/
theorem lowWrite_torn {m : Master} {lo : Nat} {v : Word} {s : State} (h : (s.mst m).writeHold ≠ none) :
    ((lowWrite m lo v s).mst m).tornWrite = true ∧ (lowWrite m lo v s).glb.intStatus.flag 9 = true := by
  have e : lowWrite m lo v s = (s.tornWrite m).upMst m fun r => { r with writeHold := some (lo, v, (s.tornWrite m).tick) } := by
    unfold lowWrite
    rw [if_pos (Option.isSome_iff_ne_none.mpr h)]
  rw [e, State.upMst_self, tornWrite_mst, State.upMst_glb]
  exact ⟨rfl, tornWrite_flag s m⟩

theorem lowWrite_first {m : Master} {lo : Nat} {v : Word} {s : State} (h : (s.mst m).writeHold = none) :
    lowWrite m lo v s = s.upMst m fun r => { r with writeHold := some (lo, v, s.tick) } := by
  unfold lowWrite
  rw [h]
  rfl

theorem upMst_unchangedBut {s : State} {m : Master} {f : MasterRec → MasterRec} (hf : ∀ r, (f r).credit = r.credit) :
    UnchangedBut [.cmd] s (s.upMst m f) :=
  unchangedBut_of_blank (M := 8388608) (upMst_frame (by decide) (Or.inr hf)) (by intro p; cases p <;> decide)

theorem rsvWide_of_clear {s : State} {lo w : Nat} {x : RegView} (hx : s.reg64 lo = some x) (hw : w &&& x.rsv = 0) : s.rsvWide lo w = s := by
  unfold State.rsvWide
  rw [hx]
  exact if_pos hw

theorem reg64_upMst (s : State) (m : Master) (f : MasterRec → MasterRec) (o : Nat) : (s.upMst m f).reg64 o = s.reg64 o := by
  have hn : (s.upMst m f).now = s.now := rfl
  have hc : (s.upMst m f).commitTimeReg = s.commitTimeReg := rfl
  have hs : (s.upMst m f).scrubNext = s.scrubNext := by
    unfold State.scrubNext State.longOf
    rw [State.upMst_long]
    rfl
  unfold State.reg64
  simp only [hn, hc, hs, State.upMst_cfg, State.upMst_tmb, State.upMst_tdm, State.upMst_window, State.upMst_memUnit, State.upMst_ring,
    State.upMst_crier, State.upMst_snap, State.upMst_trig, State.upMst_path, State.upMst_stall, State.upMst_cal]

/-- A reserved bit of a 64-bit register opens the span that stands after the write. -/
theorem writeWide_reserved {m : Master} {lo w : Nat} {x : RegView} {s : State} (hu : s.ub = none) (hx : s.reg64 lo = some x)
    (hw : w &&& x.rsv ≠ 0) : (writeWide m lo w s).ub = some 12 := by
  have h0 : (s.rsvWide lo w).ub = some 12 := by
    unfold State.rsvWide
    rw [hx]
    exact (congrArg State.ub (if_neg hw)).trans (State.undefinedUse_ub 12 hu)
  unfold writeWide
  dsimp only
  split
  · rw [State.upRing_ub]
    unfold State.ringRewrite
    split
    · rw [show ((s.rsvWide lo w).noteWrite m lo).undefinedUse 404 = _ from undefinedUse_of_open (r := 12) h0]
      exact h0
    · exact h0
  · exact h0

theorem writeWide_readOnly {m : Master} {lo w : Nat} {x : RegView} {s : State} (hx : s.reg64 lo = some x) (hw : w &&& x.rsv = 0)
    (hl : lo < 0x72000 ∨ 0x72800 ≤ lo) : writeWide m lo w s = s := by
  unfold writeWide
  rw [rsvWide_of_clear hx hw]
  exact if_neg (by omega)

/-- The 64-bit registers of a ring: QUE_RING_BASE and QUE_RING_WB, without reserved bits (R403). -/
theorem reg64_ring (s : State) (r : Fin 64) : s.reg64 (0x72000 + 0x20 * r.val) = some { value := (s.ring r).base % 2 ^ 64 } ∧
    s.reg64 (0x72008 + 0x20 * r.val) = some { value := (s.ring r).wb % 2 ^ 64 } := by
  have hr := r.isLt
  constructor
  · unfold State.reg64
    rw [if_neg (by omega), if_neg (by omega), if_neg (by omega), if_neg (by omega), if_neg (by omega), if_neg (by omega), if_pos (by omega),
      show (0x72000 + 0x20 * r.val) % 0x20 = 0 by omega, show (0x72000 + 0x20 * r.val - 0x72000) / 0x20 = r.val by omega]
    rfl
  · unfold State.reg64
    rw [if_neg (by omega), if_neg (by omega), if_neg (by omega), if_neg (by omega), if_neg (by omega), if_neg (by omega), if_pos (by omega),
      show (0x72008 + 0x20 * r.val) % 0x20 = 8 by omega, show (0x72008 + 0x20 * r.val - 0x72000) / 0x20 = r.val by omega]
    rfl

/-- `lo` is the offset of QUE_RING_BASE or QUE_RING_WB of ring `r`, and `f` sets that register. -/
def IsRingReg (r : Fin 64) (lo : Nat) (f : Nat → Ring → Ring) : Prop :=
  lo = 0x72000 + 0x20 * r.val ∧ f = (fun w g => { g with base := w }) ∨ lo = 0x72008 + 0x20 * r.val ∧ f = (fun w g => { g with wb := w })

theorem reg64_of_isRingReg {r : Fin 64} {lo : Nat} {f : Nat → Ring → Ring} (h : IsRingReg r lo f) (s : State) :
    ∃ n, s.reg64 lo = some { value := n } := by
  obtain ⟨rfl, -⟩ | ⟨rfl, -⟩ := h
  · exact ⟨_, (reg64_ring s r).1⟩
  · exact ⟨_, (reg64_ring s r).2⟩

/-- A value is written to a register of a ring, behind no later write of the tick (R496). -/
theorem writeWide_ring {m : Master} {lo w : Nat} {s : State} {r : Fin 64} {f : Nat → Ring → Ring} (h : IsRingReg r lo f)
    (hb : s.writeBehind m lo = false) : writeWide m lo w s = ((s.noteWrite m lo).ringRewrite r lo w).upRing r (f w) := by
  obtain ⟨n, hn⟩ := reg64_of_isRingReg h s
  have hr := r.isLt
  unfold writeWide
  rw [rsvWide_of_clear hn (Nat.and_zero w)]
  dsimp only
  obtain ⟨rfl, rfl⟩ | ⟨rfl, rfl⟩ := h
  · rw [if_pos ⟨by omega, by omega, hb⟩, show (0x72000 + 0x20 * r.val - 0x72000) / 0x20 = r.val by omega]
    simp only [show (0x72000 + 0x20 * r.val) % 0x20 = 0 by omega, if_true]
  · rw [if_pos ⟨by omega, by omega, hb⟩, show (0x72008 + 0x20 * r.val - 0x72000) / 0x20 = r.val by omega]
    simp only [show (0x72008 + 0x20 * r.val) % 0x20 = 8 by omega, show ¬(8 = 0) by decide, if_false]

/-- While a ring is not enabled its registers take any value (R404). -/
theorem ringRewrite_of_disabled {s : State} {r lo w : Nat} (h : (s.ring r).enabled = false) : s.ringRewrite r lo w = s := by
  unfold State.ringRewrite
  exact if_neg (by rw [h]; exact fun hc => Bool.false_ne_true hc.1)

/-- The high half takes effect together with the held low half. -/
theorem highWrite_live {m : Master} {lo k : Nat} {v low : Word} {s : State} (h : (s.mst m).writeHold = some (lo, low, k))
    (hk : s.tick ≤ k + us 10) :
    highWrite m lo v s = writeWide m lo (v.toNat * 2 ^ 32 + low.toNat) (s.upMst m fun r => { r with writeHold := none }) := by
  unfold highWrite
  rw [h]
  exact if_pos ⟨rfl, decide_eq_true hk⟩

/-- Alone it takes effect with the low half that stands, torn. -/
theorem highWrite_torn {m : Master} {lo : Nat} {v : Word} {s : State}
    (h : ∀ low k, (s.mst m).writeHold = some (lo, low, k) → k + us 10 < s.tick) :
    highWrite m lo v s = (writeWide m lo (v.toNat * 2 ^ 32 + s.wideValue lo % 2 ^ 32) s).tornWrite m := by
  unfold highWrite
  split
  next o low k e =>
    refine if_neg fun ⟨ho, hl⟩ => ?_
    subst ho
    exact absurd (of_decide_eq_true hl) (Nat.not_le.mpr (h low k e))
  next => rfl

theorem exec_holdHighWrite {s : State} {m : Fin 3} {lo : Nat} {v : Word} (hr : s.glb.state ≠ .reset) (h : s.wideAt (lo + 4) = some lo) :
    exec (.holdHighWrite m (lo + 4) v) s = .next (highWrite (masterOf m) lo v s).havoc :=
  congrArg (fun u : State => (.next u.havoc : Ans)) (onHalf_high hr h _)

/-- A high half that takes effect, with the held low half, on a register of a ring that is not enabled: nothing else of the ring, and no other ring,
changes. -/
theorem highWrite_ring {s : State} {m : Master} {lo k : Nat} {v low : Word} {r : Fin 64} {f : Nat → Ring → Ring} (hu : s.ub = none)
    (h : (s.mst m).writeHold = some (lo, low, k)) (hk : s.tick ≤ k + us 10) (hl : IsRingReg r lo f) (hd : (s.ring r).enabled = false)
    (hb : s.writeBehind m lo = false) :
    let t := (highWrite m lo v s).havoc
    (t.mst m).writeHold = none ∧ t.ring r = f (v.toNat * 2 ^ 32 + low.toNat) (s.ring r) ∧ RingsKept r s t ∧ UnchangedBut [.glb, .cmd, .host] s t := by
  have hd' : (((s.upMst m fun x => { x with writeHold := none }).noteWrite m lo).ring r).enabled = false := hd
  have he : highWrite m lo v s = ((s.upMst m fun x => { x with writeHold := none }).noteWrite m lo).upRing r
      (f (v.toNat * 2 ^ 32 + low.toNat)) := by
    rw [highWrite_live h hk, writeWide_ring (s := s.upMst m _) hl hb, ringRewrite_of_disabled hd']
  have hn : (highWrite m lo v s).havoc = highWrite m lo v s := havoc_of_none (by rw [he]; exact hu)
  dsimp only
  rw [hn, he]
  refine ⟨?_, State.upRing_ring_self _ _, fun p hp => State.upRing_ring_ne _ hp, ?_⟩
  · exact congrArg MasterRec.writeHold (State.upMst_self (s := s) m fun x => { x with writeHold := none })
  · exact unchangedBut_of_blank (M := 25165856)
      ((upRing_frame (by decide)).trans ((State.noteWrite_frame (by decide)).trans (upMst_frame (by decide) (Or.inr fun _ => rfl))))
      (by intro p; cases p <;> decide)

theorem wideValue_ringBase (s : State) (r : Fin 64) : s.wideValue (0x72000 + 0x20 * r.val) % 2 ^ 32 = (s.ring r).base % 2 ^ 32 := by
  unfold State.wideValue
  rw [(reg64_ring s r).1]
  exact Nat.mod_mod_of_dvd _ (by decide)

theorem tornWrite_ring (s : State) (m : Master) (r : Nat) : (s.tornWrite m).ring r = s.ring r := by
  unfold State.tornWrite
  rw [State.intr_ring, State.upMst_ring]

/-- A frame whose mask names the span, between states without one. -/
theorem unchangedBut_of_blank_of_none {M : Nat} {ps : List Part} {s t : State} (h : blank M t = blank M s) (hs : s.ub = none) (ht : t.ub = none)
    (hp : ∀ p, p ∈ .ub :: ps ∨ M.testBit (partBit p) = false) : UnchangedBut ps s t := by
  obtain ⟨hq, hf⟩ := unchangedBut_of_blank h hp
  refine ⟨hq, fun p hn => ?_⟩
  by_cases hu : p = .ub
  · subst hu
    exact ht.trans hs.symm
  · exact hf p fun hc => (List.mem_cons.mp hc).elim hu hn

/-! ### The end of a hold (R416) -/

theorem holdExpiry_read {m : Master} {o v k : Nat} {s : State} (h : (s.mst m).readHold = some (o, v, k)) :
    holdExpiry m false s = if s.tick ≤ k + us 10 then s else s.upMst m fun r => { r with readHold := none } := by
  unfold holdExpiry
  simp only [Bool.false_eq_true, if_false, h, State.holdLive, decide_eq_true_eq]

theorem holdExpiry_write {m : Master} {o k : Nat} {v : Word} {s : State} (h : (s.mst m).writeHold = some (o, v, k)) :
    holdExpiry m true s = if s.tick ≤ k + us 10 then s else (s.upMst m fun r => { r with writeHold := none }).tornWrite m := by
  unfold holdExpiry
  simp only [if_true, h, State.holdLive, decide_eq_true_eq]

/-! ### O49 -/

/-- Settles O49, clause by clause: each access is the meaning of the half that it addresses. -/
theorem holdsKeepTheHalvesTogether : Obligations.HoldsKeepTheHalvesTogether := by
  unfold Obligations.HoldsKeepTheHalvesTogether
  refine ⟨?_, ?_, ?_, ?_, ?_, ?_, ?_, ?_⟩
  · intro s m o hu hr h
    constructor
    · refine ⟨_, exec_holdLowRead_half hu hr h (.inl rfl), ?_, rfl, fun e => ?_, halfRead_unchangedBut ..⟩
      · rw [halfRead_single_mst]
      · rw [halfRead_single_mst, if_pos e]
    · rintro rfl
      refine ⟨_, exec_holdLowRead_half hu hr h (.inr rfl), ?_, rfl, fun e => ?_, halfRead_both_cmd, halfRead_unchangedBut ..⟩
      · exact (congrArg MasterRec.readHold (halfRead_both_mst .pcie o s)).trans rfl
      · exact (congrArg MasterRec.fracHold (halfRead_both_mst .pcie o s)).trans (if_pos e)
  · intro s o hu hr h h8 ho
    refine ⟨_, exec_holdLowRead_pair hu hr h h8 ho, fun hb => ?_, fun v w hlt hw hm hm' hp hp' hf hv hv' => ?_, fun hb he => ?_,
      unchangedBut_of_blank (pairRead_frame (Nat.and_self _)) (by intro p; cases p <;> decide)⟩
    · unfold pairRead
      rw [if_neg (Nat.not_le.mpr hb)]
      rfl
    · rw [pairRead_plain h8 hlt h hw hm hm' hp hp' hf hv hv']
      exact ⟨rfl, emit_unchangedBut ..⟩
    · rw [pairRead_bar4 hb he]
      exact ⟨rfl, emit_unchangedBut ..⟩
  · intro s m lo hu hr h
    refine ⟨_, exec_holdHighRead hu hr h, fun v k hh hk => ?_, fun hh => ?_⟩
    · rw [highRead_live hh hk, mst_congr (State.emit_cmd _), State.upMst_self]
      exact ⟨rfl, rfl, unchangedBut_of_blank (M := 8388612) ((emit_frame (by decide)).trans (upMst_frame (by decide) (Or.inr fun _ => rfl)))
        (by intro p; cases p <;> decide)⟩
    · rw [highRead_torn hh, mst_congr (State.emit_cmd _), tornRead_mst]
      exact ⟨List.getLast?_concat .., rfl, tornRead_flag .., rfl,
        unchangedBut_of_blank (M := 8388628) ((emit_frame (by decide)).trans (State.tornRead_frame (by decide)))
          (by intro p; cases p <;> decide)⟩
  · intro s m o v hu hr h
    have hub : (lowWrite (masterOf m) o v s).ub = none := (ub_of_blank (lowWrite_frame (Nat.and_self _)) (by decide)).trans hu
    have he := exec_onHalf_low (i := .holdLowWrite m o v) (f := fun lo s => lowWrite (masterOf m) lo v s) rfl hr h hub
    refine ⟨_, he, lowWrite_mst .., fun hn => ?_, lowWrite_torn,
      unchangedBut_of_blank (lowWrite_frame (Nat.and_self _)) (by intro p; cases p <;> decide)⟩
    rw [lowWrite_first hn]
    exact upMst_unchangedBut fun _ => rfl
  · intro s m lo v x hu hr h hx
    refine ⟨_, exec_holdHighWrite hr h, fun low k hh hk => ⟨fun hw => ?_, fun hw hl => ?_, ?_, ?_⟩, fun hh hub => ?_⟩
    · rw [havoc_ub, highWrite_live hh hk]
      exact writeWide_reserved hu ((reg64_upMst ..).trans hx) hw
    · rw [highWrite_live hh hk, writeWide_readOnly ((reg64_upMst ..).trans hx) hw hl, havoc_of_none (s := s.upMst _ _) hu, State.upMst_self]
      exact ⟨rfl, upMst_unchangedBut fun _ => rfl⟩
    · rintro r rfl hd hb
      exact highWrite_ring hu hh hk (.inl ⟨rfl, rfl⟩) hd hb
    · rintro r rfl hd hb
      exact highWrite_ring hu hh hk (.inr ⟨rfl, rfl⟩) hd hb
    · have h0 : (highWrite (masterOf m) lo v s).ub = none := (havoc_ub _).symm.trans hub
      have hb := unchangedBut_of_blank_of_none (ps := [.out, .intStatus, .glb, .cmd, .host]) (highWrite_frame (Nat.and_self _)) hu h0
        (by intro p; cases p <;> decide)
      rw [havoc_of_none h0]
      rw [highWrite_torn hh] at hb ⊢
      refine ⟨by rw [tornWrite_mst], tornWrite_flag .., ?_, hb⟩
      rintro r rfl hw
      rw [tornWrite_ring, writeWide_ring (.inl ⟨rfl, rfl⟩) hw, State.upRing_ring_self, wideValue_ringBase]
  · exact fun s m o v k hu hk => ⟨fun h => act_next ((holdExpiry_read h).trans (if_pos hk)) hu,
      fun h => act_next ((holdExpiry_write h).trans (if_pos hk)) hu⟩
  · exact fun s m o v k hu hk h => ⟨_, act_next ((holdExpiry_read h).trans (if_neg (Nat.not_le.mpr hk))) hu, State.upMst_self ..,
      upMst_unchangedBut fun _ => rfl⟩
  · intro s m o k v hu hk h
    have he := (holdExpiry_write h).trans (if_neg (Nat.not_le.mpr hk))
    have hb : blank 8388628 (holdExpiry (masterOf m) true s) = blank 8388628 s := holdExpiry_frame (by decide)
    refine ⟨_, act_of_blank hb (by decide) hu, ?_, ?_, unchangedBut_of_blank hb (by intro p; cases p <;> decide)⟩
    · rw [he, tornWrite_mst, State.upMst_self]
    · rw [he, tornWrite_flag]

end Sys2Proof.Machine
end

section
/-! PROOFS. 01_architecture, O1: a step runs the front command, or a tick passes. -/

namespace Sys2Proof.Machine

open Sys2Proof.Safety

/-! ### GLB_STATE and the warm restart (R22, R471) -/

theorem state_of_blank {M : Nat} {s t : State} (h : blank M t = blank M s) (hm : M.testBit 3 = false) : t.glb.state = s.glb.state :=
  (part_same_of_blank h .mode hm).1

theorem enter_state (s : State) (g : GlbState) : (s.enter g).glb.state = g := by
  unfold State.enter
  split
  · next h => exact h
  · exact state_of_blank (State.intr_frame (Nat.and_self _)) (by decide)

/-- The entry into WARM_RESTART: the commands that still complete have completed (log entry 30), RUN is left, the restart is counted. -/
def State.restartEntered (s : State) : State :=
  (s.beforeRestart.leaveRun.upGlb fun g => { g with warmRestarts := satTo 255 (g.warmRestarts + 1) }).enter .warmRestart

/-- Behind its entry a restart only abandons (R24): a load and a store leave the structure store and the loader's registers changed (`t`), a recalibration
releases its spoke (`u`), and the restoring of a context leaves its stream. The masks
are those of `cfg` and `ldr`, and of `streams` and `queue`. -/
theorem beginRestart_abandons (s : State) : ∃ t u : State,
    blank 8589935104 t = blank 8589935104 s.restartEntered ∧ (u = t ∨ ∃ f i, u = (t.upCal f).release i 2) ∧
      blank 2129920 s.beginRestart = blank 2129920 u := by
  generalize e : s.beginRestart = r
  unfold State.beginRestart at e
  extract_lets before left entered noted loadless storeless released unrestored at e
  refine ⟨storeless, released, ?_, ?_, ?_⟩
  · have hstore : blank 8589935104 storeless = blank 8589935104 loadless := by
      refine forEach_frame fun _ _ => ?_
      split
      · exact upLdr_frame (by decide)
      · rfl
    have hload : blank 8589935104 loadless = blank 8589935104 noted := ite_left_frame (upCfg_frame (.inr rfl) (.inl rfl))
    exact hstore.trans (hload.trans (upLdr_frame (by decide)))
  · unfold released
    split
    · exact .inl rfl
    · exact .inr ⟨_, _, rfl⟩
  · have hrestore : blank 2129920 unrestored = blank 2129920 released := by
      refine forEach_frame fun _ _ => ?_
      split
      · exact upStrm_frame (by decide)
      · rfl
    rw [← e]
    exact (upCmd_frame rfl rfl rfl rfl (.inr rfl) (.inl rfl)).trans hrestore

theorem beginRestart_glb (s : State) : s.beginRestart.glb = s.restartEntered.glb := by
  obtain ⟨t, u, ht, hu, hb⟩ := beginRestart_abandons s
  have hut : u.glb = t.glb := by
    obtain rfl | ⟨f, i, rfl⟩ := hu
    · rfl
    · exact glb_of_blank (M := 336593920) ((State.release_frame (by decide)).trans (upCal_frame (by decide))) (by decide)
  rw [glb_of_blank hb (by decide), hut, glb_of_blank ht (by decide)]

theorem beginRestart_state (s : State) : s.beginRestart.glb.state = .warmRestart := by
  rw [beginRestart_glb]
  exact enter_state _ _

theorem ne_reset_of_blank {M : Nat} {s t : State} (hs : s.glb.state ≠ .reset) (h : blank M t = blank M s) (hm : M.testBit 3 = false) :
    t.glb.state ≠ .reset := by
  rw [state_of_blank h hm]
  exact hs

/-! ### Fault events never lead to RESET (R461, R485) -/

theorem warmRestart_ne_reset {s : State} (q why : Nat) (h : s.glb.state ≠ .reset) : (s.warmRestart q why).glb.state ≠ .reset := by
  unfold State.warmRestart
  split
  · exact h
  · exact h
  · exact h
  · split
    · exact h
    · rw [beginRestart_state]
      decide

theorem safeState_state (s : State) (w : Nat) : (s.safeState w).glb.state = .fault := by
  unfold State.safeState
  extract_lets q quarantined off
  rw [State.notify_glb, enter_state]

theorem runAction_ne_reset {s : State} (w action cls inst : Nat) (h : s.glb.state ≠ .reset) :
    (s.runAction w action cls inst).glb.state ≠ .reset := by
  unfold State.runAction
  split
  · split
    · exact h
    · split
      · exact h
      · split
        · exact h
        · exact ne_reset_of_blank (M := 68160512) h ((State.noteQuarantine_frame (by decide)).trans (State.quarantine_frame (by decide))) (by decide)
  · exact ne_reset_of_blank h (State.retrain_frame (Nat.and_self _)) (by decide)
  · exact warmRestart_ne_reset _ _ h
  · exact ne_reset_of_blank h (State.failOver_frame (Nat.and_self _)) (by decide)
  · rw [safeState_state]
    decide
  · exact h

theorem runActions_ne_reset {s : State} (l : List (Nat × Nat × Nat)) (h : s.glb.state ≠ .reset) : (s.runActions l).glb.state ≠ .reset := by
  unfold State.runActions
  refine forEach_keeps (P := fun t : State => t.glb.state ≠ .reset) h fun t x ht => ?_
  split
  · exact ht
  · exact runAction_ne_reset _ _ _ _ ht

theorem haltFirmware_state (s : State) : s.haltFirmware.glb.state = .recovery := by
  unfold State.haltFirmware
  extract_lets halted recovering held told
  have hheld : blank 6511462548 held = blank 6511462548 recovering := ite_right_frame (State.enterHoldover_frame (by decide))
  have htold : blank 6511462548 told = blank 6511462548 held := State.notify_frame (by decide)
  have hyield := ite_left_frame (c := told.tdm.role = .active ∧ told.partnerAlive ∧ (told.tdm.partnerRole = 2 ∨ told.tdm.partnerRole = 3))
    (State.yieldRole_frame (M := 6511462548) (s := told) (cause := 1) (by decide))
  exact (state_of_blank (hyield.trans (htold.trans hheld)) (by decide)).trans (enter_state _ _)

theorem watchdogFollow_ne_reset {s : State} (role : Role) (inst : Nat) (h : s.glb.state ≠ .reset) :
    (s.watchdogFollow role inst).glb.state ≠ .reset := by
  unfold State.watchdogFollow
  extract_lets probation failedOver t counted
  have ht : counted.glb.state ≠ .reset := by
    refine ne_reset_of_blank (M := 8658092032) h (ite_left_frame ?_) (by decide)
    exact (ite_left_frame (State.notify_frame (by decide))).trans (upLdr_frame (by decide))
  split
  · exact ht
  · split
    · rw [haltFirmware_state]
      decide
    · split
      · split
        · exact ht
        · exact ht
      · exact warmRestart_ne_reset _ _ ht

theorem settleFaults_ne_reset {s : State} (h : s.glb.state ≠ .reset) : s.settleFaults.glb.state ≠ .reset := by
  unfold State.settleFaults
  split
  · exact h
  · extract_lets evs role r
    have hr : blank 605028372 r.1 = blank 605028372 s :=
      (forEach_fst_frame fun _ _ => State.takeEvent_frame (by decide)).trans (upHlt_frame (by decide))
    exact forEach_keeps (P := fun t : State => t.glb.state ≠ .reset) (runActions_ne_reset _ (ne_reset_of_blank h hr (by decide)))
      fun t e ht => watchdogFollow_ne_reset _ _ ht

/-! ### A tick (R21, R55, R459) -/

theorem settleFaults_of_none_due {s : State} (h : s.hlt.due = []) : s.settleFaults = s := by
  unfold State.settleFaults
  rw [h]

theorem idle_in_reset {s : State} (h : s.glb.state = .reset) : s.idle = s := if_pos h

theorem idle_eq {s : State} (h : s.glb.state ≠ .reset) : s.idle = (s.upTmb fun t => { t with counter := t.counter + 1 }).endSlew := if_neg h

theorem idle_frame (s : State) : blank 192 s.idle = blank 192 s :=
  ite_right_frame ((State.endSlew_frame (by decide)).trans (upTmb_frame (.inl rfl) (.inl rfl)))

theorem idle_counter {s : State} (h : s.glb.state ≠ .reset) : s.idle.tmb.counter = s.tmb.counter + 1 := by
  rw [idle_eq h]
  exact part_same_of_blank (State.endSlew_frame (Nat.and_self _)) .counter (by decide)

theorem settleFaults_counter (s : State) : s.settleFaults.tmb.counter = s.tmb.counter :=
  part_same_of_blank (State.settleFaults_frame (Nat.and_self _)) .counter (by decide)

theorem passTick_pending (s : State) : s.settleFaults.idle.pending = s.pending :=
  (pending_of_blank (idle_frame _)).trans (pending_of_blank (State.settleFaults_frame (Nat.and_self _)))

theorem step_cons {s : State} {c : Instr} {rest : List Instr} (h : s.pending = c :: rest) : step s = exec c { s with pending := rest } := by
  unfold step
  rw [h]

theorem step_nil {s : State} (h : s.pending = []) : step s = .next s.settleFaults.idle := by
  unfold step
  rw [h]
  rfl

/-- Settles O1, by the two cases of the queue: the tick's fault events never lead to RESET and keep TMB_COUNTER. -/
theorem stepRunsFrontCommand : Obligations.StepRunsFrontCommand := by
  refine ⟨fun s c rest h => step_cons h, fun s h => ⟨step_nil h, (passTick_pending s).trans h, fun hr => ?_, fun hd => ?_⟩⟩
  · rw [idle_counter (settleFaults_ne_reset hr), settleFaults_counter]
  · exact ⟨settleFaults_of_none_due hd, idle_in_reset, fun _ => unchangedBut_of_blank (idle_frame s) (by intro p; cases p <;> decide)⟩

end Sys2Proof.Machine
end

section
/-! PROOFS. 01_architecture, O14: commands that are held, or not at the front, do not start. -/

namespace Sys2Proof.Machine

open Sys2Proof.Safety

/-- A command of opcode `op` does not start: commands are held (R23, R27), or the front of the hub's queue is another command of the command set, or
the queue is empty (R385). -/
def WaitsFor (s : State) (op : Nat) : Prop :=
  s.holds = true ∨ ∀ c, s.cmd.queue.head? = some c → c.opcode.toNat ≠ op ∧ knownOpcode c.opcode.toNat = true

theorem holds_iff {s : State} : s.holds = true ↔ s.glb.state = .warmRestart ∨ s.glb.state = .reset ∨ s.ldr.coresHalted = true := by
  unfold State.holds
  rw [Bool.or_eq_true, Bool.or_eq_true, decide_eq_true_iff, decide_eq_true_iff, or_assoc]

theorem skipUnknown_of_holds {s : State} (h : s.holds = true) : s.skipUnknown = s := if_pos h

theorem skipUnknown_of_empty {s : State} (h : s.cmd.queue = []) : s.skipUnknown = s := by
  unfold State.skipUnknown
  split
  · rfl
  · have hb : s.cmd.queue.takeWhile (fun c => !knownOpcode c.opcode.toNat) = [] := by rw [h, List.takeWhile_nil]
    simp only [hb]
    rfl

theorem skipUnknown_of_waitsFor {s : State} {op : Nat} (h : WaitsFor s op) : s.skipUnknown = s := by
  obtain hh | hf := h
  · exact skipUnknown_of_holds hh
  · cases hq : s.cmd.queue.head? with
    | none => exact skipUnknown_of_empty (List.head?_eq_none_iff.mp hq)
    | some c => exact skipUnknown_of_known hq (hf c hq).2

/-- The front of the queue is not a command of opcode `op` that may start. -/
theorem front_of_waitsFor {s : State} {op : Nat} {c : CmdItem} {rest : List CmdItem} (h : WaitsFor s op) (hq : s.cmd.queue = c :: rest) :
    c.opcode.toNat ≠ op ∨ s.holds = true := by
  obtain hh | hf := h
  · exact .inr hh
  · exact .inl (hf c (by rw [hq]; rfl)).1

theorem start_of_waitsFor {s : State} {op : Nat} (h : WaitsFor s op) (f : CmdItem → State → State) : s.start op f = s := by
  unfold State.start
  rw [skipUnknown_of_waitsFor h]
  extract_lets t
  split
  · rfl
  · next c rest hq => exact if_pos (front_of_waitsFor h hq)

theorem noteRefused_of_waitsFor {s : State} {op : Nat} (h : WaitsFor s op) (t : State) : s.noteRefused op t = t := by
  unfold State.noteRefused
  rw [skipUnknown_of_waitsFor h]
  split
  · rfl
  · next c rest hq =>
    refine if_neg fun ⟨ho, hh, _⟩ => ?_
    obtain hn | hs := front_of_waitsFor h hq
    · exact hn ho
    · rw [hs] at hh
      exact Bool.noConfusion hh

/-- The row starts the command of opcode `op`; one of the update rows notes a refusal too (R493). -/
def StartsRow (i : Instr) (op : Nat) : Prop :=
  ∃ f, (∀ s, exec i s = act s fun s => s.start op f) ∨ ∀ s, exec i s = act s fun s => s.noteRefused op (s.start op f)

theorem startsRow_of_opcodeOf {i : Instr} {op : Nat} (h : opcodeOf i = some op) : StartsRow i op := by
  cases i
  case updateData | updateEnd | updateAbort | commitImage | saveSettings | otpProvision =>
    cases h
    exact ⟨_, .inr fun _ => rfl⟩
  case nop | loadStructure | commit | cancelCommit | storeStructure | setTime | releaseSpoke | restartLace | fireTrigger | rearmTrigger
      | setMark | clearMark | replay | releaseRecord | ackBlocks | readRecord | resetTally | abortInterval | flush | saveContext
      | restoreContext | setAddress | retrainLane | opticsRead | opticsWrite | swapRoles | snapshot | resync | readReg | writeReg | scrub
      | bankPower | storeRead | storeWrite | injectError | recalibrate | setTrim | clearWindow =>
    cases h
    exact ⟨_, .inl fun _ => rfl⟩
  all_goals cases h

theorem exec_of_waitsFor {i : Instr} {op : Nat} {s : State} (h : StartsRow i op) (hw : WaitsFor s op) (hu : s.ub = none) :
    exec i s = .next s := by
  obtain ⟨f, hi | hi⟩ := h
  · exact (hi s).trans (act_next (start_of_waitsFor hw f) hu)
  · exact (hi s).trans (act_next ((noteRefused_of_waitsFor hw _).trans (start_of_waitsFor hw f)) hu)

/-- Settles O14: every command row is a start, and a start changes nothing where commands are held or another is at the front. That commands are held
while both cores stand halted is the model's reading (log entry 30). -/
theorem warmRestartHoldsCommands : Obligations.WarmRestartHoldsCommands := by
  intro i op s hi hu h
  refine exec_of_waitsFor (startsRow_of_opcodeOf hi) ?_ hu
  unfold WaitsFor
  rw [holds_iff, or_assoc, or_assoc]
  exact h

end Sys2Proof.Machine
end

section
/-! PROOFS. 01_architecture, O5: the supervisor's faults, the warm restart and probation. -/

namespace Sys2Proof.Machine

open Sys2Proof.Safety

/-! ### A notice that a warm restart follows (R24) -/

theorem stands_of_posted {t u : State} {q n k : Nat} {i : Item} (h : Stands t q n k i) (hp : (u.que q).posted = (t.que q).posted)
    (hm : u.mem.store = t.mem.store) : Stands u q n k i := by
  unfold Stands
  rw [hp, itemAt_congr q n hm]
  exact h

/-- Where a frame names neither the crier nor the store, what stands stands on. -/
theorem stands_of_blank {M : Nat} {t u : State} {q n k : Nat} {i : Item} (h : Stands t q n k i) (hb : blank M u = blank M t)
    (hM : M &&& 68157440 = 0) : Stands u q n k i := by
  have hc : u.crier = t.crier := part_same_of_blank hb .crier (testBit_of_and hM 20 (by decide))
  refine stands_of_posted h ?_ (part_same_of_blank hb .store (testBit_of_and hM 26 (by decide)))
  unfold State.que
  rw [hc]

/-- A completion is one item. -/
theorem stands_finish {t : State} {q n k : Nat} {i : Item} (c : CmdItem) (st r : Nat) (h : Stands t q n k i) (hk : k < 65536) :
    Stands (t.finish c st r) q n (k + 1) i := by
  unfold State.finish
  extract_lets loaded m no posted marked
  have hposted : Stands posted q n (k + 1) i := stands_post (stands_of_blank h (State.loadBit_frame (Nat.and_self _)) (by decide)) hk
  have hmarked : Stands marked q n (k + 1) i := by
    unfold marked
    split
    · refine stands_of_posted hposted ?_ rfl
      by_cases hq : q = m.cplQ % 64
      · rw [hq, State.upQue_que_self]
      · rw [State.upQue_que_ne _ hq]
    · exact hposted
  exact stands_of_posted hmarked rfl rfl

theorem stands_endLong {t : State} {q n k : Nat} {i : Item} (l : LongCmd) (st r : Nat) (h : Stands t q n k i) (hk : k < 65536) :
    Stands (t.endLong l st r) q n (k + 1) i := stands_finish _ _ _ (stands_of_posted h rfl rfl) hk

/-- Rounds that post one item each. -/
theorem stands_forEach {α : Type} {f : State → α → State} {q n : Nat} {i : Item}
    (hf : ∀ t a k, Stands t q n k i → k < 65536 → Stands (f t a) q n (k + 1) i) {l : List α} {t : State} {k : Nat} (h : Stands t q n k i)
    (hk : k + l.length ≤ 65536) : Stands (forEach l t f) q n (k + l.length) i := by
  unfold forEach
  induction l generalizing t k with
  | nil => exact h
  | cons a l ih =>
    rw [List.length_cons] at hk ⊢
    rw [List.foldl_cons, Nat.add_comm l.length 1, ← Nat.add_assoc]
    exact ih (hf t a k h (by omega)) (by omega)

/-- Each command in progress completes once at most before a restart. -/
theorem stands_beforeRestart {t : State} {q n k : Nat} {i : Item} (h : Stands t q n k i) (hk : k + t.cmd.long.length ≤ 65536) :
    Stands t.beforeRestart q n (k + t.cmd.long.length) i := by
  unfold State.beforeRestart
  refine stands_forEach (fun t l k h hk => ?_) h hk
  split
  · exact stands_endLong _ _ _ (stands_of_blank h (State.saveAddr_frame (Nat.and_self _)) (by decide)) hk
  · split
    · exact stands_mono h (Nat.le_succ k)
    · refine stands_of_blank (M := 32768) ?_ (upStrm_frame (by decide)) (by decide)
      split
      · exact stands_endLong _ _ _ h hk
      · exact stands_mono h (Nat.le_succ k)
  · exact stands_mono h (Nat.le_succ k)

theorem stands_release {t : State} {q n k : Nat} {i : Item} (sp why : Nat) (h : Stands t q n k i) (hk : k < 65536) :
    Stands (t.release sp why) q n (k + 1) i := stands_notify (stands_of_posted h rfl rfl) hk

/-- Of what follows a restart's entry the release of a spoke alone posts, one notice. -/
theorem stands_beginRestart {t : State} {q n k : Nat} {i : Item} (h : Stands t q n k i) (hk : k + t.cmd.long.length < 65536) :
    Stands t.beginRestart q n (k + t.cmd.long.length + 1) i := by
  obtain ⟨u, v, hu, hv, hb⟩ := beginRestart_abandons t
  have hleft : Stands t.beforeRestart.leaveRun q n (k + t.cmd.long.length) i :=
    stands_of_blank (stands_beforeRestart h (Nat.le_of_lt hk)) (State.leaveRun_frame (Nat.and_self _)) (by decide)
  have hentered : Stands t.restartEntered q n (k + t.cmd.long.length) i :=
    stands_of_blank (t := State.upGlb _ _) (stands_of_posted hleft rfl rfl) (State.enter_frame (Nat.and_self _)) (by decide)
  have hloads : Stands u q n (k + t.cmd.long.length) i := stands_of_blank hentered hu (by decide)
  refine stands_of_blank ?_ hb (by decide)
  obtain rfl | ⟨f, sp, rfl⟩ := hv
  · exact stands_mono hloads (Nat.le_succ _)
  · exact stands_release _ _ (stands_of_posted hloads rfl rfl) hk

/-- Where a frame names no other GLB register, the count of restarts and the start of sampling are as before. -/
theorem glb_rest_of_blank {M : Nat} {s t : State} (h : blank M t = blank M s) (hm : M.testBit 5 = false) :
    t.glb.warmRestarts = s.glb.warmRestarts ∧ t.glb.sampling = s.glb.sampling := by
  have e := congrArg (fun x : State => (x.glb.warmRestarts, x.glb.sampling)) h
  simpa only [blank, blankGlb, masked, hm, cond_false, Prod.mk.injEq] using e

/-- A restart is counted (R22, R24). -/
theorem beginRestart_warmRestarts (s : State) : s.beginRestart.glb.warmRestarts = satTo 255 (s.glb.warmRestarts + 1) := by
  have hleft : s.beforeRestart.leaveRun.glb.warmRestarts = s.glb.warmRestarts :=
    (glb_rest_of_blank (M := 8668610580) ((State.leaveRun_frame (by decide)).trans (State.beforeRestart_frame (by decide))) (by decide)).1
  rw [beginRestart_glb, ← hleft]
  exact (glb_rest_of_blank (State.enter_frame (Nat.and_self _)) (by decide)).1

/-- Between `s` and `t` the firmware has begun to restart for cause `why` (R22, R458): GLB_STATE, the count of restarts and N_WARM_RESTART. -/
def Restarts (s t : State) (why : Nat) : Prop :=
  t.glb.state = .warmRestart ∧ t.glb.warmRestarts = satTo 255 (s.glb.warmRestarts + 1) ∧ Notices s t 0 0x74 0 why (argT s.now)

theorem warmRestart_eq {s : State} {q why : Nat} (hr : s.glb.state ≠ .reset) (hf : s.glb.state ≠ .fault) (hw : s.glb.state ≠ .warmRestart)
    (hh : s.ldr.halted = false) : s.warmRestart q why = (s.notify q 0x74 0 why (argT s.now) 1).beginRestart := by
  unfold State.warmRestart
  split
  · next h => exact absurd h hr
  · next h => exact absurd h hf
  · next h => exact absurd h hw
  · exact if_neg (by rw [hh]; exact Bool.false_ne_true)

theorem restarts_warmRestart {s : State} {why : Nat} (hr : s.glb.state ≠ .reset) (hf : s.glb.state ≠ .fault) (hw : s.glb.state ≠ .warmRestart)
    (hh : s.ldr.halted = false) (hl : s.cmd.long.length ≤ 256) : Restarts s (s.warmRestart 0 why) why := by
  rw [warmRestart_eq hr hf hw hh]
  refine ⟨beginRestart_state _, ?_, ?_⟩
  · rw [beginRestart_warmRestarts, State.notify_glb]
  · refine posts_of_stands (stands_beginRestart (notify_stands ..) ?_)
    rw [State.notify_cmd]
    omega

/-! ### A WATCHDOG event (R27, R458, R459) -/

theorem watchdogFollow_unprobed {s : State} {inst : Nat} (hp : s.ldr.probationFrom = none) (hf : s.glb.state ≠ .fault) :
    s.watchdogFollow s.tdm.role inst = s.warmRestart 0 inst := by
  unfold State.watchdogFollow
  simp only [hp, Option.isSome_none, Bool.false_eq_true, if_false, hf, Bool.false_and, ne_eq, and_not_self, decide_false]

theorem watchdogEvent_hlt (s : State) (inst : Nat) : (s.watchdogEvent inst).hlt = (s.faultEvent 11 inst).hlt := by
  unfold State.watchdogEvent
  extract_lets t
  split
  · exact hlt_of_blank (State.watchdogFollow_frame (Nat.and_self _)) (by decide)
  · rfl

theorem raised_watchdogEvent (s : State) (inst : Nat) : Raised s (s.watchdogEvent inst) 11 inst := by
  unfold Raised
  rw [watchdogEvent_hlt]
  exact raised_faultEvent s 11 inst

theorem raised_watched {s t : State} {cls inst : Nat} (h : Raised s t cls inst) (hw : s.st.watching cls inst ≠ []) :
    t.hlt.due = s.hlt.due ++ [(cls, inst)] := by
  rw [h.2, if_neg hw]

theorem raised_unwatched {s t : State} {cls inst : Nat} (h : Raised s t cls inst) (hw : s.st.watching cls inst = []) :
    t.hlt.due = s.hlt.due := by
  rw [h.2, if_pos hw, List.append_nil]

theorem faultEvent_serviced (s : State) (cls inst : Nat) : (s.faultEvent cls inst).hlt.serviced = s.hlt.serviced := by
  unfold State.faultEvent
  extract_lets t
  split <;> rfl

theorem watchdogEvent_watched {s : State} {inst : Nat} (h : s.st.watching 11 inst ≠ []) : s.watchdogEvent inst = s.faultEvent 11 inst := if_neg h

theorem restarts_watchdogEvent {s : State} {inst : Nat} (h : s.st.watching 11 inst = []) (hp : s.ldr.probationFrom = none)
    (hr : s.glb.state ≠ .reset) (hf : s.glb.state ≠ .fault) (hw : s.glb.state ≠ .warmRestart) (hh : s.ldr.halted = false)
    (hl : s.cmd.long.length ≤ 256) : Restarts s (s.watchdogEvent inst) inst := by
  have e : s.watchdogEvent inst = (s.faultEvent 11 inst).watchdogFollow s.tdm.role inst := if_pos h
  rw [e, faultEvent_unwatched h]
  have hfollow := watchdogFollow_unprobed (s := s.upHlt fun h => { h with classes := h.classes.upd 0 11 satInc }) (inst := inst) hp hf
  rw [State.upHlt_tdm] at hfollow
  rw [hfollow]
  exact restarts_warmRestart (s := s.upHlt _) hr hf hw hh hl

/-! ### WARM_RESTART_END (R23, R24) -/

/-- Erasures of other elements pass over the first one. -/
theorem foldl_erase_cons {α : Type} [DecidableEq α] {ls : List α} {x : α} (h : ∀ l ∈ ls, x ≠ l) (k : List α) :
    ls.foldl (fun k l => eraseFirst (fun y => decide (y = l)) k) (x :: k) =
      x :: ls.foldl (fun k l => eraseFirst (fun y => decide (y = l)) k) k := by
  induction ls generalizing k with
  | nil => rfl
  | cons l ls ih =>
    have he : eraseFirst (fun y => decide (y = l)) (x :: k) = x :: eraseFirst (fun y => decide (y = l)) k :=
      if_neg (by simpa using h l (List.mem_cons_self ..))
    rw [List.foldl_cons, List.foldl_cons, he, ih fun m hm => h m (List.mem_cons_of_mem _ hm)]

/-- With each of its elements that satisfy `p` erased once a list keeps the others. -/
theorem foldl_erase_filter {α : Type} [DecidableEq α] (p : α → Bool) (k : List α) :
    (k.filter p).foldl (fun k l => eraseFirst (fun y => decide (y = l)) k) k = k.filter (fun x => !p x) := by
  induction k with
  | nil => rfl
  | cons x k ih =>
    cases hx : p x with
    | true =>
      have he : eraseFirst (fun y => decide (y = x)) (x :: k) = k := if_pos (decide_eq_true rfl)
      rw [List.filter_cons_of_pos hx, List.filter_cons_of_neg (by simp [hx]), List.foldl_cons, he, ih]
    | false =>
      have hne : ∀ l ∈ k.filter p, x ≠ l := by
        rintro l hl rfl
        rw [(List.mem_filter.mp hl).2] at hx
        exact Bool.noConfusion hx
      rw [List.filter_cons_of_neg (by simp [hx]), List.filter_cons_of_pos (by simp [hx]), foldl_erase_cons hne, ih]

/-- An abandoned command completes with ABORTED; a `LOAD_STRUCTURE` notes it as the last result (R24). -/
def State.endAborted (s : State) (l : LongCmd) : State :=
  (if l.item.opcode = 0x10 then s.upCfg fun c => { c with lastResult := 0x02 } else s).endLong l 0x02

theorem endAborted_long (s : State) (l : LongCmd) : (s.endAborted l).cmd.long = eraseFirst (fun x => decide (x = l)) s.cmd.long := by
  unfold State.endAborted
  rw [endLong_long]
  split <;> rfl

theorem forEach_endAborted_long (ls : List LongCmd) (s : State) : (forEach ls s State.endAborted).cmd.long =
    ls.foldl (fun k l => eraseFirst (fun x => decide (x = l)) k) s.cmd.long := by
  unfold forEach
  induction ls generalizing s with
  | nil => rfl
  | cons l ls ih => rw [List.foldl_cons, List.foldl_cons, ih, endAborted_long]

theorem endAborted_frame {M : Nat} {s : State} {l : LongCmd} (hM : 78643732 &&& M = 78643732) : blank M (s.endAborted l) = blank M s :=
  blank_mono hM ((State.endLong_frame (by decide)).trans (ite_left_frame (upCfg_frame (.inr rfl) (.inl rfl))))

theorem long_of_blank {M : Nat} {s t : State} (h : blank M t = blank M s) (hm : M.testBit 21 = false) : t.cmd.long = s.cmd.long :=
  (part_same_of_blank h .queue hm).2

theorem enterRun_state (s : State) : s.enterRun.glb.state = .run := by
  unfold State.enterRun
  extract_lets t f
  have ht : t.glb.state = .run := enter_state s .run
  split
  · rw [State.notify_glb]
    exact ht
  · exact ht

/-- Items of unlisted opcodes are not among the commands in progress. -/
theorem skipUnknown_long (s : State) : s.skipUnknown.cmd.long = s.cmd.long := by
  unfold State.skipUnknown
  split
  · rfl
  · extract_lets bad t
    exact long_of_blank (M := 76546068) (s := t) (forEach_frame fun _ _ => State.finish_frame (by decide)) (by decide)

/-- The end of a restart: the state `u` in which the firmware runs again, and from it on the abandoned commands complete (R24). -/
theorem warmRestartEnd_resumes {s : State} (h : s.glb.state = .warmRestart) : ∃ u : State,
    warmRestartEnd s = (forEach (u.cmd.long.filter (fun l => decide (l.op = .aborted))) u State.endAborted).skipUnknown ∧
      u.glb.state = (if s.glb.sampling then .run else s.restartsInto) ∧ u.cmd.long = s.cmd.long := by
  have e : warmRestartEnd s = _ := if_neg (not_not_intro h)
  extract_lets d timed served into active entered moved ended at e
  have hactive : blank 10805903508 active = blank 10805903508 served := State.activated_frame (by decide)
  have hsampling : active.glb.sampling = s.glb.sampling := (glb_rest_of_blank hactive (by decide)).2
  have hmoved : blank 605029012 moved = blank 605029012 entered :=
    (State.moveCommit_frame (by decide)).trans (State.consumeBuffered_frame (by decide))
  have hentered : blank 8658092060 entered = blank 8658092060 active := ite_both_frame (State.enterRun_frame (by decide)) (State.enter_frame (by decide))
  refine ⟨moved, e, ?_, ?_⟩
  · rw [state_of_blank hmoved (by decide), ← hsampling]
    unfold entered
    split
    · exact enterRun_state _
    · exact enter_state _ _
  · rw [long_of_blank hmoved (by decide), long_of_blank hentered (by decide), long_of_blank hactive (by decide)]
    rfl

/-- How a restart ends: in RUN, or where it began before sampling, and of the commands in progress the abandoned ones leave. -/
theorem warmRestartEnd_ends {s : State} (h : s.glb.state = .warmRestart) :
    (warmRestartEnd s).glb.state = (if s.glb.sampling then .run else s.restartsInto) ∧
      (warmRestartEnd s).cmd.long = s.cmd.long.filter (fun l => !decide (l.op = .aborted)) := by
  obtain ⟨u, he, hstate, hlong⟩ := warmRestartEnd_resumes h
  have hended : blank 78643732 (warmRestartEnd s) = blank 78643732 u := by
    rw [he]
    exact (State.skipUnknown_frame (by decide)).trans (forEach_frame fun _ _ => endAborted_frame (by decide))
  refine ⟨(state_of_blank hended (by decide)).trans hstate, ?_⟩
  rw [he, skipUnknown_long, forEach_endAborted_long, foldl_erase_filter, hlong]

/-! ### Probation (R483) -/

theorem probationEnd_eq {s : State} {k : Nat} (hr : s.glb.state = .run) (hp : s.ldr.probationFrom = some k)
    (hk : s.ldr.probationS * Config.ticksPerS ≤ s.probationRun k) :
    probationEnd s =
      let t := s.upLdr fun l => { l with probationFrom := none }
      if s.ldr.watchdogEvents = 0 then t.notify 0 0x94 0 0 (argSX s.now (match s.ldr.image with | none => 0 | some f => f.version)) else t := by
  unfold probationEnd
  rw [hp]
  exact if_pos ⟨hr, hk⟩

theorem probationEnd_ldr {s : State} {k : Nat} (hr : s.glb.state = .run) (hp : s.ldr.probationFrom = some k)
    (hk : s.ldr.probationS * Config.ticksPerS ≤ s.probationRun k) : (probationEnd s).ldr = { s.ldr with probationFrom := none } := by
  rw [probationEnd_eq hr hp hk]
  extract_lets t
  split
  · exact State.notify_ldr ..
  · rfl

/-! ### The rows -/

theorem exec_lockstepMismatch {s : State} (hu : s.ub = none) (hr : s.glb.state ≠ .reset) (hh : s.ldr.halted = false) :
    exec .lockstepMismatch s = .next (s.watchdogEvent 0) :=
  act_next (if_neg fun h => h.elim hr fun h => Bool.noConfusion (hh.symm.trans h))
    ((ub_of_blank (State.watchdogEvent_frame (Nat.and_self _)) (by decide)).trans hu)

/-- The watchdog timer starts again at its expiry. -/
def State.watchdogServed (s : State) : State := s.upHlt fun h => { h with serviced := s.tick }

theorem exec_watchdogExpiry {s : State} (hu : s.ub = none) (hr : s.glb.state = .run) (hp : s.passed s.hlt.serviced (ms 250) = true) :
    exec .watchdogExpiry s = .next (s.watchdogServed.watchdogEvent 1) :=
  act_next (if_pos ⟨hr, hp⟩) ((ub_of_blank (State.watchdogEvent_frame (Nat.and_self _)) (by decide)).trans hu)

/-- Settles O5. N_WARM_RESTART still stands in its journal when the restart has begun, since each command in progress and one released spoke post one
item more; of the commands in progress WARM_RESTART_END takes the abandoned ones alone. -/
theorem supervisorFaultsRestartTheFirmware : Obligations.SupervisorFaultsRestartTheFirmware := by
  refine ⟨?lockstep, ?watchdog, ?restartEnd, ?probation⟩
  case lockstep =>
    intro s hu hr hh
    have hraised := raised_watchdogEvent s 0
    refine ⟨_, exec_lockstepMismatch hu hr hh, hraised.1, fun hw => ⟨raised_watched hraised hw, ?_⟩,
      fun hw => ⟨raised_unwatched hraised hw, fun hp hf hn hl => restarts_watchdogEvent hw hp hr hf hn hh hl⟩,
      unchangedBut_of_blank (State.watchdogEvent_frame (Nat.and_self _)) (by intro p; cases p <;> decide)⟩
    rw [watchdogEvent_watched hw]
    exact unchangedBut_of_blank (State.faultEvent_frame (Nat.and_self _)) (by intro p; cases p <;> decide)
  case watchdog =>
    intro s hu hr hh hp
    have hraised := raised_watchdogEvent s.watchdogServed 1
    have hserved : (s.watchdogServed.watchdogEvent 1).hlt.serviced = s.tick := by
      rw [watchdogEvent_hlt, faultEvent_serviced]
      rfl
    have hrun : s.watchdogServed.glb.state = .run := hr
    refine ⟨_, exec_watchdogExpiry hu hr hp, hraised.1, hserved, fun hw => ⟨raised_watched hraised hw, ?_⟩, fun hw hp hl => ?_,
      unchangedBut_of_blank (M := 15917223612) ((State.watchdogEvent_frame (by decide)).trans (upHlt_frame (by decide)))
        (by intro p; cases p <;> decide)⟩
    · rw [watchdogEvent_watched (s := s.watchdogServed) hw]
      exact unchangedBut_of_blank (M := 536870912) ((State.faultEvent_frame (by decide)).trans (upHlt_frame (by decide)))
        (by intro p; cases p <;> decide)
    · exact restarts_watchdogEvent hw hp (by rw [hrun]; decide) (by rw [hrun]; decide) (by rw [hrun]; decide) hh hl
  case restartEnd =>
    intro s hu h
    have hframe : blank 11353260700 (warmRestartEnd s) = blank 11353260700 s := warmRestartEnd_frame (by decide)
    obtain ⟨hstate, hlong⟩ := warmRestartEnd_ends h
    have hmem : ∀ l, l ∈ (warmRestartEnd s).cmd.long ↔ l ∈ s.cmd.long ∧ l.op ≠ .aborted := fun l => by
      rw [hlong, List.mem_filter, Bool.not_eq_true', decide_eq_false_iff_not]
    exact ⟨_, act_of_blank hframe (by decide) hu, hstate, fun l hl => ((hmem l).mp hl).2, fun l hl ha => (hmem l).mpr ⟨hl, ha⟩,
      unchangedBut_of_blank hframe (by intro p; cases p <;> decide)⟩
  case probation =>
    intro s k hu hr hp hk
    have hframe : blank 8658092032 (probationEnd s) = blank 8658092032 s := probationEnd_frame (by decide)
    refine ⟨_, act_of_blank hframe (by decide) hu, probationEnd_ldr hr hp hk, fun hw => ?_,
      unchangedBut_of_blank hframe (by intro p; cases p <;> decide)⟩
    rw [probationEnd_eq hr hp hk, if_pos hw]
    exact notify_notices (s.upLdr _) ..

end Sys2Proof.Machine
end

section
/-! PROOFS. 02_structure_image, O9: the structure in force changes at its instants alone. -/

namespace Sys2Proof.Machine

open Sys2Proof.Safety

/-- Every part but the structure in force. -/
def partsButStructure : Nat := everyPart - 2 ^ 8

/-- An answer without an open span has the structure of `s` in force. -/
def KeepsStructure (a : Ans) (s : State) : Prop := ∀ t, a = .next t → t.ub = none → t.cfg.committed = s.cfg.committed

theorem committed_of_blank {M : Nat} {s t : State} (h : blank M t = blank M s) (hm : M.testBit 8 = false) : t.cfg.committed = s.cfg.committed :=
  part_same_of_blank h .committed hm

/-- An effect that leaves the structure in force: without a span nothing is made free behind it (R2). -/
theorem keepsStructure_act {i : Instr} {M : Nat} {s u : State} (hi : exec i s = .next u.havoc) (hf : blank M u = blank M s)
    (hm : M.testBit 8 = false := by decide) : KeepsStructure (exec i s) s := by
  intro t ht hu
  obtain rfl : u.havoc = t := Host.Outcome.next.inj (hi.symm.trans ht)
  rw [havoc_ub] at hu
  rw [havoc_of_none hu, committed_of_blank hf hm]

theorem keepsStructure_actIf {i : Instr} {M : Nat} {s u : State} {ok : Bool} (hi : exec i s = if ok then .next u.havoc else .fault .illFormed)
    (hf : blank M u = blank M s) (hm : M.testBit 8 = false := by decide) : KeepsStructure (exec i s) s := by
  cases ok with
  | true => exact keepsStructure_act hi hf hm
  | false => exact fun t ht => nomatch hi.symm.trans ht

/-- The rows that may change the structure in force (R48, R52, R79): the commit, the two of the boot structure, and reset. -/
def Installs : Instr → Prop
  | .commitInstant | .samplingStart | .bootStructLoaded | .resetAssert _ => True
  | _ => False

/-- Every other row leaves it: its effect has a frame whose mask does not name the structure in force. -/
theorem exec_keepsStructure {i : Instr} (s : State) (hi : ¬Installs i) : KeepsStructure (exec i s) s := by
  cases i with
  | commitInstant | samplingStart | bootStructLoaded | resetAssert => exact absurd trivial hi
  | resetRelease => exact keepsStructure_act rfl (resetRelease_frame (Nat.and_self _))
  | imageAuthenticated => exact keepsStructure_act rfl (imageAuthenticated_frame (Nat.and_self _))
  | firmwareInitDone => exact keepsStructure_act rfl (firmwareInit_frame (Nat.and_self _))
  | selftestEnd => exact keepsStructure_actIf rfl (selftestEnd_frame (Nat.and_self _))
  | calibrationEnd => exact keepsStructure_actIf rfl (calibrationEnd_frame (Nat.and_self _))
  | trimRampEnd w =>
    cases w with
    | none => exact keepsStructure_act rfl (State.trimsEnd_frame (Nat.and_self _))
    | some x => exact keepsStructure_act rfl (State.endRamp_frame (Nat.and_self _))
  | freeRunWaitExpiry => exact keepsStructure_act rfl (freeRunWait_frame (Nat.and_self _))
  | lockstepMismatch => exact keepsStructure_act rfl (lockstepMismatch_frame (Nat.and_self _))
  | watchdogExpiry => exact keepsStructure_act rfl (watchdogExpiry_frame (Nat.and_self _))
  | warmRestartEnd => exact keepsStructure_act rfl (warmRestartEnd_frame (Nat.and_self _))
  | probationEnd => exact keepsStructure_act rfl (probationEnd_frame (Nat.and_self _))
  | epochInstant => exact keepsStructure_act rfl (epochInstant_frame (Nat.and_self _))
  | finePhaseMeasurement => exact keepsStructure_actIf rfl (finePhase_frame (Nat.and_self _))
  | ptpSync => exact keepsStructure_actIf rfl (receiveSync_frame (Nat.and_self _))
  | ptpFollowUp => exact keepsStructure_actIf rfl (receiveFollowUp_frame (Nat.and_self _))
  | ptpDelayReq => exact keepsStructure_actIf rfl (receiveDelayReq_frame (Nat.and_self _))
  | ptpDelayResp => exact keepsStructure_actIf rfl (receiveDelayResp_frame (Nat.and_self _))
  | ptpAnnounce => exact keepsStructure_actIf rfl (receiveAnnounce_frame (Nat.and_self _))
  | ptpSyncTx => exact keepsStructure_act rfl (sendSync_frame (Nat.and_self _))
  | ptpAnnounceTx => exact keepsStructure_act rfl (sendAnnounce_frame (Nat.and_self _))
  | ptpDelayReqTx => exact keepsStructure_act rfl (sendDelayReq_frame (Nat.and_self _))
  | announceTimeout => exact keepsStructure_act rfl (announceLost_frame (Nat.and_self _))
  | syncTimeout => exact keepsStructure_act rfl (syncLost_frame (Nat.and_self _))
  | ppsInEdge => exact keepsStructure_act rfl (ppsEdge_frame (Nat.and_self _))
  | zdaSentence => exact keepsStructure_actIf rfl (zdaReceived_frame (Nat.and_self _))
  | ppsInTimeout => exact keepsStructure_act rfl (ppsLost_frame (Nat.and_self _))
  | ppsOutPulse => exact keepsStructure_act rfl (ppsRise_frame (Nat.and_self _))
  | ppsOutPulseEnd => exact keepsStructure_act rfl (ppsFall_frame (Nat.and_self _))
  | todTxSentence => exact keepsStructure_act rfl (todSend_frame (Nat.and_self _))
  | realignment => exact keepsStructure_act rfl (realignment_frame (Nat.and_self _))
  | scheduledEvent => exact keepsStructure_act rfl (fireEvent_frame (Nat.and_self _))
  | eventArm => exact keepsStructure_act rfl (armEvent_frame (Nat.and_self _))
  | setTime => exact keepsStructure_act rfl (setTime_frame (Nat.and_self _))
  | sampleClockUnlock => exact keepsStructure_act rfl (clockUnlock_frame (Nat.and_self _))
  | sampleClockRelock => exact keepsStructure_act rfl (clockRelock_frame (Nat.and_self _))
  | loadStructure => exact keepsStructure_act rfl (loadStructure_frame (Nat.and_self _))
  | loadStructureDone => exact keepsStructure_act rfl (loadStructureDone_frame (Nat.and_self _))
  | commit => exact keepsStructure_act rfl (commit_frame (Nat.and_self _))
  | cancelCommit => exact keepsStructure_act rfl (cancelCommit_frame (Nat.and_self _))
  | storeStructure => exact keepsStructure_act rfl (storeStructure_frame (Nat.and_self _))
  | storeStructureDone => exact keepsStructure_act rfl (storeStructureDone_frame (Nat.and_self _))
  | gearShiftUp => exact keepsStructure_act rfl (shiftUp_frame (Nat.and_self _))
  | gearShiftDown => exact keepsStructure_act rfl (shiftDown_frame (Nat.and_self _))
  | mendComplete => exact keepsStructure_act rfl (mendDone_frame (Nat.and_self _))
  | openWireDetect => exact keepsStructure_actIf rfl (openWireFound_frame (Nat.and_self _))
  | wireRestored => exact keepsStructure_act rfl (wireBack_frame (Nat.and_self _))
  | releaseSpoke => exact keepsStructure_act rfl (releaseSpoke_frame (Nat.and_self _))
  | releaseSyncReset => exact keepsStructure_act rfl (releaseReset_frame (Nat.and_self _))
  | senseEstimate => exact keepsStructure_act rfl (senseEnd_frame (Nat.and_self _))
  | rampEnd => exact keepsStructure_act rfl (rampDone_frame (Nat.and_self _))
  | excTrip => exact keepsStructure_act rfl (excTrip_frame (Nat.and_self _))
  | restartLace => exact keepsStructure_act rfl (restartLace_frame (Nat.and_self _))
  | vexcUpdate => exact keepsStructure_actIf rfl (vexcTick_frame (Nat.and_self _))
  | vexcFault => exact keepsStructure_act rfl (vexcFault_frame (Nat.and_self _))
  | dissipationUpdate => exact keepsStructure_actIf rfl (dissipation_frame (Nat.and_self _))
  | excRestored => exact keepsStructure_act rfl (excRestore_frame (Nat.and_self _))
  | modOverload => exact keepsStructure_act rfl (overload_frame (Nat.and_self _))
  | lookRunStart => exact keepsStructure_act rfl (runStart_frame (Nat.and_self _))
  | sampleScaled => exact keepsStructure_actIf rfl (sampleOut_frame (Nat.and_self _))
  | ambientLevelUpdate => exact keepsStructure_act rfl (ambientUpdate_frame (Nat.and_self _))
  | trigIoEdge => exact keepsStructure_act rfl (ioEdge_frame (Nat.and_self _))
  | triggerSchedule => exact keepsStructure_act rfl (scheduleDue_frame (Nat.and_self _))
  | trigIoPulseEnd => exact keepsStructure_act rfl (pulseEnd_frame (Nat.and_self _))
  | freewheelEnd => exact keepsStructure_act rfl (freewheelDone_frame (Nat.and_self _))
  | fireTrigger => exact keepsStructure_act rfl (fireTrigger_frame (Nat.and_self _))
  | rearmTrigger => exact keepsStructure_act rfl (rearmTrigger_frame (Nat.and_self _))
  | triggerFrame => exact keepsStructure_actIf rfl (triggerMessage_frame (Nat.and_self _))
  | blockClose => exact keepsStructure_act rfl (closeBlock_frame (Nat.and_self _))
  | blockPlace => exact keepsStructure_act rfl (placeBlock_frame (Nat.and_self _))
  | recordExpiry => exact keepsStructure_act rfl (expireRecord_frame (Nat.and_self _))
  | watermarkRearm =>
    exact keepsStructure_act (M := partsButStructure) rfl
      (occurs_frame fun _ => (rearmWater_frame (by decide)).trans (ite_right_frame (undefinedUse_frame (by decide))))
  | setMark => exact keepsStructure_act rfl (setMark_frame (Nat.and_self _))
  | clearMark => exact keepsStructure_act rfl (clearMark_frame (Nat.and_self _))
  | replay => exact keepsStructure_act rfl (replay_frame (Nat.and_self _))
  | replayDone => exact keepsStructure_act rfl (replayEnd_frame (Nat.and_self _))
  | releaseRecord => exact keepsStructure_act rfl (releaseRecord_frame (Nat.and_self _))
  | ackBlocks => exact keepsStructure_act rfl (ackBlocks_frame (Nat.and_self _))
  | readRecord => exact keepsStructure_act rfl (readRecord_frame (Nat.and_self _))
  | readRecordDone => exact keepsStructure_act rfl (readRecordEnd_frame (Nat.and_self _))
  | reducerInputClose => exact keepsStructure_act rfl (inputClose_frame (Nat.and_self _))
  | csdCommitPoint => exact keepsStructure_act rfl (csdPoint_frame (Nat.and_self _))
  | resetTally => exact keepsStructure_act rfl (resetTally_frame (Nat.and_self _))
  | tallyClear => exact keepsStructure_act rfl (tallyDone_frame (Nat.and_self _))
  | abortInterval => exact keepsStructure_act rfl (abortInterval_frame (Nat.and_self _))
  | flush => exact keepsStructure_act rfl (flush_frame (Nat.and_self _))
  | saveContext => exact keepsStructure_act rfl (saveContext_frame (Nat.and_self _))
  | restoreContext => exact keepsStructure_act rfl (restoreContext_frame (Nat.and_self _))
  | linkHbSend => exact keepsStructure_act rfl (linkHbOut_frame (Nat.and_self _))
  | linkHb => exact keepsStructure_act rfl (linkHbIn_frame (Nat.and_self _))
  | reachTimeout => exact keepsStructure_act rfl (reachOver_frame (Nat.and_self _))
  | helloSend => exact keepsStructure_act rfl (helloOut_frame (Nat.and_self _))
  | hello => exact keepsStructure_actIf rfl (helloIn_frame (Nat.and_self _))
  | enumerate => exact keepsStructure_actIf rfl (enumerate_frame (Nat.and_self _))
  | setAddress => exact keepsStructure_act rfl (setAddress_frame (Nat.and_self _))
  | irpFrameRx => exact keepsStructure_actIf rfl (frameRx_frame (Nat.and_self _))
  | cutFrame => exact keepsStructure_act rfl (cutFrame_frame (Nat.and_self _))
  | nak => exact keepsStructure_actIf rfl (State.nakFrom_frame (Nat.and_self _))
  | ack => exact keepsStructure_actIf rfl (State.ackFrom_frame (Nat.and_self _))
  | credit => exact keepsStructure_act rfl (occurs_frame fun _ => credit_frame (Nat.and_self _))
  | commandFrame => exact keepsStructure_actIf rfl (occurs_frame fun _ => commandFrameIn_frame (Nat.and_self _))
  | bulkSend => exact keepsStructure_act rfl (bulkSend_frame (Nat.and_self _))
  | bulkRto => exact keepsStructure_act rfl (bulkTimeout_frame (Nat.and_self _))
  | ctlRto => exact keepsStructure_actIf rfl (ctlTimeout_frame (Nat.and_self _))
  | ackSend => exact keepsStructure_actIf rfl (ackOut_frame (Nat.and_self _))
  | portTransmit => exact keepsStructure_act rfl (transmit_frame (Nat.and_self _))
  | partnerDetect => exact keepsStructure_act rfl (detect_frame (Nat.and_self _))
  | trainRequest => exact keepsStructure_act rfl (trainRequest_frame (Nat.and_self _))
  | rxReady => exact keepsStructure_act rfl (receiverReady_frame (Nat.and_self _))
  | trainTimeout => exact keepsStructure_act rfl (bringUpTimeout_frame (Nat.and_self _))
  | lossOfSignal => exact keepsStructure_act rfl (lossOfSignal_frame (Nat.and_self _))
  | lockAcquired => exact keepsStructure_act rfl (lockAcquired_frame (Nat.and_self _))
  | lockTimeout => exact keepsStructure_act rfl (bringUpTimeout_frame (Nat.and_self _))
  | capabilityWord => exact keepsStructure_act rfl (capability_frame (Nat.and_self _))
  | exchangeTimeout => exact keepsStructure_act rfl (bringUpTimeout_frame (Nat.and_self _))
  | lockLoss => exact keepsStructure_act rfl (lockLoss_frame (Nat.and_self _))
  | backoffEnd => exact keepsStructure_act rfl (backoffEnd_frame (Nat.and_self _))
  | failureCountReset => exact keepsStructure_act rfl (failuresClear_frame (Nat.and_self _))
  | opticsPoll => exact keepsStructure_act rfl (opticsPoll_frame (Nat.and_self _))
  | lnkTestWrite => exact keepsStructure_act rfl (testWrite_frame (Nat.and_self _))
  | prbsInject => exact keepsStructure_act rfl (prbsInject_frame (Nat.and_self _))
  | fixedTapsWrite => exact keepsStructure_act rfl (fixedTaps_frame (Nat.and_self _))
  | retrainLane =>
    exact keepsStructure_act (M := partsButStructure) rfl
      (State.start_frame (by decide) fun _ _ => (State.complete_frame (by decide)).trans (State.retrain_frame (by decide)))
  | opticsRead => exact keepsStructure_act rfl (optics_frame (Nat.and_self _))
  | opticsWrite => exact keepsStructure_act rfl (optics_frame (Nat.and_self _))
  | opticsDone => exact keepsStructure_act rfl (opticsDone_frame (Nat.and_self _))
  | tokenToggle => exact keepsStructure_act rfl (tokenToggle_frame (Nat.and_self _))
  | tokenEdge => exact keepsStructure_act rfl (tokenEdge_frame (Nat.and_self _))
  | partnerHbSend => exact keepsStructure_act rfl (partnerHbSend_frame (Nat.and_self _))
  | partnerHb => exact keepsStructure_actIf rfl (partnerHb_frame (Nat.and_self _))
  | tokenWitnessMissing => exact keepsStructure_act rfl (tokenMissing_frame (Nat.and_self _))
  | linkWitnessMissing => exact keepsStructure_act rfl (linkMissing_frame (Nat.and_self _))
  | rimWitnessMissing => exact keepsStructure_act rfl (rimMissing_frame (Nat.and_self _))
  | claimingEnd => exact keepsStructure_act rfl (claimingEnd_frame (Nat.and_self _))
  | yieldingEnd => exact keepsStructure_act rfl (yieldingEnd_frame (Nat.and_self _))
  | election => exact keepsStructure_act rfl (election_frame (Nat.and_self _))
  | tandemLinkLoss => exact keepsStructure_act rfl (tandemLoss_frame (Nat.and_self _))
  | digestCompare => exact keepsStructure_act rfl (digestCompare_frame (Nat.and_self _))
  | swapRoles => exact keepsStructure_act rfl (swapRoles_frame (Nat.and_self _))
  | swapInstant => exact keepsStructure_act rfl (swapInstant_frame (Nat.and_self _))
  | cmdItemWrite => exact keepsStructure_act rfl (cmdItemWrite_frame (Nat.and_self _))
  | nop => exact keepsStructure_act rfl (nopCommand_frame (Nat.and_self _))
  | cmdCreditWrite => exact keepsStructure_act rfl (cmdCfgWrite_frame (Nat.and_self _))
  | queuePop =>
    exact keepsStructure_act (M := partsButStructure) rfl (occurs_frame fun _ => (emit_frame (by decide)).trans (queuePop_frame (by decide)))
  | crierChainEntry => exact keepsStructure_act rfl (chainEntry_frame (Nat.and_self _))
  | crierDrain => exact keepsStructure_act rfl (drain_frame (Nat.and_self _))
  | priorityAging => exact keepsStructure_act rfl (aging_frame (Nat.and_self _))
  | ringEntryWrite => exact keepsStructure_act rfl (ringWrite_frame (Nat.and_self _))
  | ringCreditWrite => exact keepsStructure_act rfl (ringConsume_frame (Nat.and_self _))
  | msixGapEnd => exact keepsStructure_act rfl (msixGap_frame (Nat.and_self _))
  | ringEnable => exact keepsStructure_act rfl (ringEnable_frame (Nat.and_self _))
  | ringDisable => exact keepsStructure_act rfl (ringDisable_frame (Nat.and_self _))
  | spiWrite => exact keepsStructure_act rfl (occurs_frame fun _ => spiWrite_frame (Nat.and_self _))
  | spiRead => exact keepsStructure_actIf rfl (occurs_frame fun _ => spiRead_frame (Nat.and_self _))
  | spiStatus => exact keepsStructure_act rfl (spiStatusFrame_frame (Nat.and_self _))
  | pcieMalformedAccess => exact keepsStructure_actIf rfl (occurs_frame fun _ => emit_frame (Nat.and_self _))
  | readReg => exact keepsStructure_act rfl (readReg_frame (Nat.and_self _))
  | writeReg => exact keepsStructure_act rfl (writeReg_frame (Nat.and_self _))
  | registerWrite => exact keepsStructure_actIf rfl (occurs_frame fun _ => registerWrite_frame (Nat.and_self _))
  | intEnableWrite => exact keepsStructure_act rfl (intEnableWrite_frame (Nat.and_self _))
  | alarmCfgWrite => exact keepsStructure_act rfl (occurs_frame fun _ => alarmCfg_frame (Nat.and_self _))
  | leaseLapse => exact keepsStructure_act rfl (leaseLapse_frame (Nat.and_self _))
  | journalReplayStart => exact keepsStructure_act rfl (replayStart_frame (Nat.and_self _))
  | resync => exact keepsStructure_act rfl (resync_frame (Nat.and_self _))
  | holdLowRead =>
    exact keepsStructure_actIf (M := partsButStructure) rfl
      (ite_both_frame (occurs_frame fun _ => pairRead_frame (by decide)) (onHalf_frame (by decide) fun _ _ => halfRead_frame (by decide)))
  | holdHighRead =>
    exact keepsStructure_act (M := partsButStructure) rfl
      (onHalf_frame (by decide) fun _ _ => (emit_frame (by decide)).trans (highRead_frame (by decide)))
  | holdLowWrite => exact keepsStructure_act rfl (onHalf_frame (Nat.zero_and _) fun _ _ => lowWrite_frame (Nat.and_self _))
  | holdHighWrite => exact keepsStructure_act rfl (onHalf_frame (Nat.zero_and _) fun _ _ => highWrite_frame (Nat.and_self _))
  | holdExpiry => exact keepsStructure_act rfl (holdExpiry_frame (Nat.and_self _))
  | snapshot => exact keepsStructure_act rfl (snapshot_frame (Nat.and_self _))
  | snapshotTick => exact keepsStructure_act rfl (snapshotTick_frame (Nat.and_self _))
  | snapshotDone => exact keepsStructure_act rfl (snapshotEnd_frame (Nat.and_self _))
  | scratchpadRead => exact keepsStructure_actIf rfl (scratchpadRead_frame (Nat.and_self _))
  | scratchpadWrite => exact keepsStructure_actIf rfl (scratchpadWrite_frame (Nat.and_self _))
  | scrub => exact keepsStructure_act rfl (scrub_frame (Nat.and_self _))
  | scrubDone => exact keepsStructure_act rfl (scrubDone_frame (Nat.and_self _))
  | bankPower => exact keepsStructure_act rfl (bankPower_frame (Nat.and_self _))
  | bankRetainTimeout => exact keepsStructure_act rfl (bankRetain_frame (Nat.and_self _))
  | storeRead => exact keepsStructure_act rfl (storeRead_frame (Nat.and_self _))
  | storeWrite => exact keepsStructure_act rfl (storeWrite_frame (Nat.and_self _))
  | storeTransferDone => exact keepsStructure_act rfl (transferDone_frame (Nat.and_self _))
  | injectError => exact keepsStructure_act rfl (injectError_frame (Nat.and_self _))
  | recalibrate => exact keepsStructure_act rfl (recalibrate_frame (Nat.and_self _))
  | recalibrateDone => exact keepsStructure_actIf rfl (recalibrated_frame (Nat.and_self _))
  | setTrim => exact keepsStructure_act rfl (setTrim_frame (Nat.and_self _))
  | clearWindow => exact keepsStructure_act rfl (clearWindow_frame (Nat.and_self _))
  | windowRearm => exact keepsStructure_act rfl (windowRearm_frame (Nat.and_self _))
  | updateData => exact keepsStructure_act rfl (updateData_frame (Nat.and_self _))
  | updateChunkProgrammed => exact keepsStructure_act rfl (chunkProgrammed_frame (Nat.and_self _))
  | updateEnd => exact keepsStructure_act rfl (updateEnd_frame (Nat.and_self _))
  | updateEndDone => exact keepsStructure_act rfl (updateEndDone_frame (Nat.and_self _))
  | updateAbort => exact keepsStructure_act rfl (updateAbort_frame (Nat.and_self _))
  | updateSessionTimeout => exact keepsStructure_act rfl (sessionTimeout_frame (Nat.and_self _))
  | commitImage => exact keepsStructure_act rfl (commitImage_frame (Nat.and_self _))
  | saveSettings => exact keepsStructure_act rfl (saveSettings_frame (Nat.and_self _))
  | settingsWriteDone => exact keepsStructure_act rfl (settingsWritten_frame (Nat.and_self _))
  | otpProvision => exact keepsStructure_act rfl (otpProvision_frame (Nat.and_self _))
  | overRange => exact keepsStructure_act rfl (overRange_frame (Nat.and_self _))
  | laneSymbolError => exact keepsStructure_act rfl (symbolError_frame (Nat.and_self _))
  | preemptionVerify => exact keepsStructure_act rfl (preemptionVerify_frame (Nat.and_self _))

/-- Settles O9. -/
theorem structureChangesOnlyAtItsInstants : Obligations.StructureChangesOnlyAtItsInstants := by
  intro c s t ht hu hcommit hstart hboot hreset
  refine exec_keepsStructure s (fun hi => ?_) t ht hu
  unfold Installs at hi
  split at hi
  · exact hcommit rfl
  · exact hstart rfl
  · exact hboot rfl
  · exact hreset _ rfl
  · exact hi

end Sys2Proof.Machine
end

section
/-! PROOFS. 02_structure_image: the staging window's words as a load reads them (R39, R534). -/

namespace Sys2Proof.Machine

open Sys2Proof.Safety

/-! ### Cells of the scratchpad (R427, R431, R440) -/

/-- A reading of the entries that two defaults agree in does not show which default an unlisted key has. -/
theorem SMap.apply_get_congr {α β : Type} (f : α → β) {d e : α} (h : f d = f e) (m : SMap α) (k : Nat) : f (SMap.get m d k) = f (SMap.get m e k) := by
  induction m with
  | nil => exact h
  | cons x r ih =>
    unfold SMap.get
    split
    · rfl
    · exact ih

theorem unlistedCell_bits (s : State) (a : Nat) : (s.unlistedCell a).data = 0 ∧ (s.unlistedCell a).flips = 0 := by
  unfold State.unlistedCell
  dsimp only
  split <;> exact ⟨rfl, rfl⟩

/-- The state of its bank decides only whether a cell is poisoned: data and wrong bits are the pad's. -/
theorem cellAt_bits_of_pad {s t : State} (h : t.mem.pad = s.mem.pad) (a : Nat) :
    (t.cellAt a).data = (s.cellAt a).data ∧ (t.cellAt a).flips = (s.cellAt a).flips := by
  unfold State.cellAt
  rw [h]
  exact ⟨SMap.apply_get_congr MemCell.data ((unlistedCell_bits t a).1.trans (unlistedCell_bits s a).1.symm) _ _,
    SMap.apply_get_congr MemCell.flips ((unlistedCell_bits t a).2.trans (unlistedCell_bits s a).2.symm) _ _⟩

theorem pad_of_blank {M : Nat} {s t : State} (h : blank M t = blank M s) (hm : M.testBit 25 = false) : t.mem.pad = s.mem.pad :=
  part_same_of_blank h .pad hm

/-- A cell without wrong bits is delivered as it is (R431). -/
theorem decode_of_clean {c : MemCell} (h : c.flips = 0) : c.decode = (c.data, c.poison, false, false) := by
  have hn : ((List.range 14).filter (fun i => c.flips.getLsbD i)).length = 0 := by
    rw [h]
    decide
  unfold MemCell.decode
  simp only [hn, if_true]

theorem readByte_of_clean {s : State} {p a : Nat} (h : (s.cellAt a).flips = 0) :
    s.readByte p a = (s, (s.cellAt a).data, (s.cellAt a).poison) := by
  unfold State.readByte
  simp only [decode_of_clean h, Bool.false_eq_true, if_false]

/-- A read of clean cells delivers their data and changes only the state of the banks. -/
theorem readPad_of_clean {s : State} {p a n : Nat} (h : ∀ k < n, (s.cellAt (a + k)).flips = 0) :
    (s.readPad p a n).2.1 = (List.range n).map (fun k => (s.cellAt (a + k)).data) ∧
      blank 134217728 (s.readPad p a n).1 = blank 134217728 s := by
  induction n generalizing s a with
  | zero => exact ⟨rfl, rfl⟩
  | succ n ih =>
    have hb : blank 134217728 (s.touchBank (bankOf a)) = blank 134217728 s := State.touchBank_frame (by decide)
    have hcell := cellAt_bits_of_pad (pad_of_blank hb (by decide))
    have hr := readByte_of_clean (s := s.touchBank (bankOf a)) (p := p) ((hcell a).2.trans (h 0 (Nat.succ_pos n)))
    obtain ⟨hdata, hframe⟩ := ih (s := s.touchBank (bankOf a)) (a := a + 1) fun k hk => by
      rw [(hcell _).2, Nat.add_assoc, Nat.add_comm 1]
      exact h (k + 1) (Nat.succ_lt_succ hk)
    unfold State.readPad
    simp only [hr]
    refine ⟨?_, hframe.trans hb⟩
    rw [hdata, List.range_succ_eq_map, List.map_cons, List.map_map, (hcell a).1]
    refine congrArg (List.cons _) (List.map_congr_left fun k _ => ?_)
    rw [(hcell _).1, Function.comp_apply, Nat.add_assoc, Nat.add_comm 1]

/-! ### Words of the window -/

/-- Word `k` of the staging window as its cells hold it now. -/
def State.windowWord (s : State) (k : Nat) : Word := wordOf (leNat ((List.range 4).map fun j => (s.cellAt (4 * k + j)).data))

/-- The staging window holds no wrong bit (R431). -/
def WindowClean (s : State) : Prop := ∀ a, a < 4194304 → (s.cellAt a).flips = 0

theorem windowWord_of_pad {s t : State} (h : t.mem.pad = s.mem.pad) (k : Nat) : t.windowWord k = s.windowWord k := by
  unfold State.windowWord
  simp only [(cellAt_bits_of_pad h _).1]

theorem windowClean_of_pad {s t : State} (h : t.mem.pad = s.mem.pad) (hs : WindowClean s) : WindowClean t :=
  fun a ha => (cellAt_bits_of_pad h a).2.trans (hs a ha)

/-- Bytes in groups of four are words. -/
theorem wordsOfBytes_map_range (f : Nat → Byte) (n : Nat) :
    wordsOfBytes ((List.range (4 * n)).map f) = (List.range n).map fun k => wordOf (leNat ((List.range 4).map fun j => f (4 * k + j))) := by
  induction n generalizing f with
  | zero => rfl
  | succ n ih =>
    have h4 : (List.range (4 * (n + 1))).map f = f 0 :: f 1 :: f 2 :: f 3 :: (List.range (4 * n)).map fun j => f (4 + j) := by
      rw [show 4 * (n + 1) = 4 + 4 * n by omega, List.range_add, List.map_append, List.map_map]
      rfl
    have hw : (f 0).toNat + (f 1).toNat * 2 ^ 8 + (f 2).toNat * 2 ^ 16 + (f 3).toNat * 2 ^ 24 = leNat ((List.range 4).map f) := by
      show _ = (f 0).toNat + 256 * ((f 1).toNat + 256 * ((f 2).toNat + 256 * ((f 3).toNat + 256 * 0)))
      omega
    rw [h4, wordsOfBytes, ih, List.range_succ_eq_map (n := n), List.map_cons, List.map_map]
    refine List.cons_eq_cons.mpr ⟨?_, List.map_congr_left fun k _ => ?_⟩
    · simp only [Nat.mul_zero, Nat.zero_add]
      exact congrArg wordOf hw
    · simp only [Function.comp_apply, show 4 * (k + 1) = 4 + 4 * k by omega, Nat.add_assoc]

/-- Words of a clean window, read through port 16: those that stand there; nothing changes but banks and conflict counts. -/
theorem windowWords_of_clean {s : State} {i n : Nat} (h : WindowClean s) (hn : i + n ≤ 1048576) :
    (s.windowWords i n).2 = (List.range n).map (fun k => s.windowWord (i + k)) ∧
      blank 134217730 (s.windowWords i n).1 = blank 134217730 s := by
  have hb : blank 134217730 (s.contend 16) = blank 134217730 s := State.contend_frame (by decide)
  have hp := pad_of_blank hb (by decide)
  obtain ⟨hdata, hframe⟩ := readPad_of_clean (s := s.contend 16) (p := 16) (a := 4 * i) (n := 4 * n)
    fun k hk => windowClean_of_pad hp h _ (by omega)
  refine ⟨?_, (blank_mono (by decide) hframe).trans hb⟩
  show wordsOfBytes ((s.contend 16).readPad 16 (4 * i) (4 * n)).2.1 = _
  rw [hdata, wordsOfBytes_map_range]
  refine List.map_congr_left fun k _ => ?_
  rw [← windowWord_of_pad hp]
  simp only [State.windowWord, show ∀ j, 4 * i + (4 * k + j) = 4 * (i + k) + j by omega]

theorem getD_map_range {f : Nat → Word} {n k : Nat} (h : k < n) : ((List.range n).map f).getD k 0 = f k := by
  rw [List.getD_eq_getElem?_getD, List.getElem?_map, List.getElem?_range h]
  rfl

/-- Checks 1 to 3 of R40 pass: magic, model and length hold. -/
theorem headerCode_none_iff {h : List Word} :
    headerCode h = none ↔ (h.getD 0 0).toNat = 0x49534851 ∧ (h.getD 2 0).field 15 0 = 0x768 ∧ (h.getD 8 0).toNat ≤ 1048576 := by
  unfold headerCode
  split
  · next h0 => exact ⟨nofun, fun hc => absurd hc.1 h0⟩
  · next h0 =>
    split
    · next h2 => exact ⟨nofun, fun hc => absurd hc.2.1 h2⟩
    · next h2 =>
      split
      · next h8 => exact ⟨nofun, fun hc => absurd hc.2.2 (Nat.not_le.mpr h8)⟩
      · next h8 => exact ⟨fun _ => ⟨Decidable.not_not.mp h0, Decidable.not_not.mp h2, Nat.not_lt.mp h8⟩, fun _ => rfl⟩

theorem readBody_of_refused {h : State × List Word} {code : Nat} (hc : headerCode h.2 = some code) : readBody h = h := by
  unfold readBody
  rw [hc]

theorem readBody_of_passed {h : State × List Word} (hc : headerCode h.2 = none) :
    readBody h = ((h.1.windowWords 16 ((h.2.getD 8 0).toNat - 16)).1, h.2 ++ (h.1.windowWords 16 ((h.2.getD 8 0).toNat - 16)).2) := by
  unfold readBody
  rw [hc]

/-- The body that follows a header read from a clean window: up to the length that a passing header names, the words that stand there. -/
theorem readBody_of_clean {s : State} {h : State × List Word} (hs : WindowClean s) (hhead : h.2 = (List.range 16).map s.windowWord)
    (hframe : blank 134217730 h.1 = blank 134217730 s) :
    (∀ k, k < 16 → (readBody h).2.getD k 0 = s.windowWord k) ∧
      (headerCode h.2 = none → ∀ k, k < (s.windowWord 8).toNat → (readBody h).2.getD k 0 = s.windowWord k) ∧
      blank 134217730 (readBody h).1 = blank 134217730 s := by
  have hget : ∀ k, k < 16 → h.2.getD k 0 = s.windowWord k := fun k hk => by rw [hhead, getD_map_range hk]
  cases hc : headerCode h.2 with
  | some code =>
    rw [readBody_of_refused hc]
    exact ⟨hget, nofun, hframe⟩
  | none =>
    obtain ⟨-, -, hlen⟩ := headerCode_none_iff.mp hc
    rw [readBody_of_passed hc]
    rw [hget 8 (by decide)] at hlen ⊢
    have hp := pad_of_blank hframe (by decide)
    obtain ⟨hbody, hrest⟩ := windowWords_of_clean (s := h.1) (i := 16) (n := (s.windowWord 8).toNat - 16) (windowClean_of_pad hp hs) (by omega)
    have hl : h.2.length = 16 := by rw [hhead, List.length_map, List.length_range]
    have hlow : ∀ k, k < 16 → (h.2 ++ (h.1.windowWords 16 ((s.windowWord 8).toNat - 16)).2).getD k 0 = s.windowWord k :=
      fun k hk => by
      rw [List.getD_eq_getElem?_getD, List.getElem?_append_left (by omega), ← List.getD_eq_getElem?_getD, hget k hk]
    refine ⟨hlow, fun _ k hk => ?_, hrest.trans hframe⟩
    by_cases h16 : k < 16
    · exact hlow k h16
    · rw [List.getD_eq_getElem?_getD, List.getElem?_append_right (by omega), ← List.getD_eq_getElem?_getD, hl, hbody, getD_map_range (by omega), windowWord_of_pad hp,
        show 16 + (k - 16) = k by omega]

/-- The image in a clean window (R534): its header, and where that passes checks 1 to 3 every word up to the length that it names. -/
theorem readWindow_of_clean {s : State} (h : WindowClean s) :
    (∀ k, k < 16 → s.readWindow.2.getD k 0 = s.windowWord k) ∧
      ((s.windowWord 0).toNat = 0x49534851 → (s.windowWord 2).field 15 0 = 0x768 → (s.windowWord 8).toNat ≤ 1048576 →
        ∀ k, k < (s.windowWord 8).toNat → s.readWindow.2.getD k 0 = s.windowWord k) ∧
      blank 134217730 s.readWindow.1 = blank 134217730 s := by
  obtain ⟨hhead, hframe⟩ := windowWords_of_clean (i := 0) (n := 16) h (by decide)
  simp only [Nat.zero_add] at hhead
  obtain ⟨hlow, hall, hrest⟩ := readBody_of_clean h hhead hframe
  refine ⟨hlow, fun h0 h2 h8 => hall (headerCode_none_iff.mpr ?_), hrest⟩
  rw [hhead, getD_map_range (by decide), getD_map_range (by decide), getD_map_range (by decide)]
  exact ⟨h0, h2, h8⟩

end Sys2Proof.Machine
end

section
/-! PROOFS. 02_structure_image, O22: LOAD_STRUCTURE, STORE_STRUCTURE and their ends. -/

namespace Sys2Proof.Machine

open Sys2Proof.Safety

/-! ### How commands begin and complete (R384, R385) -/

/-- Without reserved operand bits a long command begins as one more in progress, and no span opens. -/
theorem startLong_of_clear {s : State} {c : CmdItem} (h : c.reservedClear = true) (op : LongOp) :
    s.startLong c op = s.upCmd fun k => { k with long := k.long ++ [{ item := c, op := op, since := s.tick }] } := by
  unfold State.startLong
  rw [if_pos h]

theorem startLong_frame_of_clear {M : Nat} {s : State} {c : CmdItem} (h : c.reservedClear = true) (op : LongOp) (hM : 2097152 &&& M = 2097152) :
    blank M (s.startLong c op) = blank M s := by
  rw [startLong_of_clear h]
  exact upCmd_frame rfl rfl rfl rfl (.inr rfl) (.inl (bit_mono hM 21 (by decide)))

theorem startLong_long {s : State} {c : CmdItem} (h : c.reservedClear = true) (op : LongOp) :
    (s.startLong c op).cmd.long = s.cmd.long ++ [{ item := c, op := op, since := s.tick }] := by
  rw [startLong_of_clear h]
  rfl

/-- A command that completes as it starts; a LOAD_STRUCTURE sets its bit in GLB_INT_STATUS besides (R501). -/
theorem completes_of_starts {i : Instr} {s : State} {op : Nat} {c : CmdItem} {st : Nat} {f : CmdItem → State → State} (h : Starts s op c)
    (hi : exec i s = act s fun s => s.start op f) (hf : f c (taken s) = (taken s).complete c st) (hk : knownOpcode op = true := by decide) :
    ∃ t, exec i s = .next t ∧ Completes s t c st 0 ∧ UnchangedBut [.out, .intStatus, .crier, .queue, .cmd, .store] s t := by
  obtain ⟨-, -, hc, -, hu⟩ := id h
  have hub : (f c (taken s)).ub = none := by
    rw [hf, complete_ub hc]
    exact hu
  refine ⟨_, hi.trans (act_start h f hub hk), ?_, ?_⟩
  · rw [hf]
    exact complete_completes hc (fun _ => rfl) rfl
  · rw [hf, complete_eq hc]
    exact unchangedBut_of_blank (M := 78643220) ((State.finish_frame (by decide)).trans (taken_frame (by decide))) (by intro p; cases p <;> decide)

/-! ### LOAD_STRUCTURE (R39, R42, R534) -/

/-- A staged image is discarded, and its master told (R42). -/
def State.discardStaged (s : State) : State :=
  match s.cfg.staged with
  | some i => if s.cfg.stage = StageState.staged then s.notify 0 0x12 s.cfg.loadMaster 0 (argT i.structId) else s
  | none => s

theorem discardStaged_frame {M : Nat} {s : State} (hM : 68157440 &&& M = 68157440) : blank M s.discardStaged = blank M s := by
  unfold State.discardStaged
  split
  · exact ite_left_frame (State.notify_frame hM)
  · rfl

theorem discardStaged_notices {s : State} {i : Staged} (h : s.cfg.stage = .staged) (hi : s.cfg.staged = some i) :
    Notices s s.discardStaged 0 0x12 s.cfg.loadMaster 0 (argT i.structId) := by
  unfold State.discardStaged
  rw [hi]
  dsimp only
  rw [if_pos h]
  exact notify_notices ..

/-- The staging area while a load of the master of `c` runs. -/
def Cfg.loading (g : Cfg) (c : CmdItem) : Cfg := { g with stage := .loading, staged := none, loadMaster := masterNum c.master }

/-- What a load reads as it begins: nothing of a library, the window's image as the window holds it (R534). -/
def State.loadSource (s : State) (library : Bool) : State × List Word := if library then (s, []) else s.readWindow

theorem beginLoad_eq (s : State) (c : CmdItem) (library : Bool) (slot : Nat) : s.beginLoad c library slot =
    ((s.loadSource library).1.upCfg fun g => g.loading c).startLong c (.load library slot (s.loadSource library).2) := rfl

theorem cfg_loading_frame {M : Nat} {s : State} {c : CmdItem} (hM : 512 &&& M = 512) : blank M (s.upCfg fun g => g.loading c) = blank M s :=
  upCfg_frame (.inr rfl) (.inl (bit_mono hM 9 (by decide)))

theorem loadSource_window (s : State) : s.loadSource false = s.readWindow := if_neg Bool.false_ne_true

theorem loadSource_frame {M : Nat} {s : State} {library : Bool} (hM : 772800534 &&& M = 772800534) :
    blank M (s.loadSource library).1 = blank M s := by
  unfold State.loadSource
  split
  · rfl
  · exact State.readWindow_frame hM

/-- The state in which LOAD_STRUCTURE reads its image: the command has left the queue, a staged image is discarded. -/
def State.beforeLoad (s : State) : State := (taken s).discardStaged

theorem beforeLoad_frame {M : Nat} {s : State} (hM : 70254592 &&& M = 70254592) : blank M s.beforeLoad = blank M s :=
  blank_mono hM ((discardStaged_frame (by decide)).trans (taken_frame (by decide)))

/-- What a load that begins leaves alone, where reading the image leaves it alone. -/
theorem beginLoad_frame_of_source {M : Nat} {s : State} {c : CmdItem} {library : Bool} {slot : Nat} (hc : c.reservedClear = true)
    (hsource : blank M (s.beforeLoad.loadSource library).1 = blank M s.beforeLoad) (hM : 70255104 &&& M = 70255104) :
    blank M (s.beforeLoad.beginLoad c library slot) = blank M s := by
  rw [beginLoad_eq]
  exact (startLong_frame_of_clear hc _ (blank_mask hM (by decide))).trans ((cfg_loading_frame (blank_mask hM (by decide))).trans
    (hsource.trans (beforeLoad_frame (blank_mask hM (by decide)))))

section
variable {s : State} {c : CmdItem} (hs : Starts s 0x10 c)
include hs

theorem loadStructure_busy (h : s.cfg.stage = .pending ∨ s.cfg.stage = .loading) :
    ∃ t, exec .loadStructure s = .next t ∧ Completes s t c 0x01 0 ∧ UnchangedBut [.out, .intStatus, .crier, .queue, .cmd, .store] s t :=
  completes_of_starts hs rfl (if_pos h)

variable (hp : s.cfg.stage ≠ .pending) (hl : s.cfg.stage ≠ .loading)
include hp hl

theorem exec_loadStructure : exec .loadStructure s = .next (s.beforeLoad.beginLoad c (c.a 31 31 == 1) (c.a 3 0)) := by
  obtain ⟨-, -, hc, -, hu⟩ := id hs
  have hframe : blank 783286806 (s.beforeLoad.beginLoad c (c.a 31 31 == 1) (c.a 3 0)) = blank 783286806 s :=
    beginLoad_frame_of_source hc (loadSource_frame (by decide)) (by decide)
  exact act_next ((start_of_starts hs _).trans (if_neg (not_or_intro hp hl))) ((ub_of_blank hframe (by decide)).trans hu)

omit hs hp hl in
theorem beginLoad_cfg {library : Bool} {slot : Nat} : (s.beforeLoad.beginLoad c library slot).cfg = s.cfg.loading c := by
  have hsource : blank 772800534 (s.beforeLoad.loadSource library).1 = blank 772800534 s.beforeLoad := loadSource_frame (by decide)
  rw [beginLoad_eq, State.startLong_cfg]
  exact congrArg (fun g : Cfg => g.loading c) ((cfg_of_blank hsource (by decide)).trans (cfg_of_blank (beforeLoad_frame (Nat.and_self _)) (by decide)))

omit hp hl in
theorem beginLoad_long {library : Bool} {slot : Nat} : (s.beforeLoad.beginLoad c library slot).cmd.long =
    s.cmd.long ++ [{ item := c, op := .load library slot (s.beforeLoad.loadSource library).2, since := s.tick }] := by
  obtain ⟨-, -, hc, -, -⟩ := id hs
  have hsource : blank 774897686 (s.beforeLoad.loadSource library).1 = blank 774897686 s.beforeLoad := loadSource_frame (by decide)
  have hbefore : s.beforeLoad.cmd = (taken s).cmd := cmd_of_blank (M := 68157440) (discardStaged_frame (by decide)) (by decide)
  have hlong : (s.beforeLoad.loadSource library).1.cmd.long = s.cmd.long := by
    rw [cmd_of_blank (M := 772800534) (loadSource_frame (by decide)) (by decide), hbefore]
    rfl
  have htick : ((s.beforeLoad.loadSource library).1.upCfg fun g => g.loading c).tick = s.tick :=
    part_same_of_blank (hsource.trans (beforeLoad_frame (by decide))) .counter (by decide)
  rw [beginLoad_eq, startLong_long hc, State.upCfg_cmd, hlong, htick]

omit hp hl in
/-- The notice of a discarded image stands where reading the new one posts nothing. -/
theorem beginLoad_notices {library : Bool} {slot : Nat} {i : Staged}
    (hsource : blank 134217730 (s.beforeLoad.loadSource library).1 = blank 134217730 s.beforeLoad) (h : s.cfg.stage = .staged)
    (hi : s.cfg.staged = some i) : Notices s (s.beforeLoad.beginLoad c library slot) 0 0x12 s.cfg.loadMaster 0 (argT i.structId) := by
  obtain ⟨-, -, hc, -, -⟩ := id hs
  rw [beginLoad_eq, startLong_of_clear hc]
  have hcrier : (s.beforeLoad.loadSource library).1.crier = s.beforeLoad.crier := crier_of_blank hsource (by decide)
  exact posts_congr (t := s.beforeLoad) (discardStaged_notices (s := taken s) h hi) (congrArg (fun k : Crier => (k.queues.get {} 0).posted) hcrier)
    (part_same_of_blank hsource .store (by decide))

end

theorem loadStructure_library {s : State} {c : CmdItem} (hs : Starts s 0x10 c) (hp : s.cfg.stage ≠ .pending) (hl : s.cfg.stage ≠ .loading)
    (hb : c.a 31 31 = 1) : ∃ t, exec .loadStructure s = .next t ∧ t.cfg.stage = .loading ∧
      t.cfg.staged = none ∧ t.cfg.loadMaster = masterNum c.master ∧ t.cfg.committed = s.cfg.committed ∧
      t.cmd.long = s.cmd.long ++ [{ item := c, op := .load true (c.a 3 0) [], since := s.tick }] ∧
      (∀ i, s.cfg.stage = .staged → s.cfg.staged = some i → Notices s t 0 0x12 s.cfg.loadMaster 0 (argT i.structId)) ∧
      UnchangedBut [.cfg, .crier, .queue, .store] s t := by
  have he := exec_loadStructure hs hp hl
  rw [show (c.a 31 31 == 1) = true by rw [hb]; rfl] at he
  refine ⟨_, he, ?_, ?_, ?_, ?_, beginLoad_long hs, fun i h hi => beginLoad_notices hs rfl h hi,
    unchangedBut_of_blank (M := 70255104) (beginLoad_frame_of_source hs.2.2.1 rfl (by decide)) (by intro p; cases p <;> decide)⟩
  all_goals rw [beginLoad_cfg]; rfl

/-- A load of a clean window holds the words that stand there (R534). -/
theorem loadStructure_window {s : State} {c : CmdItem} (hs : Starts s 0x10 c) (hp : s.cfg.stage ≠ .pending) (hl : s.cfg.stage ≠ .loading)
    (hb : c.a 31 31 = 0) (hw : WindowClean s) : ∃ t ws, exec .loadStructure s = .next t ∧ t.cfg.stage = .loading ∧
      t.cfg.staged = none ∧ t.cfg.loadMaster = masterNum c.master ∧
      t.cmd.long = s.cmd.long ++ [{ item := c, op := .load false (c.a 3 0) ws, since := s.tick }] ∧
      (∀ k, k < 16 → ws.getD k 0 = s.windowWord k) ∧
      ((s.windowWord 0).toNat = 0x49534851 → (s.windowWord 2).field 15 0 = 0x768 → (s.windowWord 8).toNat ≤ 1048576 →
        ∀ k, k < (s.windowWord 8).toNat → ws.getD k 0 = s.windowWord k) ∧
      (∀ i, s.cfg.stage = .staged → s.cfg.staged = some i → Notices s t 0 0x12 s.cfg.loadMaster 0 (argT i.structId)) ∧
      UnchangedBut [.freeCount, .cfg, .crier, .queue, .store, .mem] s t := by
  have he := exec_loadStructure hs hp hl
  rw [show (c.a 31 31 == 1) = false by rw [hb]; rfl] at he
  have hpad : s.beforeLoad.mem.pad = s.mem.pad := pad_of_blank (beforeLoad_frame (Nat.and_self _)) (by decide)
  obtain ⟨hhead, hbody, hread⟩ := readWindow_of_clean (windowClean_of_pad hpad hw)
  simp only [windowWord_of_pad hpad] at hhead hbody
  rw [← loadSource_window] at hhead hbody hread
  refine ⟨_, (s.beforeLoad.loadSource false).2, he, ?_, ?_, ?_, beginLoad_long hs, hhead, hbody, fun i h hi => beginLoad_notices hs hread h hi,
    unchangedBut_of_blank (M := 204472834) (beginLoad_frame_of_source hs.2.2.1 (blank_mono (by decide) hread) (by decide))
      (by intro p; cases p <;> decide)⟩
  all_goals rw [beginLoad_cfg]; rfl

theorem loadStructure_any {s : State} {c : CmdItem} (hs : Starts s 0x10 c) (hp : s.cfg.stage ≠ .pending) (hl : s.cfg.stage ≠ .loading) :
    ∃ t, exec .loadStructure s = .next t ∧ t.cfg.stage = .loading ∧ t.cfg.staged = none ∧ t.cfg.committed = s.cfg.committed ∧
      UnchangedBut [.freeCount, .out, .intStatus, .cfg, .crier, .queue, .cmd, .pad, .store, .mem, .hlt] s t := by
  refine ⟨_, exec_loadStructure hs hp hl, ?_, ?_, ?_,
    unchangedBut_of_blank (M := 783286806) (beginLoad_frame_of_source hs.2.2.1 (loadSource_frame (by decide)) (by decide))
      (by intro p; cases p <;> decide)⟩
  all_goals rw [beginLoad_cfg]; rfl

/-! ### LOAD_STRUCTURE_DONE (R40, R41, R43) -/

/-- The code with which a load of the words `ws` ends: that of the first check of R40 that fails. -/
def loadCode (ws : List Word) : Nat :=
  if (ws.getD 0 0).toNat ≠ 0x49534851 then 0x06
  else if (ws.getD 2 0).field 15 0 ≠ 0x768 then 0x07
  else if 1048576 < (ws.getD 8 0).toNat then 0x08
  else if crcWords (ws.drop 16) ≠ (ws.getD 15 0).toNat then 0x09
  else if (walkFrames (ws.drop 16).length (ws.drop 16)).failed = true then 0x0A else 0

/-- What `bad_frame` reads after such a load (R43). -/
def loadBadFrame (ws : List Word) : Nat :=
  if loadCode ws = 0x0A then min 0xFFFE (walkFrames (ws.drop 16).length (ws.drop 16)).frames.length else 0xFFFF

/-- The staging area after a load of the words `ws`. -/
def State.loaded (s : State) (ws : List Word) : Cfg :=
  if loadCode ws = 0 then
    { s.cfg with
      stage := .staged, staged := some (s.stagedOf ws (walkFrames (ws.drop 16).length (ws.drop 16)).frames), badFrame := 0xFFFF, lastResult := 0 }
  else { s.cfg with stage := .empty, staged := none, badFrame := loadBadFrame ws, lastResult := loadCode ws }

theorem getD_take {ws : List Word} {k n : Nat} (h : k < n) : (ws.take n).getD k 0 = ws.getD k 0 := by
  rw [List.getD_eq_getElem?_getD, List.getElem?_take_of_lt h, ← List.getD_eq_getElem?_getD]

/-- A header that fails one of checks 1 to 3. -/
theorem loadCode_of_refused {ws : List Word} {code : Nat} (h : headerCode (ws.take 16) = some code) :
    loadCode ws = code ∧ code ≠ 0 ∧ code ≠ 0x0A := by
  unfold headerCode at h
  rw [getD_take (by decide), getD_take (by decide), getD_take (by decide)] at h
  unfold loadCode
  split at h
  · next h0 =>
    cases h
    rw [if_pos h0]
    decide
  · next h0 =>
    rw [if_neg h0]
    split at h
    · next h2 =>
      cases h
      rw [if_pos h2]
      decide
    · next h2 =>
      rw [if_neg h2]
      split at h
      · next h8 =>
        cases h
        rw [if_pos h8]
        decide
      · cases h

/-- A header that passes them leaves the checks of the body. -/
theorem loadCode_of_passed {ws : List Word} (h : headerCode (ws.take 16) = none) : loadCode ws =
    if crcWords (ws.drop 16) ≠ (ws.getD 15 0).toNat then 0x09
    else if (walkFrames (ws.drop 16).length (ws.drop 16)).failed = true then 0x0A else 0 := by
  rw [headerCode_none_iff, getD_take (by decide), getD_take (by decide), getD_take (by decide)] at h
  obtain ⟨h0, h2, h8⟩ := h
  unfold loadCode
  rw [if_neg (not_not_intro h0), if_neg (not_not_intro h2), if_neg (Nat.not_lt.mpr h8)]

theorem satTo_eq_min (top n : Nat) : satTo top n = min top n := by
  unfold satTo
  split <;> omega

theorem loadFrom_eq (s : State) (ws : List Word) : s.loadFrom ws = (s.upCfg fun _ => s.loaded ws, loadCode ws) := by
  unfold State.loadFrom State.loaded loadBadFrame
  cases hc : headerCode (ws.take 16) with
  | some code =>
    obtain ⟨he, h0, ha⟩ := loadCode_of_refused hc
    rw [he, if_neg h0, if_neg ha]
    rfl
  | none =>
    rw [loadCode_of_passed hc]
    unfold bodyChecks
    by_cases hcrc : crcWords (ws.drop 16) ≠ (ws.getD 15 0).toNat
    · simp only [if_pos hcrc]
      rfl
    · simp only [if_neg hcrc]
      by_cases hw : (walkFrames (ws.drop 16).length (ws.drop 16)).failed = true
      · simp only [if_pos hw, satTo_eq_min]
        rfl
      · simp only [if_neg hw]
        rfl

/-- The load in progress ends. -/
theorem loadStructureDone_of_long {s : State} {l : LongCmd} {library : Bool} {slot : Nat} {ws : List Word}
    (h : s.longOf (fun o => match o with | .load .. => true | _ => false) = some l) (hl : l.op = .load library slot ws) (hf : s.firmware = true) :
    loadStructureDone s =
      let image := if library then s.readLibrary slot else ws
      (s.upCfg fun _ => s.loaded image).endLong l (loadCode image) := by
  unfold loadStructureDone
  split
  next hn => exact absurd (hn.symm.trans h) (Option.some_ne_none l).symm
  next l' hl' =>
    obtain rfl : l' = l := Option.some.inj (hl'.symm.trans h)
    rw [hl]
    dsimp only
    rw [if_pos hf, loadFrom_eq]

/-- The end of a load: its completion carries the code of the checks, and the staging area is what the checks leave. -/
theorem loadStructureDone_ends {s : State} {l : LongCmd} {library : Bool} {slot : Nat} {ws : List Word} (hu : s.ub = none)
    (h : s.longOf (fun o => match o with | .load .. => true | _ => false) = some l) (hl : l.op = .load library slot ws) (hf : s.firmware = true) :
    ∃ t, exec .loadStructureDone s = .next t ∧
      Completes s t l.item (loadCode (if library then s.readLibrary slot else ws)) 0 ∧ t.cfg = s.loaded (if library then s.readLibrary slot else ws) ∧
      t.cmd.long = eraseFirst (fun x => decide (x = l)) s.cmd.long ∧ UnchangedBut [.out, .intStatus, .cfg, .crier, .queue, .cmd, .store] s t := by
  have hframe : blank 78643732 (loadStructureDone s) = blank 78643732 s := loadStructureDone_frame (by decide)
  have he := act_of_blank hframe (by decide) hu
  rw [loadStructureDone_of_long h hl hf] at he hframe
  generalize (if library then s.readLibrary slot else ws) = image at he hframe ⊢
  refine ⟨_, he, ?_, State.endLong_cfg .., ?_, unchangedBut_of_blank hframe (by intro p; cases p <;> decide)⟩
  · exact completes_from endLong_completes (fun _ => rfl) (mst_congr rfl _)
  · exact endLong_long

theorem loaded_failed {s : State} {ws : List Word} (h : loadCode ws ≠ 0) :
    s.loaded ws = { s.cfg with stage := .empty, staged := none, badFrame := loadBadFrame ws, lastResult := loadCode ws } := if_neg h

theorem loaded_passed {s : State} {ws : List Word} (h : loadCode ws = 0) : s.loaded ws =
    { s.cfg with
      stage := .staged, staged := some (s.stagedOf ws (walkFrames (ws.drop 16).length (ws.drop 16)).frames), badFrame := 0xFFFF, lastResult := 0 } :=
  if_pos h

theorem loaded_committed (s : State) (ws : List Word) : (s.loaded ws).committed = s.cfg.committed := by
  unfold State.loaded
  split <;> rfl

theorem loaded_lastResult (s : State) (ws : List Word) : (s.loaded ws).lastResult = loadCode ws := by
  by_cases h : loadCode ws = 0
  · rw [loaded_passed h, h]
  · rw [loaded_failed h]

/-! ### STORE_STRUCTURE (R39, R42) -/

/-- A library slot written in flash. -/
def State.putLibrary (s : State) (slot : Nat) (ws : List Word) : State :=
  s.upLdr fun d => { d with flash := { d.flash with library := d.flash.library.set [] slot ws } }

theorem putLibrary_get (s : State) (slot : Nat) (ws : List Word) : (s.putLibrary slot ws).ldr.flash.library.get [] slot = ws :=
  SMap.get_set_self _ _ _ _

/-- The slot is erased and the store begins. -/
theorem storeStructure_begins {s : State} {c : CmdItem} {i : Staged} (hs : Starts s 0x13 c) (hl : s.cfg.stage ≠ .loading)
    (hi : s.cfg.staged = some i) : ∃ t, exec .storeStructure s = .next t ∧ t.ldr.flash.library.get [] (c.a 3 0) = [] ∧
      t.cmd.long = s.cmd.long ++ [{ item := c, op := .store (c.a 3 0) i.words, since := s.tick }] ∧ UnchangedBut [.queue, .ldr] s t := by
  obtain ⟨-, -, hc, -, hu⟩ := id hs
  have he : storeStructure s = ((taken s).putLibrary (c.a 3 0) []).startLong c (.store (c.a 3 0) i.words) := by
    have hi' : (taken s).cfg.staged = some i := hi
    refine (start_of_starts hs _).trans ((if_neg hl).trans ?_)
    rw [hi']
    rfl
  have hframe : blank 8592031744 (((taken s).putLibrary (c.a 3 0) []).startLong c (.store (c.a 3 0) i.words)) = blank 8592031744 s :=
    (startLong_frame_of_clear hc _ (by decide)).trans ((upLdr_frame (by decide)).trans (taken_frame (by decide)))
  refine ⟨_, act_next he ((ub_of_blank hframe (by decide)).trans hu), ?_, startLong_long hc _,
    unchangedBut_of_blank hframe (by intro p; cases p <;> decide)⟩
  rw [State.startLong_ldr]
  exact putLibrary_get ..

theorem storeStructureDone_of_long {s : State} {l : LongCmd} {slot : Nat} {ws : List Word}
    (h : s.longOf (fun o => match o with | .store .. => true | _ => false) = some l) (hl : l.op = .store slot ws) (hf : s.firmware = true) :
    storeStructureDone s = (s.putLibrary slot ws).endLong l 0 := by
  unfold storeStructureDone
  split
  next hn => exact absurd (hn.symm.trans h) (Option.some_ne_none l).symm
  next l' hl' =>
    obtain rfl : l' = l := Option.some.inj (hl'.symm.trans h)
    rw [hl]
    dsimp only
    exact if_pos hf

/-! ### O22 -/

/-- Settles O22, row by row. -/
theorem loadStagesOneImage : Obligations.LoadStagesOneImage := by
  unfold Obligations.LoadStagesOneImage
  refine ⟨?load, ?loadDone, ?store, ?storeDone⟩
  case load =>
    exact fun s c hs => ⟨loadStructure_busy hs, loadStructure_library hs, loadStructure_window hs, loadStructure_any hs⟩
  case loadDone =>
    intro s l library slot ws hu h hl hf
    obtain ⟨t, he, hc, hcfg, hlong, hframe⟩ := loadStructureDone_ends hu h hl hf
    generalize (if library then s.readLibrary slot else ws) = image at he hc hcfg ⊢
    refine ⟨t, he, hc, ?_, ?_, hlong, fun h0 => ?_, fun h0 => ?_, hframe⟩
    · rw [hcfg, loaded_committed]
    · rw [hcfg]
      exact loaded_lastResult s image
    · rw [hcfg, loaded_failed h0]
      exact ⟨rfl, rfl, rfl⟩
    · rw [hcfg, loaded_passed h0]
      exact ⟨rfl, _, rfl, rfl, rfl, rfl⟩
  case store =>
    intro s c hs
    refine ⟨fun hl => ?_, fun hl hn => ?_, fun i => storeStructure_begins hs⟩
    · exact completesOnly_of hs (by decide) rfl (if_pos hl)
    · have hn' : (taken s).cfg.staged = none := hn
      refine completesOnly_of hs (by decide) rfl ((if_neg hl).trans ?_)
      rw [hn']
  case storeDone =>
    intro s l slot ws hu h hl hf
    have hframe : blank 8668577812 (storeStructureDone s) = blank 8668577812 s := storeStructureDone_frame (by decide)
    have he := act_of_blank hframe (by decide) hu
    rw [storeStructureDone_of_long h hl hf] at he hframe
    refine ⟨_, he, ?_, completes_from endLong_completes (fun _ => rfl) (mst_congr rfl _),
      unchangedBut_of_blank hframe (by intro p; cases p <;> decide)⟩
    rw [State.endLong_ldr]
    exact putLibrary_get ..

end Sys2Proof.Machine
end

section
/-! PROOFS. 02_structure_image, O48: the register accesses, refuted at QUE_RING_BASE. -/

namespace Sys2Proof.Machine

open Sys2Proof.Safety

/-- A write that opens no span is its effect (R11). -/
theorem exec_registerWrite {s : State} {m : Master} {o : Nat} {v : Word} {h : Option Word} (hw : Instr.wf (.registerWrite m o v h) = true)
    (hr : s.glb.state ≠ .reset) (hm : m ≠ .tandem) (hu : (registerWrite m o v h s).ub = none) :
    exec (.registerWrite m o v h) s = .next (registerWrite m o v h s) :=
  actIf_next hw (if_pos (by simp only [hr, hm, ne_eq, not_false_eq_true, decide_true, Bool.and_self])) hu

/-- A hub in RUN whose ring 0 is enabled and whose record of that ring's base holds 2^64, one bit more than QUE_RING_BASE has: the register reads 0. -/
def wideBase : State :=
  { State.reset with glb.state := .run, host.rings := [(0, { base := 2 ^ 64, cfg := 0x80000000 })] }

/-- The 8 bytes that QUE_RING_BASE reads are written to it: no other value than the register's, so no span of R404 opens. -/
theorem registerWrite_wideBase_ub : (registerWrite .pcie 0x72000 0 (some 0) wideBase).ub = none := by decide

/-- Refutes O48: where the record of an enabled ring's base exceeds 64 bits, QUE_RING_BASE reads it modulo 2^64, and writing that reading opens no
span although it differs from the record. -/
theorem not_registersAreReadAndWritten : ¬ Obligations.RegistersAreReadAndWritten := by
  unfold Obligations.RegistersAreReadAndWritten
  rintro ⟨-, -, hwrite, -⟩
  obtain ⟨t, ht, -, -, -, -, -, -, hring, -⟩ := hwrite wideBase .pcie 0x72000 0 (some 0) (by decide) (by decide) (by decide) (by decide)
  obtain ⟨hopens, -⟩ := hring 0 0 rfl rfl (by decide)
  have hexec := exec_registerWrite (s := wideBase) (m := .pcie) (o := 0x72000) (v := 0) (h := some 0) (by decide) (by decide) (by decide)
    registerWrite_wideBase_ub
  obtain rfl : registerWrite .pcie 0x72000 0 (some 0) wideBase = t := Host.Outcome.next.inj (hexec.symm.trans ht)
  have hspan := hopens (by decide) (by decide)
  rw [registerWrite_wideBase_ub] at hspan
  cases hspan

end Sys2Proof.Machine
end

section
/-! PROOFS. 02_structure_image, O23: the commit instant, refuted at a COMMIT that an interval's abort ends first. -/

namespace Sys2Proof.Machine

open Sys2Proof.Safety

/-- The COMMIT of the SPI host. -/
def commitItem : CmdItem := { master := .spi, cseq := 7, tag := 5, opcode := 0x11, opA := 0, opB := 0, service := false, base := 0 }

/-- A structure with one single-cycle look, 32, of 80,000 samples a second. -/
def oneLook : Struct := { spoke := [(2, [0x10000000, 0x00040000])], lookSeq := [(2, [0x08000000, 0x80040000, 0x00010001, 0])] }

/-- The same with a statistics job over that look, in intervals of 10 ms. -/
def oneJob : Struct :=
  { oneLook with
    reducer := [(0, [0x08000000, 0, 0, 0, wordOf (1 * 2 ^ 29 + 13056 * 16), wordOf (32 * 2 ^ 18 + 1 * 128 + 1), 1, 0x100, 0, 0, 0, 0, 1, 0x10000])] }

/-- A staged full image of the structure in force. -/
def sameImage : Staged := { structId := 9, parentId := 0, delta := false, sampling := true, words := [], target := oneLook, sound := true }

/-- Its commit at 5,000 s of network time. -/
def sameCommit : PendingCommit := { item := some commitItem, named := none, instant := 5 * 10 ^ 12, late := false, atSamplingStart := false }

/-- A hub that samples, at the instant of that commit. Look 32 has still to pass a step of time over its index 801, the first beyond 10 ms, and the
abort list of the job that reads it names the item of the COMMIT at interval 0. -/
def abortsCommit : State :=
  { State.reset with
    glb.state := .run, glb.sampling := true, tmb.counter := 10 ^ 12, cmd.spi.inFlight := 1
    cmd.long := [{ item := commitItem, op := .commit, since := 1 }]
    cfg.stage := .pending, cfg.staged := some sameImage, cfg.pending := some sameCommit
    cfg.committed := oneLook, cfg.eras := [{ start := 10025000, prevEnd := 0, st := oneLook }]
    path.looks := [(32, { next := some 801 })]
    path.jobs := [(0, { live := true, own := some oneJob, abort := [(commitItem, 0, true)] })] }

/-- The look crosses the step, its placeholder closes interval 0 (R269), and the abort of that interval is arbitrated (R280): the COMMIT completes with
LATE_ABORT, 0x03. Of the commit itself only N_COMMIT_DONE follows. -/
theorem commitInstant_abortsCommit :
    let t := commitInstant abortsCommit
    t.ub = none ∧ (t.que 0).posted = 2 ∧ (itemAt t 0 0).w1 = 0x00070503 ∧ (itemAt t 0 1).w1 = 0x00090000 := by
  decide +kernel

/-- No completion with OK is posted to the COMMIT's queue. -/
theorem not_posts_abortsCommit (r : Nat) :
    ¬ Posts abortsCommit (commitInstant abortsCommit) 0 (completionItem 0 commitItem 0 r) := by
  obtain ⟨-, hposted, hfirst, hsecond⟩ := commitInstant_abortsCommit
  rintro ⟨n, -, hn, hi⟩
  have hw : (itemAt (commitInstant abortsCommit) 0 n).w1 = 0x00070500 := congrArg Item.w1 hi
  rw [hposted] at hn
  obtain rfl | rfl : n = 0 ∨ n = 1 := by omega
  · rw [hfirst] at hw
    exact absurd hw (by decide)
  · rw [hsecond] at hw
    exact absurd hw (by decide)

/-- Refutes O23: what a commit does to the looks closes intervals of jobs, and where a job's abort list names the item of the COMMIT itself the command
completes there with LATE_ABORT, not with OK and the instant. -/
theorem not_commitsTakeEffectAtTheirInstant : ¬ Obligations.CommitsTakeEffectAtTheirInstant := by
  unfold Obligations.CommitsTakeEffectAtTheirInstant
  rintro ⟨-, hinstant, -⟩
  obtain ⟨t, ht, -, -, -, -, -, -, -, hdone, -⟩ := hinstant abortsCommit sameCommit sameImage rfl rfl rfl rfl rfl rfl rfl
    (by decide) rfl (by decide +kernel) (by decide +kernel)
  obtain ⟨hub, -⟩ := commitInstant_abortsCommit
  have hexec : exec .commitInstant abortsCommit = .next (commitInstant abortsCommit) := act_next rfl hub
  obtain rfl : commitInstant abortsCommit = t := Host.Outcome.next.inj (hexec.symm.trans ht)
  obtain ⟨-, -, -, hcompletes⟩ := hdone hub
  exact not_posts_abortsCommit _ (hcompletes { item := commitItem, op := .commit, since := 1 } commitItem (by decide) rfl)

end Sys2Proof.Machine
end

section
/-! PROOFS. 06_modulators_and_looks: a modulator's overload (R157, R158). -/

namespace Sys2Proof.Machine

open Sys2Proof.Safety

/-! ### Looks and modulators after an operation -/

theorem look_of_blank {M : Nat} {s t : State} (h : blank M t = blank M s) (hm : M.testBit 11 = false) (x : Nat) : t.look x = s.look x :=
  congrArg (fun m : SMap Look => m.get {} x) (part_same_of_blank h .looks hm)

theorem modu_of_blank {M : Nat} {s t : State} (h : blank M t = blank M s) (hm : M.testBit 12 = false) (j : Nat) : t.modu j = s.modu j :=
  congrArg (fun m : SMap Modu => m.get {} j) (part_same_of_blank h .mods hm)

@[simp] theorem addSpan_look_self (s : State) (x : Nat) (sp : TagSpan) :
    (s.addSpan x sp).look x = { s.look x with spans := (s.look x).spans ++ [sp] } := State.upLook_look_self ..

theorem addSpan_look_ne (s : State) {x y : Nat} (sp : TagSpan) (h : y ≠ x) : (s.addSpan x sp).look y = s.look y := State.upLook_look_ne _ h

@[simp] theorem faultEvent_look (s : State) (cls inst x : Nat) : (s.faultEvent cls inst).look x = s.look x :=
  look_of_blank (State.faultEvent_frame (Nat.and_self _)) (by decide) x

@[simp] theorem faultEvent_modu (s : State) (cls inst j : Nat) : (s.faultEvent cls inst).modu j = s.modu j :=
  modu_of_blank (State.faultEvent_frame (Nat.and_self _)) (by decide) j

/-! ### Overloads (R157, R158) -/

/-- The span that an overload now opens on the look that runs. -/
def State.overloadSpan (s : State) (seq : Nat) : TagSpan :=
  { tag := tagInvalid, rule := .kernel, start := s.fine - 3 * s.st.clk (s.runningStream seq)
    stop := some (s.fine + 2 * s.st.clk (s.runningStream seq)), blank := false, cause := 0 }

/-- A modulator after an overload now. -/
def State.overloaded (s : State) (m : Modu) : Modu :=
  { m with overloads := satInc m.overloads, clearing := some s.tick, clears := s.fine :: m.clears.filter (fun x => decide (s.fine < x + logSpan)) }

/-- What an overload does under an open wire too: it is counted, and its span opens (R158). -/
def State.tagOverload (s : State) (seq : Nat) : State :=
  (s.upModu seq s.overloaded).addSpan (s.runningStream seq) (s.overloadSpan seq)

/-- A look with one more overload to be told at the end of the epoch. -/
def State.withOverload (s : State) (l : Look) : Look :=
  { l with ovlNote := l.ovlNote + 1, ovlFirst := if l.ovlNote = 0 then s.now else l.ovlFirst }

/-- The overload is told as well, where no open wire stands. -/
def State.tellOverload (s : State) (seq : Nat) : State := (s.tagOverload seq).upLook (s.runningStream seq) s.withOverload

section
variable {s : State} {seq : Nat} (hl : s.live = true) (hs : s.glb.sampling = true) (hr : s.st.lookRuns (s.runningStream seq) = true)
include hl hs hr

/-- An overload of a modulator whose look runs: under an open wire it is counted and tagged; else it is told too, with a fault event where one may
count. -/
theorem overload_eq : overload seq s =
    if s.seqOpenWire seq then s.tagOverload seq
    else if mayCount s (s.look (s.runningStream seq)).ovlTick then
      ((s.tellOverload seq).upLook (s.runningStream seq) fun l => { l with ovlTick := some s.tick }).faultEvent 7 seq
    else s.tellOverload seq := by
  have htick : ((s.tellOverload seq).look (s.runningStream seq)).ovlTick = (s.look (s.runningStream seq)).ovlTick := by
    simp [State.tellOverload, State.tagOverload, State.withOverload]
  rw [← htick]
  exact if_pos (by rw [hl, hs, hr]; rfl)

theorem overload_modu (j : Nat) : (overload seq s).modu j = (s.upModu seq s.overloaded).modu j := by
  rw [overload_eq hl hs hr]
  split
  · rfl
  · split <;> simp [State.tellOverload, State.tagOverload, State.addSpan]

theorem overload_spans :
    ((overload seq s).look (s.runningStream seq)).spans = (s.look (s.runningStream seq)).spans ++ [s.overloadSpan seq] := by
  rw [overload_eq hl hs hr]
  split
  · simp [State.tagOverload]
  · split <;> simp [State.tellOverload, State.tagOverload, State.withOverload]

theorem overload_looksKept : LooksKept [s.runningStream seq] s (overload seq s) := by
  intro x hx
  rw [List.mem_singleton] at hx
  rw [overload_eq hl hs hr]
  split
  · simp [State.tagOverload, addSpan_look_ne _ _ hx]
  · split <;> simp [State.tellOverload, State.tagOverload, State.upLook_look_ne _ hx, addSpan_look_ne _ _ hx]

/-- Under an open wire nothing is told, and no fault event counts (R158). -/
theorem overload_unchangedBut_of_openWire (hw : s.seqOpenWire seq = true) : UnchangedBut [.looks, .mods] s (overload seq s) := by
  rw [overload_eq hl hs hr, if_pos hw]
  exact unchangedBut_of_blank (M := 6144) ((State.addSpan_frame (by decide)).trans (upModu_frame (by decide))) (by intro p; cases p <;> decide)

section
variable (hw : s.seqOpenWire seq = false)
include hw

theorem overload_ovlNote :
    ((overload seq s).look (s.runningStream seq)).ovlNote = (s.look (s.runningStream seq)).ovlNote + 1 := by
  rw [overload_eq hl hs hr, hw, if_neg Bool.false_ne_true]
  split <;> simp [State.tellOverload, State.tagOverload, State.withOverload]

theorem overload_raises (hc : mayCount s (s.look (s.runningStream seq)).ovlTick = true) : Raised s (overload seq s) 7 seq := by
  rw [overload_eq hl hs hr, hw, if_neg Bool.false_ne_true, if_pos hc]
  exact raised_faultEvent ((s.tellOverload seq).upLook (s.runningStream seq) fun l => { l with ovlTick := some s.tick }) 7 seq

/-- Within 1 ms of the fault event counted last the look's overloads raise no other (R157). -/
theorem overload_hlt_of_not_mayCount (hc : mayCount s (s.look (s.runningStream seq)).ovlTick = false) : (overload seq s).hlt = s.hlt := by
  rw [overload_eq hl hs hr, hw, hc]
  rfl

end

end

end Sys2Proof.Machine
end

section
/-! PROOFS. 06_modulators_and_looks: the run of a look in a sequence (R102, R109, R147, R151). -/

namespace Sys2Proof.Machine

open Sys2Proof.Safety

/-- A run without a deferred shift resumes its gear. -/
theorem runGear_of_none {s : State} {seq x t : Nat} (h : (s.look x).startNext = none) : s.runGear seq x t = s := by
  unfold State.runGear
  rw [h]

/-- A deferred shift is taken where no open wire freezes the gear. -/
theorem runGear_of_some {s : State} {seq x t g : Nat} (h : (s.look x).startNext = some g) (hf : 768 ≤ seq ∨ (s.spoke seq).frozen = false) :
    s.runGear seq x t = (s.upLook x fun l => { l with gear := g, startNext := none, lastShift := t }).countShift x (t / 65536) := by
  unfold State.runGear
  rw [h]
  refine if_neg ?_
  rintro ⟨hlt, hfrozen⟩
  obtain hge | hf := hf
  · omega
  · exact Bool.false_ne_true (hf.symm.trans hfrozen)

theorem runGear_look_ne {s : State} {seq x y t : Nat} (h : y ≠ x) : (s.runGear seq x t).look y = s.look y := by
  unfold State.runGear
  split
  · rfl
  · split
    · rfl
    · simp [State.countShift, State.upLook_look_ne _ h]

/-- The gear command that a run of a spoke's look sends. -/
def State.sendGear (s : State) (seq x : Nat) : State :=
  if seq < 768 then s.emit (.gearCommand seq (s.st.gearCode x (s.look x).gear)) else s

@[simp] theorem sendGear_look (s : State) (seq x y : Nat) : (s.sendGear seq x).look y = s.look y := by
  unfold State.sendGear
  split <;> rfl

/-- The look with the chain as its run begins, before the gear command. -/
def State.chainBegun (s : State) (seq x t : Nat) : State := (s.runGear seq x t).upLook x fun l => l.beginRun t (s.st.clk x)

/-- A run's first clock: its chain begins, its gear command goes out, and with `discard` 0 its first sample's span opens. -/
theorem beginRun_cases (s : State) (seq x t : Nat) : s.beginRun seq x t = (s.chainBegun seq x t).sendGear seq x ∨
    ∃ sp, s.beginRun seq x t = ((s.chainBegun seq x t).sendGear seq x).addSpan x sp := by
  by_cases h : ((s.chainBegun seq x t).sendGear seq x).st.discard x = 0
  · exact .inr ⟨_, if_pos h⟩
  · exact .inl (if_neg h)

theorem beginRun_look_self (s : State) (seq x t : Nat) : ∃ sps,
    (s.beginRun seq x t).look x = { ((s.runGear seq x t).look x).beginRun t (s.st.clk x) with spans := sps } := by
  obtain h | ⟨sp, h⟩ := beginRun_cases s seq x t
  · exact ⟨_, by rw [h, sendGear_look]; exact State.upLook_look_self ..⟩
  · exact ⟨_, by rw [h, addSpan_look_self, sendGear_look, State.chainBegun, State.upLook_look_self]⟩

theorem beginRun_gear (s : State) (seq x t : Nat) : ((s.beginRun seq x t).look x).gear = ((s.runGear seq x t).look x).gear := by
  obtain ⟨sps, h⟩ := beginRun_look_self s seq x t
  rw [h]
  rfl

theorem beginRun_startNext (s : State) (seq x t : Nat) : ((s.beginRun seq x t).look x).startNext = ((s.runGear seq x t).look x).startNext := by
  obtain ⟨sps, h⟩ := beginRun_look_self s seq x t
  rw [h]
  rfl

/-- A run begins with a synchronising reset. -/
theorem mem_beginRun_resets (s : State) (seq x t : Nat) : (t, true) ∈ ((s.beginRun seq x t).look x).resets := by
  obtain ⟨sps, h⟩ := beginRun_look_self s seq x t
  rw [h]
  exact List.mem_append_right _ (List.mem_singleton_self _)

theorem beginRun_look_ne {s : State} {seq x y t : Nat} (h : y ≠ x) : (s.beginRun seq x t).look y = s.look y := by
  have hb : ((s.chainBegun seq x t).sendGear seq x).look y = s.look y := by
    rw [sendGear_look, State.chainBegun, State.upLook_look_ne _ h, runGear_look_ne h]
  obtain he | ⟨sp, he⟩ := beginRun_cases s seq x t
  · rw [he, hb]
  · rw [he, addSpan_look_ne _ _ h, hb]

/-- The gear command names the gear that the run has. -/
theorem beginRun_out (s : State) (seq x t : Nat) : (s.beginRun seq x t).out =
    if seq < 768 then s.out ++ [.gearCommand seq (s.st.gearCode x ((s.beginRun seq x t).look x).gear)] else s.out := by
  have hout : (s.chainBegun seq x t).out = s.out := out_of_blank (M := 3072) ((upLook_frame (by decide)).trans (State.runGear_frame (by decide))) rfl
  have hst : (s.chainBegun seq x t).st = s.st := congrArg Cfg.committed
    (cfg_of_blank (M := 3072) ((upLook_frame (by decide)).trans (State.runGear_frame (by decide))) rfl)
  have hgear : ((s.chainBegun seq x t).look x).gear = ((s.beginRun seq x t).look x).gear := by
    rw [beginRun_gear, State.chainBegun, State.upLook_look_self]
    rfl
  have hsent : (s.beginRun seq x t).out = ((s.chainBegun seq x t).sendGear seq x).out := by
    obtain h | ⟨sp, h⟩ := beginRun_cases s seq x t <;> rw [h]
    rfl
  rw [hsent, ← hgear, ← hst, ← hout]
  unfold State.sendGear
  split <;> rfl

theorem beginRun_modu (s : State) (seq x t j : Nat) : (s.beginRun seq x t).modu j = s.modu j :=
  modu_of_blank (State.beginRun_frame (Nat.and_self _)) (by decide) j

/-- Without a deferred shift no spoke's counter moves. -/
theorem beginRun_frame_of_none {M : Nat} {s : State} {seq x t : Nat} (h : (s.look x).startNext = none) (hM : 2052 &&& M = 2052) :
    blank M (s.beginRun seq x t) = blank M s := blank_mono hM (by
  have hb : blank 2052 ((s.chainBegun seq x t).sendGear seq x) = blank 2052 s := by
    unfold State.sendGear State.chainBegun
    rw [runGear_of_none h]
    split
    · exact (emit_frame (by decide)).trans (upLook_frame (by decide))
    · exact upLook_frame (by decide)
  obtain he | ⟨sp, he⟩ := beginRun_cases s seq x t
  · rw [he, hb]
  · rw [he]
    exact (State.addSpan_frame (by decide)).trans hb)

/-- A run that resumes its gear leaves it. -/
theorem beginRun_gear_of_none {s : State} {seq x t : Nat} (h : (s.look x).startNext = none) :
    ((s.beginRun seq x t).look x).gear = (s.look x).gear := by
  rw [beginRun_gear, runGear_of_none h]

/-- A run that takes the shift deferred to it has its gear, and no shift is deferred any more. -/
theorem beginRun_takes {s : State} {seq x t g : Nat} (h : (s.look x).startNext = some g) (hf : 768 ≤ seq ∨ (s.spoke seq).frozen = false) :
    ((s.beginRun seq x t).look x).gear = g ∧ ((s.beginRun seq x t).look x).startNext = none := by
  rw [beginRun_gear, beginRun_startNext, runGear_of_some h hf]
  simp [State.countShift]

/-- The pass of a sequence and the slot in it that run now. -/
def State.passAndSlot (s : State) (seq : Nat) : Nat × Nat := (s.clocksNow seq / s.st.passClocks (firstOf seq), (s.slotNow seq).1)

/-- The fine time of the first clock of the run of the look whose slot it is. -/
def State.runInstant (s : State) (seq : Nat) : Nat :=
  ((s.passAndSlot seq).1 * s.st.passClocks (firstOf seq) + s.st.slotStart (s.runningStream seq)) * s.st.clk (firstOf seq)

/-- The modulator has entered the run of now. -/
def State.enterSlot (s : State) (seq : Nat) : State := s.upModu seq fun m => { m with run := some (s.passAndSlot seq) }

@[simp] theorem enterSlot_look (s : State) (seq x : Nat) : (s.enterSlot seq).look x = s.look x := State.upModu_look ..

@[simp] theorem enterSlot_spoke (s : State) (seq i : Nat) : (s.enterSlot seq).spoke i = s.spoke i := State.upModu_spoke ..

theorem enterSlot_frame {M : Nat} {s : State} {seq : Nat} (hM : 4096 &&& M = 4096) : blank M (s.enterSlot seq) = blank M s := upModu_frame hM

/-- The look whose slot it is enters its run, where the slot is not idle and the run has not begun before. -/
theorem runStart_eq {s : State} {seq : Nat} (hl : s.live = true) (hs : s.glb.sampling = true) (hm : s.st.multiLook (firstOf seq) = true)
    (hr : s.st.lookRuns (s.runningStream seq) = true) (hi : (s.slotNow seq).2 = false) (hn : (s.modu seq).run ≠ some (s.passAndSlot seq)) :
    runStart seq s = (s.enterSlot seq).beginRun seq (s.runningStream seq) (s.runInstant seq) :=
  if_pos (by rw [hl, hs, hm, hr, hi]; exact decide_eq_true hn)

end Sys2Proof.Machine
end

section
/-! PROOFS. 09_switches_and_triggers: a sample leaves scaling (R205), and with it the statement on modulators and looks. -/

namespace Sys2Proof.Machine

open Sys2Proof.Safety

/-! ### The era of the sample that leaves -/

theorem eraAfter_congr {s t : State} (h : t.cfg = s.cfg) (a : Nat) : t.eraAfter a = s.eraAfter a := by
  unfold State.eraAfter
  rw [h]

/-- A look in the newest era has no era to follow. -/
theorem followEras_of_newest {s : State} {x : Nat} (h : s.eraAfter (s.look x).era = none) : s.followEras x = s := by
  unfold State.followEras State.crossEras
  dsimp only
  rw [h]

theorem fetch_era {l l' : Look} {lo hi : Int} {codes rest : List Int} (h : l.fetch lo hi codes = some (l', rest)) : l'.era = l.era := by
  unfold Look.fetch at h
  dsimp only at h
  generalize (if l.codeEnd ≤ lo then lo else l.codeEnd) = held at h
  split at h
  · cases h
  · cases h
    rfl

theorem applyResets_era (l : Look) (t : Nat) (runs : Bool) : (l.applyResets t runs).era = l.era := by
  have hfold : ∀ (rs : List (Nat × Bool)) (l : Look), (rs.foldl Look.resetBy l).era = l.era := by
    intro rs
    induction rs with
    | nil => exact fun _ => rfl
    | cons r rs ih => exact fun l => ih (l.resetBy r)
  exact hfold _ _

theorem chainWord_era {s : State} {st : Struct} {x k : Nat} {l : Look} {codes : List Int} {free : Int} {r : ChainStep}
    (h : s.chainWord st x k l codes free = some r) : r.look.era = l.era := by
  unfold State.chainWord at h
  dsimp only at h
  split at h
  · cases h
  next hf =>
    have he := fetch_era hf
    split at h
    · cases h
      exact he
    · split at h
      · cases h
        exact he
      · split at h <;> cases h <;> exact he

theorem rankInputs_era {s : State} {st : Struct} {x n i free : Nat} {l : Look} {codes : List Int} {r : Look × List Int × Nat}
    (h : s.rankInputs st x n i l codes free = some r) : r.1.era = l.era := by
  induction n generalizing i l codes free with
  | zero =>
    cases h
    rfl
  | succ n ih =>
    unfold State.rankInputs at h
    dsimp only at h
    split at h
    · cases h
    next hw => exact (ih h).trans ((chainWord_era hw).trans (applyResets_era ..))

/-- Neither the draw of a free value nor the saturation of a chain touches a look. -/
theorem drawnOr_look (c : Bool) (s : State) (x : Nat) : (if c then s.draw else s).look x = s.look x := by
  split <;> rfl

theorem saturatedOr_look (c : Bool) (s : State) (f : Path → SMap Nat) (x : Nat) :
    (if c then s.upPath fun p => { p with chainSats := f p } else s).look x = s.look x := by
  split <;> rfl

/-- What the chain does to its look leaves the look's era. -/
theorem chainOut_era {s : State} {st : Struct} {x k t : Nat} {codes : List Int} {r : State × Option Int × Nat}
    (h : s.chainOut st x k t codes = some r) : (r.1.look x).era = (s.look x).era := by
  unfold State.chainOut at h
  dsimp only at h
  split at h
  · split at h
    next hin =>
      cases h
      have hdraw (n : Nat) (u : State) : (forEach (numbersFrom 0 n) u fun s _ => s.draw).look x = u.look x :=
        forEach_same (g := fun v : State => v.look x) fun _ _ => rfl
      rw [hdraw, State.upLook_look_self]
      exact (rankInputs_era hin).trans (applyResets_era ..)
    · cases h
  · split at h
    next hw =>
      split at h
      · cases h
        have hera := (chainWord_era hw).trans (applyResets_era ..)
        rw [saturatedOr_look, drawnOr_look, State.upLook_look_self, hera]
      · cases h
    · cases h

/-- The chain's own state moves on within the newest era. -/
theorem chainOut_newest {s : State} {st : Struct} {x k t : Nat} {codes : List Int} {r : State × Option Int × Nat}
    (hera : s.eraAfter (s.look x).era = none) (h : s.chainOut st x k t codes = some r) : r.1.eraAfter (r.1.look x).era = none := by
  rw [chainOut_era h, eraAfter_congr (cfg_of_blank (State.chainOut_frame (Nat.and_self _) h) (by decide)), hera]

/-! ### The look that the sample leaves -/

@[simp] theorem reduceSample_look (s : State) (x k t : Nat) (eng : Bool) (v : Word) (tag y : Nat) :
    (s.reduceSample x k t eng v tag).look y = s.look y := look_of_blank (State.reduceSample_frame (Nat.and_self _)) (by decide) y

@[simp] theorem switchLook_look (s : State) (st : Struct) (x t : Nat) (eng : Bool) (v : Word) (tag y : Nat) :
    (s.switchLook st x t eng v tag).look y = s.look y := look_of_blank (State.switchLook_frame (Nat.and_self _)) (by decide) y

@[simp] theorem writeBuffer_look (s : State) (y : Nat) : s.writeBuffer.look y = s.look y :=
  look_of_blank (State.writeBuffer_frame (Nat.and_self _)) (by decide) y

/-- A look after sample `k` has left scaling: the sample is its latest, and a word that the chain gave is its latest word. -/
theorem emitSample_look (s : State) (st : Struct) (x k t : Nat) (y : Option Int) (tag : Nat) : ∃ v g lw,
    (s.emitSample st x k t y tag).look x = { s.look x with last := some (t, v, g), lastWord := lw, next := some (k + 1) } ∧
      ∀ w, y = some w → lw = some (t, w) := by
  unfold State.emitSample
  simp only [reduceSample_look, switchLook_look, State.upStrm_look, writeBuffer_look, State.upLook_look_self]
  refine ⟨_, _, _, rfl, ?_⟩
  rintro w rfl
  rfl

/-- A sample of the newest era is the last that leaves in it. -/
theorem followEras_emitSample {s : State} {st : Struct} {x k t : Nat} {y : Option Int} {tag : Nat} (h : s.eraAfter (s.look x).era = none) :
    (s.emitSample st x k t y tag).followEras x = s.emitSample st x k t y tag := by
  obtain ⟨v, g, lw, hlook, -⟩ := emitSample_look s st x k t y tag
  refine followEras_of_newest ?_
  rw [eraAfter_congr (cfg_of_blank (State.emitSample_frame (Nat.and_self _)) (by decide)), hlook]
  exact h

/-- After a reset of the look's chain its switches have no sample before. -/
def State.forgetBefore (s : State) (x : Nat) : State := forEach (numbersFrom (x * 4) 4) s fun s i => s.upSw i fun y => { y with prev := none }

@[simp] theorem forgetBefore_look (s : State) (x y : Nat) : (s.forgetBefore x).look y = s.look y :=
  forEach_same (g := fun v : State => v.look y) fun _ _ => rfl

@[simp] theorem forgetBefore_cfg (s : State) (x : Nat) : (s.forgetBefore x).cfg = s.cfg :=
  forEach_same (g := fun v : State => v.cfg) fun _ _ => rfl

/-- A sample that is due, with the codes for it, leaves scaling with what the chain gives. -/
theorem sampleOut_emits {s : State} {x k : Nat} {codes : List Int} {r : State × Option Int × Nat} (hera : s.eraAfter (s.look x).era = none)
    (hnext : (s.look x).next = some k) (hpath : s.pathRuns = true) (hsamp : s.glb.sampling = true)
    (hleaves : s.leaves (s.eraFrom (s.look x).era).st x ((s.eraFrom (s.look x).era).st.instantOf x k) = true)
    (hchain : s.chainOut (s.eraFrom (s.look x).era).st x k ((s.eraFrom (s.look x).era).st.instantOf x k) codes = some r) :
    ∃ u : State, sampleOut x codes s =
      u.emitSample (s.eraFrom (s.look x).era).st x k ((s.eraFrom (s.look x).era).st.instantOf x k) r.2.1 r.2.2 := by
  have hchained := chainOut_newest hera hchain
  unfold sampleOut
  rw [followEras_of_newest hera]
  simp only [hnext, hpath, hsamp, hleaves, hchain, Bool.and_self, if_true]
  split
  · exact ⟨r.1, followEras_emitSample hchained⟩
  · have hforgot : (r.1.forgetBefore x).eraAfter ((r.1.forgetBefore x).look x).era = none := by
      rwa [forgetBefore_look, eraAfter_congr (forgetBefore_cfg ..)]
    exact ⟨r.1.forgetBefore x, followEras_emitSample hforgot⟩

/-- A state that the havoc of R2 leaves without a span is as it was before. -/
theorem havoc_of_havoc_none {s : State} (h : s.havoc.ub = none) : s.havoc = s := havoc_of_none ((havoc_ub s).symm.trans h)

/-- Settles O28: an overload by what it does to its look and to its modulator, a run by what `State.beginRun` leaves, a sample by what
`State.emitSample` leaves, and each clause's frame by the mask of its operation. -/
theorem modulatorsRunTheirLooks : Obligations.ModulatorsRunTheirLooks := by
  unfold Obligations.ModulatorsRunTheirLooks
  refine ⟨?_, ?_, ?_⟩
  · intro s m hu hl hs hr
    have hmod := overload_modu hl hs hr
    refine ⟨_, act_of_blank (overload_frame (Nat.and_self _)) (by decide) hu, ?_, ?_, ⟨s.overloadSpan (modSeq m), ?_, rfl, rfl, rfl⟩, ?_,
      overload_looksKept hl hs hr, overload_unchangedBut_of_openWire hl hs hr,
      fun hw => ⟨overload_ovlNote hl hs hr hw, overload_raises hl hs hr hw, overload_hlt_of_not_mayCount hl hs hr hw⟩,
      unchangedBut_of_blank (overload_frame (Nat.and_self _)) (by intro p; cases p <;> decide)⟩
    · rw [hmod, State.upModu_modu_self]
      rfl
    · rw [hmod, State.upModu_modu_self]
      rfl
    · rw [overload_spans hl hs hr]
      exact List.mem_append_right _ (List.mem_singleton_self _)
    · intro j hj
      rw [hmod, State.upModu_modu_ne _ hj]
  · rintro s m pass hu hl hs hm hr hi rfl hn
    refine ⟨_, act_of_blank (runStart_frame (Nat.and_self _)) (by decide) hu, ?_⟩
    rw [runStart_eq hl hs hm hr hi hn]
    refine ⟨?_, mem_beginRun_resets .., beginRun_out .., fun hnone => ?_, fun g hg hf => ?_, fun j hj => ?_, fun x hx => ?_, ?_⟩
    · rw [beginRun_modu, State.enterSlot, State.upModu_modu_self]
      rfl
    · rw [← enterSlot_look s (modSeq m)] at hnone
      refine ⟨(beginRun_gear_of_none hnone).trans (congrArg Look.gear (enterSlot_look ..)), ?_⟩
      exact unchangedBut_of_blank (M := 6148) ((beginRun_frame_of_none hnone (by decide)).trans (enterSlot_frame (by decide)))
        (by intro p; cases p <;> decide)
    · rw [← enterSlot_look s (modSeq m)] at hg
      exact beginRun_takes hg (by rwa [enterSlot_spoke])
    · rw [beginRun_modu, State.enterSlot, State.upModu_modu_ne _ hj]
    · rw [beginRun_look_ne (List.ne_of_not_mem_cons hx), enterSlot_look]
    · exact unchangedBut_of_blank (M := 7172) ((State.beginRun_frame (by decide)).trans (enterSlot_frame (by decide)))
        (by intro p; cases p <;> decide)
  · intro s x codes k r hu hwf hera hnext hpath hsamp hleaves hchain
    have hframe : blank 20111157271 (sampleOut x codes s) = blank 20111157271 s := sampleOut_frame (Nat.and_self _)
    refine ⟨(sampleOut x codes s).havoc, if_pos hwf, fun ht => ?_, fun ht => ?_⟩
    · rw [havoc_of_havoc_none ht]
      obtain ⟨u, he⟩ := sampleOut_emits hera hnext hpath hsamp hleaves hchain
      obtain ⟨v, g, lw, hlook, hword⟩ :=
        emitSample_look u (s.eraFrom (s.look x).era).st x k ((s.eraFrom (s.look x).era).st.instantOf x k) r.2.1 r.2.2
      rw [← he] at hlook
      rw [hlook]
      exact ⟨rfl, hword, ⟨v, g, rfl⟩, committed_of_blank hframe (by decide)⟩
    · rw [havoc_of_havoc_none ht]
      exact unchangedBut_of_blank_of_none hframe hu ((havoc_ub _).symm.trans ht) (by intro p; cases p <;> decide)

end Sys2Proof.Machine
end

section
/-! PROOFS. 12_compression, O36: FLUSH, SAVE_CONTEXT and RESTORE_CONTEXT. -/

namespace Sys2Proof.Machine

open Sys2Proof.Safety

/-! ### Commands that change streams alone -/

/-- A command that changes streams and completes at once. -/
theorem completes_of_streams {i : Instr} {f : State → State} {s u : State} {op : Nat} {c : CmdItem} {st : Nat}
    (hs : Starts s op c) (ho : op ≠ 0x10) (hi : exec i s = act s f) (hf : f s = u.complete c st) (hu : blank 32768 u = blank 32768 (taken s)) :
    exec i s = .next (u.complete c st) ∧ Completes s (u.complete c st) c st 0 ∧
      UnchangedBut [.streams, .crier, .queue, .cmd, .store] s (u.complete c st) := by
  obtain ⟨-, hop, hc, -, hub⟩ := hs
  have hframe : blank 78675968 (u.complete c st) = blank 78675968 s :=
    (complete_frame_plain hc (fun h => ho (hop.symm.trans h)) (by decide)).trans ((blank_mono (by decide) hu).trans (taken_frame (by decide)))
  have hcrier : u.crier = (taken s).crier := crier_of_blank hu (by decide)
  have hcmd : u.cmd = (taken s).cmd := cmd_of_blank hu (by decide)
  exact ⟨hi.trans (act_next hf ((ub_of_blank hframe (by decide)).trans hub)),
    complete_completes hc (fun q => congrArg (fun k : Crier => k.queues.get {} q) hcrier) ((mst_congr hcmd _).trans (taken_mst ..)),
    unchangedBut_of_blank hframe (by intro p; cases p <;> decide)⟩

/-- A long command that changes the record of one stream and begins. -/
theorem begins_of_stream {i : Instr} {f : State → State} {s : State} {op n : Nat} {c : CmdItem} {long : LongOp} {g : StreamRec → StreamRec}
    (hs : Starts s op c) (hi : exec i s = act s f) (hf : f s = ((taken s).upStrm n g).startLong c long) :
    ∃ t, exec i s = .next t ∧ Begins s t c long ∧ t.strm n = g (s.strm n) ∧ StreamsKept [n] s t ∧ UnchangedBut [.streams, .queue] s t := by
  obtain ⟨-, -, hc, -, hub⟩ := hs
  have hframe : blank 2129920 (((taken s).upStrm n g).startLong c long) = blank 2129920 s :=
    (startLong_frame_of_clear hc _ (by decide)).trans ((upStrm_frame (by decide)).trans (taken_frame (by decide)))
  refine ⟨_, hi.trans (act_next hf ((ub_of_blank hframe (by decide)).trans hub)), ⟨?_, startLong_long hc _⟩, ?_, fun j hj => ?_,
    unchangedBut_of_blank hframe (by intro p; cases p <;> decide)⟩
  · rw [startLong_of_clear hc]
    rfl
  · rw [State.startLong_strm, State.upStrm_strm_self]
    rfl
  · rw [State.startLong_strm, State.upStrm_strm_ne _ (List.ne_of_not_mem_cons hj)]
    rfl

/-- The test of the three commands that answers NOT_STORED (R301, R302). -/
theorem notStored_iff {st : Struct} {i : Nat} :
    ((!st.stored i) = true ∨ (!st.streamExists i) = true) ↔ st.stored i = false ∨ st.streamExists i = false := by
  simp only [Bool.not_eq_true']

theorem not_notStored {st : Struct} {i : Nat} (h : st.stored i = true) (he : st.streamExists i = true) :
    ¬((!st.stored i) = true ∨ (!st.streamExists i) = true) := by
  rw [h, he]
  decide

/-! ### FLUSH (R301) -/

theorem keyOpen_of_empty {r : StreamRec} (h : ∀ b, r.block = some b → b.samples = []) : r.keyOpen = { r with keyNext := true } := by
  unfold StreamRec.keyOpen
  split
  · rfl
  · next b hb => rw [h b hb]; rfl

theorem keyOpen_of_samples {r : StreamRec} {b : OpenBlock} (hb : r.block = some b) (h : b.samples ≠ []) :
    r.keyOpen.block = some { b with keyed := true } ∧ r.keyOpen.closed.length = r.closed.length := by
  unfold StreamRec.keyOpen
  simp only [hb, List.isEmpty_eq_false_iff.mpr h, Bool.false_eq_true, if_false, List.length_map, and_self]

/-- What `key` of a FLUSH does, whether an interim block follows or not. -/
def State.flushKey (s : State) (c : CmdItem) : State := if c.a 31 31 = 1 then s.upStrm (c.a 13 0) StreamRec.keyOpen else s

/-- The interim block of the open block `b`, as it waits to be coded. -/
def State.interimOf (s : State) (i : Nat) (b : OpenBlock) : ClosedBlock :=
  { block := b, interim := true, key := false, restored := false, escaped := false, start := {}, keyDist := 0, bytes := [], takeover := false
    saves := [], restores := [], plain := s.st.cmpPlain i, preds := s.st.predMask i, near := none }

/-- A FLUSH closes an interim block of the open block `b`. -/
def State.closeInterim (s : State) (i : Nat) (b : OpenBlock) : State := s.upStrm i fun r => { r with closed := r.closed ++ [s.interimOf i b] }

/-- The open block as `key` of a FLUSH leaves it. -/
def OpenBlock.flushKey (b : OpenBlock) (c : CmdItem) : OpenBlock := { b with keyed := b.keyed || decide (c.a 31 31 = 1) }

theorem flushKey_frame {M : Nat} {s : State} {c : CmdItem} (hM : 32768 &&& M = 32768) : blank M (s.flushKey c) = blank M s :=
  ite_left_frame (upStrm_frame hM)

theorem flushKey_strm_ne {s : State} {c : CmdItem} {j : Nat} (h : j ≠ c.a 13 0) : (s.flushKey c).strm j = s.strm j := by
  unfold State.flushKey
  split
  · exact State.upStrm_strm_ne _ h
  · rfl

theorem flushKey_strm_of_key {s : State} {c : CmdItem} (h : c.a 31 31 = 1) : (s.flushKey c).strm (c.a 13 0) = (s.strm (c.a 13 0)).keyOpen := by
  unfold State.flushKey
  rw [if_pos h, State.upStrm_strm_self]

theorem flushKey_strm_of_not_key {s : State} {c : CmdItem} (h : c.a 31 31 ≠ 1) : (s.flushKey c).strm (c.a 13 0) = s.strm (c.a 13 0) := by
  unfold State.flushKey
  rw [if_neg h]

/-- Of a stream without samples `key` changes the flag for the next block alone. -/
theorem flushKey_of_empty {s : State} {c : CmdItem} (h : ∀ b, (s.strm (c.a 13 0)).block = some b → b.samples = []) :
    ((s.flushKey c).strm (c.a 13 0)).block = (s.strm (c.a 13 0)).block ∧ ((s.flushKey c).strm (c.a 13 0)).closed = (s.strm (c.a 13 0)).closed := by
  by_cases hk : c.a 31 31 = 1
  · rw [flushKey_strm_of_key hk, keyOpen_of_empty h]
    exact ⟨rfl, rfl⟩
  · rw [flushKey_strm_of_not_key hk]
    exact ⟨rfl, rfl⟩

/-- Of a stream with samples `key` marks the open block; as many blocks wait as before. -/
theorem flushKey_of_samples {s : State} {c : CmdItem} {b : OpenBlock} (hb : (s.strm (c.a 13 0)).block = some b) (h : b.samples ≠ []) :
    ((s.flushKey c).strm (c.a 13 0)).block = some (b.flushKey c) ∧
      ((s.flushKey c).strm (c.a 13 0)).closed.length = (s.strm (c.a 13 0)).closed.length := by
  unfold OpenBlock.flushKey
  by_cases hk : c.a 31 31 = 1
  · rw [flushKey_strm_of_key hk, decide_eq_true hk, Bool.or_true]
    exact keyOpen_of_samples hb h
  · rw [flushKey_strm_of_not_key hk, decide_eq_false hk, Bool.or_false]
    exact ⟨hb, rfl⟩

/-- What a FLUSH does once `key` has had its effect. -/
def State.flushOpen (s : State) (c : CmdItem) : State :=
  match (s.strm (c.a 13 0)).block with
  | none => s.complete c 0x14
  | some b => if b.samples.isEmpty then s.complete c 0x14 else (s.closeInterim (c.a 13 0) b).complete c 0

theorem flushOpen_of_empty {s : State} {c : CmdItem} (h : ∀ b, (s.strm (c.a 13 0)).block = some b → b.samples = []) :
    s.flushOpen c = s.complete c 0x14 := by
  unfold State.flushOpen
  split
  · rfl
  · next b hb => exact if_pos (List.isEmpty_iff.mpr (h b hb))

theorem flushOpen_of_samples {s : State} {c : CmdItem} {b : OpenBlock} (hb : (s.strm (c.a 13 0)).block = some b) (h : b.samples ≠ []) :
    s.flushOpen c = (s.closeInterim (c.a 13 0) b).complete c 0 := by
  unfold State.flushOpen
  rw [hb]
  exact if_neg (Bool.eq_false_iff.mp (List.isEmpty_eq_false_iff.mpr h))

section
variable {s : State} {c : CmdItem} (hs : Starts s 0x40 c) (hi : c.a 13 0 < 13056) (hst : s.st.stored (c.a 13 0) = true)
  (hex : s.st.streamExists (c.a 13 0) = true)
include hs hi hst hex

theorem flush_eq : flush s = ((taken s).flushKey c).flushOpen c := by
  obtain ⟨-, -, hc, -, -⟩ := id hs
  refine (start_of_starts hs _).trans ((if_neg (Nat.not_le.mpr hi)).trans ((if_neg (not_notStored hst hex)).trans ?_))
  rw [if_pos hc]
  rfl

/-- A stream without samples: EMPTY, and `key` is kept for the next block. -/
theorem flush_empty (h : ∀ b, (s.strm (c.a 13 0)).block = some b → b.samples = []) :
    ∃ t, exec .flush s = .next t ∧ Completes s t c 0x14 0 ∧
      (c.a 31 31 = 1 → (t.strm (c.a 13 0)).keyNext = true) ∧ (c.a 31 31 ≠ 1 → t.strm (c.a 13 0) = s.strm (c.a 13 0)) ∧
      (t.strm (c.a 13 0)).closed = (s.strm (c.a 13 0)).closed ∧
      StreamsKept [c.a 13 0] s t ∧ UnchangedBut [.streams, .crier, .queue, .cmd, .store] s t := by
  obtain ⟨hblock, hclosed⟩ := flushKey_of_empty (s := taken s) h
  have hf : flush s = ((taken s).flushKey c).complete c 0x14 := (flush_eq hs hi hst hex).trans (flushOpen_of_empty (by rwa [hblock]))
  obtain ⟨he, hcompl, hframe⟩ := completes_of_streams (i := .flush) hs (by decide) rfl hf (flushKey_frame (by decide))
  refine ⟨_, he, hcompl, fun hk => ?_, fun hk => ?_, ?_, fun j hj => ?_, hframe⟩
  all_goals rw [State.complete_strm]
  · rw [flushKey_strm_of_key hk, keyOpen_of_empty (r := (taken s).strm (c.a 13 0)) h]
  · exact flushKey_strm_of_not_key hk
  · exact hclosed
  · exact flushKey_strm_ne (List.ne_of_not_mem_cons hj)

/-- A stream with samples: an interim block closes, and the open block stays open. -/
theorem flush_samples {b : OpenBlock} (hb : (s.strm (c.a 13 0)).block = some b) (h : b.samples ≠ []) :
    ∃ t d, exec .flush s = .next t ∧ Completes s t c 0 0 ∧
      (t.strm (c.a 13 0)).closed.getLast? = some d ∧ (t.strm (c.a 13 0)).closed.length = (s.strm (c.a 13 0)).closed.length + 1 ∧
      d.interim = true ∧ (t.strm (c.a 13 0)).block = some d.block ∧ d.block = b.flushKey c ∧
      StreamsKept [c.a 13 0] s t ∧ UnchangedBut [.streams, .crier, .queue, .cmd, .store] s t := by
  obtain ⟨hblock, hlength⟩ := flushKey_of_samples (s := taken s) hb h
  have hf : flush s = (((taken s).flushKey c).closeInterim (c.a 13 0) (b.flushKey c)).complete c 0 :=
    (flush_eq hs hi hst hex).trans (flushOpen_of_samples hblock h)
  obtain ⟨he, hcompl, hframe⟩ := completes_of_streams (i := .flush) hs (by decide) rfl hf
    ((upStrm_frame (by decide)).trans (flushKey_frame (by decide)))
  refine ⟨_, ((taken s).flushKey c).interimOf (c.a 13 0) (b.flushKey c), he, hcompl, ?_, ?_, rfl, ?_, rfl, fun j hj => ?_, hframe⟩
  all_goals rw [State.complete_strm, State.closeInterim]
  · rw [State.upStrm_strm_self]
    exact List.getLast?_concat
  · rw [State.upStrm_strm_self]
    exact List.length_append.trans (congrArg (· + 1) hlength)
  · rw [State.upStrm_strm_self]
    exact hblock
  · have hne : j ≠ c.a 13 0 := List.ne_of_not_mem_cons hj
    rw [State.upStrm_strm_ne _ hne]
    exact flushKey_strm_ne hne

end

/-! ### SAVE_CONTEXT and RESTORE_CONTEXT (R302) -/

theorem saveContext_eq {s : State} {c : CmdItem} (hs : Starts s 0x41 c) (hst : s.st.stored (c.a 13 0) = true)
    (hex : s.st.streamExists (c.a 13 0) = true) :
    saveContext s = ((taken s).upStrm (c.a 13 0) fun r => { r with saves := r.saves ++ [c] }).startLong c (.saveContext (c.a 13 0)) :=
  (start_of_starts hs _).trans (if_neg (not_notStored hst hex))

theorem restoreContext_eq {s : State} {c : CmdItem} (hs : Starts s 0x42 c) (hst : s.st.stored (c.a 13 0) = true)
    (hex : s.st.streamExists (c.a 13 0) = true) (hv : (s.ctxWord (c.a 13 0) 0).flag 0 = true)
    (hn : (s.ctxWord (c.a 13 0) 0).field 31 18 = c.a 13 0) :
    restoreContext s = ((taken s).upStrm (c.a 13 0) fun r =>
      { r with restores := r.restores ++ [c], restoreFrom := some (s.ctxCode (c.a 13 0)) }).startLong c (.restoreContext (c.a 13 0)) := by
  have hslot : ¬((!(s.ctxWord (c.a 13 0) 0).flag 0) = true ∨ (s.ctxWord (c.a 13 0) 0).field 31 18 ≠ c.a 13 0) := by
    rw [hv]
    exact not_or_intro Bool.false_ne_true (not_not_intro hn)
  exact (start_of_starts hs _).trans ((if_neg (not_notStored hst hex)).trans (if_neg hslot))

/-! ### O36 -/

/-- Settles O36, row by row: the codes by the test that each command fails, FLUSH by whether the stream has samples, the two long
commands by what they add to the stream's record as they begin. -/
theorem streamsAreFlushedAndTheirContextsMoved : Obligations.StreamsAreFlushedAndTheirContextsMoved := by
  unfold Obligations.StreamsAreFlushedAndTheirContextsMoved
  refine ⟨?flush, ?save, ?restore⟩
  case flush =>
    refine fun s c hs => ⟨fun hi => ?_, fun hi h => ?_, fun hi hst hex => ⟨flush_empty hs hi hst hex, fun b => flush_samples hs hi hst hex⟩⟩
    · exact completesOnly_of hs (by decide) rfl (if_pos hi)
    · exact completesOnly_of hs (by decide) rfl ((if_neg (Nat.not_le.mpr hi)).trans (if_pos (notStored_iff.mpr h)))
  case save =>
    refine fun s c hs => ⟨fun h => ?_, fun hst hex => ?_⟩
    · exact completesOnly_of hs (by decide) rfl (if_pos (notStored_iff.mpr h))
    · obtain ⟨t, he, hbegins, hstrm, hkept, hframe⟩ := begins_of_stream (i := .saveContext) hs rfl (saveContext_eq hs hst hex)
      exact ⟨t, he, hbegins, congrArg StreamRec.saves hstrm, hkept, hframe⟩
  case restore =>
    refine fun s c hs => ⟨fun h => ?_, fun hst hex => ⟨fun h => ?_, fun hv hn => ?_⟩⟩
    · exact completesOnly_of hs (by decide) rfl (if_pos (notStored_iff.mpr h))
    · have hslot : (!(s.ctxWord (c.a 13 0) 0).flag 0) = true ∨ (s.ctxWord (c.a 13 0) 0).field 31 18 ≠ c.a 13 0 := by rwa [Bool.not_eq_true']
      exact completesOnly_of hs (by decide) rfl ((if_neg (not_notStored hst hex)).trans (if_pos hslot))
    · obtain ⟨t, he, hbegins, hstrm, hkept, hframe⟩ := begins_of_stream (i := .restoreContext) hs rfl (restoreContext_eq hs hst hex hv hn)
      exact ⟨t, he, hbegins, congrArg StreamRec.restores hstrm, congrArg StreamRec.restoreFrom hstrm, hkept, hframe⟩

end Sys2Proof.Machine
end
